-- ==== Sys2Proof/Word.lean ====
section
/-!
DEFINITION. The two word types of the PK7412's registers and memories.
-/
namespace Sys2Proof

/-- A 32-bit register word or a Gosor register (R18, R313). -/
abbrev Word := BitVec 32

/-- A byte of a memory (R27). -/
abbrev Byte := BitVec 8

end Sys2Proof
end

