-- ==== Sys2Proof/Syntax.lean ====
section
/-!
DEFINITION. The commands the PK7412 takes (Instr, one constructor for each row of spec/opcode_table.json) and the types
of their operands.
-/
namespace Sys2Proof

/-- The two radio bands (R78). -/
inductive Band where
  | sg
  | g24
deriving DecidableEq, Repr

/-- Index of a band in the register layouts: 0 for SG, 1 for 2G4. -/
abbrev Band.idx : Band → Nat
  | .sg => 0
  | .g24 => 1

/-- A bus master that software drives: an engine (a lockstepped pair acts as its even engine, R24) or HIF (R27). -/
inductive Master where
  | eng (e : Fin 12)
  | hif
deriving DecidableEq, Repr

/-- The Gosor registers that an operand names (R317). -/
inductive GReg where
  | a
  | x
  | y
deriving DecidableEq, Repr

/-- The addressing modes of R318. -/
inductive AMode where
  | imm
  | abs
  | xd
  | yd
  | sd
  | xpi
  | ypd
  | pcr
deriving DecidableEq, Repr

/-- The extension of a format M word (R317, R318). -/
inductive Ext where
  | none
  | half (v : BitVec 16)
  | full (v : BitVec 32)
deriving DecidableEq, Repr

/-- Operand width of R317. -/
inductive Width where
  | w8
  | w16
  | w32
deriving DecidableEq, Repr

/-- The operand of a format M instruction: mode, extension, width and sign extension (R317). -/
structure Opnd where
  mode  : AMode
  ext   : Ext
  width : Width
  sx    : Bool
deriving DecidableEq, Repr

/-- The branch conditions of R321 (CALLR, code 0xF, is a command of its own). -/
inductive Cond where
  | br | bz | bnz | bc | bnc | bn | bnn | bv | bnv | bugt | bule | bsge | bslt | bsgt | bsle
deriving DecidableEq, Repr

/-- The displacement of a format B word: D8 (not 0) in the word, or D16 in an extension (R321). -/
inductive Disp where
  | d8  (d : BitVec 8)
  | d16 (d : BitVec 16)
deriving DecidableEq, Repr

/-- The six register copies MOVE A, X … MOVE Y, X of R323, first register to second. -/
inductive MovePair where
  | ax | xa | ay | ya | xy | yx
deriving DecidableEq, Repr

/-- What PUSH stores (R323). -/
inductive PushReg where
  | a | x | y | f
deriving DecidableEq, Repr


/-- A decoded header (R111, R126): the 48 bits of a MODE_SL header, bit 0 first in transmission, or what a compatibility
PHR gives: PSDU length, OFDM MCS, the FSK mode-switch bit and the 4-byte FCS type. -/
inductive PhyHdr where
  | sl (bits : BitVec 48)
  | std (len mcs : Nat) (modeSwitch fcs32 : Bool)
deriving DecidableEq, Repr

/-- One adaptation step of the equaliser of R144, in 1/65,536 (real and imaginary part): the eight half-symbol samples before the
feed-forward taps, newest first, the four earlier symbols before the feedback taps, and the symbol known or decided. -/
structure EqSym where
  x    : List (Int × Int)
  d    : List (Int × Int)
  want : Int × Int
deriving DecidableEq, Repr

/-- The end of a preamble (R115, R144): the TSTAMP at which the start of the PHR reaches the pad, and the known symbols that have adapted
the equaliser. -/
structure PreEnd where
  ref   : Nat
  train : List EqSym
deriving DecidableEq, Repr

/-- A frame of a receive-ring slot as the relay firmware takes it (R238): its RFLAGS and its bytes, none for no frame. -/
structure RingFrame where
  flags : Byte
  bytes : List Byte
deriving DecidableEq, Repr

/-- A copy of an Assured frame (R40): the next hop that went to E0/E1 for its path, and the bytes as E0/E1 lays them out. -/
structure FlowCopy where
  hop   : Fin 256
  bytes : List Byte
deriving DecidableEq, Repr

/-- What the receiver measures and decodes of a frame by its end (R118, R144 to R146, R559): preamble metrics of the chains, power,
carrier offset in 1/256 ppm, whether FEC or LDPC succeeded, the decoded PSDU, the gain index at the LTS, the received values on the 96
data tones of the one or two LTS and of each payload symbol in one scale, the equaliser's steps over the PHR and over the PSDU, and,
for a compatibility mode without the equaliser of R144, each point decided or re-modulated over the PSDU with the value received. -/
structure RxMeas where
  metricA : Byte
  metricB : Byte
  rssi    : Byte
  cfo     : Int
  decoded : Bool
  psdu    : List Byte
  gain    : Nat
  lts     : List (List (Int × Int))
  rx      : List (List (Int × Int))
  phr     : List EqSym
  eq      : List EqSym
  pts     : List ((Int × Int) × (Int × Int))
deriving DecidableEq, Repr

/-- What firmware of E2 or E0/E1 chooses for a frame of its own that the spec leaves to it: where the frame and its descriptor
stand in shared SRAM, as offsets, the power in 0.5 dB steps, RETRY, the deadline in Meridian time (cycle × 65,536 + phase) and the
calibration entry. -/
structure FwTx where
  buf   : Nat
  desc  : Nat
  power : Int
  retry : Nat
  due   : Nat
  entry : Fin 128
deriving DecidableEq, Repr

/-- What surrounds a request of the interpreter: what firmware chooses for a frame that it sends, and the word of an operation on
the flash die that fails its read-back or margin read, counted from the first, uncorrectable or not (R369, R379). -/
structure ReqEnv where
  tx  : FwTx
  bad : Option (Fin 2048 × Bool)
deriving DecidableEq, Repr

/-- A Toeth request that has passed R490: the interface that carried it (SPI or UART), the expert bit of its opcode (R497), SEQ and
PAYLOAD. With `hold` the interpreter has done its work but has not written HIF_REPLY yet when the next command is taken. -/
structure HostReq where
  spi     : Bool
  expert  : Bool
  seq     : Byte
  payload : List Byte
  hold    : Bool
  env     : ReqEnv
deriving DecidableEq, Repr

/-- One unit of a link test, or a part of it (R524): a byte in both directions or, over UART, a byte that the device has sent or one
received with its stop bit; a burst; a frame received or lost, with the preamble metrics of the chains; a fire, with a software fire
of the same channel by a master in the same TCLK cycle. -/
inductive TestPart where
  | byte (rx : Byte) (stopOk : Bool)
  | sent
  | burst (rx : List Byte)
  | frame (rx : Option (List Byte)) (metricA metricB : Byte)
  | fire (software : Bool)
deriving DecidableEq, Repr

/-- The commands of the block: one constructor for each row of spec/opcode_table.json, in the table's order, with what the
master, the host, the air, a pin or the clock supplies as operands. -/
inductive Instr where
  /-- REGISTER_WRITE (R4). A write to a register field that has no row of its own takes effect according to its type. -/
  | registerWrite (m : Master) (reg : Fin 18432) (v : Word)
  /-- COMMIT (R9). A write of 1 to BLOCK_COMMIT.GO checks the whole shadow set and copies it to the active set or refuses it with MISMATCH or BAD_PARAM. -/
  | commit (m : Master) (b : Fin 9)
  /-- POWER_ON (R476). The main domain powers on, and the device resets with cause POWERON and starts. -/
  | powerOn (testEn : Bool)
  /-- ATOLL_POWER_UP (R411). The Atoll domain powers up from no supply and resets its calendar, backup RAM and registers with TLOST = 1. -/
  | atollPowerUp
  /-- RESET_N (R544). A low level on RESET_N of at least 1 µs resets the main domain, and the start begins at the rising edge. -/
  | resetN
  /-- BROWNOUT (R447). VBAT falls below the falling threshold, so the device is reset at once and enters BACKUP-ONLY. -/
  | brownout (stored : Bool)
  /-- VBAT_RETURN (R447). VBAT stays above the rising threshold for 1 ms after a brown-out, and the device starts. -/
  | vbatReturn
  /-- CLOCK_MONITOR_RESET (R457). PLL lock or XO40 amplitude fails for 2 µs, and the monitor resets the device with cause CLOCK. -/
  | clockMonitorReset
  /-- SOFT_RESET (R480). A write of SYS_RESET with KEY = 0xA5 and COLD = 0 resets the device with cause SOFT. -/
  | softReset (m : Master)
  /-- SOFT_RESET_COLD (R480). A write of SYS_RESET with KEY = 0xA5 and COLD = 1 sets FORCECOLD and resets the device with cause SOFT. -/
  | softResetCold (m : Master)
  /-- CLOCKS_LOCKED (R455). After the reset is released, XO40 and both PLLs lock and the domain clocks start. -/
  | clocksLocked
  /-- SCAN_DONE (R375). The FLC start scan of the eight journals completes, SCANDONE is set and E2 is released. -/
  | scanDone (erased verified : Bool) (mv : Nat) (t : BitVec 12) (badSg bad24 : List Nat)
  /-- MAINS_EDGE (R55). A filtered MAINS_ZC edge of the selected polarity is classified, and MER_PERIOD and MER_ZCERR and the MER state are updated. -/
  | mainsEdge (t : Nat) (rising : Bool)
  /-- MAINS_EDGE_MISSING (R55). No edge arrives by 125 % of MER_PERIOD, so the edge counts as missing. -/
  | mainsEdgeMissing
  /-- ACQUIRE_TIMEOUT (R52). A manager is not LOCKED 2 s after entering ACQUIRE with AUTOSYNTH = 1, and it enters SYNTH. -/
  | acquireTimeout
  /-- HOLDOVER_TIMEOUT (R52). MER_HOLDCYC cycles pass in HOLDOVER with AUTOSYNTH = 1, and the manager enters SYNTH. -/
  | holdoverTimeout
  /-- SLOT_BOUNDARY (R45). The phase reaches a multiple of 8,192, and MER_SLOT fires and slot-aligned actions start. -/
  | slotBoundary
  /-- CYCLE_BOUNDARY (R42). The phase wraps, the cycle count increases and MER_CYCLE fires. -/
  | cycleBoundary
  /-- MER_PHASE_READ (R66). A read of MER_PHASE latches phase, cycle count and TSTAMP for coherent reading. -/
  | merPhaseRead
  /-- LFRATIO_MEASURE (R68). After 32,768 LFCLK ticks, MER updates MER_LFRATIO from the TCLK cycles counted. -/
  | lfratioMeasure (n : BitVec 32)
  /-- BAND_ENABLE (R91). Setting a band's enable bit in RFC_CTRL starts it from OFF towards READY and measures VDD_PA. -/
  | bandEnable (b : Band) (mv : Nat)
  /-- BAND_READY (R91). A band leaving OFF reaches READY, locked on its receive-window entry. -/
  | bandReady (b : Band)
  /-- BAND_DISABLE (R91). Clearing a band's enable bit turns it OFF, pre-empting a hop or calibration and ramping down a transmission. -/
  | bandDisable (b : Band)
  /-- HOP_LOCK (R84). The synthesiser confirms lock on its new entry within 12 µs and the band enters its target state. -/
  | hopLock (b : Band)
  /-- HOP_LOCK_FAIL (R84). Lock is not confirmed at 12 µs, the entry becomes INVALID, LOCKFAIL fires and the band turns or hops back. -/
  | hopLockFail (b : Band)
  /-- CAL_ENTRY (R87). RFC_CALCMD with OP = 0b01 calibrates the named entry of a band. -/
  | calEntry (b : Band) (e : Fin 128)
  /-- CAL_STALE (R87). RFC_CALCMD with OP = 0b10 calibrates every STALE entry of a band. -/
  | calStale (b : Band)
  /-- CAL_ALL (R87). RFC_CALCMD with OP = 0b11 calibrates every entry of a band. -/
  | calAll (b : Band)
  /-- CAL_ENTRY_DONE (R85). The calibration of one entry ends, sets it VALID or INVALID, and the band resumes reception 24 µs later. -/
  | calEntryDone (b : Band) (ok : Bool) (codes : Nat)
  /-- TEMP_CHECK (R86). Once per millisecond RFC compares RFC_TEMP with each entry and sets VALID entries STALE. -/
  | tempCheck (t : BitVec 12)
  /-- AUTO_CALIBRATE (R86). With AUTOCAL = 1, a band in READY with no request pending starts calibrating its next STALE entry. -/
  | autoCalibrate (b : Band)
  /-- RSSI_UPDATE (R108). Every 8 µs in RX, the window power at each aerial is updated in the RSSI register. -/
  | rssiUpdate (b : Band) (pa pb : Int)
  /-- AGC_GAIN_STEP (R80). A receive chain's gain control changes gain by 6 dB and marks the sample stream. -/
  | agcGainStep (b : Band) (chainB up : Bool)
  /-- PREAMBLE_DETECT (R115). A channel's correlator exceeds THR and the channel enters SELECT or SYNC. -/
  | preambleDetect (b : Band) (n : Fin 8) (t metric : Nat) (short : Bool) (cfo : Int)
  /-- ANTENNA_SELECT (R98). 32 µs after detection, MDM compares both chains' correlator sums and chooses the aerial for the frame. -/
  | antennaSelect (b : Band) (n : Fin 8) (sumA sumB : Nat)
  /-- PREAMBLE_COMPLETE (R115). The preamble completes and the channel enters HEADER. -/
  | preambleComplete (b : Band) (n : Fin 8) (p : PreEnd)
  /-- SYNC_TIMEOUT (R115). The preamble is not completed within its length plus 16 µs, and the channel returns to SEARCH. -/
  | syncTimeout (b : Band) (n : Fin 8)
  /-- HEADER_DECODE (R115). The PHR or MODE_SL header is decoded, and the channel enters PAYLOAD or counts a header error. -/
  | headerDecode (b : Band) (n : Fin 8) (h : PhyHdr)
  /-- RX_FRAME_END (R118). A frame reaches the end of PAYLOAD, and MDM hands the receive report to MAC. -/
  | rxFrameEnd (b : Band) (n : Fin 8) (t : Nat) (m : RxMeas)
  /-- CIP_ACCEPT_DONE (R404). CIP finishes checking and decrypting a secured reception. -/
  | cipAcceptDone (b : Band) (n : Fin 8) (disagree : Bool)
  /-- ACK_DECIDE (R169). Within 160 µs of E_r, MAC decides ACKST and TCORR of the acknowledgement. -/
  | ackDecide (b : Band) (disagree : Bool)
  /-- HAND_OFF (R181). MAC writes an accepted frame to the receive ring and fires RXFRAME. -/
  | handOff (b : Band) (n : Fin 8) (assured : Option (Nat × Nat))
  /-- ASSURED_REQUEST (R39). The E0/E1 request task numbers an Assured frame and enqueues copy A in Q0 and copy B in Q1. -/
  | assuredRequest (id : Nat) (ba bb : Band) (fa fb : FlowCopy) (ta tb : FwTx)
  /-- ENTRY_START (R200). An occurrence of a Chart entry begins, and claims on ended occurrences are spent or completed. -/
  | entryStart (b : Band)
  /-- SHARE_START (R202). SHP chooses a share's frame in the order of service and hands it to MAC. -/
  | shareStart (b : Band)
  /-- SEAL_DONE (R402). CIP completes the CCM* computation of a frame at Seal. -/
  | sealDone (b : Band) (disagree : Bool)
  /-- SEAL_LATE (R403). A Seal is not complete at the reference instant, so MAC ends the transmission after the preamble. -/
  | sealLate (b : Band)
  /-- DAA_LISTEN_START (R192). 44 µs before the turn, MAC places a 2G4 band in RX to assess the channel. -/
  | daaListenStart (b : Band)
  /-- TX_TURN_START (R92). At S the band blanks its chains, enters TURN_TX and hops to the transmit word. -/
  | txTurnStart (b : Band) (energy : Int)
  /-- TX_RAMP_UP (R92). 40 µs after S the band enters TX, the ramp up begins and TXSTART fires. -/
  | txRampUp (b : Band)
  /-- TX_SYMBOLS_END (R92). The last modulated symbol ends and the ramp down begins. -/
  | txSymbolsEnd (b : Band)
  /-- TX_RAMP_DOWN_END (R92). The ramp down ends, TXEND fires and the band enters TURN_RX or a new TURN_TX. -/
  | txRampDownEnd (b : Band)
  /-- TURN_RX_DONE (R91). 24 µs after the ramp down, the band is back in RX or READY. -/
  | turnRxDone (b : Band)
  /-- RX_WINDOW_OPEN (R207). A receive window opens one guard before its expected instant, starting reception. -/
  | rxWindowOpen (b : Band)
  /-- RX_CHAIN_READY (R91). 24 µs after MAC opens a window from READY, the band is in RX. -/
  | rxChainReady (b : Band)
  /-- RX_WINDOW_CLOSE (R207). A window closes at the end of its entry or of the exchange under way. -/
  | rxWindowClose (b : Band)
  /-- CONTACT_MISS (R207). No preamble from the expected neighbour is detected by T_e + g, so the contact is missed and the link state moves. -/
  | contactMiss (b : Band)
  /-- ACK_TIMEOUT (R173). No acknowledgement preamble is detected by E + 40 µs + ACKWAIT, so the acknowledgement is missed. -/
  | ackTimeout (b : Band)
  /-- LISTEN_TIMEOUT (R186). Continuous listening ends with no contact in every band, and the parent link becomes LOST with PARTNER_LOST. -/
  | listenTimeout
  /-- NEIGHBOUR_WRITE (R165). A write to MAC_NBCFG updates a neighbour entry whole, reusing the index when its identity changes. -/
  | neighbourWrite (v : Word)
  /-- DUTY_BIN_RETIRE (R187). At each second of TSTAMP the oldest duty bin leaves SUM and becomes the current bin. -/
  | dutyBinRetire
  /-- ENQUEUE (R212). A write to an SHP enqueue register checks, polices and admits the frame, and queues it or refuses it. -/
  | enqueue (m : Master) (b : Band) (q : Fin 8) (v : Word)
  /-- ENQRES_READ (R213). A read of SHP_ENQRESm is held until the result of that owner's last enqueue is ready. -/
  | enqresRead (k : Fin 16)
  /-- SHP_BAND_DISABLE (R222). Clearing a band's bit in SHP_CFG completes its queued frames with BAD_STATE and stops its Chart. -/
  | shpBandDisable (b : Band)
  /-- POLICER_CFG_WRITE (R221). A write to a policer's CFG or BURST takes effect at once, setting or lowering its tokens. -/
  | policerCfgWrite (p : Fin 64) (burst : Bool) (v : Word)
  /-- BEACON_SEND (R234). A manager or router enqueues its beacon in its beacon entry. -/
  | beaconSend (b : Band) (tx : FwTx)
  /-- JOIN_SCAN_END (R236). 16 cycles after the first open beacon, the joiner ranks candidates and chooses one. -/
  | joinScanEnd
  /-- JOIN_REQ_SEND (R237). At its join position the joiner sends its JOIN_REQ. -/
  | joinReqSend (b : Band) (tx : FwTx)
  /-- JOIN_REQ (R241). The manager decides a received JOIN_REQ and answers with JOIN_RSP. -/
  | joinReq (b : Band) (req : List Byte) (path : List (BitVec 16)) (nb : Fin 256) (tx : FwTx)
  /-- FWD (R240). A relay forwards, consumes or discards an FWD frame along its PATH. -/
  | fwd (b : Band) (nb : Fin 256) (f : RingFrame) (tx : FwTx)
  /-- JOIN_RSP_RELAY (R242). A parent consuming an OK JOIN_RSP writes the child's neighbour entry and broadcasts the response. -/
  | joinRspRelay (b : Band) (rsp : List Byte) (leaf : Bool) (nb : Fin 256) (tx : FwTx)
  /-- JOIN_RSP (R243). A joiner acts on an authenticated JOIN_RSP by installing keys, address and parent. -/
  | joinRsp (rsp : List Byte) (nb : Fin 256)
  /-- JOIN_ATTEMPT_TIMEOUT (R244). No JOIN_RSP arrives within 40 cycles, and the joiner retries with a new attempt. -/
  | joinAttemptTimeout
  /-- JOIN_RESCAN_TIMEOUT (R244). 65,536 cycles after DENIED, the joiner starts a new scan. -/
  | joinRescanTimeout
  /-- CHART_SET (R248). The mesh firmware writes the items of a CHART_SET fragment to the SH registers. -/
  | chartSet (p : List Byte)
  /-- CHART_SET_COMMIT (R248). At the MER_CYCLE event of cycle SWAPCYC − 1, the node commits a complete Chart set. -/
  | chartSetCommit
  /-- NBR_REPORT (R249). A member sends a report of its neighbour links upward. -/
  | nbrReport (b : Band) (which : List (Fin 256)) (tx : FwTx)
  /-- LEAVE (R249). On LEAVE, a parent invalidates the child's entry. -/
  | leave (cmd : List Byte)
  /-- MAP_UPDATE_START (R140). B writes a new RX map for A and sends the map-update payload. -/
  | mapUpdateStart (nb : Fin 256) (b via : Band) (q : Fin 8) (tx : FwTx)
  /-- CYCLE_CLOSE (R264). The Sounding library closes a cycle, processes records and writes zone indices. -/
  | cycleClose (done : Nat)
  /-- ZONE_INDEX_WRITE (R269). A write to SNS_SZz_IDX by E2 advances the zone detector and may change its state. -/
  | zoneIndexWrite (m : Master) (z : Fin 8) (v : Word)
  /-- ZONE_CFG_WRITE (R270). A write to SNS_SZz_CFG sets ABOVE and HELD to 0, or is ignored with CFGERR. -/
  | zoneCfgWrite (z : Fin 8) (v : Word)
  /-- PD_CONVERSION (R278). A photodiode integration ends and DATA, UNDER, OVER and LEVEL are updated. -/
  | pdConversion (k : Fin 2) (charge : Nat)
  /-- PIR_SAMPLE (R280). Every 1 ms the PIR converter takes a filtered sample and the motion detector is evaluated. -/
  | pirSample (x : BitVec 16)
  /-- PWM_PERIOD_START (R283). A PWM period begins with the active edge and latches DUTY. -/
  | pwmPeriodStart (n : Fin 4)
  /-- PWM_INACTIVE_EDGE (R283). The inactive edge of a PWM period falls. -/
  | pwmInactiveEdge (n : Fin 4)
  /-- GPIO_SET (R288). A write to SNS_GPIO_SET sets the output bits written as 1. -/
  | gpioSet (v : Word)
  /-- GPIO_CLR (R288). A write to SNS_GPIO_CLR clears the output bits written as 1. -/
  | gpioClr (v : Word)
  /-- GPIO_EDGE (R288). An edge detector counts a stable edge on its pin and fires its source. -/
  | gpioEdge (k : Fin 2) (rising : Bool)
  /-- LD (R320). Loads a register from the operand, written at the end of the slot. -/
  | ld (e : Fin 12) (r : GReg) (o : Opnd)
  /-- ST (R320). Stores a register to memory. -/
  | st (e : Fin 12) (r : GReg) (o : Opnd)
  /-- ADD (R320). Adds the operand to a register. -/
  | add (e : Fin 12) (r : GReg) (o : Opnd)
  /-- ADC (R320). Adds the operand and C to A. -/
  | adc (e : Fin 12) (o : Opnd)
  /-- SUB (R320). Subtracts the operand from a register. -/
  | sub (e : Fin 12) (r : GReg) (o : Opnd)
  /-- SBC (R320). Subtracts the operand and borrow from A. -/
  | sbc (e : Fin 12) (o : Opnd)
  /-- AND (R320). ANDs the operand into A. -/
  | and (e : Fin 12) (o : Opnd)
  /-- OR (R320). ORs the operand into A. -/
  | or (e : Fin 12) (o : Opnd)
  /-- XOR (R320). XORs the operand into A. -/
  | xor (e : Fin 12) (o : Opnd)
  /-- CMP (R320). Compares a register with the operand and sets flags. -/
  | cmp (e : Fin 12) (r : GReg) (o : Opnd)
  /-- TEST (R320). ANDs A with the operand and sets N and Z. -/
  | test (e : Fin 12) (o : Opnd)
  /-- MUL (R320). Sets A to the low 32 bits of A times the operand. -/
  | mul (e : Fin 12) (o : Opnd)
  /-- MULHU (R320). Sets A to the high 32 bits of the unsigned product. -/
  | mulhu (e : Fin 12) (o : Opnd)
  /-- ADDD (R325). Packed-BCD add of the operand to A with carry in. -/
  | addd (e : Fin 12) (o : Opnd)
  /-- SUBD (R325). Packed-BCD subtract of the operand from A with no-borrow in. -/
  | subd (e : Fin 12) (o : Opnd)
  /-- CMPD (R325). Packed-BCD compare of A with the operand. -/
  | cmpd (e : Fin 12) (o : Opnd)
  /-- INC (R320). Reads, increments and writes a memory operand. -/
  | inc (e : Fin 12) (o : Opnd)
  /-- DEC (R320). Reads, decrements and writes a memory operand. -/
  | dec (e : Fin 12) (o : Opnd)
  /-- LEA (R320). Loads the effective address into a register. -/
  | lea (e : Fin 12) (r : GReg) (o : Opnd)
  /-- JUMP (R320). Sets P to the effective address. -/
  | jump (e : Fin 12) (o : Opnd)
  /-- CALL (R320). Pushes P_next and jumps to the effective address. -/
  | call (e : Fin 12) (o : Opnd)
  /-- LDR (R330). Loads A from shared SRAM and reserves the word for the master. -/
  | ldr (e : Fin 12) (o : Opnd)
  /-- STC (R330). Stores A only when the reservation is still held, setting Z on success. -/
  | stc (e : Fin 12) (o : Opnd)
  /-- BRANCH (R321). Branches to P_next plus the displacement when its condition holds. -/
  | branch (e : Fin 12) (c : Cond) (d : Disp)
  /-- CALLR (R321). Pushes P_next and branches to the relative target. -/
  | callr (e : Fin 12) (d : Disp)
  /-- SHL (R322). Shifts A left. -/
  | shl (e : Fin 12) (n : Fin 32)
  /-- SHR (R322). Shifts A right logically. -/
  | shr (e : Fin 12) (n : Fin 32)
  /-- ASR (R322). Shifts A right arithmetically. -/
  | asr (e : Fin 12) (n : Fin 32)
  /-- ROL (R322). Rotates A left. -/
  | rol (e : Fin 12) (n : Fin 32)
  /-- ROR (R322). Rotates A right. -/
  | ror (e : Fin 12) (n : Fin 32)
  /-- SHLD (R327). Shifts A left by decimal digits. -/
  | shld (e : Fin 12) (n : Fin 8)
  /-- SHRD (R327). Shifts A right by decimal digits. -/
  | shrd (e : Fin 12) (n : Fin 8)
  /-- NOP (R323). Does nothing. -/
  | nop (e : Fin 12)
  /-- WAIT (R298). Enters WAIT until an unmasked pending bit arrives. -/
  | wait (e : Fin 12)
  /-- RET (R323). Pops P from the stack. -/
  | ret (e : Fin 12)
  /-- RETV (R323). Returns from a vector, restoring F with T = 0 and P. -/
  | retv (e : Fin 12)
  /-- FSET_I (R323). Sets F.I. -/
  | fsetI (e : Fin 12)
  /-- FCLR_I (R323). Clears F.I. -/
  | fclrI (e : Fin 12)
  /-- FSET_C (R323). Sets C. -/
  | fsetC (e : Fin 12)
  /-- FCLR_C (R323). Clears C. -/
  | fclrC (e : Fin 12)
  /-- FCLR_D (R323). Clears D. -/
  | fclrD (e : Fin 12)
  /-- DAA (R326). Decimal-adjusts A after a binary add using H. -/
  | daa (e : Fin 12)
  /-- MOVE (R323). Copies one of A, X, Y to another and sets N and Z. -/
  | move (e : Fin 12) (p : MovePair)
  /-- MOVE_S_X (R323). Copies S to X. -/
  | moveSX (e : Fin 12)
  /-- MOVE_X_S (R323). Copies X to S. -/
  | moveXS (e : Fin 12)
  /-- PUSH (R323). Pushes A, X, Y or F onto the stack. -/
  | push (e : Fin 12) (r : PushReg)
  /-- POP (R323). Pops A, X or Y as a load. -/
  | pop (e : Fin 12) (r : GReg)
  /-- POP_F (R323). Pops F with T = 0, effective at once. -/
  | popF (e : Fin 12)
  /-- INCR (R323). Adds 1 to A, X or Y. -/
  | incr (e : Fin 12) (r : GReg)
  /-- DECR (R323). Subtracts 1 from A, X or Y. -/
  | decr (e : Fin 12) (r : GReg)
  /-- NEG (R323). Sets A to 0 − A. -/
  | neg (e : Fin 12)
  /-- NOT (R323). Inverts A. -/
  | not (e : Fin 12)
  /-- RESERVED_OPCODE_TRAP (R334). A reserved base word changes nothing and enters the reserved-opcode trap. -/
  | reservedOpcodeTrap (e : Fin 12) (w : BitVec 16)
  /-- VECTOR_ENTRY (R304). At an instruction boundary an unmasked event or interrupt pushes P and F and enters its vector. -/
  | vectorEntry (e : Fin 12)
  /-- FLUSHED_FAULT (R305). A retired register write flushed by a far-side reset sends the engine to its fault vector. -/
  | flushedFault (e : Fin 12) (a : Word)
  /-- LOAD (R302). ENG_CMD LOAD copies an image into a target TCM. -/
  | load (m : Master) (t : Fin 16) (desc : BitVec 19)
  /-- LOAD_DONE (R301). A LOAD finishes copying and its result replaces PENDING. -/
  | loadDone (m : Master)
  /-- RELEASE (R298). ENG_CMD RELEASE starts an engine in RUN at P = 0. -/
  | release (m : Master) (t : Fin 16)
  /-- HALT (R298). ENG_CMD HALT stops an engine at the next instruction boundary. -/
  | halt (m : Master) (t : Fin 16)
  /-- HALT_DONE (R301). The target reaches HALT and the HALT command result becomes OK. -/
  | haltDone (e : Fin 12)
  /-- RESUME (R298). ENG_CMD RESUME returns an engine to the state it left. -/
  | resume (m : Master) (t : Fin 16)
  /-- ENGINE_RESET (R300). ENG_CMD RESET puts an engine into RESET and flushes its accesses. -/
  | engineReset (m : Master) (t : Fin 16)
  /-- PAIR (R307). ENG_CMD PAIR locksteps a user pair or separates it. -/
  | pair (m : Master) (t : Fin 16) (lock : Bool)
  /-- ENG_DBELL (R306). A write to ENG_DBELLe sets interrupt pending bits of engine e. -/
  | engDbell (e : Fin 12) (bits : Byte)
  /-- READ_BUFFER_INVALIDATE (R295). A write of ENG_RBINV.ALL empties the engine's flash read buffer. -/
  | readBufferInvalidate (m : Master)
  /-- LOCKSTEP_MISMATCH (R310). The comparator finds a mismatch and the pair enters RESTART or STOPPED. -/
  | lockstepMismatch (e : Fin 12)
  /-- RESTORE_DONE (R310). A pair's restore completes and it resumes or enters the mismatch vector. -/
  | restoreDone (e : Fin 12)
  /-- EVENT_TASK_DELIVER (R342). A task pulse leaves the fabric or its crossing and the task acts. -/
  | eventTaskDeliver (t : Fin 128)
  /-- SWFIRE (R349). A write to EVF_SWFIRE fires the channels named, subject to owner rules. -/
  | swfire (m : Master) (hi : Bool) (v : Word)
  /-- CHANNEL_CFG_WRITE (R350). A write to a channel's CFG register is checked against owner and security rules and applied whole. -/
  | channelCfgWrite (m : Master) (n : Fin 64) (v : Word)
  /-- CHANNEL_TASK_WRITE (R351). A write to a channel's TASK register is checked and applied whole. -/
  | channelTaskWrite (m : Master) (n : Fin 64) (v : Word)
  /-- GRPEN_WRITE (R348). A write to EVF_GRPEN from a permitted master enables or disables groups. -/
  | grpenWrite (m : Master) (v : Byte)
  /-- CLAIM_TAKE (R355). A TAKE write sets a free claim's owner to the writer. -/
  | claimTake (m : Master) (k : Fin 16)
  /-- CLAIM_FREE (R355). A FREE write by the owner or E2 frees the claim. -/
  | claimFree (m : Master) (k : Fin 16)
  /-- CAP_PHASE_READ (R344). A read of EVF_CAPk_PHASE latches the capture and clears NEW and OVR. -/
  | capPhaseRead (k : Fin 4)
  /-- PROGRAM (R369). FLC_CMD PROGRAM writes code words from shared SRAM to flash. -/
  | program (m : Master) (desc : BitVec 19)
  /-- ERASE (R371). FLC_CMD ERASE erases a block under the journal, with rollover when needed. -/
  | erase (m : Master) (desc : BitVec 19)
  /-- MARGIN (R379). FLC_CMD MARGIN checks a block at margin. -/
  | margin (m : Master) (desc : BitVec 19)
  /-- FLASH_OP_DONE (R367). A flash operation ends, buffers are invalidated, the result is written and OPDONE fires. -/
  | flashOpDone (bad : Option (Fin 2048 × Bool))
  /-- ERASE_TIMEOUT (R371). An erase runs 400 ms without verifying, and the block is marked half-erased. -/
  | eraseTimeout
  /-- ERASE_RESUME (R377). RESUMEMIN µs pass without a read of the bank, and a suspended erase resumes. -/
  | eraseResume
  /-- CTR (R391). A CIP job of OP 0x01 runs AES-CTR. -/
  | ctr (m : Master) (desc : BitVec 19)
  /-- CMAC_GENERATE (R391). A CIP job of OP 0x02 generates a CMAC tag. -/
  | cmacGenerate (m : Master) (desc : BitVec 19)
  /-- CMAC_VERIFY (R391). A CIP job of OP 0x03 verifies a CMAC tag. -/
  | cmacVerify (m : Master) (desc : BitVec 19)
  /-- CCM_ENCRYPT (R391). A CIP job of OP 0x04 encrypts and tags in CCM. -/
  | ccmEncrypt (m : Master) (desc : BitVec 19)
  /-- CCM_DECRYPT (R391). A CIP job of OP 0x05 decrypts and verifies in CCM. -/
  | ccmDecrypt (m : Master) (desc : BitVec 19)
  /-- GCM_ENCRYPT (R391). A CIP job of OP 0x06 encrypts and tags in GCM. -/
  | gcmEncrypt (m : Master) (desc : BitVec 19)
  /-- GCM_DECRYPT (R391). A CIP job of OP 0x07 decrypts and verifies in GCM. -/
  | gcmDecrypt (m : Master) (desc : BitVec 19)
  /-- WRAP (R395). A CIP job of OP 0x08 wraps an exportable slot's key. -/
  | wrap (m : Master) (desc : BitVec 19)
  /-- UNWRAP (R393). A CIP job of OP 0x09 unwraps a key into one or two slots. -/
  | unwrap (m : Master) (desc : BitVec 19)
  /-- JOB_DONE (R392). A CIP job ends with its final status and JOBDONE fires. -/
  | jobDone (stop : Option Nat)
  /-- KEY_WORD_WRITE (R386). A write to CIP_KEYWn from E2 fills the key buffer and records the word. -/
  | keyWordWrite (m : Master) (n : Fin 8) (v : Word)
  /-- KCMD_ERASE (R387). CIP_KCMD with OP = 0x1 erases a slot unless it is locked or slot 15. -/
  | kcmdErase (m : Master) (k : Fin 16)
  /-- TRNG_TEST_DONE (R398). The entropy source start-up test passes and the TRNG enters OK. -/
  | trngTestDone
  /-- TRNG_FAIL (R398). A health test fails and the TRNG enters FAIL. -/
  | trngFail
  /-- TRNG_RESTART (R398). A write of RESTART from E2 in FAIL returns the TRNG to TEST. -/
  | trngRestart (m : Master)
  /-- TRNG_RESEED (R398). The mask generator is reseeded with full-entropy bits before 65,536 rounds pass. -/
  | trngReseed (left : Nat)
  /-- RNG_READ (R399). A read of CIP_RNG takes one entropy word or counts an underrun. -/
  | rngRead
  /-- SET_DATE (R420). RTC_SETCMD with DATE copies the date staging register for the next set. -/
  | setDate (m : Master)
  /-- SET_TIME (R420). RTC_SETCMD with TIME copies the time staging register for the next set. -/
  | setTime (m : Master)
  /-- SET_ALARM (R420). RTC_SETCMD with ALARM copies the alarm staging registers for the next set. -/
  | setAlarm (m : Master)
  /-- RTC_SET_APPLY (R421). At the next LFCLK edge the Atoll domain checks and applies the named parts and writes RTC_SETSTAT. -/
  | rtcSetApply
  /-- CALENDAR_SECOND (R416). The prescaler completes a trimmed second, the calendar advances and SECOND fires. -/
  | calendarSecond
  /-- INTERVAL_ALARM (R424). PERIOD ticks pass and the interval alarm fires. -/
  | intervalAlarm
  /-- WAKE_EDGE (R427). A stable edge of the selected kind on an enabled WAKE pin fires its source. -/
  | wakeEdge (n : Fin 4) (level : Bool)
  /-- POWER_GOOD_FALL (R410). 67 consecutive low samples of both supplies drop power-good and reset the Atoll domain. -/
  | powerGoodFall (n : Nat)
  /-- BACKUP_RAM_WRITE (R413). A write to backup RAM takes effect at an LFCLK edge and the vendor-area CRC is recomputed. -/
  | backupRamWrite (m : Master) (n : Fin 16) (v : Word)
  /-- RTC_TIME_READ (R418). A read of RTC_TIME latches date, subsecond and tick count. -/
  | rtcTimeRead
  /-- STMP_SUB_READ (R428). A read of RTC_STMP_SUB latches the stamp and clears NEW and OVR. -/
  | stmpSubRead
  /-- LEVEL_CHANGE_STEP (R433). A step of a performance-level change completes and the next begins. -/
  | levelChangeStep
  /-- ENGINE_IDLE (R438). An engine has been idle for PWR_ENGIDLE cycles; with all idle the device enters DOZE. -/
  | engineIdle (e : Fin 12)
  /-- DEVICE_IDLE (R439). The DOZE idle timer reaches PWR_DEVIDLE and, when every condition holds, a deeper state is entered. -/
  | deviceIdle
  /-- SLEEP_ENTRY (R442). At the LFCLK edge of step 3, MER hands over to the Atoll domain and all main clocks stop. -/
  | sleepEntry (mv : Nat)
  /-- WAKE_TIMER (R448). RTC_TICK reaches PWR_TIMER and the TIMER wake source fires. -/
  | wakeTimer
  /-- WAKE_SOURCE (R448). An enabled wake source is taken at an LFCLK edge, PWR_WAKESRC is written and the wake or start begins. -/
  | wakeSource (hif : Bool)
  /-- WAKE_CLOCKS_READY (R443). The PLL locks after a wake, all clocks start, MER advances and the device is in DOZE. -/
  | wakeClocksReady (mv : Nat)
  /-- WAKE_FLASH_READY (R443). The flash die is powered after a wake and window reads are served. -/
  | wakeFlashReady
  /-- PWR_OFF_CMD (R447). A write of PWR_CTRL.OFF from E2 turns bands off and enters BACKUP-ONLY. -/
  | pwrOffCmd (m : Master)
  /-- LFCLK_LOSS (R453). No LFCLK edge arrives for 1 ms, so LFOK falls and LFFAIL is logged. -/
  | lfclkLoss
  /-- ACTDONE (R466). A write of FLT_ACTDONE from E2 ends a BLOCK_RESTART and starts the next queued action. -/
  | actdone (m : Master) (r : Fin 16) (mv : Nat)
  /-- FLT_REPORT (R475). A write of FLT_REPORT from E2 or unlocked HIF logs a reported fault. -/
  | fltReport (m : Master) (v : Word)
  /-- FLT_KICK (R474). A write to FLT_KICK restarts the watchdog of the writer's region. -/
  | fltKick (m : Master)
  /-- WATCHDOG_EXPIRY (R474). A watchdog count reaches PERIOD and FLT logs WDOG. -/
  | watchdogExpiry (r : Fin 11)
  /-- RECOVERY_TIMEOUT (R465). A BLOCK_RESTART has not ended within RTMO and RECTMO is logged. -/
  | recoveryTimeout
  /-- EPISODE_CLOSE (R467). WIN ms pass after a region's last fault with no action, and its episode closes. -/
  | episodeClose (r : Fin 16)
  /-- PACKET_CRC_ERROR (R490). A received packet with an oversized LEN or failing CRC is discarded without reply. -/
  | packetCrcError (spi : Bool) (len : BitVec 16)
  /-- PACKET_GAP_TIMEOUT (R490). More than GAP ms pass between two bytes of a packet, and it is discarded. -/
  | packetGapTimeout (spi : Bool)
  /-- GET_INFO (R500). Returns identity, role, ISA and firmware version and boot status. -/
  | getInfo (q : HostReq)
  /-- ECHO (R500). Returns the payload bytes. -/
  | echo (q : HostReq)
  /-- POLL (R493). Returns the state or outcome of the last long request. -/
  | poll (q : HostReq)
  /-- DP_READ (R502). HIF reads bytes from the data-port window or, in expert form, any address. -/
  | dpRead (q : HostReq)
  /-- DP_WRITE (R502). HIF writes bytes into the data-port window and may ring a doorbell. -/
  | dpWrite (q : HostReq)
  /-- DBELL (R500). Sets interrupt pending bits of a user engine. -/
  | dbell (q : HostReq)
  /-- EVENTS (R500). Returns and clears HIF_EVPEND bits. -/
  | events (q : HostReq)
  /-- RESET (R500). Sends the reply and then resets the device, cold when requested. -/
  | reset (q : HostReq)
  /-- RESET_AFTER_REPLY (R500). The RESET opcode's reply has left, or 100 ms passed, and SYS_RESET is written. -/
  | resetAfterReply
  /-- FAULTS (R500). Returns an FLT log entry and FLT_STAT. -/
  | faults (q : HostReq)
  /-- REPORT (R500). Reports a fault for a region through E2. -/
  | report (q : HostReq)
  /-- ENGINES (R500). Returns engine states, or in expert form issues an ENG command as HIF. -/
  | engines (q : HostReq)
  /-- HOST_CFG (R500). Sets the UART baud rate and gap limit after the reply. -/
  | hostCfg (q : HostReq)
  /-- BAUD_REVERT (R500). No valid request arrives within 1 s at the new rate, and the old rate returns. -/
  | baudRevert
  /-- UNLOCK_CHAL (R498). Returns a fresh 16-byte nonce for the expert unlock. -/
  | unlockChal (q : HostReq)
  /-- UNLOCK (R498). Checks the CMAC tag over nonce and EUI-64 and sets the expert unlock. -/
  | unlock (q : HostReq)
  /-- LOCK (R499). Clears the expert unlock. -/
  | lock (q : HostReq)
  /-- UNLOCK_TIMEOUT (R499). TMO seconds pass without an expert request and the unlock lapses with LOCKED set. -/
  | unlockTimeout
  /-- PWR_STATUS (R500). Returns PWR status registers, or in expert form writes PWR configuration. -/
  | pwrStatus (q : HostReq)
  /-- PWR_LEVEL (R500). Commits a performance level. -/
  | pwrLevel (q : HostReq)
  /-- PWR_OFF (R500). Sets wake enables, replies and enters BACKUP-ONLY. -/
  | pwrOff (q : HostReq)
  /-- FL_READ (R500). Reads bytes or raw code words through the flash window. -/
  | flRead (q : HostReq)
  /-- FL_PROGRAM (R500). Programs code words in a permitted block. -/
  | flProgram (q : HostReq)
  /-- FL_ERASE (R500). Long opcode that erases a permitted block. -/
  | flErase (q : HostReq)
  /-- FL_MARGIN (R500). Checks a block at margin. -/
  | flMargin (q : HostReq)
  /-- FL_BLOCK (R500). Returns FLC_BLKINFO of a block. -/
  | flBlock (q : HostReq)
  /-- FW_UPDATE (R500). Receives, verifies and programs a signed vendor firmware image in phases. -/
  | fwUpdate (q : HostReq)
  /-- IMAGE_SET (R500). Records the user image of an engine for boot. -/
  | imageSet (q : HostReq)
  /-- RF_STATUS (R500). Returns radio and modem status registers. -/
  | rfStatus (q : HostReq)
  /-- RF_CAL (R500). Long opcode that runs a calibration command. -/
  | rfCal (q : HostReq)
  /-- RF_PLAN (R500). Returns, or in expert form writes and commits, a band's channel plan. -/
  | rfPlan (q : HostReq)
  /-- SND_CONFIG (R273). Configures the Sounding library parameters, ring and state area. -/
  | sndConfig (q : HostReq)
  /-- SND_LINK_ADD (R273). Adds or replaces a Sounding link. -/
  | sndLinkAdd (q : HostReq)
  /-- SND_LINK_REMOVE (R273). Removes a Sounding link. -/
  | sndLinkRemove (q : HostReq)
  /-- SND_LINK_RESET (R273). Sets both baselines of a link EMPTY. -/
  | sndLinkReset (q : HostReq)
  /-- SND_ZONE (R273). Sets the ZMODE of a zone. -/
  | sndZone (q : HostReq)
  /-- SND_START (R273). Enables reader 0 and starts zone writes. -/
  | sndStart (q : HostReq)
  /-- SND_STOP (R273). Disables reader 0 and stops zone writes. -/
  | sndStop (q : HostReq)
  /-- SND_READ (R273). Returns a link's baseline states, index and counters. -/
  | sndRead (q : HostReq)
  /-- MESH_STATUS (R500). Returns role, mesh identity, rank, parent and Meridian state. -/
  | meshStatus (q : HostReq)
  /-- NEIGHBOUR (R500). Returns, or in expert form writes, a neighbour entry. -/
  | neighbour (q : HostReq)
  /-- COMMISSION (R500). Sets role, MESHID and join key and cold-starts the device. -/
  | commission (q : HostReq)
  /-- JOIN (R500). Starts a join scan. -/
  | join (q : HostReq)
  /-- MEMBER_KEY (R500). Gives the manager a worker's wrapped join key. -/
  | memberKey (q : HostReq)
  /-- MEMBERS (R500). Returns membership records of the manager. -/
  | members (q : HostReq)
  /-- ASSURED (R250). Asks the manager to set up an Assured flow over two disjoint paths. -/
  | assured (q : HostReq)
  /-- SEND (R500). Enqueues a frame from the host to a queue. -/
  | send (q : HostReq)
  /-- CHART_GET (R500). Returns, or in expert form writes and commits, Chart entries. -/
  | chartGet (q : HostReq)
  /-- QUEUES (R500). Returns queue counts and counters of a band. -/
  | queues (q : HostReq)
  /-- POLICER (R500). Returns, or in expert form writes, a policer. -/
  | policer (q : HostReq)
  /-- KEY_INFO (R500). Returns a key slot's information and policy. -/
  | keyInfo (q : HostReq)
  /-- KEY_LOAD (R500). Unwraps a key into a slot. -/
  | keyLoad (q : HostReq)
  /-- KEY_ERASE (R500). Erases a key slot permitted to the host. -/
  | keyErase (q : HostReq)
  /-- EXPERT_KEY (R500). Stores the expert key wrapped under slot 15. -/
  | expertKey (q : HostReq)
  /-- RANDOM (R500). Returns random bytes from the TRNG. -/
  | random (q : HostReq)
  /-- TIME_GET (R500). Returns calendar and RTC status. -/
  | timeGet (q : HostReq)
  /-- TIME_SET (R500). Sets the calendar through the set path. -/
  | timeSet (q : HostReq)
  /-- ALARM_SET (R500). Sets the alarm through the set path. -/
  | alarmSet (q : HostReq)
  /-- TRIM (R500). Returns, or in expert form writes, the calendar trim. -/
  | trim (q : HostReq)
  /-- BKUP_READ (R500). Returns the 64 backup RAM bytes. -/
  | bkupRead (q : HostReq)
  /-- BKUP_WRITE (R500). Writes free backup RAM bytes. -/
  | bkupWrite (q : HostReq)
  /-- SVY_STATUS (R521). Returns the Survey recorder state. -/
  | svyStatus (q : HostReq)
  /-- SVY_READ (R519). Returns sheets from a reading cursor and advances it. -/
  | svyRead (q : HostReq)
  /-- SVY_SEEK (R519). Moves a reading cursor to a position. -/
  | svySeek (q : HostReq)
  /-- SVY_CONFIG (R521). Writes and commits the Survey configuration. -/
  | svyConfig (q : HostReq)
  /-- SVY_CLEAR (R520). Clears the rolling area, or the founding area in expert form. -/
  | svyClear (q : HostReq)
  /-- LONG_DONE (R492). A long opcode ends and LONGDONE is set. -/
  | longDone (ok : Bool)
  /-- HIF_REPLY_GO (R506). A write of HIF_REPLY.GO from E2 frames and sends the interpreter's reply. -/
  | hifReplyGo (m : Master) (v : Word)
  /-- ENGINE_REQUEST (R504). A write of HIF_EREQ passes an engine's request packet to the interpreter. -/
  | engineRequest (m : Master) (v : Word) (env : ReqEnv)
  /-- SVR_ENABLE (R518). Setting SVR_CFG.EN scans the Survey area and opens a sheet. -/
  | svrEnable (m : Master)
  /-- CLOSE (R512). SVR_CMD.CLOSE closes the open sheet. -/
  | close (m : Master)
  /-- FOUND (R515). SVR_CMD.FOUND sends the next sheet to the founding area. -/
  | found (m : Master)
  /-- CLRROLL (R520). SVR_CMD.CLRROLL erases the rolling area. -/
  | clrroll (m : Master)
  /-- CLRFOUND (R520). SVR_CMD.CLRFOUND erases the founding area and resets SEQ and cursors. -/
  | clrfound (m : Master)
  /-- SHEET_WRITE (R517). A waiting closed sheet is programmed into its place when FLC and the place are free. -/
  | sheetWrite
  /-- ROLLING_ERASE (R516). SVR erases the next rolling block when RDLOCK is 0. -/
  | rollingErase
  /-- METRIC_SAMPLE (R510). A write to SVR_MkSAMPLE adds a firmware sample to slot k. -/
  | metricSample (k : Fin 24) (v : Word)
  /-- METRIC_ADD (R511). A write to SVR_MkADD adds a BCD increment to slot k's counter. -/
  | metricAdd (k : Fin 24) (v : Word)
  /-- START (R526). TST_CTRL.START checks and starts a link test run. -/
  | start (m : Master)
  /-- STOP (R527). TST_CTRL.STOP ends the run after the unit in progress with ABORTED. -/
  | stop
  /-- TEST_UNIT (R524). One unit of a link test completes and is checked; the run ends at COUNT. -/
  | testUnit (p : TestPart)
  /-- TEST_GAP_TIMEOUT (R528). The host sends no byte within the gap limit during a HOST run, which ends ABORTED. -/
  | testGapTimeout
  /-- LFCLK_VALID (R453). The 32.768 kHz oscillator starts, after the Atoll domain powers up, and LFCLK becomes valid, so CLK_STAT.LFOK becomes 1. -/
  | lfclkValid
  /-- SUPPLY_SWITCH_OVER (R409). VBAT or VBKUP becomes the higher supply, so the ideal-diode switch moves the Atoll domain to it and RTC_STAT.SUPPLY changes; a supply back at 1.50 V also clears the count of low samples of R410. -/
  | supplySwitchOver (vbkup back : Bool)
  /-- UNASSIGNED_OPCODE (R500). A Toeth request whose opcode is not assigned passes R490 and is answered BAD_OPCODE. -/
  | unassignedOpcode (op : BitVec 7) (q : HostReq)
  /-- REPLY_SHIFTED_OUT (R486). The host clocks a waiting SPI reply out through its sync byte, or the UART finishes sending a reply, so REPWAIT clears and HIF_IRQ is released. -/
  | replyShiftedOut
  /-- LEAF_SEARCH_LISTEN_END (R246). A searching leaf's 200 ms listening period ends with no beacon heard, and the leaf returns to sleep until the next search alarm. -/
  | leafSearchListenEnd
  /-- TCM_CLEAR_DONE (R445). After a wake, the clearing of a TCM that was not retained ends after 16,384 ECLK cycles, and its engine may then be loaded and released. -/
  | tcmClearDone (e : Fin 12)
deriving DecidableEq, Repr

end Sys2Proof
end

