-- ==== Sys2Proof/Machine/Fields.lean ====
section
/-!
DEFINITION. The named fields of the register tables of spec/ (the rules RegTable.lean names), each by its bus address, its
low bit and its width. A register that stands once in each band is a function of the band; a run of registers, of its index.
-/
namespace Sys2Proof.Machine

/-- A field of a register: bus address of the register, low bit, width. -/
structure Field where
  addr  : Nat
  lsb   : Nat
  width : Nat
deriving DecidableEq, Repr

/-- The whole word of a register. -/
abbrev Field.word (a : Nat) : Field := ⟨a, 0, 32⟩

abbrev SYS_ID_PART : Field := ⟨0x40000000, 16, 16⟩
abbrev SYS_ID_REV : Field := ⟨0x40000000, 0, 8⟩
abbrev SYS_EUI_LO_EUI : Field := ⟨0x40000004, 0, 32⟩
abbrev SYS_EUI_HI_EUI : Field := ⟨0x40000008, 0, 32⟩
abbrev SYS_ROLE_ROLE : Field := ⟨0x4000000C, 0, 2⟩
abbrev SYS_BOOT_DONE : Field := ⟨0x40000010, 31, 1⟩
abbrev SYS_BOOT_SAFE : Field := ⟨0x40000010, 30, 1⟩
abbrev SYS_BOOT_FORCECOLD : Field := ⟨0x40000010, 29, 1⟩
abbrev SYS_BOOT_WARM : Field := ⟨0x40000010, 28, 1⟩
abbrev SYS_BOOT_COLDWHY : Field := ⟨0x40000010, 16, 5⟩
abbrev SYS_BOOT_STATUS : Field := ⟨0x40000010, 8, 8⟩
abbrev SYS_BOOT_STEP : Field := ⟨0x40000010, 0, 8⟩
abbrev SYS_RSTCAUSE_HIST : Field := ⟨0x40000014, 16, 10⟩
abbrev SYS_RSTCAUSE_CAUSE : Field := ⟨0x40000014, 0, 4⟩
abbrev SYS_RESET_KEY : Field := ⟨0x40000018, 24, 8⟩
abbrev SYS_RESET_COLD : Field := ⟨0x40000018, 0, 1⟩
abbrev PWR_CFG_XOTYPE : Field := ⟨0x40001000, 7, 1⟩
abbrev PWR_CFG_AUTOTMR : Field := ⟨0x40001000, 6, 1⟩
abbrev PWR_CFG_DEEP : Field := ⟨0x40001000, 0, 2⟩
abbrev PWR_STAT_HOLD : Field := ⟨0x40001004, 16, 8⟩
abbrev PWR_STAT_VCORE : Field := ⟨0x40001004, 4, 2⟩
abbrev PWR_STAT_FENG : Field := ⟨0x40001004, 2, 2⟩
abbrev PWR_STAT_CHG : Field := ⟨0x40001004, 1, 1⟩
abbrev PWR_STAT_DOZE : Field := ⟨0x40001004, 0, 1⟩
abbrev PWR_LEVEL_VCORE : Field := ⟨0x40001008, 4, 2⟩
abbrev PWR_LEVEL_FENG : Field := ⟨0x40001008, 0, 2⟩
abbrev PWR_COMMIT_STATUS : Field := ⟨0x4000100C, 8, 8⟩
abbrev PWR_COMMIT_BUSY : Field := ⟨0x4000100C, 1, 1⟩
abbrev PWR_COMMIT_GO : Field := ⟨0x4000100C, 0, 1⟩
abbrev PWR_ENGIDLE_CYC : Field := ⟨0x40001010, 0, 16⟩
abbrev PWR_DEVIDLE_US : Field := ⟨0x40001014, 0, 16⟩
abbrev PWR_STBYMIN_MS : Field := ⟨0x40001018, 0, 16⟩
abbrev PWR_RETCFG_TCM : Field := ⟨0x4000101C, 11, 9⟩
abbrev PWR_RETCFG_TCMV : Field := ⟨0x4000101C, 8, 3⟩
abbrev PWR_RETCFG_BANK : Field := ⟨0x4000101C, 0, 8⟩
abbrev PWR_CTRL_OFF : Field := ⟨0x40001020, 0, 1⟩
abbrev PWR_CNT_ABANDON : Field := ⟨0x40001024, 16, 16⟩
abbrev PWR_CNT_SLEEPS : Field := ⟨0x40001024, 0, 16⟩
abbrev PWR_WAKEEN_EN : Field := ⟨0x40001040, 0, 8⟩
abbrev PWR_WAKESRC_FIRST : Field := ⟨0x40001044, 12, 4⟩
abbrev PWR_WAKESRC_FROM : Field := ⟨0x40001044, 8, 3⟩
abbrev PWR_WAKESRC_SRC : Field := ⟨0x40001044, 0, 8⟩
abbrev PWR_TIMER_LO_TICK : Field := ⟨0x40001048, 0, 32⟩
abbrev PWR_TIMER_HI_TICK : Field := ⟨0x4000104C, 0, 16⟩
abbrev CLK_STAT_LFFAIL : Field := ⟨0x40002000, 5, 1⟩
abbrev CLK_STAT_LFOK : Field := ⟨0x40002000, 4, 1⟩
abbrev CLK_STAT_XOTYPE : Field := ⟨0x40002000, 3, 1⟩
abbrev CLK_STAT_PLLELOCK : Field := ⟨0x40002000, 2, 1⟩
abbrev CLK_STAT_PLLMLOCK : Field := ⟨0x40002000, 1, 1⟩
abbrev CLK_STAT_XOOK : Field := ⟨0x40002000, 0, 1⟩
abbrev CLK_XOTRIM_CTRIM : Field := ⟨0x40002004, 0, 6⟩
abbrev CLK_LFTRIM_CTRIM32 : Field := ⟨0x40002008, 0, 6⟩
abbrev CLK_FLUSH_FLUSHES : Field := ⟨0x4000200C, 0, 16⟩
abbrev FLC_CFG_RESUMEMIN : Field := ⟨0x40003000, 16, 8⟩
abbrev FLC_CFG_FETCH_GUARD : Field := ⟨0x40003000, 4, 1⟩
abbrev FLC_CFG_WAIT : Field := ⟨0x40003000, 0, 3⟩
abbrev FLC_STAT_OWNER : Field := ⟨0x40003004, 8, 4⟩
abbrev FLC_STAT_BANK : Field := ⟨0x40003004, 4, 3⟩
abbrev FLC_STAT_WSLOW : Field := ⟨0x40003004, 3, 1⟩
abbrev FLC_STAT_ROLL : Field := ⟨0x40003004, 2, 1⟩
abbrev FLC_STAT_BUSY : Field := ⟨0x40003004, 1, 1⟩
abbrev FLC_STAT_SCANDONE : Field := ⟨0x40003004, 0, 1⟩
abbrev FLC_CMD_OP : Field := ⟨0x40003008, 28, 4⟩
abbrev FLC_CMD_DESC : Field := ⟨0x40003008, 2, 19⟩
abbrev FLC_ERSTAT_SUSPENDS : Field := ⟨0x4000300C, 16, 16⟩
abbrev FLC_ERSTAT_SUSP : Field := ⟨0x4000300C, 8, 1⟩
abbrev FLC_ERSTAT_PROGRESS : Field := ⟨0x4000300C, 0, 8⟩
abbrev FLC_ECC_COR : Field := ⟨0x40003010, 16, 16⟩
abbrev FLC_ECC_UNCOR : Field := ⟨0x40003010, 0, 16⟩
abbrev FLC_BLKIDX_BANK : Field := ⟨0x40003014, 8, 3⟩
abbrev FLC_BLKIDX_BLOCK : Field := ⟨0x40003014, 0, 7⟩
abbrev FLC_BLKINFO_HALF : Field := ⟨0x40003018, 31, 1⟩
abbrev FLC_BLKINFO_JRN : Field := ⟨0x40003018, 30, 1⟩
abbrev FLC_BLKINFO_VFW : Field := ⟨0x40003018, 29, 1⟩
abbrev FLC_BLKINFO_COUNT : Field := ⟨0x40003018, 0, 24⟩
abbrev FLC_HECOUNT_COUNT : Field := ⟨0x4000301C, 0, 11⟩
abbrev FLC_JRN_ROLLS (i : Nat) : Field := ⟨0x40003040 + 4 * i, 16, 16⟩
abbrev FLC_JRN_FREE (i : Nat) : Field := ⟨0x40003040 + 4 * i, 0, 12⟩
abbrev FLC_RES_OP (i : Nat) : Field := ⟨0x40003080 + 4 * i, 28, 4⟩
abbrev FLC_RES_WORDS (i : Nat) : Field := ⟨0x40003080 + 4 * i, 8, 12⟩
abbrev FLC_RES_STATUS (i : Nat) : Field := ⟨0x40003080 + 4 * i, 0, 8⟩
abbrev EVF_GRPEN_GRP : Field := ⟨0x40004000, 0, 8⟩
abbrev EVF_CNT_TCOLL : Field := ⟨0x4000400C, 16, 16⟩
abbrev EVF_CNT_SRCMRG : Field := ⟨0x4000400C, 0, 16⟩
abbrev EVF_LASTERR_STATUS : Field := ⟨0x40004010, 24, 8⟩
abbrev EVF_LASTERR_OWNER : Field := ⟨0x40004010, 20, 4⟩
abbrev EVF_LASTERR_COUNT : Field := ⟨0x40004010, 8, 8⟩
abbrev EVF_LASTERR_CLAIM : Field := ⟨0x40004010, 6, 1⟩
abbrev EVF_LASTERR_INDEX : Field := ⟨0x40004010, 0, 6⟩
abbrev EVF_CLAIM_TAKE (i : Nat) : Field := ⟨0x40004040 + 4 * i, 31, 1⟩
abbrev EVF_CLAIM_FREE (i : Nat) : Field := ⟨0x40004040 + 4 * i, 30, 1⟩
abbrev EVF_CLAIM_OWNER (i : Nat) : Field := ⟨0x40004040 + 4 * i, 0, 4⟩
abbrev EVF_CAP_CYCLE_CYCLE (i : Nat) : Field := ⟨0x40004080 + 16 * i, 0, 32⟩
abbrev EVF_CAP_PHASE_NEW (i : Nat) : Field := ⟨0x40004084 + 16 * i, 31, 1⟩
abbrev EVF_CAP_PHASE_OVR (i : Nat) : Field := ⟨0x40004084 + 16 * i, 30, 1⟩
abbrev EVF_CAP_PHASE_SRC (i : Nat) : Field := ⟨0x40004084 + 16 * i, 16, 8⟩
abbrev EVF_CAP_PHASE_PHASE (i : Nat) : Field := ⟨0x40004084 + 16 * i, 0, 16⟩
abbrev EVF_CAP_TSLO_TS (i : Nat) : Field := ⟨0x40004088 + 16 * i, 0, 32⟩
abbrev EVF_CAP_TSHI_TS (i : Nat) : Field := ⟨0x4000408C + 16 * i, 0, 32⟩
abbrev EVF_CH_CFG_EN (i : Nat) : Field := ⟨0x40004100 + 16 * i, 31, 1⟩
abbrev EVF_CH_CFG_SEC (i : Nat) : Field := ⟨0x40004100 + 16 * i, 30, 1⟩
abbrev EVF_CH_CFG_OWNER (i : Nat) : Field := ⟨0x40004100 + 16 * i, 24, 4⟩
abbrev EVF_CH_CFG_GROUP (i : Nat) : Field := ⟨0x40004100 + 16 * i, 16, 3⟩
abbrev EVF_CH_CFG_SRC (i : Nat) : Field := ⟨0x40004100 + 16 * i, 0, 8⟩
abbrev EVF_CH_TASK_V (i k : Nat) : Field := ⟨0x40004104 + 16 * i, 8 * k + 7, 1⟩
abbrev EVF_CH_TASK_TASK (i k : Nat) : Field := ⟨0x40004104 + 16 * i, 8 * k, 7⟩
abbrev EVF_CH_TASK_V3 (i : Nat) : Field := ⟨0x40004104 + 16 * i, 31, 1⟩
abbrev EVF_CH_TASK_TASK3 (i : Nat) : Field := ⟨0x40004104 + 16 * i, 24, 7⟩
abbrev EVF_CH_TASK_V2 (i : Nat) : Field := ⟨0x40004104 + 16 * i, 23, 1⟩
abbrev EVF_CH_TASK_TASK2 (i : Nat) : Field := ⟨0x40004104 + 16 * i, 16, 7⟩
abbrev EVF_CH_TASK_V1 (i : Nat) : Field := ⟨0x40004104 + 16 * i, 15, 1⟩
abbrev EVF_CH_TASK_TASK1 (i : Nat) : Field := ⟨0x40004104 + 16 * i, 8, 7⟩
abbrev EVF_CH_TASK_V0 (i : Nat) : Field := ⟨0x40004104 + 16 * i, 7, 1⟩
abbrev EVF_CH_TASK_TASK0 (i : Nat) : Field := ⟨0x40004104 + 16 * i, 0, 7⟩
abbrev EVF_CH_CNT_MERGED (i : Nat) : Field := ⟨0x40004108 + 16 * i, 16, 16⟩
abbrev EVF_CH_CNT_FIRED (i : Nat) : Field := ⟨0x40004108 + 16 * i, 0, 16⟩
abbrev RTC_STAT_WAKELVL : Field := ⟨0x40005000, 8, 4⟩
abbrev RTC_STAT_TRCLAMP : Field := ⟨0x40005000, 5, 1⟩
abbrev RTC_STAT_WRAP : Field := ⟨0x40005000, 4, 1⟩
abbrev RTC_STAT_SUPPLY : Field := ⟨0x40005000, 2, 1⟩
abbrev RTC_STAT_SIGOK : Field := ⟨0x40005000, 1, 1⟩
abbrev RTC_STAT_TLOST : Field := ⟨0x40005000, 0, 1⟩
abbrev RTC_TIME_WDAY : Field := ⟨0x40005004, 24, 3⟩
abbrev RTC_TIME_HOUR : Field := ⟨0x40005004, 16, 6⟩
abbrev RTC_TIME_MIN : Field := ⟨0x40005004, 8, 7⟩
abbrev RTC_TIME_SEC : Field := ⟨0x40005004, 0, 7⟩
abbrev RTC_DATE_YEAR : Field := ⟨0x40005008, 16, 16⟩
abbrev RTC_DATE_MONTH : Field := ⟨0x40005008, 8, 5⟩
abbrev RTC_DATE_DAY : Field := ⟨0x40005008, 0, 6⟩
abbrev RTC_SUBSEC_SUB : Field := ⟨0x4000500C, 0, 16⟩
abbrev RTC_TICK_LO_TICK : Field := ⟨0x40005010, 0, 32⟩
abbrev RTC_TICK_HI_TICK : Field := ⟨0x40005014, 0, 32⟩
abbrev RTC_SETTIME_WDAY : Field := ⟨0x40005018, 24, 3⟩
abbrev RTC_SETTIME_HOUR : Field := ⟨0x40005018, 16, 6⟩
abbrev RTC_SETTIME_MIN : Field := ⟨0x40005018, 8, 7⟩
abbrev RTC_SETTIME_SEC : Field := ⟨0x40005018, 0, 7⟩
abbrev RTC_SETDATE_YEAR : Field := ⟨0x4000501C, 16, 16⟩
abbrev RTC_SETDATE_MONTH : Field := ⟨0x4000501C, 8, 5⟩
abbrev RTC_SETDATE_DAY : Field := ⟨0x4000501C, 0, 6⟩
abbrev RTC_ALMTIME_HOUREN : Field := ⟨0x40005020, 31, 1⟩
abbrev RTC_ALMTIME_MINEN : Field := ⟨0x40005020, 30, 1⟩
abbrev RTC_ALMTIME_SECEN : Field := ⟨0x40005020, 29, 1⟩
abbrev RTC_ALMTIME_HOUR : Field := ⟨0x40005020, 16, 6⟩
abbrev RTC_ALMTIME_MIN : Field := ⟨0x40005020, 8, 7⟩
abbrev RTC_ALMTIME_SEC : Field := ⟨0x40005020, 0, 7⟩
abbrev RTC_ALMDATE_MONEN : Field := ⟨0x40005024, 31, 1⟩
abbrev RTC_ALMDATE_DAYEN : Field := ⟨0x40005024, 30, 1⟩
abbrev RTC_ALMDATE_WDAYEN : Field := ⟨0x40005024, 29, 1⟩
abbrev RTC_ALMDATE_WDAY : Field := ⟨0x40005024, 24, 3⟩
abbrev RTC_ALMDATE_MONTH : Field := ⟨0x40005024, 8, 5⟩
abbrev RTC_ALMDATE_DAY : Field := ⟨0x40005024, 0, 6⟩
abbrev RTC_ALMCFG_MODE : Field := ⟨0x40005028, 30, 2⟩
abbrev RTC_ALMCFG_PERIOD : Field := ⟨0x40005028, 0, 24⟩
abbrev RTC_SETCMD_ALARM : Field := ⟨0x4000502C, 2, 1⟩
abbrev RTC_SETCMD_TIME : Field := ⟨0x4000502C, 1, 1⟩
abbrev RTC_SETCMD_DATE : Field := ⟨0x4000502C, 0, 1⟩
abbrev RTC_SETSTAT_STATUS : Field := ⟨0x40005030, 8, 8⟩
abbrev RTC_SETSTAT_BUSY : Field := ⟨0x40005030, 0, 1⟩
abbrev RTC_TRIMCFG_SRC : Field := ⟨0x40005034, 31, 1⟩
abbrev RTC_TRIMCFG_TAVG : Field := ⟨0x40005034, 0, 4⟩
abbrev RTC_TRIM_TRIM : Field := ⟨0x40005038, 0, 24⟩
abbrev RTC_WAKECFG_EN (i : Nat) : Field := ⟨0x4000503C, 8 * i + 7, 1⟩
abbrev RTC_WAKECFG_PULL (i : Nat) : Field := ⟨0x4000503C, 8 * i + 3, 2⟩
abbrev RTC_WAKECFG_EDGE (i : Nat) : Field := ⟨0x4000503C, 8 * i + 1, 2⟩
abbrev RTC_STMP_TIME_WDAY : Field := ⟨0x40005040, 24, 3⟩
abbrev RTC_STMP_TIME_HOUR : Field := ⟨0x40005040, 16, 6⟩
abbrev RTC_STMP_TIME_MIN : Field := ⟨0x40005040, 8, 7⟩
abbrev RTC_STMP_TIME_SEC : Field := ⟨0x40005040, 0, 7⟩
abbrev RTC_STMP_DATE_YEAR : Field := ⟨0x40005044, 16, 16⟩
abbrev RTC_STMP_DATE_MONTH : Field := ⟨0x40005044, 8, 5⟩
abbrev RTC_STMP_DATE_DAY : Field := ⟨0x40005044, 0, 6⟩
abbrev RTC_STMP_SUB_NEW : Field := ⟨0x40005048, 31, 1⟩
abbrev RTC_STMP_SUB_OVR : Field := ⟨0x40005048, 30, 1⟩
abbrev RTC_STMP_SUB_SUB : Field := ⟨0x40005048, 0, 16⟩
abbrev RTC_BKUP_DATA (i : Nat) : Field := ⟨0x40005080 + 4 * i, 0, 32⟩
abbrev SVR_CFG_EN : Field := ⟨0x40006000, 31, 1⟩
abbrev SVR_CFG_FOUNDAUTO : Field := ⟨0x40006000, 30, 1⟩
abbrev SVR_CFG_INTERVAL : Field := ⟨0x40006000, 0, 11⟩
abbrev SVR_STAT_RDLOCK : Field := ⟨0x40006004, 6, 1⟩
abbrev SVR_STAT_BCDERR : Field := ⟨0x40006004, 5, 1⟩
abbrev SVR_STAT_CURLOST : Field := ⟨0x40006004, 4, 1⟩
abbrev SVR_STAT_CLEAR : Field := ⟨0x40006004, 3, 1⟩
abbrev SVR_STAT_WAITING : Field := ⟨0x40006004, 1, 2⟩
abbrev SVR_STAT_SCANNED : Field := ⟨0x40006004, 0, 1⟩
abbrev SVR_PLACE_ROLLBLK : Field := ⟨0x40006008, 16, 10⟩
abbrev SVR_PLACE_BANK : Field := ⟨0x40006008, 8, 3⟩
abbrev SVR_PLACE_BLOCK : Field := ⟨0x40006008, 0, 7⟩
abbrev SVR_COMMIT_STATUS : Field := ⟨0x4000600C, 8, 8⟩
abbrev SVR_COMMIT_BUSY : Field := ⟨0x4000600C, 1, 1⟩
abbrev SVR_COMMIT_GO : Field := ⟨0x4000600C, 0, 1⟩
abbrev SVR_CMD_CLRFOUND : Field := ⟨0x40006010, 3, 1⟩
abbrev SVR_CMD_CLRROLL : Field := ⟨0x40006010, 2, 1⟩
abbrev SVR_CMD_FOUND : Field := ⟨0x40006010, 1, 1⟩
abbrev SVR_CMD_CLOSE : Field := ⟨0x40006010, 0, 1⟩
abbrev SVR_SEQ_SEQ : Field := ⟨0x40006014, 0, 32⟩
abbrev SVR_FILL_ROLLN : Field := ⟨0x40006018, 14, 18⟩
abbrev SVR_FILL_FOUNDN : Field := ⟨0x40006018, 0, 9⟩
abbrev SVR_CUR_ROLL : Field := ⟨0x4000601C, 14, 18⟩
abbrev SVR_CUR_FOUND : Field := ⟨0x4000601C, 0, 9⟩
abbrev SVR_CNT_DROPS : Field := ⟨0x40006020, 16, 16⟩
abbrev SVR_CNT_BAD : Field := ⟨0x40006020, 0, 16⟩
abbrev SVR_M_CFG_EN (i : Nat) : Field := ⟨0x40006100 + 16 * i, 31, 1⟩
abbrev SVR_M_CFG_SGN (i : Nat) : Field := ⟨0x40006100 + 16 * i, 30, 1⟩
abbrev SVR_M_CFG_SHIFT (i : Nat) : Field := ⟨0x40006100 + 16 * i, 24, 5⟩
abbrev SVR_M_CFG_PARAM (i : Nat) : Field := ⟨0x40006100 + 16 * i, 8, 3⟩
abbrev SVR_M_CFG_SRC (i : Nat) : Field := ⟨0x40006100 + 16 * i, 0, 4⟩
abbrev SVR_M_BIN_STEP (i : Nat) : Field := ⟨0x40006104 + 16 * i, 16, 16⟩
abbrev SVR_M_BIN_LO (i : Nat) : Field := ⟨0x40006104 + 16 * i, 0, 16⟩
abbrev SVR_M_SAMPLE_VALUE (i : Nat) : Field := ⟨0x40006108 + 16 * i, 0, 16⟩
abbrev SVR_M_ADD_BCD (i : Nat) : Field := ⟨0x4000610C + 16 * i, 0, 32⟩
abbrev CIP_STAT_OWNER : Field := ⟨0x40007000, 12, 4⟩
abbrev CIP_STAT_TRNG : Field := ⟨0x40007000, 8, 2⟩
abbrev CIP_STAT_ACC : Field := ⟨0x40007000, 2, 1⟩
abbrev CIP_STAT_SEAL : Field := ⟨0x40007000, 1, 1⟩
abbrev CIP_STAT_BUSY : Field := ⟨0x40007000, 0, 1⟩
abbrev CIP_CFG_LINKDC : Field := ⟨0x40007004, 0, 1⟩
abbrev CIP_JOB_DESC : Field := ⟨0x40007008, 2, 19⟩
abbrev CIP_KSEL_KLEN : Field := ⟨0x4000700C, 4, 2⟩
abbrev CIP_KSEL_SLOT : Field := ⟨0x4000700C, 0, 4⟩
abbrev CIP_KPOL_LOCK : Field := ⟨0x40007010, 31, 1⟩
abbrev CIP_KPOL_EXPORT : Field := ⟨0x40007010, 30, 1⟩
abbrev CIP_KPOL_KEK : Field := ⟨0x40007010, 29, 1⟩
abbrev CIP_KPOL_LINK : Field := ⟨0x40007010, 28, 1⟩
abbrev CIP_KPOL_DEC : Field := ⟨0x40007010, 27, 1⟩
abbrev CIP_KPOL_ENC : Field := ⟨0x40007010, 26, 1⟩
abbrev CIP_KPOL_MODES : Field := ⟨0x40007010, 22, 4⟩
abbrev CIP_KPOL_USERS : Field := ⟨0x40007010, 0, 13⟩
abbrev CIP_KEYW_KEY (i : Nat) : Field := ⟨0x40007014 + 4 * i, 0, 32⟩
abbrev CIP_COMMIT_STATUS : Field := ⟨0x40007034, 8, 8⟩
abbrev CIP_COMMIT_BUSY : Field := ⟨0x40007034, 1, 1⟩
abbrev CIP_COMMIT_GO : Field := ⟨0x40007034, 0, 1⟩
abbrev CIP_KCMD_OP : Field := ⟨0x40007038, 28, 4⟩
abbrev CIP_KCMD_SLOT : Field := ⟨0x40007038, 0, 4⟩
abbrev CIP_KIDX_SLOT : Field := ⟨0x4000703C, 0, 4⟩
abbrev CIP_KINFO_KCV : Field := ⟨0x40007040, 16, 16⟩
abbrev CIP_KINFO_STATE : Field := ⟨0x40007040, 14, 2⟩
abbrev CIP_KINFO_KLEN : Field := ⟨0x40007040, 12, 2⟩
abbrev CIP_KIPOL_POLICY : Field := ⟨0x40007044, 0, 32⟩
abbrev CIP_KSTAT_LOCKED : Field := ⟨0x40007048, 16, 16⟩
abbrev CIP_KSTAT_LOADED : Field := ⟨0x40007048, 0, 16⟩
abbrev CIP_RNG_DATA : Field := ⟨0x4000704C, 0, 32⟩
abbrev CIP_RNGSTAT_RESTART : Field := ⟨0x40007050, 31, 1⟩
abbrev CIP_RNGSTAT_UNDERRUN : Field := ⟨0x40007050, 8, 8⟩
abbrev CIP_RNGSTAT_AVAIL : Field := ⟨0x40007050, 0, 5⟩
abbrev CIP_CNT0_DCMISM : Field := ⟨0x40007054, 16, 16⟩
abbrev CIP_CNT0_AUTHFAIL : Field := ⟨0x40007054, 0, 16⟩
abbrev CIP_CNT1_SEALLATE : Field := ⟨0x40007058, 16, 16⟩
abbrev CIP_CNT1_ACCLATE : Field := ⟨0x40007058, 0, 16⟩
abbrev CIP_LASTERR_STATUS : Field := ⟨0x4000705C, 24, 8⟩
abbrev CIP_LASTERR_OWNER : Field := ⟨0x4000705C, 20, 4⟩
abbrev CIP_LASTERR_COUNT : Field := ⟨0x4000705C, 8, 8⟩
abbrev CIP_LASTERR_SLOT : Field := ⟨0x4000705C, 0, 4⟩
abbrev CIP_RES_OP (i : Nat) : Field := ⟨0x40007080 + 4 * i, 28, 4⟩
abbrev CIP_RES_AUTH (i : Nat) : Field := ⟨0x40007080 + 4 * i, 8, 1⟩
abbrev CIP_RES_STATUS (i : Nat) : Field := ⟨0x40007080 + 4 * i, 0, 8⟩
abbrev RFC_CTRL_G24EN : Field := ⟨0x40008000, 1, 1⟩
abbrev RFC_CTRL_SGEN : Field := ⟨0x40008000, 0, 1⟩
abbrev RFC_STAT_G24LOCK : Field := ⟨0x40008004, 9, 1⟩
abbrev RFC_STAT_SGLOCK : Field := ⟨0x40008004, 8, 1⟩
abbrev RFC_STAT_G24STATE : Field := ⟨0x40008004, 4, 3⟩
abbrev RFC_STAT_SGSTATE : Field := ⟨0x40008004, 0, 3⟩
abbrev RFC_TEMP_TEMP : Field := ⟨0x40008008, 0, 12⟩
abbrev RFC_CALCFG_AUTOCAL : Field := ⟨0x4000800C, 8, 1⟩
abbrev RFC_CALCFG_DTEMP : Field := ⟨0x4000800C, 0, 8⟩
abbrev RFC_CALDEF_BAND : Field := ⟨0x40008010, 8, 1⟩
abbrev RFC_CALDEF_ENTRY : Field := ⟨0x40008010, 0, 7⟩
abbrev RFC_CALFREQ_FREQ : Field := ⟨0x40008014, 0, 28⟩
abbrev RFC_CALCMD_ENTRY : Field := ⟨0x40008018, 16, 7⟩
abbrev RFC_CALCMD_BAND : Field := ⟨0x40008018, 8, 1⟩
abbrev RFC_CALCMD_OP : Field := ⟨0x40008018, 0, 2⟩
abbrev RFC_CALSTAT_FAILS : Field := ⟨0x4000801C, 24, 8⟩
abbrev RFC_CALSTAT_ABORTS : Field := ⟨0x4000801C, 16, 8⟩
abbrev RFC_CALSTAT_STATUS : Field := ⟨0x4000801C, 8, 8⟩
abbrev RFC_CALSTAT_BUSY : Field := ⟨0x4000801C, 0, 1⟩
abbrev RFC_CALIDX_BAND : Field := ⟨0x40008020, 8, 1⟩
abbrev RFC_CALIDX_ENTRY : Field := ⟨0x40008020, 0, 7⟩
abbrev RFC_CALENT_STATE : Field := ⟨0x40008024, 28, 2⟩
abbrev RFC_CALENT_FREQ : Field := ⟨0x40008024, 0, 28⟩
abbrev RFC_CALTMP_TCAL : Field := ⟨0x40008028, 0, 8⟩
abbrev RFC_FOIDX_INDEX : Field := ⟨0x4000802C, 0, 8⟩
abbrev RFC_FODATA_ANT24 : Field := ⟨0x40008030, 19, 1⟩
abbrev RFC_FODATA_ANTSG : Field := ⟨0x40008030, 18, 1⟩
abbrev RFC_FODATA_SET : Field := ⟨0x40008030, 17, 1⟩
abbrev RFC_FODATA_CORR : Field := ⟨0x40008030, 16, 1⟩
abbrev RFC_FODATA_OFS : Field := ⟨0x40008030, 0, 16⟩
abbrev RFC_FOCFG_REJECTS : Field := ⟨0x40008034, 16, 16⟩
abbrev RFC_FOCFG_LIMIT : Field := ⟨0x40008034, 8, 8⟩
abbrev RFC_FOCFG_AVG : Field := ⟨0x40008034, 0, 3⟩
abbrev RFC_COMMIT_STATUS : Field := ⟨0x40008038, 8, 8⟩
abbrev RFC_COMMIT_BUSY : Field := ⟨0x40008038, 1, 1⟩
abbrev RFC_COMMIT_GO : Field := ⟨0x40008038, 0, 1⟩
abbrev RFC_RXWIN_ENTRY (b : Band) : Field := ⟨0x40008100 + 0x80 * b.idx, 0, 7⟩
abbrev RFC_DIV_BIAS (b : Band) : Field := ⟨0x40008104 + 0x80 * b.idx, 4, 4⟩
abbrev RFC_DIV_MODE (b : Band) : Field := ⟨0x40008104 + 0x80 * b.idx, 0, 2⟩
abbrev RFC_PA_TXANT (b : Band) : Field := ⟨0x40008108 + 0x80 * b.idx, 4, 2⟩
abbrev RFC_PA_RAMP (b : Band) : Field := ⟨0x40008108 + 0x80 * b.idx, 0, 2⟩
abbrev RFC_PASTAT_CLAMPS (b : Band) : Field := ⟨0x4000810C + 0x80 * b.idx, 16, 16⟩
abbrev RFC_PASTAT_PMAX (b : Band) : Field := ⟨0x4000810C + 0x80 * b.idx, 0, 8⟩
abbrev RFC_CNT_LOCKFAIL (b : Band) : Field := ⟨0x40008110 + 0x80 * b.idx, 0, 16⟩
abbrev RFC_RSSI_GAINB (b : Band) : Field := ⟨0x40008114 + 0x80 * b.idx, 28, 4⟩
abbrev RFC_RSSI_GAINA (b : Band) : Field := ⟨0x40008114 + 0x80 * b.idx, 24, 4⟩
abbrev RFC_RSSI_RSSIB (b : Band) : Field := ⟨0x40008114 + 0x80 * b.idx, 8, 8⟩
abbrev RFC_RSSI_RSSIA (b : Band) : Field := ⟨0x40008114 + 0x80 * b.idx, 0, 8⟩
abbrev MDM_STAT_G24ACT : Field := ⟨0x40009000, 8, 8⟩
abbrev MDM_STAT_SGACT : Field := ⟨0x40009000, 0, 8⟩
abbrev MDM_SBUF_BASE_BASE : Field := ⟨0x40009004, 9, 23⟩
abbrev MDM_SBUF_SIZE_SIZE : Field := ⟨0x40009008, 0, 12⟩
abbrev MDM_SBUF_WR_WR : Field := ⟨0x4000900C, 0, 11⟩
abbrev MDM_SBUF_RD0_EN : Field := ⟨0x40009010, 31, 1⟩
abbrev MDM_SBUF_RD0_RD : Field := ⟨0x40009010, 0, 11⟩
abbrev MDM_SBUF_RD1_EN : Field := ⟨0x40009014, 31, 1⟩
abbrev MDM_SBUF_RD1_RD : Field := ⟨0x40009014, 0, 11⟩
abbrev MDM_SBUF_DROP_DROP : Field := ⟨0x40009018, 0, 16⟩
abbrev MDM_MAPBASE_BASE : Field := ⟨0x4000901C, 17, 15⟩
abbrev MDM_SLTHR0_THR4 : Field := ⟨0x40009020, 24, 8⟩
abbrev MDM_SLTHR0_THR3 : Field := ⟨0x40009020, 16, 8⟩
abbrev MDM_SLTHR0_THR2 : Field := ⟨0x40009020, 8, 8⟩
abbrev MDM_SLTHR0_THR1 : Field := ⟨0x40009020, 0, 8⟩
abbrev MDM_SLTHR1_MARGIN : Field := ⟨0x40009024, 16, 8⟩
abbrev MDM_SLTHR1_THR6 : Field := ⟨0x40009024, 8, 8⟩
abbrev MDM_SLTHR1_THR5 : Field := ⟨0x40009024, 0, 8⟩
abbrev MDM_SLHOLD_LAVG : Field := ⟨0x40009028, 16, 3⟩
abbrev MDM_SLHOLD_HOLD : Field := ⟨0x40009028, 0, 16⟩
abbrev MDM_DFE_MU : Field := ⟨0x4000902C, 4, 4⟩
abbrev MDM_DFE_G24EN : Field := ⟨0x4000902C, 1, 1⟩
abbrev MDM_DFE_SGEN : Field := ⟨0x4000902C, 0, 1⟩
abbrev MDM_MAPERR_MAPMISS : Field := ⟨0x40009030, 16, 16⟩
abbrev MDM_MAPERR_MAPERR : Field := ⟨0x40009030, 0, 16⟩
abbrev MDM_COMMIT_STATUS : Field := ⟨0x40009034, 8, 8⟩
abbrev MDM_COMMIT_BUSY : Field := ⟨0x40009034, 1, 1⟩
abbrev MDM_COMMIT_GO : Field := ⟨0x40009034, 0, 1⟩
abbrev MDM_CH_CFG_STATE (b : Band) (i : Nat) : Field := ⟨0x40009100 + 0x80 * b.idx + 16 * i, 28, 3⟩
abbrev MDM_CH_CFG_THR (b : Band) (i : Nat) : Field := ⟨0x40009100 + 0x80 * b.idx + 16 * i, 16, 8⟩
abbrev MDM_CH_CFG_PARAM (b : Band) (i : Nat) : Field := ⟨0x40009100 + 0x80 * b.idx + 16 * i, 8, 8⟩
abbrev MDM_CH_CFG_MODE (b : Band) (i : Nat) : Field := ⟨0x40009100 + 0x80 * b.idx + 16 * i, 1, 2⟩
abbrev MDM_CH_CFG_EN (b : Band) (i : Nat) : Field := ⟨0x40009100 + 0x80 * b.idx + 16 * i, 0, 1⟩
abbrev MDM_CH_FREQ_OFFSET (b : Band) (i : Nat) : Field := ⟨0x40009104 + 0x80 * b.idx + 16 * i, 0, 21⟩
abbrev MDM_CH_CNT_DONE (b : Band) (i : Nat) : Field := ⟨0x40009108 + 0x80 * b.idx + 16 * i, 16, 16⟩
abbrev MDM_CH_CNT_DET (b : Band) (i : Nat) : Field := ⟨0x40009108 + 0x80 * b.idx + 16 * i, 0, 16⟩
abbrev MDM_CH_ERR_ABORT (b : Band) (i : Nat) : Field := ⟨0x4000910C + 0x80 * b.idx + 16 * i, 16, 8⟩
abbrev MDM_CH_ERR_FECERR (b : Band) (i : Nat) : Field := ⟨0x4000910C + 0x80 * b.idx + 16 * i, 8, 8⟩
abbrev MDM_CH_ERR_HDRERR (b : Band) (i : Nat) : Field := ⟨0x4000910C + 0x80 * b.idx + 16 * i, 0, 8⟩
abbrev MAC_CFG_OPEN : Field := ⟨0x4000A000, 4, 1⟩
abbrev MAC_CFG_G24EN : Field := ⟨0x4000A000, 1, 1⟩
abbrev MAC_CFG_SGEN : Field := ⟨0x4000A000, 0, 1⟩
abbrev MAC_ADDR_MESHID : Field := ⟨0x4000A004, 16, 16⟩
abbrev MAC_ADDR_SHORT : Field := ⟨0x4000A004, 0, 16⟩
abbrev MAC_TXCTR_CTR : Field := ⟨0x4000A008, 0, 32⟩
abbrev MAC_ACKCFG_ACKWAIT : Field := ⟨0x4000A00C, 0, 8⟩
abbrev MAC_RXBASE_BASE : Field := ⟨0x4000A010, 6, 26⟩
abbrev MAC_RXCFG_SLOTSZ : Field := ⟨0x4000A014, 16, 2⟩
abbrev MAC_RXCFG_COUNT : Field := ⟨0x4000A014, 0, 12⟩
abbrev MAC_RXWR_WR : Field := ⟨0x4000A018, 0, 12⟩
abbrev MAC_RXRD_RD : Field := ⟨0x4000A01C, 0, 12⟩
abbrev MAC_NBIDX_INDEX : Field := ⟨0x4000A020, 0, 8⟩
abbrev MAC_NBEUI_LO_EUI : Field := ⟨0x4000A024, 0, 32⟩
abbrev MAC_NBEUI_HI_EUI : Field := ⟨0x4000A028, 0, 32⟩
abbrev MAC_NBCFG_VALID : Field := ⟨0x4000A02C, 31, 1⟩
abbrev MAC_NBCFG_PARENT : Field := ⟨0x4000A02C, 30, 1⟩
abbrev MAC_NBCFG_CLASS : Field := ⟨0x4000A02C, 28, 2⟩
abbrev MAC_NBCFG_KEY1 : Field := ⟨0x4000A02C, 24, 4⟩
abbrev MAC_NBCFG_KEY0 : Field := ⟨0x4000A02C, 20, 4⟩
abbrev MAC_NBCFG_SHORT : Field := ⟨0x4000A02C, 0, 16⟩
abbrev MAC_NBPWR_ACKPWR : Field := ⟨0x4000A030, 0, 8⟩
abbrev MAC_NBSTAT_DUPS : Field := ⟨0x4000A034, 16, 16⟩
abbrev MAC_NBSTAT_MISSED : Field := ⟨0x4000A034, 8, 8⟩
abbrev MAC_NBSTAT_STATE : Field := ⟨0x4000A034, 0, 2⟩
abbrev MAC_NBLAST_CYCLE : Field := ⟨0x4000A038, 0, 32⟩
abbrev MAC_NBERR_PHASE : Field := ⟨0x4000A03C, 16, 16⟩
abbrev MAC_NBERR_ERR : Field := ⟨0x4000A03C, 0, 16⟩
abbrev MAC_CNT0_REPLAY : Field := ⟨0x4000A040, 16, 16⟩
abbrev MAC_CNT0_FMTERR : Field := ⟨0x4000A040, 0, 16⟩
abbrev MAC_CNT1_OVERSIZE : Field := ⟨0x4000A044, 16, 16⟩
abbrev MAC_CNT1_ADDRFLT : Field := ⟨0x4000A044, 0, 16⟩
abbrev MAC_CNT2_RESTARTS : Field := ⟨0x4000A048, 16, 16⟩
abbrev MAC_CNT2_SYNCRANGE : Field := ⟨0x4000A048, 0, 16⟩
abbrev MAC_HOP_EN : Field := ⟨0x4000A050, 31, 1⟩
abbrev MAC_HOP_HOPOFS : Field := ⟨0x4000A050, 0, 6⟩
abbrev MAC_HOPMASK0_MASK : Field := ⟨0x4000A054, 0, 32⟩
abbrev MAC_HOPMASK1_MASK : Field := ⟨0x4000A058, 0, 32⟩
abbrev MAC_DAA_EN : Field := ⟨0x4000A05C, 31, 1⟩
abbrev MAC_DAA_THR : Field := ⟨0x4000A05C, 0, 8⟩
abbrev MAC_DCCFG_PRELOAD : Field := ⟨0x4000A060, 0, 7⟩
abbrev MAC_COMMIT_STATUS : Field := ⟨0x4000A064, 8, 8⟩
abbrev MAC_COMMIT_BUSY : Field := ⟨0x4000A064, 1, 1⟩
abbrev MAC_COMMIT_GO : Field := ⟨0x4000A064, 0, 1⟩
abbrev MAC_FAMILY_NATIVE (b : Band) : Field := ⟨0x4000A100 + 0x80 * b.idx, 0, 8⟩
abbrev MAC_ACKENT (b : Band) (c : Nat) : Field := ⟨0x4000A104 + 0x80 * b.idx + 4 * (c / 4), 8 * (c % 4), 7⟩
abbrev MAC_DCRES_RESERVE (b : Band) : Field := ⟨0x4000A10C + 0x80 * b.idx, 0, 20⟩
abbrev MAC_CNT0_ACKMISS (b : Band) : Field := ⟨0x4000A110 + 0x80 * b.idx, 16, 16⟩
abbrev MAC_CNT0_BLANKED (b : Band) : Field := ⟨0x4000A110 + 0x80 * b.idx, 0, 16⟩
abbrev MAC_CNT1_DAABUSY (b : Band) : Field := ⟨0x4000A114 + 0x80 * b.idx, 16, 16⟩
abbrev MAC_CNT1_ACKSUPP (b : Band) : Field := ⟨0x4000A114 + 0x80 * b.idx, 0, 16⟩
abbrev MAC_CNT2_DUTYREF (b : Band) : Field := ⟨0x4000A118 + 0x80 * b.idx, 16, 16⟩
abbrev MAC_CNT2_ACKCOLL (b : Band) : Field := ⟨0x4000A118 + 0x80 * b.idx, 0, 16⟩
abbrev MAC_DCSUB_HI (b : Band) (i : Nat) : Field := ⟨0x4000A120 + 0x80 * b.idx + 8 * i, 16, 16⟩
abbrev MAC_DCSUB_LO (b : Band) (i : Nat) : Field := ⟨0x4000A120 + 0x80 * b.idx + 8 * i, 0, 16⟩
abbrev MAC_DCLIM_EN (b : Band) (i : Nat) : Field := ⟨0x4000A124 + 0x80 * b.idx + 8 * i, 31, 1⟩
abbrev MAC_DCLIM_LIMIT (b : Band) (i : Nat) : Field := ⟨0x4000A124 + 0x80 * b.idx + 8 * i, 0, 20⟩
abbrev MAC_DCSUM_SUM (b : Band) (i : Nat) : Field := ⟨0x4000A160 + 0x80 * b.idx + 4 * i, 0, 28⟩
abbrev SHP_CFG_G24EN : Field := ⟨0x4000B000, 1, 1⟩
abbrev SHP_CFG_SGEN : Field := ⟨0x4000B000, 0, 1⟩
abbrev SHP_STAT_G24PEND : Field := ⟨0x4000B004, 3, 1⟩
abbrev SHP_STAT_SGPEND : Field := ⟨0x4000B004, 2, 1⟩
abbrev SHP_STAT_G24WALK : Field := ⟨0x4000B004, 1, 1⟩
abbrev SHP_STAT_SGWALK : Field := ⟨0x4000B004, 0, 1⟩
abbrev SHP_COMMIT_STATUS : Field := ⟨0x4000B008, 8, 8⟩
abbrev SHP_COMMIT_BUSY : Field := ⟨0x4000B008, 1, 1⟩
abbrev SHP_COMMIT_GO : Field := ⟨0x4000B008, 0, 1⟩
abbrev SHP_ENQRES_CLAIMS (i : Nat) : Field := ⟨0x4000B040 + 4 * i, 16, 8⟩
abbrev SHP_ENQRES_BAND (i : Nat) : Field := ⟨0x4000B040 + 4 * i, 11, 1⟩
abbrev SHP_ENQRES_QUEUE (i : Nat) : Field := ⟨0x4000B040 + 4 * i, 8, 3⟩
abbrev SHP_ENQRES_STATUS (i : Nat) : Field := ⟨0x4000B040 + 4 * i, 0, 8⟩
abbrev SHP_CHCFG_CYCLES (b : Band) : Field := ⟨0x4000B080 + 0x40 * b.idx, 16, 7⟩
abbrev SHP_CHCFG_LEN (b : Band) : Field := ⟨0x4000B080 + 0x40 * b.idx, 0, 9⟩
abbrev SHP_CHPOS_CYCIDX (b : Band) : Field := ⟨0x4000B084 + 0x40 * b.idx, 24, 6⟩
abbrev SHP_CHPOS_ENTRY (b : Band) : Field := ⟨0x4000B084 + 0x40 * b.idx, 0, 8⟩
abbrev SHP_LEAD_LEAD (b : Band) : Field := ⟨0x4000B088 + 0x40 * b.idx, 0, 10⟩
abbrev SHP_CNT_MISSDL (b : Band) : Field := ⟨0x4000B08C + 0x40 * b.idx, 16, 16⟩
abbrev SHP_CNT_NOTADM (b : Band) : Field := ⟨0x4000B08C + 0x40 * b.idx, 0, 16⟩
abbrev SHP_ENQ_ENQ (b : Band) (i : Nat) : Field := ⟨0x4000B090 + 0x40 * b.idx + 4 * i, 0, 32⟩
abbrev SHP_QDEPTH (b : Band) (q : Nat) : Field := ⟨0x4000B0B0 + 0x40 * b.idx + 4 * (q / 4), 8 * (q % 4), 8⟩
abbrev SHP_QCOUNT (b : Band) (q : Nat) : Field := ⟨0x4000B0B8 + 0x40 * b.idx + 4 * (q / 4), 8 * (q % 4), 8⟩
abbrev SHP_POL_CFG_EN (i : Nat) : Field := ⟨0x4000B100 + 16 * i, 31, 1⟩
abbrev SHP_POL_CFG_RATE (i : Nat) : Field := ⟨0x4000B100 + 16 * i, 0, 16⟩
abbrev SHP_POL_BURST_BURST (i : Nat) : Field := ⟨0x4000B104 + 16 * i, 0, 24⟩
abbrev SHP_POL_TOK_TOKENS (i : Nat) : Field := ⟨0x4000B108 + 16 * i, 0, 24⟩
abbrev SHP_POL_DROP_DROPS (i : Nat) : Field := ⟨0x4000B10C + 16 * i, 0, 16⟩
abbrev SHP_CHE_WIN (b : Band) (i : Nat) : Field := ⟨0x4000B500 + 0x400 * b.idx + 4 * i, 31, 1⟩
abbrev SHP_CHE_ARES (b : Band) (i : Nat) : Field := ⟨0x4000B500 + 0x400 * b.idx + 4 * i, 30, 1⟩
abbrev SHP_CHE_RXOFF (b : Band) (i : Nat) : Field := ⟨0x4000B500 + 0x400 * b.idx + 4 * i, 29, 1⟩
abbrev SHP_CHE_WINIDX (b : Band) (i : Nat) : Field := ⟨0x4000B500 + 0x400 * b.idx + 4 * i, 24, 5⟩
abbrev SHP_CHE_GATE (b : Band) (i : Nat) : Field := ⟨0x4000B500 + 0x400 * b.idx + 4 * i, 16, 8⟩
abbrev SHP_CHE_DUR (b : Band) (i : Nat) : Field := ⟨0x4000B500 + 0x400 * b.idx + 4 * i, 0, 16⟩
abbrev SHP_WIN_A_ACK (b : Band) (i : Nat) : Field := ⟨0x4000BD00 + 0x100 * b.idx + 8 * i, 31, 1⟩
abbrev SHP_WIN_A_CONTACT (b : Band) (i : Nat) : Field := ⟨0x4000BD00 + 0x100 * b.idx + 8 * i, 30, 1⟩
abbrev SHP_WIN_A_SLOT (b : Band) (i : Nat) : Field := ⟨0x4000BD00 + 0x100 * b.idx + 8 * i, 24, 3⟩
abbrev SHP_WIN_A_EXPOFS (b : Band) (i : Nat) : Field := ⟨0x4000BD00 + 0x100 * b.idx + 8 * i, 0, 16⟩
abbrev SHP_WIN_B_NB (b : Band) (i : Nat) : Field := ⟨0x4000BD04 + 0x100 * b.idx + 8 * i, 0, 8⟩
abbrev SHP_PROF_A_ACKT (b : Band) (i : Nat) : Field := ⟨0x4000BF00 + 0x40 * b.idx + 8 * i, 16, 16⟩
abbrev SHP_PROF_A_OVH (b : Band) (i : Nat) : Field := ⟨0x4000BF00 + 0x40 * b.idx + 8 * i, 0, 16⟩
abbrev SHP_PROF_B_PERBYTE (b : Band) (i : Nat) : Field := ⟨0x4000BF04 + 0x40 * b.idx + 8 * i, 0, 16⟩
abbrev MER_CFG_AUTOSYNTH : Field := ⟨0x4000C000, 6, 1⟩
abbrev MER_CFG_ZCFILT : Field := ⟨0x4000C000, 4, 2⟩
abbrev MER_CFG_ZCEDGE : Field := ⟨0x4000C000, 3, 1⟩
abbrev MER_CFG_NOMFREQ : Field := ⟨0x4000C000, 2, 1⟩
abbrev MER_CFG_SOURCE : Field := ⟨0x4000C000, 0, 2⟩
abbrev MER_STAT_MISSED : Field := ⟨0x4000C004, 8, 8⟩
abbrev MER_STAT_ZCVALID : Field := ⟨0x4000C004, 4, 1⟩
abbrev MER_STAT_STATE : Field := ⟨0x4000C004, 0, 3⟩
abbrev MER_PHASE_SLOT : Field := ⟨0x4000C008, 16, 3⟩
abbrev MER_PHASE_PHASE : Field := ⟨0x4000C008, 0, 16⟩
abbrev MER_CYCLE_CYCLE : Field := ⟨0x4000C00C, 0, 32⟩
abbrev MER_TSTAMP_LO_TSLO : Field := ⟨0x4000C010, 0, 32⟩
abbrev MER_TSTAMP_HI_TSHI : Field := ⟨0x4000C014, 0, 32⟩
abbrev MER_PERIOD_PERIOD : Field := ⟨0x4000C018, 0, 32⟩
abbrev MER_INC_INC : Field := ⟨0x4000C01C, 0, 32⟩
abbrev MER_ZCDLY_ZCDLY : Field := ⟨0x4000C020, 0, 16⟩
abbrev MER_ZCERR_ZCERR : Field := ⟨0x4000C024, 0, 16⟩
abbrev MER_DRIFTPPM_DRIFT : Field := ⟨0x4000C028, 0, 8⟩
abbrev MER_SLEW_SLEW : Field := ⟨0x4000C02C, 0, 10⟩
abbrev MER_PULL_PULL : Field := ⟨0x4000C030, 0, 11⟩
abbrev MER_GUARD (c : Nat) : Field := ⟨0x4000C034 + 4 * c, 0, 10⟩
abbrev MER_HOLDCYC_HOLDCYC : Field := ⟨0x4000C044, 0, 16⟩
abbrev MER_SYNCERR_COUNT : Field := ⟨0x4000C048, 16, 16⟩
abbrev MER_SYNCERR_ERR : Field := ⟨0x4000C048, 0, 16⟩
abbrev MER_LFRATIO_RATIO : Field := ⟨0x4000C04C, 0, 32⟩
abbrev MER_COMMIT_STATUS : Field := ⟨0x4000C050, 8, 8⟩
abbrev MER_COMMIT_BUSY : Field := ⟨0x4000C050, 1, 1⟩
abbrev MER_COMMIT_GO : Field := ⟨0x4000C050, 0, 1⟩
abbrev HIF_CFG_GAP : Field := ⟨0x4000D000, 8, 8⟩
abbrev HIF_CFG_IRQPOL : Field := ⟨0x4000D000, 0, 1⟩
abbrev HIF_STAT_LONG : Field := ⟨0x4000D004, 7, 1⟩
abbrev HIF_STAT_EXEC : Field := ⟨0x4000D004, 6, 1⟩
abbrev HIF_STAT_REPWAIT : Field := ⟨0x4000D004, 5, 1⟩
abbrev HIF_STAT_RXPKT : Field := ⟨0x4000D004, 4, 1⟩
abbrev HIF_STAT_READY : Field := ⟨0x4000D004, 3, 1⟩
abbrev HIF_STAT_IF : Field := ⟨0x4000D004, 0, 2⟩
abbrev HIF_EXPERT_UNLOCK : Field := ⟨0x4000D008, 31, 1⟩
abbrev HIF_EXPERT_KEYSET : Field := ⟨0x4000D008, 30, 1⟩
abbrev HIF_EXPERT_FAILS : Field := ⟨0x4000D008, 16, 8⟩
abbrev HIF_EXPERT_TMO : Field := ⟨0x4000D008, 0, 16⟩
abbrev HIF_UARTDIV_DIV : Field := ⟨0x4000D00C, 0, 16⟩
abbrev HIF_DPBASE_BASE : Field := ⟨0x4000D010, 16, 16⟩
abbrev HIF_DPPTR_DBENG : Field := ⟨0x4000D014, 24, 4⟩
abbrev HIF_DPPTR_DBBIT : Field := ⟨0x4000D014, 16, 3⟩
abbrev HIF_DPPTR_PTR : Field := ⟨0x4000D014, 0, 16⟩
abbrev HIF_EVPEND_LOCKED : Field := ⟨0x4000D018, 4, 1⟩
abbrev HIF_EVPEND_FAULT : Field := ⟨0x4000D018, 3, 1⟩
abbrev HIF_EVPEND_LONGDONE : Field := ⟨0x4000D018, 2, 1⟩
abbrev HIF_EVPEND_FABRIC : Field := ⟨0x4000D018, 1, 1⟩
abbrev HIF_EVPEND_READY : Field := ⟨0x4000D018, 0, 1⟩
abbrev HIF_EVEN_EN : Field := ⟨0x4000D01C, 0, 5⟩
abbrev HIF_BUFBASE_BASE : Field := ⟨0x4000D020, 12, 20⟩
abbrev HIF_REQINFO_LEN : Field := ⟨0x4000D024, 16, 16⟩
abbrev HIF_REQINFO_SEQ : Field := ⟨0x4000D024, 8, 8⟩
abbrev HIF_REQINFO_OPCODE : Field := ⟨0x4000D024, 0, 8⟩
abbrev HIF_REPLY_GO : Field := ⟨0x4000D028, 31, 1⟩
abbrev HIF_REPLY_LEN : Field := ⟨0x4000D028, 16, 11⟩
abbrev HIF_REPLY_STATUS : Field := ⟨0x4000D028, 0, 8⟩
abbrev HIF_CNT0_LENERR : Field := ⟨0x4000D02C, 16, 16⟩
abbrev HIF_CNT0_CRCERR : Field := ⟨0x4000D02C, 0, 16⟩
abbrev HIF_CNT1_REPEAT : Field := ⟨0x4000D030, 16, 16⟩
abbrev HIF_CNT1_GAPERR : Field := ⟨0x4000D030, 0, 16⟩
abbrev HIF_CNT2_DROPREP : Field := ⟨0x4000D034, 16, 16⟩
abbrev HIF_CNT2_BUSYREP : Field := ⟨0x4000D034, 0, 16⟩
abbrev HIF_EREQ_DESC : Field := ⟨0x4000D038, 2, 19⟩
abbrev HIF_ERES_DONE (i : Nat) : Field := ⟨0x4000D040 + 4 * i, 16, 1⟩
abbrev HIF_ERES_OPCODE (i : Nat) : Field := ⟨0x4000D040 + 4 * i, 8, 8⟩
abbrev HIF_ERES_STATUS (i : Nat) : Field := ⟨0x4000D040 + 4 * i, 0, 8⟩
abbrev FLT_STAT_OVERWR : Field := ⟨0x4000E000, 24, 8⟩
abbrev FLT_STAT_BUSY : Field := ⟨0x4000E000, 19, 1⟩
abbrev FLT_STAT_ATIER : Field := ⟨0x4000E000, 16, 3⟩
abbrev FLT_STAT_AREG : Field := ⟨0x4000E000, 12, 4⟩
abbrev FLT_STAT_NEWEST : Field := ⟨0x4000E000, 8, 4⟩
abbrev FLT_STAT_QUEUED : Field := ⟨0x4000E000, 0, 5⟩
abbrev FLT_CFG_WIN : Field := ⟨0x4000E004, 16, 16⟩
abbrev FLT_CFG_RTMO : Field := ⟨0x4000E004, 0, 16⟩
abbrev FLT_LOGIDX_INDEX : Field := ⟨0x4000E008, 0, 4⟩
abbrev FLT_LOG0_STATUS : Field := ⟨0x4000E00C, 24, 8⟩
abbrev FLT_LOG0_CODE : Field := ⟨0x4000E00C, 16, 8⟩
abbrev FLT_LOG0_REGION : Field := ⟨0x4000E00C, 12, 4⟩
abbrev FLT_LOG0_CONSEQ : Field := ⟨0x4000E00C, 11, 1⟩
abbrev FLT_LOG0_STATE : Field := ⟨0x4000E00C, 8, 3⟩
abbrev FLT_LOG0_TIER : Field := ⟨0x4000E00C, 4, 2⟩
abbrev FLT_LOG0_OWNER : Field := ⟨0x4000E00C, 0, 4⟩
abbrev FLT_LOG1_ADDR : Field := ⟨0x4000E010, 0, 32⟩
abbrev FLT_LOG2_CYCLE : Field := ⟨0x4000E014, 0, 32⟩
abbrev FLT_TIER (r : Nat) : Field := ⟨0x4000E018, 2 * r, 2⟩
abbrev FLT_CNT_COLD : Field := ⟨0x4000E01C, 24, 8⟩
abbrev FLT_CNT_WARM : Field := ⟨0x4000E01C, 16, 8⟩
abbrev FLT_CNT_BLOCK : Field := ⟨0x4000E01C, 8, 8⟩
abbrev FLT_CNT_RETRY : Field := ⟨0x4000E01C, 0, 8⟩
abbrev FLT_ACTDONE_REGION : Field := ⟨0x4000E020, 0, 4⟩
abbrev FLT_REPORT_TIER : Field := ⟨0x4000E024, 30, 2⟩
abbrev FLT_REPORT_REGION : Field := ⟨0x4000E024, 24, 4⟩
abbrev FLT_REPORT_DATA : Field := ⟨0x4000E024, 0, 24⟩
abbrev FLT_WDG_EN (i : Nat) : Field := ⟨0x4000E040 + 4 * i, 31, 1⟩
abbrev FLT_WDG_PERIOD (i : Nat) : Field := ⟨0x4000E040 + 4 * i, 0, 16⟩
abbrev TST_CTRL_STOP : Field := ⟨0x4000F000, 1, 1⟩
abbrev TST_CTRL_START : Field := ⟨0x4000F000, 0, 1⟩
abbrev TST_CFG_LINK : Field := ⟨0x4000F004, 5, 3⟩
abbrev TST_CFG_BAND : Field := ⟨0x4000F004, 4, 1⟩
abbrev TST_CFG_PAT : Field := ⟨0x4000F004, 0, 2⟩
abbrev TST_ARG_PERIOD : Field := ⟨0x4000F008, 16, 16⟩
abbrev TST_ARG_TASK : Field := ⟨0x4000F008, 8, 7⟩
abbrev TST_ARG_CH : Field := ⟨0x4000F008, 0, 6⟩
abbrev TST_LEN_LEN : Field := ⟨0x4000F00C, 0, 11⟩
abbrev TST_FIXED_WORD : Field := ⟨0x4000F010, 0, 32⟩
abbrev TST_COUNT_COUNT : Field := ⟨0x4000F014, 0, 32⟩
abbrev TST_ERRMAX_MAX : Field := ⟨0x4000F018, 0, 32⟩
abbrev TST_STAT_STATUS : Field := ⟨0x4000F01C, 8, 8⟩
abbrev TST_STAT_TESTEN : Field := ⟨0x4000F01C, 4, 1⟩
abbrev TST_STAT_RESULT : Field := ⟨0x4000F01C, 2, 2⟩
abbrev TST_STAT_RUN : Field := ⟨0x4000F01C, 0, 1⟩
abbrev TST_UNITS_UNITS : Field := ⟨0x4000F020, 0, 32⟩
abbrev TST_ERRS_ERRS : Field := ⟨0x4000F024, 0, 32⟩
abbrev TST_LOST_LATMAX : Field := ⟨0x4000F028, 16, 16⟩
abbrev TST_LOST_LOST : Field := ⟨0x4000F028, 0, 16⟩
abbrev TST_RXQ_MINB : Field := ⟨0x4000F02C, 8, 8⟩
abbrev TST_RXQ_MINA : Field := ⟨0x4000F02C, 0, 8⟩
abbrev ENG_ISAVER_VER : Field := ⟨0x40010000, 0, 16⟩
abbrev ENG_STATE (e : Nat) : Field := ⟨0x40010004 + 4 * (e / 8), 4 * (e % 8), 4⟩
abbrev ENG_LSCFG_MMVEC : Field := ⟨0x4001000C, 8, 5⟩
abbrev ENG_LSCFG_PAIRED : Field := ⟨0x4001000C, 0, 5⟩
abbrev ENG_CMD_OP : Field := ⟨0x40010010, 28, 4⟩
abbrev ENG_CMD_TARGET : Field := ⟨0x40010010, 24, 4⟩
abbrev ENG_CMD_ARG : Field := ⟨0x40010010, 23, 1⟩
abbrev ENG_CMD_DESC : Field := ⟨0x40010010, 2, 19⟩
abbrev ENG_CMDRES_TARGET (i : Nat) : Field := ⟨0x40010040 + 4 * i, 8, 4⟩
abbrev ENG_CMDRES_STATUS (i : Nat) : Field := ⟨0x40010040 + 4 * i, 0, 8⟩
abbrev ENG_DBELL_RING (i : Nat) : Field := ⟨0x40010080 + 4 * i, 0, 8⟩
abbrev ENG_LSCNT_STOPS (i : Nat) : Field := ⟨0x400100C0 + 4 * i, 16, 16⟩
abbrev ENG_LSCNT_MISMATCH (i : Nat) : Field := ⟨0x400100C0 + 4 * i, 0, 16⟩
abbrev ENG_CAUSE_SELF_VEC : Field := ⟨0x40010100, 4, 4⟩
abbrev ENG_CAUSE_SELF_CODE : Field := ⟨0x40010100, 0, 4⟩
abbrev ENG_FADDR_SELF_ADDR : Field := ⟨0x40010104, 0, 32⟩
abbrev ENG_TRAPOP_SELF_WORD : Field := ⟨0x40010108, 0, 16⟩
abbrev ENG_PEND_SELF_IPEND : Field := ⟨0x4001010C, 8, 8⟩
abbrev ENG_PEND_SELF_EPEND : Field := ⟨0x4001010C, 0, 8⟩
abbrev ENG_MASK_SELF_IMASK : Field := ⟨0x40010110, 8, 8⟩
abbrev ENG_MASK_SELF_EMASK : Field := ⟨0x40010110, 0, 8⟩
abbrev ENG_CNT_SELF_EOVF : Field := ⟨0x40010114, 24, 8⟩
abbrev ENG_CNT_SELF_IOVF : Field := ⟨0x40010114, 16, 8⟩
abbrev ENG_CNT_SELF_ECCCOR : Field := ⟨0x40010114, 0, 16⟩
abbrev ENG_RBINV_SELF_ALL : Field := ⟨0x40010118, 0, 1⟩
abbrev ENG_CAUSE_VEC (i : Nat) : Field := ⟨0x40010200 + 32 * i, 4, 4⟩
abbrev ENG_CAUSE_CODE (i : Nat) : Field := ⟨0x40010200 + 32 * i, 0, 4⟩
abbrev ENG_FADDR_ADDR (i : Nat) : Field := ⟨0x40010204 + 32 * i, 0, 32⟩
abbrev ENG_TRAPOP_WORD (i : Nat) : Field := ⟨0x40010208 + 32 * i, 0, 16⟩
abbrev ENG_PEND_IPEND (i : Nat) : Field := ⟨0x4001020C + 32 * i, 8, 8⟩
abbrev ENG_PEND_EPEND (i : Nat) : Field := ⟨0x4001020C + 32 * i, 0, 8⟩
abbrev ENG_MASK_IMASK (i : Nat) : Field := ⟨0x40010210 + 32 * i, 8, 8⟩
abbrev ENG_MASK_EMASK (i : Nat) : Field := ⟨0x40010210 + 32 * i, 0, 8⟩
abbrev ENG_CNT_EOVF (i : Nat) : Field := ⟨0x40010214 + 32 * i, 24, 8⟩
abbrev ENG_CNT_IOVF (i : Nat) : Field := ⟨0x40010214 + 32 * i, 16, 8⟩
abbrev ENG_CNT_ECCCOR (i : Nat) : Field := ⟨0x40010214 + 32 * i, 0, 16⟩
abbrev ENG_RBINV_ALL (i : Nat) : Field := ⟨0x40010218 + 32 * i, 0, 1⟩
abbrev SNS_PD_CFG_LEVEL (i : Nat) : Field := ⟨0x40011000 + 0x10 * i, 3, 1⟩
abbrev SNS_PD_CFG_OVER (i : Nat) : Field := ⟨0x40011000 + 0x10 * i, 2, 1⟩
abbrev SNS_PD_CFG_INT (i : Nat) : Field := ⟨0x40011000 + 0x10 * i, 0, 2⟩
abbrev SNS_PD_DATA_DATA (i : Nat) : Field := ⟨0x40011004 + 0x10 * i, 0, 32⟩
abbrev SNS_PD_THR_HI (i : Nat) : Field := ⟨0x40011008 + 0x10 * i, 17, 15⟩
abbrev SNS_PD_THR_UNDER (i : Nat) : Field := ⟨0x40011008 + 0x10 * i, 16, 1⟩
abbrev SNS_PD_THR_LO (i : Nat) : Field := ⟨0x40011008 + 0x10 * i, 0, 16⟩
abbrev SNS_PIR_CFG_EN : Field := ⟨0x40011020, 31, 1⟩
abbrev SNS_PIR_CFG_GAIN : Field := ⟨0x40011020, 29, 2⟩
abbrev SNS_PIR_CFG_HPF : Field := ⟨0x40011020, 25, 4⟩
abbrev SNS_PIR_CFG_CNT : Field := ⟨0x40011020, 12, 8⟩
abbrev SNS_PIR_CFG_THR : Field := ⟨0x40011020, 0, 12⟩
abbrev SNS_PIR_DATA_ARMED : Field := ⟨0x40011024, 16, 1⟩
abbrev SNS_PIR_DATA_Y : Field := ⟨0x40011024, 0, 16⟩
abbrev SNS_COMMIT_STATUS : Field := ⟨0x40011030, 8, 8⟩
abbrev SNS_COMMIT_BUSY : Field := ⟨0x40011030, 1, 1⟩
abbrev SNS_COMMIT_GO : Field := ⟨0x40011030, 0, 1⟩
abbrev SNS_PWM_CFG_DIV (i : Nat) : Field := ⟨0x40011100 + 32 * i, 8, 4⟩
abbrev SNS_PWM_CFG_PRESC (i : Nat) : Field := ⟨0x40011100 + 32 * i, 4, 3⟩
abbrev SNS_PWM_CFG_INV (i : Nat) : Field := ⟨0x40011100 + 32 * i, 3, 1⟩
abbrev SNS_PWM_CFG_IDLE (i : Nat) : Field := ⟨0x40011100 + 32 * i, 2, 1⟩
abbrev SNS_PWM_CFG_MODE (i : Nat) : Field := ⟨0x40011100 + 32 * i, 0, 2⟩
abbrev SNS_PWM_PER_PHOFS (i : Nat) : Field := ⟨0x40011104 + 32 * i, 16, 16⟩
abbrev SNS_PWM_PER_PERIOD (i : Nat) : Field := ⟨0x40011104 + 32 * i, 0, 16⟩
abbrev SNS_PWM_DUTY_DUTY (i : Nat) : Field := ⟨0x40011108 + 32 * i, 0, 16⟩
abbrev SNS_PWM_ZCFG_ZEN (i : Nat) : Field := ⟨0x4001110C + 32 * i, 31, 1⟩
abbrev SNS_PWM_ZCFG_ZONE (i : Nat) : Field := ⟨0x4001110C + 32 * i, 24, 3⟩
abbrev SNS_PWM_ZCFG_FADE (i : Nat) : Field := ⟨0x4001110C + 32 * i, 0, 16⟩
abbrev SNS_PWM_ZLVL_OCC (i : Nat) : Field := ⟨0x40011110 + 32 * i, 16, 16⟩
abbrev SNS_PWM_ZLVL_VAC (i : Nat) : Field := ⟨0x40011110 + 32 * i, 0, 16⟩
abbrev SNS_GPIO_DIR_PINS : Field := ⟨0x40011200, 0, 24⟩
abbrev SNS_GPIO_OUT_PINS : Field := ⟨0x40011204, 0, 24⟩
abbrev SNS_GPIO_SET_PINS : Field := ⟨0x40011208, 0, 24⟩
abbrev SNS_GPIO_CLR_PINS : Field := ⟨0x4001120C, 0, 24⟩
abbrev SNS_GPIO_IN_PINS : Field := ⟨0x40011210, 0, 24⟩
abbrev SNS_GPIO_PULL (p : Nat) : Field := ⟨0x40011214 + 4 * (p / 16), 2 * (p % 16), 2⟩
abbrev SNS_GPIO_EV_EDGE1 : Field := ⟨0x4001121C, 13, 2⟩
abbrev SNS_GPIO_EV_PIN1 : Field := ⟨0x4001121C, 8, 5⟩
abbrev SNS_GPIO_EV_EDGE0 : Field := ⟨0x4001121C, 5, 2⟩
abbrev SNS_GPIO_EV_PIN0 : Field := ⟨0x4001121C, 0, 5⟩
abbrev SNS_SZ_CFG_EN (i : Nat) : Field := ⟨0x40011400 + 16 * i, 31, 1⟩
abbrev SNS_SZ_CFG_ONCNT (i : Nat) : Field := ⟨0x40011400 + 16 * i, 27, 4⟩
abbrev SNS_SZ_CFG_HOLD (i : Nat) : Field := ⟨0x40011400 + 16 * i, 16, 11⟩
abbrev SNS_SZ_CFG_OFF (i : Nat) : Field := ⟨0x40011400 + 16 * i, 8, 8⟩
abbrev SNS_SZ_CFG_ON (i : Nat) : Field := ⟨0x40011400 + 16 * i, 0, 8⟩
abbrev SNS_SZ_IDX_CYCLE (i : Nat) : Field := ⟨0x40011404 + 16 * i, 16, 16⟩
abbrev SNS_SZ_IDX_NODATA (i : Nat) : Field := ⟨0x40011404 + 16 * i, 8, 1⟩
abbrev SNS_SZ_IDX_INDEX (i : Nat) : Field := ⟨0x40011404 + 16 * i, 0, 8⟩
abbrev SNS_SZ_STAT_HELD (i : Nat) : Field := ⟨0x40011408 + 16 * i, 16, 13⟩
abbrev SNS_SZ_STAT_ABOVE (i : Nat) : Field := ⟨0x40011408 + 16 * i, 8, 4⟩
abbrev SNS_SZ_STAT_STATE (i : Nat) : Field := ⟨0x40011408 + 16 * i, 0, 1⟩
abbrev SNS_SZ_AGE_AGE (i : Nat) : Field := ⟨0x4001140C + 16 * i, 0, 16⟩
abbrev SNS_SZSUM_CFGERR : Field := ⟨0x40011480, 8, 1⟩
abbrev SNS_SZSUM_OCC : Field := ⟨0x40011480, 0, 8⟩

end Sys2Proof.Machine
end

