-- ==== Sys2Proof/Machine/RegTable.lean ====
section
/-!
DEFINITION. The register tables of spec/, one row for each register (or run of equal registers): what resets it and
which of its bits are RW, W1C and SH (R4). A bit in none of the three is RO, WO, CMT or reserved: a bus write does not
store it. Rules R480 (SYS), R451 (PWR), R463 (CLK), R382 (FLC), R358 (EVF), R430 (RTC), R523 (SVR), R408 (CIP), R108 (RFC),
R152 (MDM), R196 (MAC), R225 (SHP), R76 (MER), R506 (HIF), R481 (FLT), R535 (TST), R312 (ENG), R272 and R292 (SNS).
-/
namespace Sys2Proof.Machine

/-- A run of `n` registers at `off`, `off + stride`, … within a block: reset word and bit masks by type (R4). -/
structure RegRow where
  off    : Nat
  n      : Nat
  stride : Nat
  reset  : Nat
  rw     : Nat
  w1c    : Nat
  sh     : Nat
deriving DecidableEq, Repr

/-- Rows of SYS. -/
def rowsSys : List RegRow := [
  ⟨0x000, 1, 4, 0x74120010, 0x0, 0x0, 0x0⟩,  -- SYS_ID
  ⟨0x004, 1, 4, 0x0, 0x0, 0x0, 0x0⟩,  -- SYS_EUI_LO
  ⟨0x008, 1, 4, 0x0, 0x0, 0x0, 0x0⟩,  -- SYS_EUI_HI
  ⟨0x00C, 1, 4, 0x1, 0x3, 0x0, 0x0⟩,  -- SYS_ROLE
  ⟨0x010, 1, 4, 0x0, 0x0, 0x0, 0x0⟩,  -- SYS_BOOT
  ⟨0x014, 1, 4, 0x0, 0x0, 0x3FF0000, 0x0⟩,  -- SYS_RSTCAUSE
  ⟨0x018, 1, 4, 0x0, 0x0, 0x0, 0x0⟩]  -- SYS_RESET

/-- Rows of PWR. -/
def rowsPwr : List RegRow := [
  ⟨0x000, 1, 4, 0x40, 0xC3, 0x0, 0x0⟩,  -- PWR_CFG
  ⟨0x004, 1, 4, 0x14, 0x0, 0x0, 0x0⟩,  -- PWR_STAT
  ⟨0x008, 1, 4, 0x11, 0x0, 0x0, 0x33⟩,  -- PWR_LEVEL
  ⟨0x00C, 1, 4, 0x0, 0x0, 0x0, 0x0⟩,  -- PWR_COMMIT
  ⟨0x010, 1, 4, 0x100, 0xFFFF, 0x0, 0x0⟩,  -- PWR_ENGIDLE
  ⟨0x014, 1, 4, 0x3E8, 0xFFFF, 0x0, 0x0⟩,  -- PWR_DEVIDLE
  ⟨0x018, 1, 4, 0x3E8, 0xFFFF, 0x0, 0x0⟩,  -- PWR_STBYMIN
  ⟨0x01C, 1, 4, 0xFFFFF, 0xFF8FF, 0x0, 0x0⟩,  -- PWR_RETCFG
  ⟨0x020, 1, 4, 0x0, 0x0, 0x0, 0x0⟩,  -- PWR_CTRL
  ⟨0x024, 1, 4, 0x0, 0x0, 0x0, 0x0⟩,  -- PWR_CNT
  ⟨0x040, 1, 4, 0x30, 0xFF, 0x0, 0x0⟩,  -- PWR_WAKEEN
  ⟨0x044, 1, 4, 0x0, 0x0, 0xFF, 0x0⟩,  -- PWR_WAKESRC
  ⟨0x048, 1, 4, 0x0, 0xFFFFFFFF, 0x0, 0x0⟩,  -- PWR_TIMER_LO
  ⟨0x04C, 1, 4, 0x0, 0xFFFF, 0x0, 0x0⟩]  -- PWR_TIMER_HI

/-- Rows of CLK. -/
def rowsClk : List RegRow := [
  ⟨0x000, 1, 4, 0x0, 0x0, 0x20, 0x0⟩,  -- CLK_STAT
  ⟨0x004, 1, 4, 0x18, 0x3F, 0x0, 0x0⟩,  -- CLK_XOTRIM
  ⟨0x008, 1, 4, 0x18, 0x3F, 0x0, 0x0⟩,  -- CLK_LFTRIM
  ⟨0x00C, 1, 4, 0x0, 0x0, 0x0, 0x0⟩]  -- CLK_FLUSH

/-- Rows of FLC. -/
def rowsFlc : List RegRow := [
  ⟨0x000, 1, 4, 0x640015, 0xFF0017, 0x0, 0x0⟩,  -- FLC_CFG
  ⟨0x004, 1, 4, 0xF00, 0x0, 0x8, 0x0⟩,  -- FLC_STAT
  ⟨0x008, 1, 4, 0x0, 0x0, 0x0, 0x0⟩,  -- FLC_CMD
  ⟨0x00C, 1, 4, 0x0, 0x0, 0x0, 0x0⟩,  -- FLC_ERSTAT
  ⟨0x010, 1, 4, 0x0, 0x0, 0x0, 0x0⟩,  -- FLC_ECC
  ⟨0x014, 1, 4, 0x0, 0x77F, 0x0, 0x0⟩,  -- FLC_BLKIDX
  ⟨0x018, 1, 4, 0x0, 0x0, 0x0, 0x0⟩,  -- FLC_BLKINFO
  ⟨0x01C, 1, 4, 0x0, 0x0, 0x0, 0x0⟩,  -- FLC_HECOUNT
  ⟨0x040, 8, 4, 0x0, 0x0, 0x0, 0x0⟩,  -- FLC_JRN
  ⟨0x080, 16, 4, 0x0, 0x0, 0x0, 0x0⟩]  -- FLC_RES

/-- Rows of EVF. -/
def rowsEvf : List RegRow := [
  ⟨0x000, 1, 4, 0xFF, 0xFF, 0x0, 0x0⟩,  -- EVF_GRPEN
  ⟨0x004, 1, 4, 0x0, 0x0, 0x0, 0x0⟩,  -- EVF_SWFIRE0
  ⟨0x008, 1, 4, 0x0, 0x0, 0x0, 0x0⟩,  -- EVF_SWFIRE1
  ⟨0x00C, 1, 4, 0x0, 0x0, 0x0, 0x0⟩,  -- EVF_CNT
  ⟨0x010, 1, 4, 0x0, 0x0, 0x0, 0x0⟩,  -- EVF_LASTERR
  ⟨0x040, 16, 4, 0xF, 0x0, 0x0, 0x0⟩,  -- EVF_CLAIM
  ⟨0x080, 4, 16, 0x0, 0x0, 0x0, 0x0⟩,  -- EVF_CAP_CYCLE
  ⟨0x084, 4, 16, 0x0, 0x0, 0x0, 0x0⟩,  -- EVF_CAP_PHASE
  ⟨0x088, 4, 16, 0x0, 0x0, 0x0, 0x0⟩,  -- EVF_CAP_TSLO
  ⟨0x08C, 4, 16, 0x0, 0x0, 0x0, 0x0⟩,  -- EVF_CAP_TSHI
  ⟨0x100, 64, 16, 0xF0000FF, 0xCF0700FF, 0x0, 0x0⟩,  -- EVF_CH_CFG
  ⟨0x104, 64, 16, 0x0, 0xFFFFFFFF, 0x0, 0x0⟩,  -- EVF_CH_TASK
  ⟨0x108, 64, 16, 0x0, 0x0, 0x0, 0x0⟩]  -- EVF_CH_CNT

/-- Rows of RTC. -/
def rowsRtc : List RegRow := [
  ⟨0x000, 1, 4, 0x1, 0x0, 0x30, 0x0⟩,  -- RTC_STAT
  ⟨0x004, 1, 4, 0x6000000, 0x0, 0x0, 0x0⟩,  -- RTC_TIME
  ⟨0x008, 1, 4, 0x20000101, 0x0, 0x0, 0x0⟩,  -- RTC_DATE
  ⟨0x00C, 1, 4, 0x0, 0x0, 0x0, 0x0⟩,  -- RTC_SUBSEC
  ⟨0x010, 1, 4, 0x0, 0x0, 0x0, 0x0⟩,  -- RTC_TICK_LO
  ⟨0x014, 1, 4, 0x0, 0x0, 0x0, 0x0⟩,  -- RTC_TICK_HI
  ⟨0x018, 1, 4, 0x0, 0x3F7F7F, 0x0, 0x0⟩,  -- RTC_SETTIME
  ⟨0x01C, 1, 4, 0x20000101, 0xFFFF1F3F, 0x0, 0x0⟩,  -- RTC_SETDATE
  ⟨0x020, 1, 4, 0x0, 0xE03F7F7F, 0x0, 0x0⟩,  -- RTC_ALMTIME
  ⟨0x024, 1, 4, 0x101, 0xE7001F3F, 0x0, 0x0⟩,  -- RTC_ALMDATE
  ⟨0x028, 1, 4, 0x0, 0xC0FFFFFF, 0x0, 0x0⟩,  -- RTC_ALMCFG
  ⟨0x02C, 1, 4, 0x0, 0x0, 0x0, 0x0⟩,  -- RTC_SETCMD
  ⟨0x030, 1, 4, 0x0, 0x0, 0x0, 0x0⟩,  -- RTC_SETSTAT
  ⟨0x034, 1, 4, 0x8, 0x8000000F, 0x0, 0x0⟩,  -- RTC_TRIMCFG
  ⟨0x038, 1, 4, 0x0, 0xFFFFFF, 0x0, 0x0⟩,  -- RTC_TRIM
  ⟨0x03C, 1, 4, 0x8080808, 0x9E9E9E9E, 0x0, 0x0⟩,  -- RTC_WAKECFG
  ⟨0x040, 1, 4, 0x6000000, 0x0, 0x0, 0x0⟩,  -- RTC_STMP_TIME
  ⟨0x044, 1, 4, 0x20000101, 0x0, 0x0, 0x0⟩,  -- RTC_STMP_DATE
  ⟨0x048, 1, 4, 0x0, 0x0, 0x0, 0x0⟩,  -- RTC_STMP_SUB
  ⟨0x080, 16, 4, 0x0, 0xFFFFFFFF, 0x0, 0x0⟩]  -- RTC_BKUP

/-- Rows of SVR. -/
def rowsSvr : List RegRow := [
  ⟨0x000, 1, 4, 0x4000003C, 0xC0000000, 0x0, 0x7FF⟩,  -- SVR_CFG
  ⟨0x004, 1, 4, 0x0, 0x40, 0x30, 0x0⟩,  -- SVR_STAT
  ⟨0x008, 1, 4, 0x20075D, 0x0, 0x0, 0x3FF077F⟩,  -- SVR_PLACE
  ⟨0x00C, 1, 4, 0x0, 0x0, 0x0, 0x0⟩,  -- SVR_COMMIT
  ⟨0x010, 1, 4, 0x0, 0x0, 0x0, 0x0⟩,  -- SVR_CMD
  ⟨0x014, 1, 4, 0x0, 0x0, 0x0, 0x0⟩,  -- SVR_SEQ
  ⟨0x018, 1, 4, 0x0, 0x0, 0x0, 0x0⟩,  -- SVR_FILL
  ⟨0x01C, 1, 4, 0x0, 0xFFFFC1FF, 0x0, 0x0⟩,  -- SVR_CUR
  ⟨0x020, 1, 4, 0x0, 0x0, 0x0, 0x0⟩,  -- SVR_CNT
  ⟨0x100, 24, 16, 0x0, 0x0, 0x0, 0xDF00070F⟩,  -- SVR_M_CFG
  ⟨0x104, 24, 16, 0x0, 0x0, 0x0, 0xFFFFFFFF⟩,  -- SVR_M_BIN
  ⟨0x108, 24, 16, 0x0, 0x0, 0x0, 0x0⟩,  -- SVR_M_SAMPLE
  ⟨0x10C, 24, 16, 0x0, 0x0, 0x0, 0x0⟩]  -- SVR_M_ADD

/-- Rows of CIP. -/
def rowsCip : List RegRow := [
  ⟨0x000, 1, 4, 0xF000, 0x0, 0x0, 0x0⟩,  -- CIP_STAT
  ⟨0x004, 1, 4, 0x0, 0x1, 0x0, 0x0⟩,  -- CIP_CFG
  ⟨0x008, 1, 4, 0x0, 0x0, 0x0, 0x0⟩,  -- CIP_JOB
  ⟨0x00C, 1, 4, 0x0, 0x0, 0x0, 0x3F⟩,  -- CIP_KSEL
  ⟨0x010, 1, 4, 0x0, 0x0, 0x0, 0xFFC01FFF⟩,  -- CIP_KPOL
  ⟨0x014, 8, 4, 0x0, 0x0, 0x0, 0x0⟩,  -- CIP_KEYW
  ⟨0x034, 1, 4, 0x0, 0x0, 0x0, 0x0⟩,  -- CIP_COMMIT
  ⟨0x038, 1, 4, 0x0, 0x0, 0x0, 0x0⟩,  -- CIP_KCMD
  ⟨0x03C, 1, 4, 0x0, 0xF, 0x0, 0x0⟩,  -- CIP_KIDX
  ⟨0x040, 1, 4, 0x0, 0x0, 0x0, 0x0⟩,  -- CIP_KINFO
  ⟨0x044, 1, 4, 0x0, 0x0, 0x0, 0x0⟩,  -- CIP_KIPOL
  ⟨0x048, 1, 4, 0x80008000, 0x0, 0x0, 0x0⟩,  -- CIP_KSTAT
  ⟨0x04C, 1, 4, 0x0, 0x0, 0x0, 0x0⟩,  -- CIP_RNG
  ⟨0x050, 1, 4, 0x0, 0x0, 0x0, 0x0⟩,  -- CIP_RNGSTAT
  ⟨0x054, 1, 4, 0x0, 0x0, 0x0, 0x0⟩,  -- CIP_CNT0
  ⟨0x058, 1, 4, 0x0, 0x0, 0x0, 0x0⟩,  -- CIP_CNT1
  ⟨0x05C, 1, 4, 0x0, 0x0, 0x0, 0x0⟩,  -- CIP_LASTERR
  ⟨0x080, 16, 4, 0x0, 0x0, 0x0, 0x0⟩]  -- CIP_RES

/-- Rows of RFC. -/
def rowsRfc0 : List RegRow := [
  ⟨0x000, 1, 4, 0x0, 0x3, 0x0, 0x0⟩,  -- RFC_CTRL
  ⟨0x004, 1, 4, 0x0, 0x0, 0x0, 0x0⟩,  -- RFC_STAT
  ⟨0x008, 1, 4, 0x0, 0x0, 0x0, 0x0⟩,  -- RFC_TEMP
  ⟨0x00C, 1, 4, 0x119, 0x0, 0x0, 0x1FF⟩,  -- RFC_CALCFG
  ⟨0x010, 1, 4, 0x0, 0x0, 0x0, 0x17F⟩,  -- RFC_CALDEF
  ⟨0x014, 1, 4, 0x564F5C3, 0x0, 0x0, 0xFFFFFFF⟩,  -- RFC_CALFREQ
  ⟨0x018, 1, 4, 0x0, 0x0, 0x0, 0x0⟩,  -- RFC_CALCMD
  ⟨0x01C, 1, 4, 0x0, 0x0, 0x0, 0x0⟩,  -- RFC_CALSTAT
  ⟨0x020, 1, 4, 0x0, 0x17F, 0x0, 0x0⟩,  -- RFC_CALIDX
  ⟨0x024, 1, 4, 0x0, 0x0, 0x0, 0x0⟩,  -- RFC_CALENT
  ⟨0x028, 1, 4, 0x0, 0x0, 0x0, 0x0⟩,  -- RFC_CALTMP
  ⟨0x02C, 1, 4, 0x0, 0xFF, 0x0, 0x0⟩,  -- RFC_FOIDX
  ⟨0x030, 1, 4, 0x0, 0xFFFFF, 0x0, 0x0⟩,  -- RFC_FODATA
  ⟨0x034, 1, 4, 0x3202, 0xFF07, 0x0, 0x0⟩,  -- RFC_FOCFG
  ⟨0x038, 1, 4, 0x0, 0x0, 0x0, 0x0⟩,  -- RFC_COMMIT
  ⟨0x100, 1, 4, 0x20, 0x0, 0x0, 0x7F⟩,  -- RFC_SG_RXWIN
  ⟨0x104, 1, 4, 0x0, 0x0, 0x0, 0xF3⟩,  -- RFC_SG_DIV
  ⟨0x108, 1, 4, 0x22, 0x0, 0x0, 0x33⟩,  -- RFC_SG_PA
  ⟨0x10C, 1, 4, 0x0, 0x0, 0x0, 0x0⟩,  -- RFC_SG_PASTAT
  ⟨0x110, 1, 4, 0x0, 0x0, 0x0, 0x0⟩,  -- RFC_SG_CNT
  ⟨0x114, 1, 4, 0x8080, 0x0, 0x0, 0x0⟩,  -- RFC_SG_RSSI
  ⟨0x180, 1, 4, 0x26, 0x0, 0x0, 0x7F⟩,  -- RFC_24_RXWIN
  ⟨0x184, 1, 4, 0x0, 0x0, 0x0, 0xF3⟩,  -- RFC_24_DIV
  ⟨0x188, 1, 4, 0x21, 0x0, 0x0, 0x33⟩]  -- RFC_24_PA

/-- Rows of RFC. -/
def rowsRfc1 : List RegRow := [
  ⟨0x18C, 1, 4, 0x0, 0x0, 0x0, 0x0⟩,  -- RFC_24_PASTAT
  ⟨0x190, 1, 4, 0x0, 0x0, 0x0, 0x0⟩,  -- RFC_24_CNT
  ⟨0x194, 1, 4, 0x8080, 0x0, 0x0, 0x0⟩]  -- RFC_24_RSSI

/-- Rows of RFC. -/
def rowsRfc : List RegRow := rowsRfc0 ++ rowsRfc1

/-- Rows of MDM. -/
def rowsMdm : List RegRow := [
  ⟨0x000, 1, 4, 0x0, 0x0, 0x0, 0x0⟩,  -- MDM_STAT
  ⟨0x004, 1, 4, 0x10000000, 0x0, 0x0, 0xFFFFFE00⟩,  -- MDM_SBUF_BASE
  ⟨0x008, 1, 4, 0x0, 0x0, 0x0, 0xFFF⟩,  -- MDM_SBUF_SIZE
  ⟨0x00C, 1, 4, 0x0, 0x0, 0x0, 0x0⟩,  -- MDM_SBUF_WR
  ⟨0x010, 1, 4, 0x0, 0x800007FF, 0x0, 0x0⟩,  -- MDM_SBUF_RD0
  ⟨0x014, 1, 4, 0x0, 0x800007FF, 0x0, 0x0⟩,  -- MDM_SBUF_RD1
  ⟨0x018, 1, 4, 0x0, 0x0, 0x0, 0x0⟩,  -- MDM_SBUF_DROP
  ⟨0x01C, 1, 4, 0x101A0000, 0x0, 0x0, 0xFFFE0000⟩,  -- MDM_MAPBASE
  ⟨0x020, 1, 4, 0x362A1C10, 0x0, 0x0, 0xFFFFFFFF⟩,  -- MDM_SLTHR0
  ⟨0x024, 1, 4, 0xC4E42, 0x0, 0x0, 0xFFFFFF⟩,  -- MDM_SLTHR1
  ⟨0x028, 1, 4, 0x30032, 0x0, 0x0, 0x7FFFF⟩,  -- MDM_SLHOLD
  ⟨0x02C, 1, 4, 0x63, 0xF3, 0x0, 0x0⟩,  -- MDM_DFE
  ⟨0x030, 1, 4, 0x0, 0x0, 0x0, 0x0⟩,  -- MDM_MAPERR
  ⟨0x034, 1, 4, 0x0, 0x0, 0x0, 0x0⟩,  -- MDM_COMMIT
  ⟨0x100, 8, 16, 0x200006, 0x0, 0x0, 0xFFFF07⟩,  -- MDM_SG_CH_CFG
  ⟨0x104, 8, 16, 0x0, 0x0, 0x0, 0x1FFFFF⟩,  -- MDM_SG_CH_FREQ
  ⟨0x108, 8, 16, 0x0, 0x0, 0x0, 0x0⟩,  -- MDM_SG_CH_CNT
  ⟨0x10C, 8, 16, 0x0, 0x0, 0x0, 0x0⟩,  -- MDM_SG_CH_ERR
  ⟨0x180, 8, 16, 0x200006, 0x0, 0x0, 0xFFFF07⟩,  -- MDM_24_CH_CFG
  ⟨0x184, 8, 16, 0x0, 0x0, 0x0, 0x1FFFFF⟩,  -- MDM_24_CH_FREQ
  ⟨0x188, 8, 16, 0x0, 0x0, 0x0, 0x0⟩,  -- MDM_24_CH_CNT
  ⟨0x18C, 8, 16, 0x0, 0x0, 0x0, 0x0⟩]  -- MDM_24_CH_ERR

/-- Rows of MAC. -/
def rowsMac0 : List RegRow := [
  ⟨0x000, 1, 4, 0x0, 0x13, 0x0, 0x0⟩,  -- MAC_CFG
  ⟨0x004, 1, 4, 0xFFFFFFFE, 0xFFFFFFFF, 0x0, 0x0⟩,  -- MAC_ADDR
  ⟨0x008, 1, 4, 0x0, 0xFFFFFFFF, 0x0, 0x0⟩,  -- MAC_TXCTR
  ⟨0x00C, 1, 4, 0x50, 0xFF, 0x0, 0x0⟩,  -- MAC_ACKCFG
  ⟨0x010, 1, 4, 0x10000000, 0x0, 0x0, 0xFFFFFFC0⟩,  -- MAC_RXBASE
  ⟨0x014, 1, 4, 0x30000, 0x0, 0x0, 0x30FFF⟩,  -- MAC_RXCFG
  ⟨0x018, 1, 4, 0x0, 0x0, 0x0, 0x0⟩,  -- MAC_RXWR
  ⟨0x01C, 1, 4, 0x0, 0xFFF, 0x0, 0x0⟩,  -- MAC_RXRD
  ⟨0x020, 1, 4, 0x0, 0xFF, 0x0, 0x0⟩,  -- MAC_NBIDX
  ⟨0x024, 1, 4, 0x0, 0xFFFFFFFF, 0x0, 0x0⟩,  -- MAC_NBEUI_LO
  ⟨0x028, 1, 4, 0x0, 0xFFFFFFFF, 0x0, 0x0⟩,  -- MAC_NBEUI_HI
  ⟨0x02C, 1, 4, 0xFFFE, 0xFFF0FFFF, 0x0, 0x0⟩,  -- MAC_NBCFG
  ⟨0x030, 1, 4, 0x0, 0xFF, 0x0, 0x0⟩,  -- MAC_NBPWR
  ⟨0x034, 1, 4, 0x0, 0x0, 0x0, 0x0⟩,  -- MAC_NBSTAT
  ⟨0x038, 1, 4, 0x0, 0x0, 0x0, 0x0⟩,  -- MAC_NBLAST
  ⟨0x03C, 1, 4, 0x0, 0x0, 0x0, 0x0⟩,  -- MAC_NBERR
  ⟨0x040, 1, 4, 0x0, 0x0, 0x0, 0x0⟩,  -- MAC_CNT0
  ⟨0x044, 1, 4, 0x0, 0x0, 0x0, 0x0⟩,  -- MAC_CNT1
  ⟨0x048, 1, 4, 0x0, 0x0, 0x0, 0x0⟩,  -- MAC_CNT2
  ⟨0x050, 1, 4, 0x0, 0x0, 0x0, 0x8000003F⟩,  -- MAC_HOP
  ⟨0x054, 1, 4, 0x0, 0x0, 0x0, 0xFFFFFFFF⟩,  -- MAC_HOPMASK0
  ⟨0x058, 1, 4, 0x0, 0x0, 0x0, 0xFFFFFFFF⟩,  -- MAC_HOPMASK1
  ⟨0x05C, 1, 4, 0x800000C4, 0x0, 0x0, 0x800000FF⟩,  -- MAC_DAA
  ⟨0x060, 1, 4, 0x32, 0x0, 0x0, 0x7F⟩]  -- MAC_DCCFG

/-- Rows of MAC. -/
def rowsMac1 : List RegRow := [
  ⟨0x064, 1, 4, 0x0, 0x0, 0x0, 0x0⟩,  -- MAC_COMMIT
  ⟨0x100, 1, 4, 0xFF, 0x0, 0x0, 0xFF⟩,  -- MAC_SG_FAMILY
  ⟨0x104, 1, 4, 0x20202020, 0x0, 0x0, 0x7F7F7F7F⟩,  -- MAC_SG_ACKENT0
  ⟨0x108, 1, 4, 0x20202020, 0x0, 0x0, 0x7F7F7F7F⟩,  -- MAC_SG_ACKENT1
  ⟨0x10C, 1, 4, 0x0, 0x0, 0x0, 0xFFFFF⟩,  -- MAC_SG_DCRES
  ⟨0x110, 1, 4, 0x0, 0x0, 0x0, 0x0⟩,  -- MAC_SG_CNT0
  ⟨0x114, 1, 4, 0x0, 0x0, 0x0, 0x0⟩,  -- MAC_SG_CNT1
  ⟨0x118, 1, 4, 0x0, 0x0, 0x0, 0x0⟩,  -- MAC_SG_CNT2
  ⟨0x120, 1, 8, 0x43D0436C, 0x0, 0x0, 0xFFFFFFFF⟩,  -- MAC_SG_DCSUB0
  ⟨0x124, 1, 8, 0x800003E8, 0x0, 0x0, 0x800FFFFF⟩,  -- MAC_SG_DCLIM0
  ⟨0x128, 1, 8, 0x43DC43D0, 0x0, 0x0, 0xFFFFFFFF⟩,  -- MAC_SG_DCSUB1
  ⟨0x12C, 1, 8, 0x80002710, 0x0, 0x0, 0x800FFFFF⟩,  -- MAC_SG_DCLIM1
  ⟨0x130, 1, 8, 0x43E843DE, 0x0, 0x0, 0xFFFFFFFF⟩,  -- MAC_SG_DCSUB2
  ⟨0x134, 1, 8, 0x800003E8, 0x0, 0x0, 0x800FFFFF⟩,  -- MAC_SG_DCLIM2
  ⟨0x138, 1, 8, 0x43F143EC, 0x0, 0x0, 0xFFFFFFFF⟩,  -- MAC_SG_DCSUB3
  ⟨0x13C, 1, 8, 0x800186A0, 0x0, 0x0, 0x800FFFFF⟩,  -- MAC_SG_DCLIM3
  ⟨0x140, 1, 8, 0x43F843F2, 0x0, 0x0, 0xFFFFFFFF⟩,  -- MAC_SG_DCSUB4
  ⟨0x144, 1, 8, 0x80002710, 0x0, 0x0, 0x800FFFFF⟩,  -- MAC_SG_DCLIM4
  ⟨0x148, 1, 8, 0x447043F8, 0x0, 0x0, 0xFFFFFFFF⟩,  -- MAC_SG_DCSUB5
  ⟨0x14C, 1, 8, 0x800003E8, 0x0, 0x0, 0x800FFFFF⟩,  -- MAC_SG_DCLIM5
  ⟨0x150, 1, 8, 0x48804678, 0x0, 0x0, 0xFFFFFFFF⟩,  -- MAC_SG_DCSUB6
  ⟨0x154, 1, 8, 0x800F4240, 0x0, 0x0, 0x800FFFFF⟩,  -- MAC_SG_DCLIM6
  ⟨0x158, 1, 8, 0x0, 0x0, 0x0, 0xFFFFFFFF⟩,  -- MAC_SG_DCSUB7
  ⟨0x15C, 1, 8, 0x0, 0x0, 0x0, 0x800FFFFF⟩]  -- MAC_SG_DCLIM7

/-- Rows of MAC. -/
def rowsMac2 : List RegRow := [
  ⟨0x160, 1, 4, 0x1B3F0, 0x0, 0x0, 0x0⟩,  -- MAC_SG_DCSUM0
  ⟨0x164, 1, 4, 0x112380, 0x0, 0x0, 0x0⟩,  -- MAC_SG_DCSUM1
  ⟨0x168, 1, 4, 0x1B3F0, 0x0, 0x0, 0x0⟩,  -- MAC_SG_DCSUM2
  ⟨0x16C, 1, 4, 0xABA950, 0x0, 0x0, 0x0⟩,  -- MAC_SG_DCSUM3
  ⟨0x170, 1, 4, 0x112380, 0x0, 0x0, 0x0⟩,  -- MAC_SG_DCSUM4
  ⟨0x174, 1, 4, 0x1B3F0, 0x0, 0x0, 0x0⟩,  -- MAC_SG_DCSUM5
  ⟨0x178, 1, 4, 0x6B49D20, 0x0, 0x0, 0x0⟩,  -- MAC_SG_DCSUM6
  ⟨0x17C, 1, 4, 0x0, 0x0, 0x0, 0x0⟩,  -- MAC_SG_DCSUM7
  ⟨0x180, 1, 4, 0xFF, 0x0, 0x0, 0xFF⟩,  -- MAC_24_FAMILY
  ⟨0x184, 1, 4, 0x26262626, 0x0, 0x0, 0x7F7F7F7F⟩,  -- MAC_24_ACKENT0
  ⟨0x188, 1, 4, 0x26262626, 0x0, 0x0, 0x7F7F7F7F⟩,  -- MAC_24_ACKENT1
  ⟨0x18C, 1, 4, 0x0, 0x0, 0x0, 0xFFFFF⟩,  -- MAC_24_DCRES
  ⟨0x190, 1, 4, 0x0, 0x0, 0x0, 0x0⟩,  -- MAC_24_CNT0
  ⟨0x194, 1, 4, 0x0, 0x0, 0x0, 0x0⟩,  -- MAC_24_CNT1
  ⟨0x198, 1, 4, 0x0, 0x0, 0x0, 0x0⟩,  -- MAC_24_CNT2
  ⟨0x1A0, 1, 8, 0xC206BB80, 0x0, 0x0, 0xFFFFFFFF⟩,  -- MAC_24_DCSUB0
  ⟨0x1A4, 1, 8, 0x800F4240, 0x0, 0x0, 0x800FFFFF⟩,  -- MAC_24_DCLIM0
  ⟨0x1A8, 1, 8, 0x0, 0x0, 0x0, 0xFFFFFFFF⟩,  -- MAC_24_DCSUB1
  ⟨0x1AC, 1, 8, 0x0, 0x0, 0x0, 0x800FFFFF⟩,  -- MAC_24_DCLIM1
  ⟨0x1B0, 1, 8, 0x0, 0x0, 0x0, 0xFFFFFFFF⟩,  -- MAC_24_DCSUB2
  ⟨0x1B4, 1, 8, 0x0, 0x0, 0x0, 0x800FFFFF⟩,  -- MAC_24_DCLIM2
  ⟨0x1B8, 1, 8, 0x0, 0x0, 0x0, 0xFFFFFFFF⟩,  -- MAC_24_DCSUB3
  ⟨0x1BC, 1, 8, 0x0, 0x0, 0x0, 0x800FFFFF⟩,  -- MAC_24_DCLIM3
  ⟨0x1C0, 1, 8, 0x0, 0x0, 0x0, 0xFFFFFFFF⟩]  -- MAC_24_DCSUB4

/-- Rows of MAC. -/
def rowsMac3 : List RegRow := [
  ⟨0x1C4, 1, 8, 0x0, 0x0, 0x0, 0x800FFFFF⟩,  -- MAC_24_DCLIM4
  ⟨0x1C8, 1, 8, 0x0, 0x0, 0x0, 0xFFFFFFFF⟩,  -- MAC_24_DCSUB5
  ⟨0x1CC, 1, 8, 0x0, 0x0, 0x0, 0x800FFFFF⟩,  -- MAC_24_DCLIM5
  ⟨0x1D0, 1, 8, 0x0, 0x0, 0x0, 0xFFFFFFFF⟩,  -- MAC_24_DCSUB6
  ⟨0x1D4, 1, 8, 0x0, 0x0, 0x0, 0x800FFFFF⟩,  -- MAC_24_DCLIM6
  ⟨0x1D8, 1, 8, 0x0, 0x0, 0x0, 0xFFFFFFFF⟩,  -- MAC_24_DCSUB7
  ⟨0x1DC, 1, 8, 0x0, 0x0, 0x0, 0x800FFFFF⟩,  -- MAC_24_DCLIM7
  ⟨0x1E0, 1, 4, 0x6B49D20, 0x0, 0x0, 0x0⟩,  -- MAC_24_DCSUM0
  ⟨0x1E4, 1, 4, 0x0, 0x0, 0x0, 0x0⟩,  -- MAC_24_DCSUM1
  ⟨0x1E8, 1, 4, 0x0, 0x0, 0x0, 0x0⟩,  -- MAC_24_DCSUM2
  ⟨0x1EC, 1, 4, 0x0, 0x0, 0x0, 0x0⟩,  -- MAC_24_DCSUM3
  ⟨0x1F0, 1, 4, 0x0, 0x0, 0x0, 0x0⟩,  -- MAC_24_DCSUM4
  ⟨0x1F4, 1, 4, 0x0, 0x0, 0x0, 0x0⟩,  -- MAC_24_DCSUM5
  ⟨0x1F8, 1, 4, 0x0, 0x0, 0x0, 0x0⟩,  -- MAC_24_DCSUM6
  ⟨0x1FC, 1, 4, 0x0, 0x0, 0x0, 0x0⟩]  -- MAC_24_DCSUM7

/-- Rows of MAC. -/
def rowsMac : List RegRow := rowsMac0 ++ rowsMac1 ++ rowsMac2 ++ rowsMac3

/-- Rows of SHP. -/
def rowsShp0 : List RegRow := [
  ⟨0x000, 1, 4, 0x0, 0x3, 0x0, 0x0⟩,  -- SHP_CFG
  ⟨0x004, 1, 4, 0x0, 0x0, 0x0, 0x0⟩,  -- SHP_STAT
  ⟨0x008, 1, 4, 0x0, 0x0, 0x0, 0x0⟩,  -- SHP_COMMIT
  ⟨0x040, 16, 4, 0x0, 0x0, 0x0, 0x0⟩,  -- SHP_ENQRES
  ⟨0x080, 1, 4, 0x10008, 0x0, 0x0, 0x7F01FF⟩,  -- SHP_SG_CHCFG
  ⟨0x084, 1, 4, 0x0, 0x0, 0x0, 0x0⟩,  -- SHP_SG_CHPOS
  ⟨0x088, 1, 4, 0x28, 0x0, 0x0, 0x3FF⟩,  -- SHP_SG_LEAD
  ⟨0x08C, 1, 4, 0x0, 0x0, 0x0, 0x0⟩,  -- SHP_SG_CNT
  ⟨0x090, 8, 4, 0x0, 0x0, 0x0, 0x0⟩,  -- SHP_SG_ENQ
  ⟨0x0B0, 1, 4, 0x20202020, 0xFFFFFFFF, 0x0, 0x0⟩,  -- SHP_SG_QDEPTH0
  ⟨0x0B4, 1, 4, 0x20202020, 0xFFFFFFFF, 0x0, 0x0⟩,  -- SHP_SG_QDEPTH1
  ⟨0x0B8, 1, 4, 0x0, 0x0, 0x0, 0x0⟩,  -- SHP_SG_QCOUNT0
  ⟨0x0BC, 1, 4, 0x0, 0x0, 0x0, 0x0⟩,  -- SHP_SG_QCOUNT1
  ⟨0x0C0, 1, 4, 0x10008, 0x0, 0x0, 0x7F01FF⟩,  -- SHP_24_CHCFG
  ⟨0x0C4, 1, 4, 0x0, 0x0, 0x0, 0x0⟩,  -- SHP_24_CHPOS
  ⟨0x0C8, 1, 4, 0x28, 0x0, 0x0, 0x3FF⟩,  -- SHP_24_LEAD
  ⟨0x0CC, 1, 4, 0x0, 0x0, 0x0, 0x0⟩,  -- SHP_24_CNT
  ⟨0x0D0, 8, 4, 0x0, 0x0, 0x0, 0x0⟩,  -- SHP_24_ENQ
  ⟨0x0F0, 1, 4, 0x20202020, 0xFFFFFFFF, 0x0, 0x0⟩,  -- SHP_24_QDEPTH0
  ⟨0x0F4, 1, 4, 0x20202020, 0xFFFFFFFF, 0x0, 0x0⟩,  -- SHP_24_QDEPTH1
  ⟨0x0F8, 1, 4, 0x0, 0x0, 0x0, 0x0⟩,  -- SHP_24_QCOUNT0
  ⟨0x0FC, 1, 4, 0x0, 0x0, 0x0, 0x0⟩,  -- SHP_24_QCOUNT1
  ⟨0x100, 64, 16, 0x0, 0x8000FFFF, 0x0, 0x0⟩,  -- SHP_POL_CFG
  ⟨0x104, 64, 16, 0x0, 0xFFFFFF, 0x0, 0x0⟩]  -- SHP_POL_BURST

/-- Rows of SHP. -/
def rowsShp1 : List RegRow := [
  ⟨0x108, 64, 16, 0x0, 0x0, 0x0, 0x0⟩,  -- SHP_POL_TOK
  ⟨0x10C, 64, 16, 0x0, 0x0, 0x0, 0x0⟩,  -- SHP_POL_DROP
  ⟨0x500, 8, 4, 0x2000, 0x0, 0x0, 0xFFFFFFFF⟩,  -- SHP_SG_CHE
  ⟨0x520, 248, 4, 0x0, 0x0, 0x0, 0xFFFFFFFF⟩,  -- SHP_SG_CHE8
  ⟨0x900, 8, 4, 0x2000, 0x0, 0x0, 0xFFFFFFFF⟩,  -- SHP_24_CHE
  ⟨0x920, 248, 4, 0x0, 0x0, 0x0, 0xFFFFFFFF⟩,  -- SHP_24_CHE8
  ⟨0xD00, 32, 8, 0x0, 0x0, 0x0, 0xC700FFFF⟩,  -- SHP_SG_WIN_A
  ⟨0xD04, 32, 8, 0x0, 0x0, 0x0, 0xFF⟩,  -- SHP_SG_WIN_B
  ⟨0xE00, 32, 8, 0x0, 0x0, 0x0, 0xC700FFFF⟩,  -- SHP_24_WIN_A
  ⟨0xE04, 32, 8, 0x0, 0x0, 0x0, 0xFF⟩,  -- SHP_24_WIN_B
  ⟨0xF00, 8, 8, 0x0, 0x0, 0x0, 0xFFFFFFFF⟩,  -- SHP_SG_PROF_A
  ⟨0xF04, 8, 8, 0x0, 0x0, 0x0, 0xFFFF⟩,  -- SHP_SG_PROF_B
  ⟨0xF40, 8, 8, 0x0, 0x0, 0x0, 0xFFFFFFFF⟩,  -- SHP_24_PROF_A
  ⟨0xF44, 8, 8, 0x0, 0x0, 0x0, 0xFFFF⟩]  -- SHP_24_PROF_B

/-- Rows of SHP. -/
def rowsShp : List RegRow := rowsShp0 ++ rowsShp1

/-- Rows of MER. -/
def rowsMer : List RegRow := [
  ⟨0x000, 1, 4, 0x50, 0x78, 0x0, 0x7⟩,  -- MER_CFG
  ⟨0x004, 1, 4, 0x0, 0x0, 0x0, 0x0⟩,  -- MER_STAT
  ⟨0x008, 1, 4, 0x0, 0x0, 0x0, 0x0⟩,  -- MER_PHASE
  ⟨0x00C, 1, 4, 0x0, 0x0, 0x0, 0x0⟩,  -- MER_CYCLE
  ⟨0x010, 1, 4, 0x0, 0x0, 0x0, 0x0⟩,  -- MER_TSTAMP_LO
  ⟨0x014, 1, 4, 0x0, 0x0, 0x0, 0x0⟩,  -- MER_TSTAMP_HI
  ⟨0x018, 1, 4, 0x0, 0x0, 0x0, 0x0⟩,  -- MER_PERIOD
  ⟨0x01C, 1, 4, 0x218DEF4, 0x0, 0x0, 0x0⟩,  -- MER_INC
  ⟨0x020, 1, 4, 0x0, 0xFFFF, 0x0, 0x0⟩,  -- MER_ZCDLY
  ⟨0x024, 1, 4, 0x0, 0x0, 0x0, 0x0⟩,  -- MER_ZCERR
  ⟨0x028, 1, 4, 0x3C, 0x0, 0x0, 0xFF⟩,  -- MER_DRIFTPPM
  ⟨0x02C, 1, 4, 0x14, 0x0, 0x0, 0x3FF⟩,  -- MER_SLEW
  ⟨0x030, 1, 4, 0xC8, 0x0, 0x0, 0x7FF⟩,  -- MER_PULL
  ⟨0x034, 1, 4, 0x28, 0x0, 0x0, 0x3FF⟩,  -- MER_GUARD0
  ⟨0x038, 1, 4, 0xC8, 0x0, 0x0, 0x3FF⟩,  -- MER_GUARD1
  ⟨0x03C, 1, 4, 0x1F4, 0x0, 0x0, 0x3FF⟩,  -- MER_GUARD2
  ⟨0x040, 1, 4, 0x384, 0x0, 0x0, 0x3FF⟩,  -- MER_GUARD3
  ⟨0x044, 1, 4, 0x1F4, 0xFFFF, 0x0, 0x0⟩,  -- MER_HOLDCYC
  ⟨0x048, 1, 4, 0x0, 0x0, 0x0, 0x0⟩,  -- MER_SYNCERR
  ⟨0x04C, 1, 4, 0x2FAF0800, 0x0, 0x0, 0x0⟩,  -- MER_LFRATIO
  ⟨0x050, 1, 4, 0x0, 0x0, 0x0, 0x0⟩]  -- MER_COMMIT

/-- Rows of HIF. -/
def rowsHif : List RegRow := [
  ⟨0x000, 1, 4, 0xA00, 0xFF01, 0x0, 0x0⟩,  -- HIF_CFG
  ⟨0x004, 1, 4, 0x0, 0x8, 0x0, 0x0⟩,  -- HIF_STAT
  ⟨0x008, 1, 4, 0x12C, 0xC0FFFFFF, 0x0, 0x0⟩,  -- HIF_EXPERT
  ⟨0x00C, 1, 4, 0xD904, 0xFFFF, 0x0, 0x0⟩,  -- HIF_UARTDIV
  ⟨0x010, 1, 4, 0x10100000, 0xFFFF0000, 0x0, 0x0⟩,  -- HIF_DPBASE
  ⟨0x014, 1, 4, 0x3000000, 0xF07FFFF, 0x0, 0x0⟩,  -- HIF_DPPTR
  ⟨0x018, 1, 4, 0x0, 0x0, 0x1F, 0x0⟩,  -- HIF_EVPEND
  ⟨0x01C, 1, 4, 0x1F, 0x1F, 0x0, 0x0⟩,  -- HIF_EVEN
  ⟨0x020, 1, 4, 0x101FE000, 0xFFFFF000, 0x0, 0x0⟩,  -- HIF_BUFBASE
  ⟨0x024, 1, 4, 0x0, 0x0, 0x0, 0x0⟩,  -- HIF_REQINFO
  ⟨0x028, 1, 4, 0x0, 0x0, 0x0, 0x0⟩,  -- HIF_REPLY
  ⟨0x02C, 1, 4, 0x0, 0x0, 0x0, 0x0⟩,  -- HIF_CNT0
  ⟨0x030, 1, 4, 0x0, 0x0, 0x0, 0x0⟩,  -- HIF_CNT1
  ⟨0x034, 1, 4, 0x0, 0x0, 0x0, 0x0⟩,  -- HIF_CNT2
  ⟨0x038, 1, 4, 0x0, 0x0, 0x0, 0x0⟩,  -- HIF_EREQ
  ⟨0x040, 16, 4, 0x0, 0x0, 0x0, 0x0⟩]  -- HIF_ERES

/-- Rows of FLT. -/
def rowsFlt : List RegRow := [
  ⟨0x000, 1, 4, 0x0, 0x0, 0x0, 0x0⟩,  -- FLT_STAT
  ⟨0x004, 1, 4, 0x3E80032, 0xFFFFFFFF, 0x0, 0x0⟩,  -- FLT_CFG
  ⟨0x008, 1, 4, 0x0, 0xF, 0x0, 0x0⟩,  -- FLT_LOGIDX
  ⟨0x00C, 1, 4, 0xF, 0x0, 0x0, 0x0⟩,  -- FLT_LOG0
  ⟨0x010, 1, 4, 0x0, 0x0, 0x0, 0x0⟩,  -- FLT_LOG1
  ⟨0x014, 1, 4, 0x0, 0x0, 0x0, 0x0⟩,  -- FLT_LOG2
  ⟨0x018, 1, 4, 0x0, 0x0, 0x0, 0x0⟩,  -- FLT_TIER
  ⟨0x01C, 1, 4, 0x0, 0x0, 0x0, 0x0⟩,  -- FLT_CNT
  ⟨0x020, 1, 4, 0x0, 0x0, 0x0, 0x0⟩,  -- FLT_ACTDONE
  ⟨0x024, 1, 4, 0x0, 0x0, 0x0, 0x0⟩,  -- FLT_REPORT
  ⟨0x028, 1, 4, 0x0, 0x0, 0x0, 0x0⟩,  -- FLT_KICK
  ⟨0x040, 11, 4, 0x3E8, 0x8000FFFF, 0x0, 0x0⟩]  -- FLT_WDG

/-- Rows of TST. -/
def rowsTst : List RegRow := [
  ⟨0x000, 1, 4, 0x0, 0x0, 0x0, 0x0⟩,  -- TST_CTRL
  ⟨0x004, 1, 4, 0x1, 0xF3, 0x0, 0x0⟩,  -- TST_CFG
  ⟨0x008, 1, 4, 0x400000, 0xFFFF7F3F, 0x0, 0x0⟩,  -- TST_ARG
  ⟨0x00C, 1, 4, 0x40, 0x7FF, 0x0, 0x0⟩,  -- TST_LEN
  ⟨0x010, 1, 4, 0x5555AAAA, 0xFFFFFFFF, 0x0, 0x0⟩,  -- TST_FIXED
  ⟨0x014, 1, 4, 0x0, 0xFFFFFFFF, 0x0, 0x0⟩,  -- TST_COUNT
  ⟨0x018, 1, 4, 0x0, 0xFFFFFFFF, 0x0, 0x0⟩,  -- TST_ERRMAX
  ⟨0x01C, 1, 4, 0x0, 0x0, 0x0, 0x0⟩,  -- TST_STAT
  ⟨0x020, 1, 4, 0x0, 0x0, 0x0, 0x0⟩,  -- TST_UNITS
  ⟨0x024, 1, 4, 0x0, 0x0, 0x0, 0x0⟩,  -- TST_ERRS
  ⟨0x028, 1, 4, 0x0, 0x0, 0x0, 0x0⟩,  -- TST_LOST
  ⟨0x02C, 1, 4, 0x7F7F, 0x0, 0x0, 0x0⟩]  -- TST_RXQ

/-- Rows of ENG. -/
def rowsEng : List RegRow := [
  ⟨0x000, 1, 4, 0x102, 0x0, 0x0, 0x0⟩,  -- ENG_ISAVER
  ⟨0x004, 1, 4, 0x0, 0x0, 0x0, 0x0⟩,  -- ENG_STATE0
  ⟨0x008, 1, 4, 0x0, 0x0, 0x0, 0x0⟩,  -- ENG_STATE1
  ⟨0x00C, 1, 4, 0x1, 0x1F00, 0x0, 0x0⟩,  -- ENG_LSCFG
  ⟨0x010, 1, 4, 0x0, 0x0, 0x0, 0x0⟩,  -- ENG_CMD
  ⟨0x040, 16, 4, 0x0, 0x0, 0x0, 0x0⟩,  -- ENG_CMDRES
  ⟨0x080, 12, 4, 0x0, 0x0, 0x0, 0x0⟩,  -- ENG_DBELL
  ⟨0x0C0, 5, 4, 0x0, 0x0, 0x0, 0x0⟩,  -- ENG_LSCNT
  ⟨0x100, 1, 4, 0x0, 0x0, 0x0, 0x0⟩,  -- ENG_CAUSE_SELF
  ⟨0x104, 1, 4, 0x0, 0x0, 0x0, 0x0⟩,  -- ENG_FADDR_SELF
  ⟨0x108, 1, 4, 0x0, 0x0, 0x0, 0x0⟩,  -- ENG_TRAPOP_SELF
  ⟨0x10C, 1, 4, 0x0, 0x0, 0xFFFF, 0x0⟩,  -- ENG_PEND_SELF
  ⟨0x110, 1, 4, 0x0, 0xFFFF, 0x0, 0x0⟩,  -- ENG_MASK_SELF
  ⟨0x114, 1, 4, 0x0, 0x0, 0x0, 0x0⟩,  -- ENG_CNT_SELF
  ⟨0x118, 1, 4, 0x0, 0x0, 0x0, 0x0⟩,  -- ENG_RBINV_SELF
  ⟨0x200, 12, 32, 0x0, 0x0, 0x0, 0x0⟩,  -- ENG_CAUSE
  ⟨0x204, 12, 32, 0x0, 0x0, 0x0, 0x0⟩,  -- ENG_FADDR
  ⟨0x208, 12, 32, 0x0, 0x0, 0x0, 0x0⟩,  -- ENG_TRAPOP
  ⟨0x20C, 12, 32, 0x0, 0x0, 0xFFFF, 0x0⟩,  -- ENG_PEND
  ⟨0x210, 12, 32, 0x0, 0xFFFF, 0x0, 0x0⟩,  -- ENG_MASK
  ⟨0x214, 12, 32, 0x0, 0x0, 0x0, 0x0⟩,  -- ENG_CNT
  ⟨0x218, 12, 32, 0x0, 0x0, 0x0, 0x0⟩]  -- ENG_RBINV

/-- Rows of SNS. -/
def rowsSns0 : List RegRow := [
  ⟨0x000, 1, 4, 0x0, 0x3, 0x0, 0x0⟩,  -- SNS_PD0_CFG
  ⟨0x004, 1, 4, 0x0, 0x0, 0x0, 0x0⟩,  -- SNS_PD0_DATA
  ⟨0x008, 1, 4, 0xFFFE0000, 0xFFFEFFFF, 0x0, 0x0⟩,  -- SNS_PD0_THR
  ⟨0x010, 1, 4, 0x0, 0x3, 0x0, 0x0⟩,  -- SNS_PD1_CFG
  ⟨0x014, 1, 4, 0x0, 0x0, 0x0, 0x0⟩,  -- SNS_PD1_DATA
  ⟨0x018, 1, 4, 0xFFFE0000, 0xFFFEFFFF, 0x0, 0x0⟩,  -- SNS_PD1_THR
  ⟨0x020, 1, 4, 0x14014040, 0xFE0FFFFF, 0x0, 0x0⟩,  -- SNS_PIR_CFG
  ⟨0x024, 1, 4, 0x10000, 0x0, 0x0, 0x0⟩,  -- SNS_PIR_DATA
  ⟨0x030, 1, 4, 0x0, 0x0, 0x0, 0x0⟩,  -- SNS_COMMIT
  ⟨0x100, 4, 32, 0x800, 0x0, 0x0, 0xF7F⟩,  -- SNS_PWM_CFG
  ⟨0x104, 4, 32, 0x1000, 0x0, 0x0, 0xFFFFFFFF⟩,  -- SNS_PWM_PER
  ⟨0x108, 4, 32, 0x0, 0xFFFF, 0x0, 0x0⟩,  -- SNS_PWM_DUTY
  ⟨0x10C, 4, 32, 0x0, 0x8700FFFF, 0x0, 0x0⟩,  -- SNS_PWM_ZCFG
  ⟨0x110, 4, 32, 0xFFFF0000, 0xFFFFFFFF, 0x0, 0x0⟩,  -- SNS_PWM_ZLVL
  ⟨0x200, 1, 4, 0x0, 0xFFFFFF, 0x0, 0x0⟩,  -- SNS_GPIO_DIR
  ⟨0x204, 1, 4, 0x0, 0xFFFFFF, 0x0, 0x0⟩,  -- SNS_GPIO_OUT
  ⟨0x208, 1, 4, 0x0, 0x0, 0x0, 0x0⟩,  -- SNS_GPIO_SET
  ⟨0x20C, 1, 4, 0x0, 0x0, 0x0, 0x0⟩,  -- SNS_GPIO_CLR
  ⟨0x210, 1, 4, 0x0, 0x0, 0x0, 0x0⟩,  -- SNS_GPIO_IN
  ⟨0x214, 1, 4, 0x55555555, 0xFFFFFFFF, 0x0, 0x0⟩,  -- SNS_GPIO_PULL0
  ⟨0x218, 1, 4, 0x5555, 0xFFFF, 0x0, 0x0⟩,  -- SNS_GPIO_PULL1
  ⟨0x21C, 1, 4, 0x0, 0x7F7F, 0x0, 0x0⟩,  -- SNS_GPIO_EV
  ⟨0x400, 8, 16, 0x10FA1020, 0xFFFFFFFF, 0x0, 0x0⟩,  -- SNS_SZ_CFG
  ⟨0x404, 8, 16, 0x0, 0xFFFF01FF, 0x0, 0x0⟩,  -- SNS_SZ_IDX
  ⟨0x408, 8, 16, 0x0, 0x0, 0x0, 0x0⟩]  -- SNS_SZ_STAT

/-- Rows of SNS. -/
def rowsSns1 : List RegRow := [
  ⟨0x40C, 8, 16, 0x0, 0x0, 0x0, 0x0⟩,  -- SNS_SZ_AGE
  ⟨0x480, 1, 4, 0x0, 0x0, 0x100, 0x0⟩]  -- SNS_SZSUM

/-- Rows of SNS. -/
def rowsSns : List RegRow := rowsSns0 ++ rowsSns1

/-- The rows of block number `k` (R18): the block at 0x4000_0000 + k × 0x1000. -/
def blockRows (k : Nat) : List RegRow :=
  if k = 0 then rowsSys
  else if k = 1 then rowsPwr
  else if k = 2 then rowsClk
  else if k = 3 then rowsFlc
  else if k = 4 then rowsEvf
  else if k = 5 then rowsRtc
  else if k = 6 then rowsSvr
  else if k = 7 then rowsCip
  else if k = 8 then rowsRfc
  else if k = 9 then rowsMdm
  else if k = 10 then rowsMac
  else if k = 11 then rowsShp
  else if k = 12 then rowsMer
  else if k = 13 then rowsHif
  else if k = 14 then rowsFlt
  else if k = 15 then rowsTst
  else if k = 16 then rowsEng
  else if k = 17 then rowsSns
  else []

/-- The row that holds offset `o`, if some register does. -/
def findRow : List RegRow → Nat → Option RegRow
  | [], _ => none
  | r :: rs, o =>
    if r.off ≤ o ∧ o < r.off + r.n * r.stride ∧ (o - r.off) % r.stride = 0 then some r else findRow rs o

/-- The row of the register at bus address `a` (R18, R33). -/
def regRow (a : Nat) : Option RegRow :=
  if 0x40000000 ≤ a ∧ a < 0x40012000 then findRow (blockRows ((a - 0x40000000) / 0x1000)) (a % 0x1000) else none

/-- The reset word of the register at `a`; 0 where no register stands (R33). -/
def resetWord (a : Nat) : Word :=
  match regRow a with
  | some r => BitVec.ofNat 32 r.reset
  | none => 0

end Sys2Proof.Machine
end

