-- ==== Sys2Proof/Machine/Sparse.lean ====
section
/-!
DEFINITION. Sparse stores: a list of (address, value) pairs with rising addresses that lists no value equal to what the
address holds unlisted. Memories (Host.Cell) and the register words use the same four functions.
-/
namespace Sys2Proof.Machine

/-- What address `a` holds: its listed value, else the default of `a`. -/
def spGet {α : Type} (d : Nat → α) : List (Nat × α) → Nat → α
  | [], a => d a
  | (b, v) :: r, a => if b = a then v else spGet d r a

/-- The store without an entry for `a`. -/
def spErase {α : Type} (a : Nat) : List (Nat × α) → List (Nat × α)
  | [] => []
  | (b, v) :: r => if b = a then spErase a r else (b, v) :: spErase a r

/-- The store with an entry for `a` put before the first larger address. -/
def spInsert {α : Type} (a : Nat) (v : α) : List (Nat × α) → List (Nat × α)
  | [] => [(a, v)]
  | (b, w) :: r => if a < b then (a, v) :: (b, w) :: r else (b, w) :: spInsert a v r

/-- Writes `v` to address `a`, keeping the canonical form. -/
def spSet {α : Type} [DecidableEq α] (d : Nat → α) (m : List (Nat × α)) (a : Nat) (v : α) : List (Nat × α) :=
  if v = d a then spErase a m else spInsert a v (spErase a m)

/-- The store with every entry whose address satisfies `p` returned to its default. -/
def spClear {α : Type} (p : Nat → Bool) : List (Nat × α) → List (Nat × α)
  | [] => []
  | (b, v) :: r => if p b then spClear p r else (b, v) :: spClear p r

/-- Canonical form: addresses strictly rising and no entry equal to its default. -/
def spWf {α : Type} [DecidableEq α] (d : Nat → α) (m : List (Nat × α)) : Bool :=
  decide (m.Pairwise (fun p q => p.1 < q.1)) && m.all (fun p => decide (p.2 ≠ d p.1))

/-- The `n`-th item of a list changed by `f` (the list as it stands where `n` lies outside it). -/
def modifyNth {α : Type} (f : α → α) : Nat → List α → List α
  | _, [] => []
  | 0, x :: r => f x :: r
  | n + 1, x :: r => x :: modifyNth f n r

end Sys2Proof.Machine
end

