-- ==== Sys2Proof/Config.lean ====
section
/-!
DEFINITION. What one device fixes and the values the spec leaves open. An opaque constant has no body, so nothing can be
proved of its value: a statement that holds in the model holds whatever it is.
-/
namespace Sys2Proof.Config

/-- A fresh free value: the argument is `State.free`, which every use advances (log entry 3). -/
opaque freeValue : Nat → Nat

/-- What a byte of a shared-SRAM bank reads as after the bank has lost its contents for the `g`-th time (R445). -/
opaque lostByte : Nat → Nat → Byte

/-- The EUI-64 of the device, from fuses (R480). -/
opaque eui64 : BitVec 64

/-- The device key of key slot 15, from fuses: byte by byte (R389). -/
opaque deviceKey : Nat → Byte

/-- Bytes 16 to 23 of a subkey of a 192-bit wrapping key, which R393 does not give (log entry 21): by the subkey's first byte
and the key. -/
opaque subkeyTail : Byte → List Byte → Nat → Byte

/-- A byte of the TCM of engine `e` after E2 has loaded vendor firmware into it (R23, log entry 22). -/
opaque vendorTcm : Nat → Nat → Byte

/-- Airtime in TCLK cycles of a frame in a compatibility mode, by mode, PARAM and PSDU length (R109, R110, log entry 24). -/
opaque stdAirtime : Nat → Nat → Nat → Nat

/-- TCLK cycles from the first sample of a compatibility frame to the start of its PHR, by mode and PARAM (R117). -/
opaque stdPreamble : Nat → Nat → Nat

/-- The transmit frequency tolerance in 1/512 ppm, rounded down, that IEEE 802.15.4-2020 sets for a SUN PHY, by mode, PARAM (the rate)
and frequency word of the channel (the band), which R560 doubles. -/
opaque stdTolerance : Nat → Nat → Nat → Nat

/-- The options of a compatibility frame that neither the descriptor of R166 nor R209 gives: data whitening and preamble octets of
MODE_FSK, by PARAM, and the MCS of MODE_OFDM, by PARAM and RATE (R143, log entry 93). -/
opaque stdWhitening : Nat → Bool
opaque stdPreambleOctets : Nat → Nat
opaque stdMcs : Nat → Nat → Nat

/-- The correction of an estimate for the fixed receive-path gain (R146), by band and chain: a received unit at gain index 0 is this
mantissa times a power of two of the unit of R146. -/
opaque rxGain : Band → Bool → Nat × Int

/-- The ratio of R146 and R559 in steps of 0.25 dB where both its terms are 0, before it is brought to 254 at most. -/
opaque zeroRatio : Nat

/-- The squared error of R559, in 1/2^64, on a loaded tone whose estimate is 0: by the point and the received value. -/
opaque deadTone : Int × Int → Int × Int → Nat

/-- The key slot in which the mesh firmware keeps the join key, before it is brought below 15 (R229). -/
opaque joinSlotPick : Nat

/-- The first of the two key slots of the mesh keys, before it is brought below 14 (R242, R394). -/
opaque meshSlotPick : Nat

/-- PWR_WAKEMARG of R441 in LFCLK ticks, whose register the spec does not give. -/
opaque wakeMarg : Nat

/-- CFG and TASK that vendor firmware writes to event channels 56 to 63 (R353); OWNER and SEC are as the rule says. -/
opaque vendorChan : Nat → BitVec 32 × BitVec 32

/-- The user image at a window address with a length passes the checks of vendor firmware (R26). -/
opaque imageValid : List Byte → Bool

/-- Version of vendor firmware after `n` signed updates (R500). -/
opaque fwVersion : Nat → BitVec 32

/-- The commissioned XO40 trim of vendor firmware's flash records (R452). -/
opaque ctrim : BitVec 6

/-- Vendor firmware's flash records: bank, first block and count of each area (R364, R500). -/
opaque recordAreas : List (BitVec 8 × BitVec 8 × BitVec 8)

/-- The 8-byte header H of R393 under which the host's wraps are made (log entry 30). -/
opaque hostHeader : BitVec 64

/-- The policy word of the join key's slot (R229). -/
opaque joinPolicy : BitVec 32

/-- What the manager's firmware plans in round `r` for the node with a short address: the word of the SHP register at an address,
below 2^32, or a choice of its own above (R247, R250). -/
opaque planned : Nat → Nat → Nat → BitVec 32

/-- The count of one exchange of the frames of an Assured flow in phase units, less 1: the request gives no frame length (R479, R500). -/
opaque assuredCount : Nat → Nat

/-- The ten SECDED check bits of a code word with 256 data bits (R360). -/
opaque eccBits : Nat → BitVec 10

/-- An instruction that names X beside `[X+]`, or Y beside `[-Y]`, reads the register after its update, ST X, [X+] apart (log entry 35). -/
opaque autoReadsNew : Bool

/-- The update of X in `[X+]`, or of Y in `[-Y]`, stands where the operation writes the same register (log entry 35). -/
opaque autoWritesLast : Bool

end Sys2Proof.Config
end

