-- ==== Sys2Proof/Machine/State.lean ====
section
/-!
DEFINITION. The state of the PK7412 as plain data: the register words, the memories, what each block holds besides its
registers, and the queue of waiting commands. Every name says the rule that gives the machine that state.
-/
namespace Sys2Proof.Machine

/-- Why a command stops the machine. -/
inductive Fault where
  /-- Raised by no meaning: the spec lets the device go on after every one of its commands. Safe. -/
  | stuck
deriving DecidableEq, Repr

/-- Why a command is turned away. -/
inductive Refusal where
  /-- Raised by exec for a command that has no meaning yet. Safe: it stops where the hardware goes on. -/
  | notModelled (mnemonic : String)
deriving DecidableEq, Repr

/-! ### Things that stand once in each band -/

/-- One value for each band (R78). -/
structure PerBand (α : Type) where
  sg  : α
  g24 : α
deriving DecidableEq, Repr

/-! ### Engines (10_gosor_engines.md, 11_gosor_instruction_set.md) -/

/-- The engine states of R297. -/
inductive EngState where
  | reset | run | wait | halt | restart | stopped | paired
deriving DecidableEq, Repr

/-- The programmer's registers of R313. -/
structure GRegs where
  a : Word
  x : Word
  y : Word
  s : Word
  p : Word
  f : Word
deriving DecidableEq, Repr

/-- A load whose register is not written yet (R328). -/
structure PendLoad where
  reg : GReg
  val : Word
deriving DecidableEq, Repr

/-- What a vector entry of priority 2 to 4 records: CODE, FADDR and, for a trap, the base word (R304, R312). -/
structure VecCause where
  code  : Nat
  faddr : Word
  op    : Option (BitVec 16) := none
deriving DecidableEq, Repr

/-- The access at which an instruction waits, by its address: held in a Strait or for the die (R377, R460), or answered with a bus error by
a reset of the far side (R25, R461); `conseq` tells that FLT's own action was that reset (R470). -/
inductive Access where
  | held (a : Word)
  | failed (a : Word) (conseq : Bool)
deriving DecidableEq, Repr

/-- A vector entry whose pushes wait behind a write that a Strait holds (R22, R304): priority, vector and cause, and whether P is pushed. -/
structure Entering where
  pri    : Nat
  vec    : Word
  cause  : Option VecCause
  pushed : Bool
deriving DecidableEq, Repr

/-- What one engine holds (R293, R297, R308, R309, R313, R328). -/
structure Engine where
  /-- State of R297. -/
  st      : EngState
  /-- The state that HALT left, to which RESUME returns (R298). -/
  left    : EngState
  g       : GRegs
  /-- The load within its delay (R328). -/
  load    : Option PendLoad
  /-- Addresses of flushed register writes whose faults wait for the next boundary, oldest first (R305). -/
  flushed : List Word
  /-- The access that holds the instruction at P back (R377, R460, R461). -/
  access  : Option Access
  /-- A vector entry under way that waits (R22, R304). -/
  entering : Option Entering
  /-- A HALT command waits for the next boundary (R298). -/
  haltWant : Bool
  /-- Undo logs of a lockstepped pair, held at its even engine: word offset, old word of the even engine's TCM and old word of the odd
  engine's, newest first (R308). -/
  undo    : List (Nat × Word × Word)
  /-- Checkpoint registers and pending load (R309). -/
  ckpt    : GRegs
  ckLoad  : Option PendLoad
  /-- A mismatch has come since the last new checkpoint (R310). -/
  mmSince : Bool
  /-- The pair enters the mismatch vector when the restore completes (R310). -/
  mmVec   : Bool
  /-- TCLK count at which the engine entered WAIT, HALT, RESET or STOPPED (R438). -/
  idleFrom : Nat
  /-- The engine is idle (R438). -/
  idle    : Bool
  /-- TCM bytes, offsets 0 to 65,535 (R293). -/
  tcm     : List Host.Cell
  /-- E2 has loaded vendor firmware into the TCM, whose bytes the spec does not give (log entry 22). -/
  vendor  : Bool
  /-- TCM word offsets whose check bits show an error; true: double-bit (R294). -/
  tcmErr  : List (Nat × Bool)
  /-- Flash read buffer: line addresses with their 32 bytes, most recently used first (R293, R295). -/
  rbuf    : List (Nat × List Byte)
deriving DecidableEq, Repr

/-- A command that ENG carries out and whose result is PENDING (R301). -/
inductive EngJob where
  | load (target : Nat) (src dst len : Nat)
  | halt (target : Nat)
deriving DecidableEq, Repr

/-! ### Event fabric (12_event_fabric.md) -/

/-- A pulse on its way to a task, with what a capture of it records (R342, R344). -/
structure Pulse where
  task  : Nat
  /-- Source number, 0xFF for a software fire. -/
  src   : Nat
  ts    : Nat
  cyc   : Nat
  ph    : Nat
  /-- Channels whose pulse this is (R345 counts MERGED on them). -/
  chans : List Nat
deriving DecidableEq, Repr

/-- A capture register set before its latch (R344). -/
structure Capture where
  new : Bool
  ovr : Bool
  src : Nat
  ts  : Nat
  cyc : Nat
  ph  : Nat
deriving DecidableEq, Repr

/-- A pulse in a source crossing (R342, R345, R346): its source, the TCLK count at which it enters the fabric, and the one at which its
acknowledge is back. While TCLK stands still neither comes. -/
structure SrcPulse where
  src    : Nat
  enter  : Nat
  until_ : Nat
deriving DecidableEq, Repr

/-- EVF beside its registers. -/
structure Evf where
  /-- Pulses that have left the fabric, oldest first (R342). -/
  fly     : List Pulse
  /-- Pulses pending behind one in flight, at most one for each crossing (R345). -/
  held    : List Pulse
  /-- Tasks whose crossing waits for the acknowledge of a pulse delivered, with the TSTAMP at which it is back (R345). -/
  acks    : List (Nat × Nat)
  /-- Pulses in the source crossings, in the order in which they enter; of one source the second is the one pending (R345). -/
  srcs    : List SrcPulse
  caps    : List Capture
  /-- TSTAMP of the TCLK cycle that the fields below concern (R347). -/
  at_     : Nat
  /-- Sources of the timing domain that have pulsed in the cycle. -/
  pulsed  : List Nat
  /-- Channels that a source, or a software fire, has fired in the cycle. -/
  hard    : List Nat
  soft    : List Nat
  /-- Tasks whose pulse of the cycle was merged at its crossing. -/
  merged  : List Nat
  /-- Configuration words that were written in the cycle, by address, as they stood before it. -/
  was     : List (Nat × Word)
  /-- Group bits that group tasks have set and cleared in the cycle. -/
  grpSet  : Nat
  grpClr  : Nat
deriving DecidableEq, Repr

/-! ### Faults and starts (18_faults_and_restart.md) -/

/-- A log entry of R472 and R481. -/
structure LogEntry where
  status : Nat
  code   : Nat
  region : Nat
  conseq : Bool
  /-- State of R472: 0 LOGGED, 1 QUEUED, 2 ACTIVE, 3 DONE, 4 ESCALATED. -/
  state  : Nat
  tier   : Nat
  owner  : Nat
  addr   : Nat
  cycle  : Nat
  /-- Order of writing: a larger number is newer (R472). -/
  age    : Nat
deriving DecidableEq, Repr

/-- An episode of R467: its tier and the time of the region's last fault. -/
structure Episode where
  tier : Nat
  last : Nat
deriving DecidableEq, Repr

/-- An action of R466 that is queued or active, with its log entry. -/
structure Action where
  region : Nat
  tier   : Nat
  entry  : Nat
deriving DecidableEq, Repr

/-- FLT beside its registers. -/
structure Flt where
  log      : List LogEntry
  written  : Nat
  episodes : List (Option Episode)
  active   : Option Action
  /-- TCLK count at which the active action began (R465, RECTMO). -/
  activeAt : Nat
  /-- The time passed in SLEEP, in TCLK cycles: with the TCLK count, the time that WIN is held against (R467, R471). -/
  slept    : Nat
  queue    : List Action
  /-- RTC_TICK of the COLD_STARTs of R471, newest first. -/
  colds    : List Nat
  /-- Time at the end of the last WARM_START (R471). -/
  warmEnd  : Option Nat
  /-- TCLK cycles counted by each watchdog (R474). -/
  wdg      : List Nat
deriving DecidableEq, Repr

/-- The start path (R17, R476). -/
inductive StartPath where
  | cold | warm | safe
deriving DecidableEq, Repr

/-- A start under way (R455, R477): nothing, or its path and whether the clocks and the scan are waited for. -/
inductive StartPhase where
  /-- SYS_BOOT.DONE = 1, or no power. -/
  | none
  /-- The clocks are starting (R455). -/
  | clocks
  /-- The scan of R375 runs (step 2). -/
  | scan
  /-- Steps 9 and 10: the blocks are configured and Meridian is awaited. -/
  | meridian
deriving DecidableEq, Repr

/-! ### Power and clocks (16_power_states.md, 17_clocks_and_straits.md) -/

/-- The power states of R436, and no power at all. -/
inductive PowerState where
  | off | run | doze | sleep | standby | backupCmd | backupBrown
deriving DecidableEq, Repr

/-- A level change of R433: the next step to complete (1 to 4 in carrying order) and the levels it joins. -/
structure LevelChange where
  done   : Nat
  rising : Bool
  vFrom  : Nat
  vTo    : Nat
  fFrom  : Nat
  fTo    : Nat
deriving DecidableEq, Repr

/-- PWR beside its registers. -/
structure Pwr where
  st        : PowerState
  change    : Option LevelChange
  /-- The next target, VCORE and FENG (R434). -/
  nextLevel : Option (Nat × Nat)
  /-- TCLK count at which DOZE was entered (R439). -/
  dozeFrom  : Nat
  /-- Steps 1 and 2 of R442 are done and the edge of step 3 is awaited. -/
  entering  : Bool
  /-- A condition of R439 has failed since the entry began (R442). -/
  failed    : Bool
  /-- The entry goes to STANDBY (R440). -/
  toStandby : Bool
  /-- PWR_CTRL.OFF has been written and its conditions are awaited (R447). -/
  offWanted : Bool
  /-- Band enables recorded at step 2 of R442. -/
  bands     : Bool × Bool
  /-- RTC_TICK at which the clocks stopped (R67). -/
  tickAt    : Nat
  /-- Enabled wake sources that have come and are not yet taken, by their bits (R448). -/
  wakeReq   : Nat
  /-- Engines whose TCM is being cleared after a wake (R445). -/
  clearing  : List Nat
  /-- The flash die is powered (R442, R443). -/
  flashOn   : Bool
  /-- A wake from SLEEP is under way (R443). -/
  waking    : Bool
  /-- AUTOTMR found no next activity: no wake instant is due (R441). -/
  noTimer   : Bool
deriving DecidableEq, Repr

/-! ### Calendar and Atoll domain (15_calendar_and_atoll.md) -/

/-- A date and time of R416, in plain numbers (the registers show them in BCD). -/
structure Calendar where
  year  : Nat
  month : Nat
  day   : Nat
  hour  : Nat
  min   : Nat
  sec   : Nat
deriving DecidableEq, Repr

/-- The parts of a set of R421 that RTC_SETCMD named, with the staging registers copied. -/
structure RtcSet where
  date    : Bool
  time    : Bool
  alarm   : Bool
  setTime : Word
  setDate : Word
  almTime : Word
  almDate : Word
  almCfg  : Word
deriving DecidableEq, Repr

/-- A transfer on its way into the Atoll domain (R21, R460): a register write with its master, address and word; bytes 4 to 29 of the
backup RAM from MER (R69, R414); a read of the register at `a` by RTC_TIME_READ or STMP_SUB_READ. -/
inductive HeldItem where
  | write (m : Master) (a : Nat) (v : Word)
  | record (bs : List Byte)
  | read (a : Nat)
deriving DecidableEq, Repr

/-- RTC and the Atoll domain beside their registers. -/
structure Rtc where
  cal      : Calendar
  /-- Prescaler: ticks since the second began (R416). -/
  sub      : Nat
  /-- Ticks that the present second lasts (R425). -/
  secLen   : Nat
  /-- Trim accumulator (R425). -/
  acc      : Nat
  /-- RTC_TICK, 48 bits (R419). -/
  tick     : Nat
  /-- The alarm in force, as last applied: ALMTIME, ALMDATE, ALMCFG (R420, R424). -/
  almTime  : Word
  almDate  : Word
  almCfg   : Word
  /-- Ticks counted by the interval alarm since it was set or last fired (R424). -/
  almCount : Nat
  /-- The set that waits for the next LFCLK edge (R421). -/
  pend     : Option RtcSet
  /-- Parts set since TLOST became 1 (R412). -/
  dateSet  : Bool
  timeSet  : Bool
  /-- Backup RAM, 64 bytes (R413). -/
  bkup     : List Byte
  /-- Transfers that the Strait into the Atoll domain holds, oldest first; an LFCLK edge takes one (R21, R413, R458, R462). -/
  held     : List HeldItem
  /-- Both supplies lie below their thresholds, and the consecutive low samples (R410). -/
  isLow    : Bool
  low      : Nat
  /-- The domain is powered (R410, R411), and LFCLK is valid (R453). -/
  powered  : Bool
  lf       : Bool
  /-- The stamp held before its latch: calendar, prescaler (R428). -/
  stamp    : Calendar × Nat
  stampNew : Bool
  stampOvr : Bool
deriving DecidableEq, Repr

/-! ### Meridian (02_meridian_timebase.md) -/

/-- A sync point waiting for the next slot boundary (R62): the error and whether it is the first one of R64. -/
structure SyncPoint where
  /-- Error e in phase units (R61), signed. -/
  e      : Int
  /-- Meridian instant of its reference: cycle × 65,536 + phase. -/
  ref    : Nat
deriving DecidableEq, Repr

/-- The step of R64: the parent's cycle count and phase at the TSTAMP `at_`, and its increment. -/
structure MerStep where
  cyc : Nat
  ph  : Nat
  at_ : Nat
  inc : Nat
  /-- ERR to record: e, or 0x8000 when the stamp lay out of range. -/
  err : Nat
deriving DecidableEq, Repr

/-- MER beside its registers. -/
structure Mer where
  /-- Cycle count (bits 79:48) and the 48-bit accumulator of R43 (bits 47:0). -/
  time     : Nat
  /-- TSTAMP, 64 bits (R65). -/
  tstamp   : Nat
  /-- Fraction of a TCLK cycle carried through the stops of R67, in 1/65,536. -/
  frac     : Nat
  /-- Absolute number (cycle × 8 + slot) of the last slot boundary raised (R63). -/
  slot     : Nat
  /-- Cycle count of the last cycle boundary raised (R63). -/
  cyc      : Nat
  /-- Consecutive valid edges since the last break (R52). -/
  valid    : Nat
  /-- The phase has been stepped in this ACQUIRE (R52, R53). -/
  stepped  : Bool
  /-- Consecutive edges or sync points in tolerance (R52). -/
  good     : Nat
  /-- TSTAMP and cycle count at entry to the present state (R52). -/
  since    : Nat
  sinceCyc : Nat
  /-- Reference instant of the present edge window, in TSTAMP, once there is one (R55). -/
  refEdge  : Option Nat
  /-- The last valid intervals in TCLK cycles, newest first, at most 8 (R56). -/
  ivals    : List Nat
  /-- The manager has been LOCKED (R60). -/
  wasLocked : Bool
  /-- TSTAMP of the last move of the rate (R58, R59). -/
  rateAt   : Nat
  /-- Pending sync point: step and rate changes (R62). -/
  pendStep : Option Int
  pendRate : List SyncPoint
  /-- Reference instant of the last applied rate change, or of the step (R62). -/
  rateRef  : Option Nat
  /-- Pending step of R64. -/
  pendSet  : Option MerStep
  /-- LFCLK ticks and TCLK count at the start of the measurement of R68. -/
  lfTick   : Nat
  lfTclk   : Nat
  /-- MER takes the snapshot of its record at the next LFCLK edge (R69, R414). -/
  recDue   : Bool
deriving DecidableEq, Repr

/-! ### Radio front end (03_radio_front_end.md) -/

/-- The radio states of R90, in the order of their codes 0 to 7. -/
inductive BandState where
  | off | ready | rx | hop | cal | turnTx | tx | turnRx
deriving DecidableEq, Repr

/-- An entry of a calibration table (R82). -/
structure CalEntry where
  /-- 0 INVALID, 1 VALID, 2 STALE. -/
  state : Nat
  freq  : Nat
  /-- Die temperature at the last calibration, signed 0.25 °C. -/
  tcal  : Int
  /-- Tuning codes of the synthesiser. -/
  codes : Nat
deriving DecidableEq, Repr

/-- An entry of the offset table (R100). -/
structure Offset where
  ofs   : Int
  set   : Bool
  corr  : Bool
  /-- Aerial of the last accepted frame in each band: none, A (false) or B (true). -/
  antSg : Option Bool
  ant24 : Option Bool
deriving DecidableEq, Repr

/-- A calibration in progress: its entry, whether RFC started it by itself (R86), and the entry as it was (R88). -/
structure CalRun where
  entry : Nat
  auto  : Bool
  prev  : CalEntry
deriving DecidableEq, Repr

/-- A command of RFC_CALCMD that runs or waits (R87). -/
structure CalCmd where
  band   : Band
  op     : Nat
  /-- Entries still to calibrate, the one in progress first; with OP = 2 they are known once the command has started (R87). -/
  left   : List Nat
  failed : Bool
  /-- The command has started: the band was in RX or READY. -/
  begun  : Bool
deriving DecidableEq, Repr

/-- What a transmission is (R167, R169). -/
inductive TxKind where
  | frame | ack
deriving DecidableEq, Repr

/-- A transmission from the start of its turn to the end of its ramp down (R92). -/
structure TxJob where
  kind    : TxKind
  /-- TSTAMP of S, the start of the turn. -/
  start   : Nat
  entry   : Nat
  /-- Frequency word with the offset correction (R92, R102). -/
  word    : Nat
  /-- true: aerial B (R96). -/
  aerialB : Bool
  /-- Power in 0.5 dB steps after the clamps of R94. -/
  power   : Int
  /-- Ramp in TCLK cycles (R95), and TSTAMP at which the ramp down begins (E of R92, or the reference instant of R403). -/
  ramp    : Nat
  symEnd  : Nat
  /-- The ramp up has begun. -/
  onAir   : Bool
  /-- The ramp down has begun. -/
  down    : Bool
deriving DecidableEq, Repr

/-- RFC for one band beside its registers. -/
structure BandRadio where
  st       : BandState
  /-- State in which HOP or CAL was entered and to which it returns, rx or ready (R91). -/
  back     : BandState
  /-- The band is on its way from OFF to READY (R91). -/
  starting : Bool
  /-- The 24 µs to the streaming of the receive chains run, from READY (R91) or after a calibration (R85). -/
  opening  : Bool
  /-- Entry the synthesiser is locked on. -/
  locked   : Nat
  /-- Entry a hop goes to and entry it left (R84, R91). -/
  hopTo    : Nat
  hopFrom  : Nat
  /-- The lock of the turn under way is confirmed (step 2 of R92). -/
  lockOk   : Bool
  /-- The hop under way is the hop back of R91. -/
  hopBack  : Bool
  /-- A receive-window entry waits for RX or READY (R107). -/
  needHop  : Bool
  /-- The enable bit was cleared in TX: OFF follows the ramp down (R91). -/
  offAfter : Bool
  cal      : Option CalRun
  tx       : Option TxJob
  /-- TSTAMP at which the span of 24 µs in progress began: TURN_RX, or the opening of the receive chains (R85, R91). -/
  since    : Nat
  /-- TSTAMP at which the band last left TURN_TX, TX or TURN_RX (R192). -/
  turnEnd  : Option Nat
deriving DecidableEq, Repr

/-- RFC beside its registers. -/
structure Rfc where
  bands   : PerBand BandRadio
  /-- Calibration tables, entries that differ from the reset plan of R83. -/
  cals    : PerBand (List (Nat × CalEntry))
  cmd     : Option CalCmd
  /-- Offset table, entries that differ from a cleared one (R100). -/
  offsets : List (Nat × Offset)
  /-- RFC_CALDEF or RFC_CALFREQ has been written since the last accepted commit (R107). -/
  defSet  : Bool
  /-- Entry and TSTAMP of the last write through RFC_FODATA (R104). -/
  foWrite : Option (Nat × Nat)
deriving DecidableEq, Repr

/-! ### Modem (04_modem.md) -/

/-- The channel states of R114, in the order of their codes 0 to 6. -/
inductive ChanState where
  | disabled | search | select | sync | header | payload | blanked
deriving DecidableEq, Repr

/-- The equaliser of a channel (R144): the LMS exponent MU latched at the detection, the eight feed-forward taps and the four feedback
taps in 1/65,536 (real and imaginary part). -/
structure Dfe where
  mu : Nat
  ff : List (Int × Int)
  fb : List (Int × Int)
deriving DecidableEq, Repr

/-- A key slot (R384). -/
structure KeySlot where
  loaded : Bool
  key    : List Byte
  /-- 0 128-bit, 1 192-bit, 2 256-bit. -/
  klen   : Nat
  /-- The policy word in the layout of CIP_KPOL. -/
  pol    : Nat
  kcv    : Nat
deriving DecidableEq, Repr

/-- One receive channel. -/
structure Chan where
  st      : ChanState
  /-- TSTAMP of the detection (R98). -/
  det     : Nat
  /-- The short preamble form was detected (R125). -/
  short   : Bool
  /-- Aerial chosen for the frame (true: B), and the one that won the previous frame (R98). -/
  aerialB : Bool
  lastWon : Option Bool
  /-- Derotator start in 1/256 ppm (R102). -/
  derot   : Int
  /-- The equaliser of the frame; none when it is off (R144). -/
  dfe     : Option Dfe
  /-- Length of the PSDU that the header gives, and its MAPID or MCS (R118, R126). -/
  len     : Nat
  mapid   : Nat
  /-- LDPC rate of a MODE_SL frame (R126). -/
  rate    : Nat
  /-- SCRSEED of a MODE_SL frame (R126). -/
  seed    : Nat
  /-- Map latched for the frame (R138): none for the uniform map. -/
  map     : Option (List Nat)
  /-- The header's map had no slot: the payload cannot be decoded (R138). -/
  noMap   : Bool
  /-- The PHR names the 4-byte FCS (R110). -/
  fcs32   : Bool
  /-- The key slots of CIP as the payload began: an Accept latches its key when it starts (R388, R404). -/
  keys    : List KeySlot
  /-- Reference instant in TSTAMP and its Meridian time (R117). -/
  refTs   : Nat
  refMer  : Nat
deriving DecidableEq, Repr

/-- A symbol as the modulator sends it: for each tone that it uses, in increasing order, the tone's number, the square of the
divisor, and its levels on the two axes (R120, R122, R123, R133). -/
abbrev Symbol := List (Int × Nat × Int × Int)

/-- MDM beside its registers, and the map state of the link-sequencing firmware. -/
structure Mdm where
  chans   : PerBand (List Chan)
  /-- Records written to the sounding buffer, modulo 65,536 (R145). -/
  recs    : Nat
  /-- Records that readers 0 and 1 have not passed (R148). -/
  unread0 : Nat
  unread1 : Nat
  /-- SCRSEED of the next MODE_SL frame sent (R130). -/
  seed    : Nat
  /-- Symbols of the last MODE_SL frame sent in each band, from the preamble on (R122 to R124, R128, R132). -/
  sent    : PerBand (List Symbol)
  /-- Per neighbour × 2 + band: the 96 means A_d in 0.25 dB, once measured (R139). -/
  means   : List (Nat × List Nat)
  /-- Per neighbour × 2 + band: cycle of the last map update and MAPID awaited (R140). -/
  updates : List (Nat × (Nat × Option Nat))
deriving DecidableEq, Repr

/-! ### Link layer (05_link_layer.md) -/

/-- The duplicate window of R176. -/
structure DupWin where
  valid : Bool
  top   : Nat
  bits  : Nat
  ctr   : Nat
deriving DecidableEq, Repr

/-- The link states of R185, in the order of their codes. -/
inductive LinkState where
  | normal | recovery | listen | lost
deriving DecidableEq, Repr

/-- A neighbour entry (R164). -/
structure Nbr where
  valid   : Bool
  parent  : Bool
  cls     : Nat
  key1    : Nat
  key0    : Nat
  short   : Nat
  eui     : Nat
  /-- EUI-64 written for the next NBCFG write (R165). -/
  euiNew  : Nat
  ackPwr  : Nat
  link    : LinkState
  missed  : Nat
  /-- Meridian time of the last contact, cycle × 65,536 + phase. -/
  last    : Nat
  err     : Nat
  dups    : Nat
  win     : DupWin
  /-- Transmit sequence counter (R167). -/
  txSeq   : Nat
deriving DecidableEq, Repr

/-- What a check of R188 found and the ramp up charges: the overlapped accumulators, and the on-time in 16 µs units and in µs (R191). -/
structure Duty where
  accs  : List Nat
  units : Nat
  us    : Nat
deriving DecidableEq, Repr

/-- The frame attempt under way in a band, from its share to its end (R167, R168, R173). -/
structure Attempt where
  /-- Descriptor address of the frame. -/
  desc    : Nat
  unicast : Bool
  beacon  : Bool
  nb      : Nat
  seq     : Nat
  /-- Secured, with the key slot's key latched at the Seal, the KID and the counter (R156, R157, R388). -/
  secured : Bool
  key     : List Byte
  kid     : Nat
  ctr     : Nat
  /-- Family: true for native. -/
  own  : Bool
  short   : Bool
  /-- LDPC rate of a MODE_SL frame (R126). -/
  rate    : Nat
  mode    : Nat
  param   : Nat
  power   : Int
  entry   : Nat
  /-- Airtime, preamble and expected time from E to the end of the acknowledgement, in TCLK cycles. -/
  air     : Nat
  pre     : Nat
  tail    : Nat
  /-- TSTAMP of S (R202). -/
  start   : Nat
  /-- Number of its Seal in the order of R401. -/
  sealNo  : Nat
  /-- CIP's computation is done, or none is needed (R402). -/
  sealed  : Bool
  /-- The two passes of CIP disagreed after the turn had begun (R37). -/
  spoilt  : Bool
  /-- An exchange of the band holds the turn back (R172). -/
  waitEx  : Bool
  /-- The turn has begun (R92), and the ramp up (R168). -/
  turned  : Bool
  radiated : Bool
  /-- The last symbol has ended and the acknowledgement is awaited (R173). -/
  waiting : Bool
  /-- A preamble has been detected in time on the slot (R173). -/
  seen    : Bool
  /-- TSTAMP of E and of the reference instant (R117). -/
  endTs   : Nat
  refTs   : Nat
  /-- Header with its CTR, payload, security level, and the FCS-bearing bytes once sealed. -/
  hdr     : List Byte
  body    : List Byte
  level   : Nat
  psdu    : List Byte
  /-- MAPID and loaded map that MDM fetched for the frame (R138); none for the uniform map. -/
  map     : Option (Nat × List Nat)
  /-- What the check of R188 found: accumulators, on-time in 16 µs units and in µs. -/
  duty    : Duty
deriving DecidableEq, Repr

/-- An acknowledgement exchange of a receiver, from E_r to the end of its turn back (R169, R171). -/
structure AckExch where
  chan     : Nat
  /-- TSTAMP of E_r, and of S, the start of the turn (R169, R175). -/
  er       : Nat
  start    : Nat
  nb       : Nat
  seq      : Nat
  secured  : Bool
  kid      : Nat
  ctr      : Nat
  own   : Bool
  /-- An Enh-Ack of the standard family (R163). -/
  enh      : Bool
  short    : Bool
  mode     : Nat
  param    : Nat
  entry    : Nat
  /-- Airtime in TCLK cycles, and what the check of R188 found at E_r. -/
  air      : Nat
  duty     : Duty
  /-- The turn has begun; the ramp up has begun. -/
  turned   : Bool
  radiated : Bool
  /-- Outcome of R170 once decided: 0 ACCEPTED, 1 DUP, 2 BUSY, 3 REJECT; and the bytes of the acknowledgement. -/
  ackst    : Option Nat
  psdu     : List Byte
deriving DecidableEq, Repr

/-- A reception that MAC is judging (R182). -/
structure Rx where
  chan    : Nat
  /-- Receive report of R118, 16 bytes, and the mode. -/
  report  : List Byte
  mode    : Nat
  /-- The frame was decoded with a loaded map, by its MAPID (R138, R140). -/
  loaded  : Option Nat
  /-- The PSDU without its FCS. -/
  bytes   : List Byte
  /-- Decoded without FEC error and with a correct FCS. -/
  good    : Bool
  own  : Bool
  /-- TSTAMP of E_r, TSTAMP and Meridian time of the reference instant (R117, R183). -/
  er      : Nat
  refTs   : Nat
  refMer  : Nat
  aerialB : Bool
  /-- Carrier offset of R101. -/
  cfo     : Int
  /-- Expected neighbour of the acknowledgement window it arrived in (R169), or the sender under ACKOPEN. -/
  ackNb   : Option Nat
  /-- CIP has not ended yet (R404), and the key latched for it (R388). -/
  waiting : Bool
  key     : List Byte
  /-- The tag was checked and passed. -/
  tagOk   : Bool
  /-- Header and decrypted payload, without CTR, MIC and FCS. -/
  plain   : List Byte
  /-- Sender's neighbour index. -/
  nb      : Option Nat
  /-- The outcome of R170 once judged, and whether the frame is to be handed off (R182). -/
  verdict : Option Nat
  hand    : Bool
  /-- e of R183 when in range. -/
  err     : Option Int
  /-- Applied as a sync point, and ACCEPTED sent (RFLAGS bits 3 and 5). -/
  synced  : Bool
  acked   : Bool
  /-- Sounding record that waits for MAC's decision (R145). -/
  record  : Option (List Byte)
deriving DecidableEq, Repr

/-- MAC for one band beside its registers. -/
structure BandMac where
  /-- Broadcast sequence counter (R167). -/
  seq     : Nat
  /-- Bins of the 8 accumulators, oldest first, as (count, value) runs; the last is the current bin (R187). -/
  bins    : List (List (Nat × Nat))
  att     : Option Attempt
  exch    : Option AckExch
  rxs     : List Rx
  /-- On-time in µs charged to a hop slot, and that slot's absolute number (R191). -/
  dwell   : Nat
  dwellSlot : Nat
  /-- A detect-and-avoid assessment runs: the band was in READY, and it was in a turn or TX when it began (R192). -/
  daa     : Option (Bool × Bool)
  /-- Continuous listening under R185: Meridian times at which it begins and ends in this band. -/
  listen  : Option (Nat × Nat)
deriving DecidableEq, Repr

/-- MAC beside its registers. -/
structure Mac where
  /-- Neighbour entries that differ from an empty one. -/
  nbrs    : List (Nat × Nbr)
  bands   : PerBand BandMac
  /-- Seconds of TSTAMP whose bins have been retired (R187). -/
  binSec  : Nat
deriving DecidableEq, Repr

/-! ### Chart scheduler (06_chart_scheduler.md) -/

/-- A Chart as a commit fills it: lengths, entries, windows and profiles (R199 to R201). -/
structure Chart where
  cycles  : Nat
  len     : Nat
  lead    : Nat
  entries : List Word
  wins    : List (Word × Word)
  profs   : List (Word × Word)
deriving DecidableEq, Repr

/-- A frame in a transmit queue (R198, R212, R214). -/
structure Frame where
  /-- Address of its descriptor. -/
  desc     : Nat
  queue    : Nat
  /-- Count n of R209 and on-time u of R214. -/
  n        : Nat
  u        : Nat
  /-- Meridian starts of the occurrences claimed and not yet spent, in time order (R214). -/
  claims   : List Nat
  /-- Claims made at admission; the next gate after the last of them completes the frame (R215). -/
  admitted : Bool
  /-- Accumulators whose pending on-time the frame holds, and how many attempts it still holds (R214, R216). -/
  accs     : List Nat
  held     : Nat
  /-- Order of first admission (R217). -/
  order    : Nat
  /-- Attempts radiated (R166). -/
  attempts : Nat
  /-- Link sequence number once taken (R167). -/
  seq      : Option Nat
  /-- The last gate at which MAC offered it was refused by the duty-cycle check (R188). -/
  duty     : Bool
  /-- CIP disagreed at its last Seal (R37). -/
  disagree : Bool
  /-- In an exchange now (R202). -/
  busy     : Bool
  /-- TSTAMP bits 31:0 of the last reference instant (R166). -/
  txTs     : Nat
  /-- Start of the occurrence at whose gate MAC last took it: the next gate of its queue is a later one (R35, R168). -/
  tried    : Option Nat
deriving DecidableEq, Repr

/-- The occurrence in service (R200, R202): its start in Meridian time, entry, length, and where the next share begins. -/
structure Occ where
  start : Nat
  entry : Nat
  len   : Nat
  /-- Offset at which the next share begins; `len` when no further share begins. -/
  pos   : Nat
deriving DecidableEq, Repr

/-- A share under way: the frame's descriptor and the Meridian time at which it ends (R202). -/
structure Share where
  desc  : Nat
  start : Nat
  stop  : Nat
deriving DecidableEq, Repr

/-- An open receive window (R207). -/
structure OpenWin where
  nb      : Nat
  slot    : Nat
  ack     : Bool
  contact : Bool
  /-- Expected instant, guard and end of the entry in Meridian time. -/
  te      : Nat
  guard   : Nat
  stop    : Nat
  /-- A preamble has been detected on its slot (R207). -/
  seen    : Bool
  /-- The contact has been judged: heard or missed. -/
  judged  : Bool
deriving DecidableEq, Repr

/-- SHP for one band beside its registers. -/
structure BandShp where
  /-- Frames in enqueue order. -/
  frames  : List Frame
  /-- The Chart in service; the active registers hold the pending one (R201). -/
  chart   : Chart
  pend    : Bool
  /-- TCLK count at the commit of the pending Chart (R201). -/
  pendAt  : Nat
  /-- Claimed total of each occurrence start that holds claims (R214). -/
  claimed : List (Nat × Nat)
  /-- Pending on-time of the 8 accumulators (R214). -/
  dpend   : List Nat
  occ     : Option Occ
  share   : Option Share
  /-- Open windows, in the order of their openings (R207). -/
  wins    : List OpenWin
  /-- Meridian time up to which occurrences have begun (R205). -/
  begun   : Nat
  /-- Walking waits for the first slot boundary after a stop (R205). -/
  resume  : Bool
deriving DecidableEq, Repr

/-- SHP beside its registers. -/
structure Shp where
  bands  : PerBand BandShp
  /-- Frames admitted so far (R217). -/
  orders : Nat
deriving DecidableEq, Repr

/-! ### Flash (13_flash_array.md) -/

/-- A programmed code word (R360): its data, and an error that its check bits show. -/
structure CodeWord where
  data : List Byte
  /-- none: as programmed; some false: one bit in error, corrected by a read; some true: uncorrectable (R361). -/
  err  : Option Bool
deriving DecidableEq, Repr

/-- A journal record (R372). -/
structure JrnRec where
  /-- 1 INTENT, 2 DONE, 3 SNAPSHOT, 4 CUSTODY, 5 RELEASE. -/
  type   : Nat
  bank   : Nat
  block  : Nat
  seq    : Nat
  /-- One erase count (INTENT, DONE) or eight (SNAPSHOT, CUSTODY). -/
  counts : List Nat
  /-- The record fails ECC (R375). -/
  bad    : Bool
deriving DecidableEq, Repr

/-- The operation that runs on the die (R365, R367). -/
structure FlashOp where
  /-- Owner code of the issuer; 13 for SVR (R368). -/
  owner : Nat
  /-- 1 PROGRAM, 2 ERASE, 3 MARGIN. -/
  op    : Nat
  /-- Window offset of the target. -/
  dst   : Nat
  /-- Source bytes of a PROGRAM. -/
  data  : List Byte
deriving DecidableEq, Repr

/-- The flash die and FLC beside its registers. -/
structure Flc where
  /-- Programmed code words, by window offset / 32; every other word is erased (R360). -/
  words : List (Nat × CodeWord)
  /-- The journals of the eight banks, oldest record first (R371 to R373). -/
  jrn   : List (List JrnRec)
  /-- Records written on the die, modulo 2³² (R372). -/
  seq   : Nat
  /-- Erase counts other than 0, by bank × 128 + block (R374). -/
  counts : List (Nat × Nat)
  /-- Blocks marked half-erased (R376). -/
  half  : List Nat
  op    : Option FlashOp
  /-- Code words of the running PROGRAM that a read has found programmed (R377). -/
  done  : Nat
  /-- The rollover that runs before the INTENT of an ERASE: its journal and the steps of it that are done (R373). -/
  roll  : Option (Nat × Nat)
  /-- TCLK count at which the rollovers that the running ERASE began with end (R373, R377). -/
  rollEnd : Nat
  /-- TCLK count of the last read of the bank of a suspended erase (R377). -/
  lastRead : Nat
  /-- SRC and PARAM of the slots of each sheet on the die, by the sheet's first word (R518, log entry 25). -/
  srcs  : List (Nat × List Nat)
deriving DecidableEq, Repr

/-! ### Cipher engine (14_cipher_engine.md) -/

/-- A job that CIP has accepted (R390, R391), with its key latched when it starts (R388). -/
structure CipJob where
  owner  : Nat
  op     : Nat
  slot   : Nat
  inv    : Bool
  tagLen : Nat
  nLen   : Nat
  src    : Nat
  dst    : Nat
  len    : Nat
  aad    : Nat
  aadLen : Nat
  iv     : Nat
  tag    : Nat
  key    : Option KeySlot
  /-- The slots that a WRAP wraps, latched with it (R388). -/
  held   : List KeySlot
deriving DecidableEq, Repr

/-- CIP beside its registers. -/
structure Cip where
  slots  : List KeySlot
  /-- Key buffer and the record of its written words (R386). -/
  buf    : List Word
  wrote  : List Bool
  /-- Jobs outstanding, in the order they are served (R391, R401). -/
  jobs   : List CipJob
  /-- TRNG state of R398: 0 TEST, 1 OK, 2 FAIL. -/
  trng   : Nat
  /-- Seals begun so far, which gives their order (R401). -/
  seals  : Nat
deriving DecidableEq, Repr

/-! ### Survey recorder (20_survey_recorder.md) -/

/-- What SVR holds of a metric slot in the open sheet (R508, R510, R511). -/
structure SvrSlot where
  /-- Least and greatest sample value, once there is a sample. -/
  range : Option (Int × Int)
  /-- Samples in each of the eight bins. -/
  bins  : List Nat
  /-- Counter value and its increase within the sheet, below 10¹⁶, and the wrap flag. -/
  value : Nat
  delta : Nat
  wrap  : Bool
deriving DecidableEq, Repr

/-- A slot that holds nothing. -/
def SvrSlot.empty : SvrSlot := { range := none, bins := List.replicate 8 0, value := 0, delta := 0, wrap := false }

/-- A closed sheet that is not yet written (R517): its 512 bytes, its number and its area. -/
structure Sheet where
  bytes    : List Byte
  seq      : Nat
  founding : Bool
  /-- SRC and PARAM of each slot at the close, as SRC × 8 + PARAM (R518). -/
  srcs     : List Nat
deriving DecidableEq, Repr

/-- SVR beside its registers. -/
structure Svr where
  /-- Calendar at the opening of the open sheet and its RESTART flag. -/
  sheet    : Option (Calendar × Bool)
  slots    : List SvrSlot
  waiting  : List Sheet
  /-- SVR_CMD.FOUND names the next sheet (R515). -/
  found    : Bool
  /-- Sheets held in each area, oldest first: number and place (R515, R519). -/
  fheld    : List (Nat × Nat)
  rheld    : List (Nat × Nat)
  /-- Next place of each area. -/
  fnext    : Nat
  rnext    : Nat
  /-- Reading cursors: number of the next sheet to read (R519). -/
  fcur     : Nat
  rcur     : Nat
  /-- Placement in effect (R522). -/
  bank     : Nat
  block    : Nat
  rollBlk  : Nat
  cfgId    : Nat
  /-- Last boundary passed while TCLK was stopped (R512). -/
  late     : Option Calendar
  /-- Rolling block whose erase is wanted (R516). -/
  eraseWant : Option Nat
  /-- That erase has ended with FLASH_HALF_ERASED, and starts again at the next close (R516). -/
  eraseStuck : Bool
  /-- The clears that run: founding or rolling, and the block numbers still to erase (R520). -/
  clear    : List (Bool × List Nat)
  /-- The sheet whose PROGRAM runs: its area, its place and its number (R517). -/
  writing  : Option (Bool × Nat × Nat)
  /-- A sheet has been opened since the start (R512). -/
  started  : Bool
deriving DecidableEq, Repr
/-! ### Mesh firmware (07_mesh_roles_and_startup.md) -/

/-- A candidate parent heard in a scan (R236). -/
structure Cand where
  short : Nat
  rank  : Nat
  /-- FLAGS of its latest beacon (R232). -/
  flags : Nat
  /-- Sum and number of the SNR values of its beacons, in 0.25 dB. -/
  snr   : Nat
  count : Nat
  /-- TSTAMP, Meridian stamp (cycle × 65,536 + phase) and INC of its latest beacon (R237). -/
  ts    : Nat
  mer   : Nat
  inc   : Nat
deriving DecidableEq, Repr

/-- A membership record of the manager (R230, R231, R241). -/
structure Member where
  eui      : Nat
  short    : Nat
  parent   : Nat
  rank     : Nat
  leaf     : Bool
  /-- Its last NBR_REPORT showed its parent link out of NORMAL (R233, R241). -/
  detached : Bool
deriving DecidableEq, Repr

/-- Where a worker stands in joining (R236, R237, R243, R244, R246). -/
inductive JoinPhase where
  /-- It does not join: a manager, or not commissioned. -/
  | none
  /-- It listens for a beacon with JOINOPEN = 1. -/
  | listen
  /-- A leaf between its searches (R246). -/
  | asleep
  /-- The scan of 16 cycles, from the first open beacon. -/
  | scan
  /-- A candidate is chosen and the join position is awaited. -/
  | position
  /-- The JOIN_REQ is sent and the JOIN_RSP awaited. -/
  | waiting
  /-- Joining stopped with DENIED. -/
  | denied
  /-- A JOIN_RSP has been acted on; the step to the parent's time is awaited. -/
  | joined
  | operational
deriving DecidableEq, Repr

/-- A set of CHART_SET fragments for a band (R248). -/
structure ChartSet where
  /-- SWAPCYC of the set; none while no set is pending. -/
  swap   : Option Nat
  /-- The fragment with LAST = 1 has arrived. -/
  last   : Bool
  /-- Items received, as KIND and index. -/
  got    : List (Nat × Nat)
deriving DecidableEq, Repr

/-- A record of an NBR_REPORT (R249): short address, mean SNR in 0.25 dB and flags. -/
structure NbrRec where
  short : Nat
  snr   : Nat
  flags : Nat
deriving DecidableEq, Repr

/-- An Assured flow that the manager has set up (R250): its ends and its two paths of short addresses. -/
structure Flow where
  id    : Nat
  src   : Nat
  dst   : Nat
  /-- Period and deadline in cycles (ASSURED of R500). -/
  period   : Nat
  deadline : Nat
  pathA : List Nat
  pathB : List Nat
deriving DecidableEq, Repr

/-- An Assured flow at its source on E0/E1 (R40): the next sequence number and the two next hops as neighbour indices. -/
structure AssuredSrc where
  id   : Nat
  seq  : Nat
  hopA : Nat
  hopB : Nat
deriving DecidableEq, Repr

/-- An Assured flow at its destination on E0/E1 (R41): the sequence numbers delivered, newest first. -/
structure AssuredDst where
  id   : Nat
  seen : List Nat
  dups : Nat
deriving DecidableEq, Repr

/-- The mesh firmware on E2 and the link-sequencing firmware on E0/E1. -/
structure Mesh where
  phase     : JoinPhase
  /-- Cycle count at the entry to the phase (scan, waiting, denied). -/
  since     : Nat
  cands     : List Cand
  /-- Candidates whose attempt failed with BUSY or BAD_STATE (R244). -/
  tried     : List Nat
  /-- Short address of the chosen candidate, and a, the attempt number (R237). -/
  chosen    : Option Nat
  /-- The candidate that an expert JOIN names (R500). -/
  named     : Option Nat
  attempt   : Nat
  /-- Failed attempts since the rejoin began (R251, R252). -/
  fails     : Nat
  /-- TSTAMP of the join position (R237). -/
  joinAt    : Nat
  rejoin    : Bool
  oldShort  : Nat
  oldRank   : Nat
  rank      : Nat
  /-- FLAGS.HOLD of the parent's latest beacon (R233). -/
  parentHold : Bool
  /-- Children of this device: short address and neighbour index (R231, R242). -/
  children  : List (Nat × Nat)
  /-- The start-up Chart is in service, and SWAPCYC of the next one (R232). -/
  startup   : Bool
  swapCyc   : Nat
  bper      : Nat
  /-- A first beacon has been sent, and the Meridian time of the place of the last one (R234). -/
  beaconed  : Bool
  lastBeacon : Option Nat
  /-- Cycle of the step of R64, and whether a worker that has joined has taken it (R234, R243). -/
  stepCyc   : Nat
  stepped   : Bool
  /-- A JOIN_RSP has been acted on since the last JOIN_REQ (R243). -/
  rspDone   : Bool
  /-- The committed Chart of the SG band is an operational one that awaits its swap (R232). -/
  opPend    : Bool
  /-- TCLK count at which a leaf's search listening ends, and whether it has heard a beacon in it (R246). -/
  searchEnd : Nat
  heard     : Bool
  /-- DENIED has been reported to the host (R244). -/
  refused   : Bool
  members   : List Member
  /-- Join keys that the host has given the manager, by EUI-64 (R229). -/
  joinKeys  : List (Nat × List Byte)
  /-- Requests answered: EUI-64, ATTEMPT, cycle and the JOIN_RSP (R241). -/
  answered  : List (Nat × Nat × Nat × List Byte)
  /-- JOIN_REQs discarded (R241). -/
  discarded : Nat
  sets      : PerBand ChartSet
  /-- Cycle of the last NBR_REPORT sent; none before the first (R249). -/
  reported  : Option Nat
  /-- A report is due: the member has become operational, or a link has changed its state since the last one (R249). -/
  reportDue : Bool
  /-- Sum and number of the SNRs of the receive reports, by neighbour index (R249). -/
  snrs      : List (Nat × Nat × Nat)
  /-- Neighbour entries written since the last MER_CYCLE event (R103). -/
  newNbrs   : List Nat
  /-- Messages from the hand-over ring that the mesh firmware has not acted on (R228). -/
  inbox     : List (List Byte)
  /-- A swap failed since the last NBR_REPORT (R248). -/
  swapFail  : Bool
  /-- The reports that the manager holds, by short address (R250). -/
  reports   : List (Nat × List NbrRec)
  flows     : List Flow
  /-- Flows with a lost path, for which the manager looks for a replacement (R250). -/
  replan    : List Nat
  /-- Nodes that the manager owes a set of CHART_SETs, the last SWAPCYC of each node, and the rounds planned (R247, R248). -/
  needs     : List Nat
  swaps     : List (Nat × Nat)
  plans     : Nat
  /-- The set last sent to each node, with its round, and the nodes that get theirs again after a failed swap (R248). -/
  sent      : List (Nat × Nat × List (List Byte))
  again     : List Nat
  srcs      : List AssuredSrc
  dsts      : List AssuredDst
  /-- Commands that the mesh firmware has still to send in an FWD: the member they go to (0: towards the manager) and the
  embedded bytes (R241, R249, R252). -/
  owed      : List (Nat × List Byte)
deriving DecidableEq, Repr

/-- A band with no set of fragments. -/
def ChartSet.none : ChartSet := { swap := Option.none, last := false, got := [] }

/-- The mesh firmware at a start that keeps nothing. -/
def Mesh.atReset : Mesh :=
  { phase := .none, since := 0, cands := [], tried := [], chosen := .none, named := .none, attempt := 0, fails := 0, joinAt := 0,
    rejoin := false, oldShort := 0xFFFE, oldRank := 0, rank := 0, parentHold := false, children := [], startup := false,
    swapCyc := 0, bper := 4, beaconed := false, lastBeacon := .none, stepCyc := 0, stepped := false, rspDone := false, opPend := false, searchEnd := 0, heard := false,
    refused := false, members := [], joinKeys := [], answered := [],
    discarded := 0, sets := { sg := ChartSet.none, g24 := ChartSet.none }, reported := .none, reportDue := false,
    snrs := [], newNbrs := [], inbox := [], swapFail := false, reports := [], flows := [], replan := [], needs := [], swaps := [],
    plans := 0, sent := [], again := [], srcs := [], dsts := [], owed := [] }

/-! ### Sounding library on E2 (08_sounding.md) -/

/-- The states of an aerial baseline, codes 0 to 3 (R260). -/
inductive BaseSt where
  | empty | learnMean | learnSpread | ready
deriving DecidableEq, Repr

/-- What the used records of one cycle gave an aerial (R259, R263). -/
structure CycleAcc where
  /-- The CYCLE field of those records. -/
  cycle : Nat
  /-- The largest m_r of its records taken in READY. -/
  top   : Option Nat
  /-- Every such record had ε ≤ K × σ. -/
  still : Bool
  /-- The shape of the last one. -/
  last  : List Int
deriving DecidableEq, Repr

/-- A baseline of a link and aerial (R260 to R263). Shapes, δ and σ are in 1/65,536 dB (log entry 57). -/
structure Baseline where
  st     : BaseSt
  /-- Centre word bound when learning began. -/
  bound  : Int
  /-- Records taken in the present learning state. -/
  count  : Nat
  /-- Sum of the shapes, or of the δ, of those records. -/
  sum    : List Int
  sumD   : Int
  /-- Mean shape b and spread σ. -/
  b      : List Int
  sigma  : Int
  /-- Shape of the previous used record (R263). -/
  prev   : Option (List Int)
  /-- Cycles that count towards relearning, and consecutive cycles without a record. -/
  calm   : Nat
  absent : Nat
  /-- The cycles that are still to close and have used records (R259, R263). -/
  accs   : List CycleAcc
deriving DecidableEq, Repr

/-- A link of SND_LINK_ADD (R256, R273). -/
structure SndLink where
  nb    : Nat
  band  : Band
  slot  : Nat
  mask  : Nat
  a     : Baseline
  b     : Baseline
  /-- Last index and its cycle (SND_READ). -/
  index : Option (Nat × Nat)
deriving DecidableEq, Repr

/-- The parameters of SND_CONFIG (R274). -/
structure SndCfg where
  nlearn    : Nat
  bavg      : Nat
  k         : Nat
  scale     : Nat
  sigmin    : Nat
  maxlearn  : Nat
  relearn   : Nat
  absent    : Nat
  ringSize  : Nat
  ringBase  : Nat
  stateBase : Nat
deriving DecidableEq, Repr

/-- The Sounding library. -/
structure Snd where
  cfg      : SndCfg
  started  : Bool
  links    : List SndLink
  /-- ZMODE of the eight zones (R268). -/
  zmodes   : List Nat
  unused   : Nat
  late     : Nat
  skip     : Nat
  restarts : Nat
  relearns : Nat
  /-- The cycle that was closed last (R264). -/
  closed   : Option Nat
deriving DecidableEq, Repr

/-- An EMPTY baseline. -/
def Baseline.fresh : Baseline :=
  { st := .empty, bound := 0, count := 0, sum := [], sumD := 0, b := [], sigma := 0, prev := none, calm := 0, absent := 0,
    accs := [] }

/-- The defaults of R274. -/
def SndCfg.default : SndCfg :=
  { nlearn := 64, bavg := 8, k := 12, scale := 32, sigmin := 10, maxlearn := 30, relearn := 3000, absent := 15000,
    ringSize := 128, ringBase := 0x101E0000, stateBase := 0x101D8000 }

/-- The library before anything is configured. -/
def Snd.fresh : Snd :=
  { cfg := .default, started := false, links := [], zmodes := List.replicate 8 0, unused := 0, late := 0, skip := 0,
    restarts := 0, relearns := 0, closed := none }

/-! ### Luminaire inputs and outputs (09_luminaire_io.md) -/

/-- A dimming output beside its registers (R282 to R287). -/
structure Pwm where
  /-- Configuration and period registers in effect (R284). -/
  cfg    : Word
  per    : Word
  /-- DUTY latched at the period start. -/
  duty   : Nat
  /-- TCLK count (FREE), or Meridian time in phase units (ALIGNED), at the start of the period in progress. -/
  start  : Option Nat
  /-- The pin level. -/
  pin    : Bool
  /-- TCLK count of the last move of DUTY (R287). -/
  moved  : Option Nat
  /-- TCLK count of the last change of DUTY, and DUTY before that TCLK cycle (R284). -/
  was    : Option (Nat × Nat)
deriving DecidableEq, Repr

/-- The converter of a photodiode input (R277, R278). -/
structure Pd where
  /-- TCLK count at which the present integration began; none while none runs. -/
  start  : Option Nat
  /-- MER_CYCLE events since then. -/
  cycles : Nat
  /-- Lengths, in TCLK cycles, of the integrations that have ended and whose charge is still to be divided, oldest first. -/
  ended  : List Nat
deriving DecidableEq, Repr

/-- SNS beside its registers. -/
structure Sns where
  /-- PD0 and PD1. -/
  pds    : List Pd
  /-- TCLK count of the last PIR sample (R280). -/
  pirAt  : Option Nat
  /-- The filter mean m in 1/65,536 LSB, once there is a sample (R280). -/
  pirM   : Option Int
  /-- Samples for which the detector stays silent, and consecutive samples above or not above the threshold (R281). -/
  silent : Nat
  above  : Nat
  below  : Nat
  pwms   : List Pwm
  /-- The next accepted write to the zone's IDX counts whatever its CYCLE (R269). -/
  fresh  : List Bool
  /-- The last stable level that each edge detector saw on its pin (R288). -/
  levels : List Bool
deriving DecidableEq, Repr

/-- A dimming output after reset: OFF, driving 0 (R286). -/
def Pwm.atReset : Pwm := { cfg := 0x800, per := 0x1000, duty := 0, start := none, pin := false, moved := none, was := none }

/-- SNS after reset. -/
def Sns.atReset : Sns :=
  { pds := List.replicate 2 { start := none, cycles := 0, ended := [] }, pirAt := none, pirM := none, silent := 0, above := 0, below := 0, pwms := List.replicate 4 .atReset,
    fresh := List.replicate 8 true, levels := [false, false] }

/-! ### Link test (21_link_test.md) -/

/-- A test run (R524 to R532). -/
structure TestRun where
  /-- Owner code of the starter. -/
  owner : Nat
  link  : Nat
  /-- Shift registers of the generator and of the checker (R525). -/
  gen   : Nat
  chk   : Nat
  /-- Bytes sent and received: on HOST over UART, the two directions of R528; on UART the bytes joined. -/
  sent  : Nat
  recv  : Nat
  /-- STOP has been written: the run ends at the end of the unit in progress (R527). -/
  stop  : Bool
  /-- The reply that started the run has been sent (R528). -/
  ready : Bool
  /-- Instant of the next fire, in TCLK cycles (R532). -/
  due   : Nat
deriving DecidableEq, Repr

/-- TST beside its registers. -/
structure Tst where
  run     : Option TestRun
  /-- The level of the TEST_EN pin. -/
  testEn  : Bool
  /-- The shadow set of a commit of MDM that changes channel slot 0 and waits for the end of an RXLOOP run (R533). -/
  heldMdm : Option (List (Nat × Word))
deriving DecidableEq, Repr

/-- TST after reset. -/
def Tst.atReset : Tst := { run := none, testEn := false, heldMdm := none }


/-! ### Host interface (19_host_protocol.md) -/

/-- The request that executes, or the one that was executed last (R491, R494). -/
structure HostExec where
  opcode : Nat
  seq    : Byte
  crc    : Nat
  /-- It came by SPI. -/
  spi    : Bool
deriving DecidableEq, Repr

/-- What follows the reply of a request (R500). -/
inductive HostAfter where
  /-- RESET, with COLD. -/
  | reset (cold : Bool)
  /-- PWR_OFF. -/
  | off
  /-- COMMISSION: the device cold-starts with cause COMMISSION. -/
  | commission
  /-- HOST_CFG: the new DIV. -/
  | baud (div : Nat)
deriving DecidableEq, Repr

/-- What a long opcode waits for (R492). -/
inductive LongJob where
  | erase
  | cal
  | engine
  | update (expert : Bool)
  | clear
deriving DecidableEq, Repr

/-- The last long request and its outcome (R492, R493, R504). -/
structure LongReq where
  opcode : Nat
  seq    : Byte
  /-- 12 for the host, else the engine's owner code. -/
  owner  : Nat
  /-- Bus address of an engine's request buffer. -/
  desc   : Nat
  job    : LongJob
  result : Option (Nat × List Byte)
deriving DecidableEq, Repr

/-- A data-port request that waits (R460, R503): its first address, the bytes moved so far, those that a DP_READ has read, and whether a
reset of the far side has failed its access (R461). -/
structure DpProgress where
  base   : Nat
  moved  : Nat
  got    : List Byte
  failed : Bool
deriving DecidableEq, Repr

/-- HIF and the command interpreter beside the registers. -/
structure Hif where
  /-- The request that executes (R491). -/
  exec     : Option HostExec
  /-- It waits for an access: the opcode, whether HIF executes it, and the request (R375, R377, R460). -/
  parked   : Option (Nat × Bool × HostReq)
  /-- How far a data-port request that waits has come (R503). -/
  dp       : Option DpProgress
  /-- The request executed last, with the status and the data length of its reply, whose data stands in the second half of the
  area at HIF_BUFBASE (R494). -/
  kept     : Option (HostExec × Nat × Nat)
  /-- A reply that has not been sent: the interface (true: SPI) and its bytes (R483, R496). -/
  out      : Option (Bool × List Byte)
  long     : Option LongReq
  /-- The nonce of R498 and the TCLK count of its issue. -/
  nonce    : Option (List Byte × Nat)
  /-- TCLK count of the third wrong tag (R498). -/
  barred   : Option Nat
  /-- TCLK count of the last expert request or of the unlock (R499). -/
  expertAt : Nat
  after    : Option HostAfter
  /-- The DIV before a change of rate, and the TCLK count of the change (R500). -/
  oldBaud  : Option (Nat × Nat)
  /-- The image that FW_UPDATE receives: its total length and its bytes by offset. -/
  update   : Option (Nat × List Host.Cell)
  /-- Requests of engines that the interpreter has not served: owner code, bus address of the buffer and what surrounds the
  request; and the owner served last (R504). -/
  ereqs    : List (Nat × Nat × ReqEnv)
  eLast    : Nat
deriving DecidableEq, Repr

/-- HIF after reset (R505). -/
def Hif.atReset : Hif :=
  { exec := none, parked := none, dp := none, kept := none, out := none, long := none, nonce := none, barred := none, expertAt := 0, after := none,
    oldBaud := none, update := none, ereqs := [], eLast := 15 }

/-! ### Vendor firmware on E2 (07_mesh_roles_and_startup.md, 18_faults_and_restart.md, 19_host_protocol.md) -/

/-- A key that vendor firmware keeps in its flash records (R389). -/
structure StoredKey where
  slot : Nat
  klen : Nat
  pol  : Nat
  key  : List Byte
deriving DecidableEq, Repr

/-- What vendor firmware keeps in its flash records. -/
structure Fw where
  /-- Commissioned role and MESHID (R2, R229). -/
  role      : Nat
  commissioned : Bool
  meshid    : Nat
  keys      : List StoredKey
  /-- Stored calibration tables (R89). -/
  cals      : Option (PerBand (List (Nat × CalEntry)))
  /-- Stored parent entry and its index (R193). -/
  parent    : Option (Nat × Nbr)
  /-- User images: engine, window address, length (R26, IMAGE_SET). -/
  images    : List (Nat × Nat × Nat)
  /-- Stored configuration: register words that E2 writes and commits at step 8 of R477. -/
  config    : List (Nat × Word)
  /-- The expert key (R498). -/
  expertKey : Option (List Byte)
  /-- The short address and rank that the last JOIN_RSP gave (R243, R254). -/
  short     : Nat
  rank      : Nat
  /-- The manager's membership records and the join keys it was given (R231, R229). -/
  members   : List Member
  joinKeys  : List (Nat × List Byte)
  /-- The last operational Chart: words of SH registers of SHP (R254). -/
  chartRegs : List (Nat × Word)
  /-- The Sounding configuration, links, zone modes and started state (R276). -/
  snd       : Snd
  /-- Signed updates programmed so far (the vendor firmware version is a function of them). -/
  updates   : Nat
  /-- MAC_TXCTR as the last reset of MAC found it: what vendor firmware stored lies at most 2²⁰ below (R157, R178). -/
  ctrTop    : Nat
deriving DecidableEq, Repr

/-! ### The whole machine -/

/-- The state of the PK7412. -/
structure State where
  /-- The commands that wait, first in, first out (the block form's own field). -/
  pending  : List Instr
  /-- Free values taken so far (the model's own field, log entry 3). -/
  free     : Nat
  /-- The data that the last register read returned on the bus (the model's own field: a read has no other result). -/
  busData  : Word
  /-- TCLK cycles since the main domain powered up (the model's own clock for the spans of R467, R439, …). -/
  tclk     : Nat
  /-- The active register words (R4, R6), those that differ from their reset words. -/
  regs     : List (Nat × Word)
  /-- The shadow copies of the SH fields (R4), those that differ from their reset words. -/
  shadow   : List (Nat × Word)
  /-- Shared SRAM, by bus address (R27, R28). -/
  sram     : List Host.Cell
  /-- How often each SRAM bank has lost its contents (R445). -/
  sramGen  : List Nat
  /-- Reservations: engine master and address of the reserved word (R330). -/
  resvs    : List (Nat × Nat)
  engs     : Vector Engine 12
  /-- The ENG command outstanding for an owner (R301). -/
  engJobs  : List (Nat × EngJob)
  evf      : Evf
  flt      : Flt
  /-- The start under way and the path of the last start (R455, R476, R477). -/
  start    : StartPhase
  path     : StartPath
  pwr      : Pwr
  rtc      : Rtc
  mer      : Mer
  rfc      : Rfc
  mdm      : Mdm
  mac      : Mac
  shp      : Shp
  flc      : Flc
  cip      : Cip
  svr      : Svr
  mesh     : Mesh
  snd      : Snd
  sns      : Sns
  tst      : Tst
  hif      : Hif
  fw       : Fw
deriving DecidableEq, Repr

/-! ### The machine right after reset -/

/-- The registers of an engine as RELEASE gives them (R299); held from reset (log entry 8). -/
def GRegs.atRelease : GRegs := { a := 0, x := 0, y := 0, s := 0x00010000, p := 0, f := 0x20 }

/-- An engine after a device reset: RESET, TCM of zeros (R294, R298). -/
def Engine.atReset : Engine :=
  { st := .reset, left := .run, g := .atRelease, load := none, flushed := [], access := none, entering := none, haltWant := false, undo := [],
    ckpt := .atRelease, ckLoad := none, mmSince := false, mmVec := false, idleFrom := 0, idle := true,
    tcm := [], vendor := false, tcmErr := [], rbuf := [] }

/-- The twelve engines after a device reset: E1 is the odd engine of the pair E0/E1 (R23, R297). -/
def enginesAtReset : Vector Engine 12 :=
  #v[.atReset, { Engine.atReset with st := .paired }, .atReset, .atReset, .atReset, .atReset, .atReset, .atReset,
     .atReset, .atReset, .atReset, .atReset]

/-- An empty capture (R357). -/
def Capture.empty : Capture := { new := false, ovr := false, src := 0, ts := 0, cyc := 0, ph := 0 }

/-- EVF after reset (R357). -/
def Evf.atReset : Evf :=
  { fly := [], held := [], acks := [], srcs := [], caps := [.empty, .empty, .empty, .empty],
    at_ := 0, pulsed := [], hard := [], soft := [], merged := [], was := [], grpSet := 0, grpClr := 0 }

/-- An empty log entry (R481). -/
def LogEntry.empty : LogEntry :=
  { status := 0, code := 0, region := 0, conseq := false, state := 0, tier := 0, owner := 15, addr := 0, cycle := 0,
    age := 0 }

/-- FLT when the main domain has powered up (R473). -/
def Flt.atPowerUp : Flt :=
  { log := List.replicate 16 .empty, written := 0, episodes := List.replicate 16 none, active := none, activeAt := 0, slept := 0,
    queue := [], colds := [], warmEnd := none, wdg := List.replicate 11 0 }

/-- PWR after a device reset: RUN at PL1 (R435, R437). -/
def Pwr.atReset : Pwr :=
  { st := .run, change := none, nextLevel := none, dozeFrom := 0, entering := false, failed := false, toStandby := false,
    offWanted := false, bands := (false, false), tickAt := 0, wakeReq := 0, clearing := [], flashOn := true,
    waking := false, noTimer := false }

/-- The calendar as R411 restarts it. -/
def Calendar.start : Calendar := { year := 2000, month := 1, day := 1, hour := 0, min := 0, sec := 0 }

/-- RTC after R411. -/
def Rtc.atPowerUp : Rtc :=
  { cal := .start, sub := 0, secLen := 32768, acc := 0, tick := 0, almTime := 0, almDate := 0x101, almCfg := 0,
    almCount := 0, pend := none, dateSet := false, timeSet := false, bkup := List.replicate 64 0, held := [],
    isLow := false, low := 0, powered := true, lf := false, stamp := (.start, 0), stampNew := false, stampOvr := false }

/-- MER after a cold start (R65, R69). -/
def Mer.atReset : Mer :=
  { time := 0, tstamp := 0, frac := 0, slot := 0, cyc := 0, valid := 0, stepped := false, good := 0, since := 0, sinceCyc := 0,
    refEdge := none, ivals := [], wasLocked := false, rateAt := 0, pendStep := none, pendRate := [], rateRef := none,
    pendSet := none, lfTick := 0, lfTclk := 0, recDue := false }

/-- A band's radio after reset: OFF, with the reset receive window (R83, R90). -/
def BandRadio.atReset (win : Nat) : BandRadio :=
  { st := .off, back := .ready, starting := false, opening := false, locked := win, hopTo := win,
    hopFrom := win, lockOk := false, hopBack := false, needHop := false, offAfter := false, cal := none, tx := none, since := 0, turnEnd := none }

/-- RFC after reset (R83, R108). -/
def Rfc.atReset : Rfc :=
  { bands := { sg := .atReset 32, g24 := .atReset 38 }, cals := { sg := [], g24 := [] }, cmd := none, offsets := [],
    defSet := false, foWrite := none }

/-- A channel after reset: DISABLED (R114). -/
def Chan.atReset : Chan :=
  { st := .disabled, det := 0, short := false, aerialB := false, lastWon := none, derot := 0, dfe := none, len := 0, mapid := 0, rate := 0, seed := 0, keys := [],
    map := none, noMap := false, fcs32 := false, refTs := 0, refMer := 0 }

/-- MDM after reset. -/
def Mdm.atReset : Mdm :=
  { chans := { sg := List.replicate 8 .atReset, g24 := List.replicate 8 .atReset }, recs := 0, unread0 := 0, unread1 := 0,
    seed := 0,
    sent := { sg := [], g24 := [] }, means := [],
    updates := [] }

/-- Bins preloaded under R189 for eight limits in ppm and PRELOAD in percent. -/
def preloadBins (limits : List Nat) (preload : Nat) : List (List (Nat × Nat)) :=
  limits.map (fun l => [(3600, l * preload / 1600)])

/-- MAC for one band after a cold start (R189, R193). -/
def BandMac.atReset (limits : List Nat) : BandMac :=
  { seq := 0, bins := preloadBins limits 50, att := none, exch := none, rxs := [], dwell := 0, dwellSlot := 0, daa := none,
    listen := none }

/-- MAC after a cold start, with the limits of the reset profile (R190, R193). -/
def Mac.atReset : Mac :=
  { nbrs := [],
    bands := { sg := .atReset [1000, 10000, 1000, 100000, 10000, 1000, 1000000, 0],
               g24 := .atReset [1000000, 0, 0, 0, 0, 0, 0, 0] },
    binSec := 0 }

/-- The Chart of the reset values: one cycle of eight closed entries (R199, R225). -/
def Chart.atReset : Chart :=
  { cycles := 1, len := 8, lead := 40, entries := List.replicate 8 0x2000, wins := List.replicate 32 (0, 0),
    profs := List.replicate 8 (0, 0) }

/-- SHP for one band after reset (R222). -/
def BandShp.atReset : BandShp :=
  { frames := [], chart := .atReset, pend := false, pendAt := 0, claimed := [], dpend := List.replicate 8 0, occ := none,
    share := none, wins := [], begun := 0, resume := false }

/-- SHP after reset. -/
def Shp.atReset : Shp := { bands := { sg := .atReset, g24 := .atReset }, orders := 0 }

/-- A flash die that nothing has programmed or erased (log entry 5). -/
def Flc.fresh : Flc :=
  { words := [], jrn := List.replicate 8 [], seq := 0, counts := [], half := [], op := none, done := 0, roll := none, rollEnd := 0, lastRead := 0, srcs := [] }

/-- An empty key slot (R389). -/
def KeySlot.empty : KeySlot := { loaded := false, key := [], klen := 0, pol := 0, kcv := 0 }

/-- Slot 15 with the device key: ENC, DEC, KEK, LOCK and E2 alone in USERS; its KCV reads 0 (R389). -/
def KeySlot.device : KeySlot :=
  { loaded := true, key := (List.range 32).map Config.deviceKey, klen := 2, pol := 0xAC000004, kcv := 0 }

/-- CIP after a device reset (R389, R398). -/
def Cip.atReset : Cip :=
  { slots := List.replicate 15 .empty ++ [.device], buf := List.replicate 8 0, wrote := List.replicate 8 false,
    jobs := [], trng := 0, seals := 0 }

/-- SVR after reset (R523). -/
def Svr.atReset : Svr :=
  { sheet := none, slots := List.replicate 24 .empty, waiting := [], found := false, fheld := [], rheld := [],
    fnext := 0, rnext := 0, fcur := 0, rcur := 0, bank := 7, block := 93, rollBlk := 32, cfgId := 0, late := none,
    eraseWant := none, eraseStuck := false, clear := [], writing := none, started := false }

/-- Flash records that nothing has been written to: not commissioned, the role that SYS_ROLE resets to (log entry 23). -/
def Fw.fresh : Fw :=
  { role := 1, commissioned := false, meshid := 0, keys := [], cals := none, parent := none, images := [], config := [],
    expertKey := none, short := 0xFFFE, rank := 0, members := [], joinKeys := [], chartRegs := [], snd := .fresh, updates := 0,
    ctrTop := 0 }

/-- The machine right after power-on (R476): every register at the reset value of its table, no clock running yet. -/
def State.reset : State :=
  { pending := [], free := 0, busData := 0, tclk := 0, regs := [(0x40000014, 0x10000)], shadow := [], sram := [], sramGen := List.replicate 8 0, resvs := [],
    engs := enginesAtReset, engJobs := [], evf := .atReset, flt := .atPowerUp, start := .clocks, path := .cold,
    pwr := .atReset, rtc := .atPowerUp, mer := .atReset,
    rfc := .atReset, mdm := .atReset, mac := .atReset, shp := .atReset, flc := .fresh, cip := .atReset,
    svr := .atReset, mesh := .atReset, snd := .fresh, sns := .atReset, tst := .atReset, hif := .atReset, fw := .fresh }

end Sys2Proof.Machine
end

