-- ==== Sys2Proof/Machine/Ops.lean ====
section
/-!
DEFINITION. The named operations over registers and memories that every meaning uses: register fields, counters, shared
SRAM with its reservations, bytes and words, the status codes of R13 and the owner codes of R23.
-/
namespace Sys2Proof.Machine

/-! ### Numbers -/

/-- A Bool as a bit. -/
def b2n (b : Bool) : Nat := if b then 1 else 0

/-- How many of the low 32 bits of `v` are 1. -/
def bitCount (v : Nat) : Nat := ((List.range 32).map (fun i => v / 2 ^ i % 2)).sum

/-- `v` read as a signed number of `w` bits. -/
def sInt (w v : Nat) : Int := if v % 2 ^ w < 2 ^ (w - 1) then (v % 2 ^ w : Nat) else ((v % 2 ^ w : Nat) : Int) - (2 ^ w : Nat)

/-- An integer written into `w` bits, two's complement. -/
def intBits (w : Nat) (i : Int) : Nat := (i % ((2 ^ w : Nat) : Int)).toNat

/-- Quotient rounded up; 0 for a zero divisor. -/
def ceilDiv (a b : Nat) : Nat := if b = 0 then 0 else (a + b - 1) / b

/-- Quotient of integers rounded to the nearest, halves away from zero; `b` is taken positive. -/
def roundDiv (a : Int) (b : Nat) : Int :=
  if 0 ≤ a then (2 * a + b) / (2 * b) else -((2 * (-a) + b) / (2 * b))

/-- `x` held between `lo` and `hi`. -/
def clampInt (lo hi x : Int) : Int := if x < lo then lo else if hi < x then hi else x

/-! ### Status codes (R13) -/

def stOK : Nat := 0x00
def stOkEmpty : Nat := 0x01
def stPending : Nat := 0x02
def stBadOpcode : Nat := 0x10
def stBadLength : Nat := 0x11
def stBadParam : Nat := 0x12
def stBadState : Nat := 0x13
def stBusy : Nat := 0x14
def stDenied : Nat := 0x15
def stMismatch : Nat := 0x16
def stFlashReprogram : Nat := 0x20
def stFlashSameBank : Nat := 0x21
def stFlashHalfErased : Nat := 0x22
def stFlashEcc : Nat := 0x23
def stDutyExhausted : Nat := 0x30
def stNotAdmitted : Nat := 0x31
def stDeadline : Nat := 0x32
def stPartnerLost : Nat := 0x33
def stCalInvalid : Nat := 0x40
def stDateInvalid : Nat := 0x50
def stTimeLost : Nat := 0x51
def stFault : Nat := 0x60
def stInternal : Nat := 0x7F

/-- Every code of R13. -/
def statusCodes : List Nat :=
  [stOK, stOkEmpty, stPending, stBadOpcode, stBadLength, stBadParam, stBadState, stBusy, stDenied, stMismatch,
   stFlashReprogram, stFlashSameBank, stFlashHalfErased, stFlashEcc, stDutyExhausted, stNotAdmitted, stDeadline,
   stPartnerLost, stCalInvalid, stDateInvalid, stTimeLost, stFault, stInternal]

/-- Place of a code in the order of R14, smallest first; OK_EMPTY and OK follow every error. -/
def statusRank (c : Nat) : Nat :=
  if c = stBadOpcode then 0 else if c = stBadLength then 1 else if c = stDenied then 2 else if c = stBadState then 3
  else if c = stBadParam then 4 else if c = stMismatch then 5
  else if 0x20 ≤ c ∧ c ≤ 0x60 then c else if c = stInternal then 0x61 else if c = stBusy then 0x62
  else if c = stOkEmpty then 0x63 else 0x64

/-- The status reported when several conditions apply: the first of R14, OK when none does. -/
def firstStatus : List (Bool × Nat) → Nat
  | [] => stOK
  | (c, v) :: r => if c ∧ statusRank v ≤ statusRank (firstStatus r) then v else firstStatus r

/-! ### Per-band values -/

def PerBand.get {α : Type} (p : PerBand α) : Band → α
  | .sg => p.sg
  | .g24 => p.g24

def PerBand.set {α : Type} (p : PerBand α) (b : Band) (v : α) : PerBand α :=
  match b with
  | .sg => { p with sg := v }
  | .g24 => { p with g24 := v }

/-! ### Register words and fields -/

/-- The word held at register address `a`. -/
def regGet (m : List (Nat × Word)) (a : Nat) : Word := spGet resetWord m a

/-- Replaces the word at register address `a`. -/
def regSet (m : List (Nat × Word)) (a : Nat) (v : Word) : List (Nat × Word) := spSet resetWord m a v

/-- The value of a field within its register word. -/
def Field.of (f : Field) (w : Word) : Nat := w.toNat / 2 ^ f.lsb % 2 ^ f.width

/-- The register word with the field replaced by `v` (its low bits). -/
def Field.put (f : Field) (w : Word) (v : Nat) : Word :=
  BitVec.ofNat 32 (w.toNat - f.of w * 2 ^ f.lsb + v % 2 ^ f.width * 2 ^ f.lsb)

/-- Reads a field of the register words `m`. -/
def rdF (m : List (Nat × Word)) (f : Field) : Nat := f.of (regGet m f.addr)

/-- Writes a field of the register words `m`. -/
def wrF (m : List (Nat × Word)) (f : Field) (v : Nat) : List (Nat × Word) :=
  regSet m f.addr (f.put (regGet m f.addr) v)

/-- A counter field moved on by `k`, saturating at its largest value. -/
def incF (m : List (Nat × Word)) (f : Field) (k : Nat := 1) : List (Nat × Word) :=
  wrF m f (min (rdF m f + k) (2 ^ f.width - 1))

/-- Active value of a field. -/
def State.rd (s : State) (f : Field) : Nat := rdF s.regs f

/-- Active value of a one-bit field. -/
def State.rdB (s : State) (f : Field) : Bool := s.rd f != 0

/-- Shadow value of a field (R4). -/
def State.sh (s : State) (f : Field) : Nat := rdF s.shadow f

/-- Writes the active value of a field. -/
def State.wr (s : State) (f : Field) (v : Nat) : State := { s with regs := wrF s.regs f v }

/-- Counts `k` more in a saturating counter field. -/
def State.inc (s : State) (f : Field) (k : Nat := 1) : State := { s with regs := incF s.regs f k }

/-- The mask of SH bits of the register at `a`. -/
def shMask (a : Nat) : Word :=
  match regRow a with
  | some r => BitVec.ofNat 32 r.sh
  | none => 0

/-- A plain bus write to the register at `a` by the types of R4 and R5: RW bits are set, W1C bits written 1 are cleared,
RO and reserved bits stay. -/
def plainActive (a : Nat) (v old : Word) : Word :=
  match regRow a with
  | some r =>
    let rw := BitVec.ofNat 32 r.rw
    let w1c := BitVec.ofNat 32 r.w1c
    ((old &&& ~~~rw) ||| (v &&& rw)) &&& ~~~(v &&& w1c)
  | none => old

/-- The shadow word after a bus write: the SH bits take the written value (R4). -/
def plainShadow (a : Nat) (v old : Word) : Word := (old &&& ~~~(shMask a)) ||| (v &&& shMask a)

/-- The word a bus read returns from the stored copies: the shadow value for SH bits, the active value for the rest (R4).
WO and CMT bits are never stored, so they read 0. -/
def plainRead (a : Nat) (act shad : Word) : Word := (act &&& ~~~(shMask a)) ||| (shad &&& shMask a)

/-- A plain write of the word `v` to the register at `a`. A write to an address without a register is ignored (R33). -/
def State.plainWrite (s : State) (a : Nat) (v : Word) : State :=
  match regRow a with
  | some _ =>
    { s with regs := regSet s.regs a (plainActive a v (regGet s.regs a)),
             shadow := regSet s.shadow a (plainShadow a v (regGet s.shadow a)) }
  | none => s

/-- A plain read of the register at `a`; 0 where no register stands (R33). -/
def State.plainRead (s : State) (a : Nat) : Word :=
  match regRow a with
  | some _ => Machine.plainRead a (regGet s.regs a) (regGet s.shadow a)
  | none => 0

/-- Register addresses of a table's rows, each with its SH mask. -/
def rowAddrs (base : Nat) (r : RegRow) : List Nat := (List.range r.n).map (fun i => base + r.off + i * r.stride)

/-- The addresses of the block's registers that hold SH fields. -/
def shAddrs (base : Nat) : List Nat :=
  ((blockRows ((base - 0x40000000) / 0x1000)).filter (fun r => r.sh ≠ 0)).flatMap (rowAddrs base)

/-- The shadow set of `as` equals the active set in every field (R10). -/
def shadowEq (regs shadow : List (Nat × Word)) (as : List Nat) : Bool :=
  as.all (fun a => decide (regGet regs a &&& shMask a = regGet shadow a &&& shMask a))

/-- The active words with the SH fields of the registers in `as` taken from the shadow set (R9). -/
def copyShadow (regs shadow : List (Nat × Word)) : List Nat → List (Nat × Word)
  | [] => regs
  | a :: r =>
    regSet (copyShadow regs shadow r) a
      ((regGet regs a &&& ~~~(shMask a)) ||| (regGet shadow a &&& shMask a))

/-- STATUS of a commit register at offset `off` of a block (R7). -/
abbrev commitStatus (a : Nat) : Field := ⟨a, 8, 8⟩

/-- The register words with every register of the address range reset (R6). -/
def regsReset (lo hi : Nat) (m : List (Nat × Word)) : List (Nat × Word) :=
  spClear (fun a => decide (lo ≤ a ∧ a < hi)) m

/-- Block `k` of R18 with its registers and shadow copies at their reset values (R6). -/
def State.resetBlock (s : State) (base : Nat) : State :=
  { s with regs := regsReset base (base + 0x1000) s.regs, shadow := regsReset base (base + 0x1000) s.shadow }

/-! ### Masters and owners -/

/-- Index of the even engine of the pair that an engine belongs to: pair k holds E0/E1 (k = 0) or E(2k+2)/E(2k+3) (R23). -/
def pairOf (e : Nat) : Option Nat :=
  if e < 2 then some 0 else if 4 ≤ e ∧ e < 12 then some (e / 2 - 1) else none

/-- Even engine of pair `k`. -/
def pairEven (k : Nat) : Nat := if k = 0 then 0 else 2 * k + 2

/-- The engine is in a pair that is lockstepped (R307). -/
def State.paired (s : State) (e : Nat) : Bool :=
  match pairOf e with
  | some k => s.rd ENG_LSCFG_PAIRED / 2 ^ k % 2 == 1
  | none => false

/-- The engine that acts for `e`: the even engine of a lockstepped pair, else `e` itself (R24). -/
def State.leader (s : State) (e : Nat) : Nat := if s.paired e && e % 2 == 1 then e - 1 else e

/-- The engine is the odd one of a lockstepped pair. -/
def State.isOdd (s : State) (e : Nat) : Bool := s.paired e && e % 2 == 1

/-- The TCM of engine `e`, or of its partner in a pair, is still being cleared after a SLEEP (R445). -/
def State.clearing (s : State) (e : Nat) : Bool := s.pwr.clearing.contains e || (s.paired e && s.pwr.clearing.contains (e + 1))

/-- The master is an engine. -/
def isEng : Master → Bool
  | .eng _ => true
  | .hif => false

/-- Owner code of a writer (R23, R24 and the owner codes of 12_event_fabric.md): HIF is 12. -/
def State.code (s : State) : Master → Nat
  | .eng e => s.leader e.val
  | .hif => 12

/-- HIF holds the expert unlock (R498). -/
def State.expert (s : State) : Bool := s.rdB HIF_EXPERT_UNLOCK

/-- The master is E2. -/
def isE2 : Master → Bool
  | .eng e => e.val == 2
  | .hif => false

/-- The master is E2, or HIF under the expert unlock. -/
def State.e2OrExpert (s : State) (m : Master) : Bool :=
  match m with
  | .eng e => e.val == 2
  | .hif => s.expert

/-! ### Engines in the state -/

/-- Engine `e` (0 to 11); an index outside reads as E11. -/
def State.eng (s : State) (e : Nat) : Engine := s.engs[min e 11]

/-- A write of the engine to block `blk`, at 0x4000_0000 + 0x1000 × `blk`, is lost, and its fault vector is not entered yet (R305). -/
def State.lostTo (s : State) (m : Master) (blk : Nat) : Bool :=
  match m with
  | .eng e => (s.eng (s.leader e.val)).flushed.any (fun f => f.toNat / 0x1000 == 0x40000 + blk)
  | .hif => false

/-- The transfer is a write of the owner with code `c`. -/
def State.heldBy (s : State) (c : Nat) : HeldItem → Bool
  | .write m _ _ => s.code m == c
  | .record _ | .read _ => false

/-- How many writes of owner `c` the Strait into the Atoll domain holds. -/
def State.heldCount (s : State) (c : Nat) : Nat := (s.rtc.held.filter (s.heldBy c)).length

/-- A write of engine `m` that the Strait into the Atoll domain holds keeps its later writes back, but for those to its TCM (R22). -/
def State.writesHeld (s : State) (m : Master) : Bool :=
  match m with
  | .eng _ => s.rtc.held.any (s.heldBy (s.code m))
  | .hif => false

/-- A write of `m` cannot act in block `blk` now: a write before it is lost (R305), or one before it is held and `blk` is not RTC, whose
writes queue behind it (R22). -/
def State.barred (s : State) (m : Master) (blk : Nat) : Bool := s.lostTo m blk || (blk != 5 && s.writesHeld m)

/-- `t` is what a register write by `m` to block `blk` does; where the write is barred it has no effect. -/
def State.writes (s : State) (m : Master) (blk : Nat) (t : State) : State := if s.barred m blk then s else t

/-- The engines with engine `e` replaced. -/
def setEng (v : Vector Engine 12) (e : Nat) (g : Engine) : Vector Engine 12 := v.set (min e 11) g

/-- The state with engine `e` replaced. -/
def State.setEng (s : State) (e : Nat) (g : Engine) : State := { s with engs := Machine.setEng s.engs e g }

/-! ### Bytes and words -/

/-- The little-endian bytes of a word. -/
def wordBytes (w : Word) : List Byte :=
  [w.extractLsb' 0 8, w.extractLsb' 8 8, w.extractLsb' 16 8, w.extractLsb' 24 8]

/-- The little-endian number of a byte list. -/
def leNat : List Byte → Nat
  | [] => 0
  | b :: r => b.toNat + 256 * leNat r

/-- The `n` little-endian bytes of a number. -/
def natLE : Nat → Nat → List Byte
  | 0, _ => []
  | n + 1, v => BitVec.ofNat 8 v :: natLE n (v / 256)

/-- Reads `n` bytes from address `a` of a byte store with default `d`. -/
def readBytes (d : Nat → Byte) (m : List Host.Cell) (a : Nat) : Nat → List Byte
  | 0 => []
  | n + 1 => spGet d m a :: readBytes d m (a + 1) n

/-- Writes the bytes from address `a` on. -/
def writeBytes (d : Nat → Byte) (m : List Host.Cell) (a : Nat) : List Byte → List Host.Cell
  | [] => m
  | b :: r => writeBytes d (spSet d m a b) (a + 1) r

/-! ### Shared SRAM (R27, R28, R330, R445) -/

/-- First address of shared SRAM. -/
def sramBase : Nat := 0x10000000

/-- The address lies in shared SRAM (R27). -/
def inSram (a : Nat) : Bool := decide (0x10000000 ≤ a ∧ a < 0x10200000)

/-- What an SRAM byte holds that nothing has written since its bank had contents: 0 before any loss (log entry 4), a free
value after one (R445). -/
def sramDefault (gen : List Nat) (a : Nat) : Byte :=
  let g := gen.getD ((a - 0x10000000) / 0x40000) 0
  if g = 0 then 0 else Config.lostByte g a

/-- The canonical form of shared SRAM, for the losses of its banks: addresses rising, and no byte equal to what it holds unlisted. -/
def Memory.wf (gen : List Nat) (m : List Host.Cell) : Bool := spWf (sramDefault gen) m

/-- A byte of shared SRAM. -/
def State.sramByte (s : State) (a : Nat) : Byte := spGet (sramDefault s.sramGen) s.sram a

/-- `n` bytes of shared SRAM from `a` on. -/
def State.sramBytes (s : State) (a n : Nat) : List Byte := readBytes (sramDefault s.sramGen) s.sram a n

/-- A little-endian number of `n` bytes in shared SRAM. -/
def State.sramNat (s : State) (a n : Nat) : Nat := leNat (s.sramBytes a n)

/-- The reservations that a write to the bytes `a` to `a + n − 1` leaves (R330). -/
def keepResvs (r : List (Nat × Nat)) (a n : Nat) : List (Nat × Nat) :=
  r.filter (fun p => decide (p.2 + 4 ≤ a ∨ a + n ≤ p.2))

/-- A write of bytes to shared SRAM: any reservation of a word it touches is cleared (R330). -/
def State.sramWrite (s : State) (a : Nat) (bs : List Byte) : State :=
  { s with sram := writeBytes (sramDefault s.sramGen) s.sram a bs, resvs := keepResvs s.resvs a bs.length }

/-- The address within shared SRAM that a bus address reaches: itself, or its alias through the data-port window (R30). -/
def State.sramAddr (s : State) (a : Nat) : Option Nat :=
  if inSram a then some a
  else if 0x50000000 ≤ a ∧ a < 0x50010000 then
    let t := s.rd HIF_DPBASE_BASE * 0x10000 + (a - 0x50000000)
    if inSram t then some t else none
  else none

/-! ### Backup RAM checks (R414, R415) -/

/-- One bit step of CRC-16/CCITT-FALSE. -/
def crc16Bit (c : Nat) (bit : Nat) : Nat :=
  if (c / 0x8000 + bit) % 2 = 1 then ((c * 2) % 0x10000) ^^^ 0x1021 else (c * 2) % 0x10000

/-- A byte, its most significant bit first, through CRC-16/CCITT-FALSE. -/
def crc16Byte (c : Nat) (b : Byte) : Nat :=
  (List.range 8).foldl (fun c i => crc16Bit c (b.toNat / 2 ^ (7 - i) % 2)) c

/-- CRC-16/CCITT-FALSE of a byte list: polynomial 0x1021, start 0xFFFF. -/
def crc16 (bs : List Byte) : Nat := bs.foldl crc16Byte 0xFFFF

/-! ### BCD -/

/-- A number below 100 in two BCD digits. -/
def bcd2 (n : Nat) : Nat := n / 10 % 10 * 16 + n % 10

/-- A number below 10,000 in four BCD digits. -/
def bcd4 (n : Nat) : Nat := bcd2 (n / 100) * 256 + bcd2 (n % 100)

/-- Every one of the low `k` hexadecimal digits is at most 9. -/
def bcdOk : Nat → Nat → Bool
  | 0, _ => true
  | k + 1, v => decide (v % 16 ≤ 9) && bcdOk k (v / 16)

/-- The number that `k` BCD digits show. -/
def bcdVal : Nat → Nat → Nat
  | 0, _ => 0
  | k + 1, v => v % 16 + 10 * bcdVal k (v / 16)

/-! ### Free values -/

/-- The next free value below `n` (log entry 3), and the state with the counter moved on. -/
def State.freeBelow (s : State) (n : Nat) : Nat := Config.freeValue s.free % n

def State.took (s : State) (k : Nat := 1) : State := { s with free := s.free + k }

end Sys2Proof.Machine
end

