-- ==== Sys2Proof/Machine/Crypto.lean ====
section
/-!
DEFINITION. The algorithms of CIP (R383, R393): AES of FIPS 197, CTR, CMAC, CCM and CCM*, GCM, and the key wrap. The standards
stand outside the spec, which names them (log entry 20).
-/
namespace Sys2Proof.Machine

/-! ### AES (FIPS 197), on bytes as numbers -/

/-- A row of the S-box. -/
def sboxRow : Nat → List Nat
  | 0 => [0x63, 0x7C, 0x77, 0x7B, 0xF2, 0x6B, 0x6F, 0xC5, 0x30, 0x01, 0x67, 0x2B, 0xFE, 0xD7, 0xAB, 0x76]
  | 1 => [0xCA, 0x82, 0xC9, 0x7D, 0xFA, 0x59, 0x47, 0xF0, 0xAD, 0xD4, 0xA2, 0xAF, 0x9C, 0xA4, 0x72, 0xC0]
  | 2 => [0xB7, 0xFD, 0x93, 0x26, 0x36, 0x3F, 0xF7, 0xCC, 0x34, 0xA5, 0xE5, 0xF1, 0x71, 0xD8, 0x31, 0x15]
  | 3 => [0x04, 0xC7, 0x23, 0xC3, 0x18, 0x96, 0x05, 0x9A, 0x07, 0x12, 0x80, 0xE2, 0xEB, 0x27, 0xB2, 0x75]
  | 4 => [0x09, 0x83, 0x2C, 0x1A, 0x1B, 0x6E, 0x5A, 0xA0, 0x52, 0x3B, 0xD6, 0xB3, 0x29, 0xE3, 0x2F, 0x84]
  | 5 => [0x53, 0xD1, 0x00, 0xED, 0x20, 0xFC, 0xB1, 0x5B, 0x6A, 0xCB, 0xBE, 0x39, 0x4A, 0x4C, 0x58, 0xCF]
  | 6 => [0xD0, 0xEF, 0xAA, 0xFB, 0x43, 0x4D, 0x33, 0x85, 0x45, 0xF9, 0x02, 0x7F, 0x50, 0x3C, 0x9F, 0xA8]
  | 7 => [0x51, 0xA3, 0x40, 0x8F, 0x92, 0x9D, 0x38, 0xF5, 0xBC, 0xB6, 0xDA, 0x21, 0x10, 0xFF, 0xF3, 0xD2]
  | 8 => [0xCD, 0x0C, 0x13, 0xEC, 0x5F, 0x97, 0x44, 0x17, 0xC4, 0xA7, 0x7E, 0x3D, 0x64, 0x5D, 0x19, 0x73]
  | 9 => [0x60, 0x81, 0x4F, 0xDC, 0x22, 0x2A, 0x90, 0x88, 0x46, 0xEE, 0xB8, 0x14, 0xDE, 0x5E, 0x0B, 0xDB]
  | 10 => [0xE0, 0x32, 0x3A, 0x0A, 0x49, 0x06, 0x24, 0x5C, 0xC2, 0xD3, 0xAC, 0x62, 0x91, 0x95, 0xE4, 0x79]
  | 11 => [0xE7, 0xC8, 0x37, 0x6D, 0x8D, 0xD5, 0x4E, 0xA9, 0x6C, 0x56, 0xF4, 0xEA, 0x65, 0x7A, 0xAE, 0x08]
  | 12 => [0xBA, 0x78, 0x25, 0x2E, 0x1C, 0xA6, 0xB4, 0xC6, 0xE8, 0xDD, 0x74, 0x1F, 0x4B, 0xBD, 0x8B, 0x8A]
  | 13 => [0x70, 0x3E, 0xB5, 0x66, 0x48, 0x03, 0xF6, 0x0E, 0x61, 0x35, 0x57, 0xB9, 0x86, 0xC1, 0x1D, 0x9E]
  | 14 => [0xE1, 0xF8, 0x98, 0x11, 0x69, 0xD9, 0x8E, 0x94, 0x9B, 0x1E, 0x87, 0xE9, 0xCE, 0x55, 0x28, 0xDF]
  | _ => [0x8C, 0xA1, 0x89, 0x0D, 0xBF, 0xE6, 0x42, 0x68, 0x41, 0x99, 0x2D, 0x0F, 0xB0, 0x54, 0xBB, 0x16]

/-- The S-box. -/
def sbox (x : Nat) : Nat := (sboxRow (x / 16)).getD (x % 16) 0

/-- Multiplication by x in the field of AES. -/
def xtime (x : Nat) : Nat := if 128 ≤ x then (2 * x - 256) ^^^ 0x1B else 2 * x

/-- Two byte lists combined bit by bit; the longer one is cut. -/
def xorNats (a b : List Nat) : List Nat := (a.zip b).map (fun p => p.1 ^^^ p.2)

/-- The round constant of word group `j`, from 1. -/
def rcon : Nat → Nat
  | 0 => 0x8D
  | 1 => 1
  | j + 1 => xtime (rcon j)

/-- `n` more words of the key schedule; `ws` holds the words so far, newest first, and `i` their number. -/
def keyWords (nk : Nat) : Nat → Nat → List (List Nat) → List (List Nat)
  | 0, _, ws => ws
  | n + 1, i, ws =>
    let t := ws.headD []
    let u := if i % nk = 0 then xorNats ((t.drop 1 ++ t.take 1).map sbox) [rcon (i / nk), 0, 0, 0]
             else if 6 < nk ∧ i % nk = 4 then t.map sbox else t
    keyWords nk n (i + 1) (xorNats (ws.getD (nk - 1) []) u :: ws)

/-- A list cut into pieces of `k`. -/
def piecesOf {α : Type} (k : Nat) : Nat → List α → List (List α)
  | 0, _ => []
  | n + 1, l => l.take k :: piecesOf k n (l.drop k)

/-- The round keys of a key of 16, 24 or 32 bytes. -/
def roundKeys (key : List Nat) : List (List Nat) :=
  let nk := key.length / 4
  let ws := (keyWords nk (4 * (nk + 7) - nk) nk (piecesOf 4 nk key).reverse).reverse
  (piecesOf 4 (nk + 7) ws).map List.flatten

/-- ShiftRows of a state in the byte order of FIPS 197. -/
def shiftRows (s : List Nat) : List Nat :=
  (List.range 16).map (fun i => s.getD ((i + 4 * (i % 4)) % 16) 0)

/-- MixColumns of one column. -/
def mixColumn (c : List Nat) : List Nat :=
  (List.range 4).map (fun r =>
    let a := c.getD r 0
    let b := c.getD ((r + 1) % 4) 0
    xtime a ^^^ (xtime b ^^^ b) ^^^ c.getD ((r + 2) % 4) 0 ^^^ c.getD ((r + 3) % 4) 0)

/-- The rounds after the first round key: every one mixes but the last. -/
def aesRounds : List (List Nat) → List Nat → List Nat
  | [], s => s
  | [k], s => xorNats (shiftRows (s.map sbox)) k
  | k :: r, s => aesRounds r (xorNats ((piecesOf 4 4 (shiftRows (s.map sbox))).flatMap mixColumn) k)

/-- The number of a byte list's bytes. -/
def toNats (l : List Byte) : List Nat := l.map BitVec.toNat

/-- Bytes of a list of numbers. -/
def toBytes (l : List Nat) : List Byte := l.map (BitVec.ofNat 8)

/-- AES of one block of 16 bytes. -/
def aes (key block : List Byte) : List Byte :=
  match roundKeys (toNats key) with
  | [] => []
  | k :: r => toBytes (aesRounds r (xorNats (toNats block) k))

/-! ### Modes -/

/-- Byte-wise exclusive or; the longer list is cut. -/
def xorBytes (a b : List Byte) : List Byte := (a.zip b).map (fun p => p.1 ^^^ p.2)

/-- The number of 16-byte blocks that hold `n` bytes. -/
def blocks16 (n : Nat) : Nat := (n + 15) / 16

/-- A list filled with zeros to whole blocks. -/
def padBlocks (l : List Byte) : List Byte := l ++ List.replicate (16 * blocks16 l.length - l.length) 0

/-- The `n` big-endian bytes of a number. -/
def natBE (n v : Nat) : List Byte := (natLE n v).reverse

/-- The big-endian number of a byte list. -/
def beNat (l : List Byte) : Nat := leNat l.reverse

/-- `n` blocks of key stream from counter block `c`: its low 32 bits count (R383). -/
def ctrStream (key : List Byte) (hi : List Byte) : Nat → Nat → List Byte
  | 0, _ => []
  | n + 1, c => aes key (hi ++ natBE 4 c) ++ ctrStream key hi n ((c + 1) % 2 ^ 32)

/-- AES-CTR with the counter block `iv`. -/
def aesCtr (key iv data : List Byte) : List Byte :=
  xorBytes data (ctrStream key (iv.take 12) (blocks16 data.length) (beNat (iv.drop 12)))

/-- The CBC-MAC chain over whole blocks. -/
def cbcMac (key : List Byte) : List (List Byte) → List Byte → List Byte
  | [], x => x
  | b :: r, x => cbcMac key r (aes key (xorBytes x b))

/-- Sixteen zero bytes. -/
def zeroBlock : List Byte := List.replicate 16 0

/-- Doubling in the field of CMAC. -/
def cmacDouble (b : List Byte) : List Byte :=
  let n := beNat b
  natBE 16 ((2 * n % 2 ^ 128) ^^^ (if 2 ^ 127 ≤ n then 0x87 else 0))

/-- CMAC, the whole 16 bytes (SP 800-38B). -/
def cmac (key msg : List Byte) : List Byte :=
  let k1 := cmacDouble (aes key zeroBlock)
  let n := max 1 (blocks16 msg.length)
  let last := msg.drop (16 * (n - 1))
  let lastBlock := if last.length = 16 then xorBytes last k1
                   else xorBytes (padBlocks (last ++ [0x80])) (cmacDouble k1)
  cbcMac key (piecesOf 16 (n - 1) msg ++ [lastBlock]) zeroBlock

/-- The encoded length of the authenticated data in CCM (SP 800-38C). -/
def ccmAadLen (a : Nat) : List Byte := if a < 0xFF00 then natBE 2 a else [0xFF, 0xFE] ++ natBE 4 a

/-- The CBC-MAC input of CCM. -/
def ccmBlocks (nonce aad msg : List Byte) (t : Nat) : List (List Byte) :=
  let q := 15 - nonce.length
  let b0 := BitVec.ofNat 8 ((if aad.length = 0 then 0 else 64) + 8 * ((t - 2) / 2) + (q - 1)) :: nonce ++ natBE q msg.length
  let a := if aad.length = 0 then [] else padBlocks (ccmAadLen aad.length ++ aad)
  let l := b0 ++ a ++ padBlocks msg
  piecesOf 16 (l.length / 16) l

/-- Key stream of CCM from counter `i` on. -/
def ccmStream (key nonce : List Byte) : Nat → Nat → List Byte
  | 0, _ => []
  | n + 1, i =>
    aes key (BitVec.ofNat 8 (14 - nonce.length) :: nonce ++ natBE (15 - nonce.length) i) ++ ccmStream key nonce n (i + 1)

/-- The CTR pass of CCM and CCM*. -/
def ccmCrypt (key nonce data : List Byte) : List Byte := xorBytes data (ccmStream key nonce (blocks16 data.length) 1)

/-- The tag of CCM, `t` bytes; none for `t` = 0 (CCM*). -/
def ccmTag (key nonce aad msg : List Byte) (t : Nat) : List Byte :=
  (xorBytes (cbcMac key (ccmBlocks nonce aad msg t) zeroBlock) (ccmStream key nonce 1 0)).take t

/-- One bit of a GHASH product: `i` counts the bits of the factor from its first. -/
def ghashBits (x : Nat) : Nat → Nat → Nat → Nat
  | 0, _, z => z
  | n + 1, v, z =>
    ghashBits x n (if v % 2 = 1 then (v / 2) ^^^ (0xE1 * 2 ^ 120) else v / 2) (if x / 2 ^ n % 2 = 1 then z ^^^ v else z)

/-- The product of GHASH (SP 800-38D). -/
def ghashMul (x h : Nat) : Nat := ghashBits x 128 h 0

/-- GHASH over whole blocks. -/
def ghash (h : Nat) : List (List Byte) → Nat → Nat
  | [], y => y
  | b :: r, y => ghash h r (ghashMul (y ^^^ beNat b) h)

/-- The CTR pass of GCM with a 96-bit IV. -/
def gcmCrypt (key iv data : List Byte) : List Byte :=
  xorBytes data (ctrStream key iv (blocks16 data.length) 2)

/-- The tag of GCM over ciphertext `c`, `t` bytes. -/
def gcmTag (key iv aad c : List Byte) (t : Nat) : List Byte :=
  let l := padBlocks aad ++ padBlocks c ++ natBE 8 (8 * aad.length) ++ natBE 8 (8 * c.length)
  let y := ghash (beNat (aes key zeroBlock)) (piecesOf 16 (l.length / 16) l) 0
  (xorBytes (natBE 16 y) (ctrStream key iv 1 1)).take t

/-! ### Key wrap (R393) -/

/-- A subkey of step 1: first byte `b`, as long as the key. The last 8 bytes for a 192-bit key are open (log entry 21). -/
def wrapSubkey (key : List Byte) (b : Byte) : List Byte :=
  let f := fun j : Byte => aes key ([b, j] ++ List.replicate 14 0)
  if key.length = 24 then f 0 ++ (List.range 8).map (Config.subkeyTail b key)
  else (f 0 ++ f 1).take key.length

/-- T of step 2. -/
def wrapTag (key h p : List Byte) : List Byte := (cmac (wrapSubkey key 1) (h ++ p)).take 8

/-- The wrap T ‖ C of `p` under `key` with header `h`. -/
def wrapKey (key h p : List Byte) : List Byte :=
  let t := wrapTag key h p
  t ++ aesCtr (wrapSubkey key 2) (t ++ List.replicate 8 0) p

/-- The unwrap of T ‖ C: the plaintext, when T matches. -/
def unwrapKey (key h w : List Byte) : Option (List Byte) :=
  let p := aesCtr (wrapSubkey key 2) (w.take 8 ++ List.replicate 8 0) (w.drop 8)
  if wrapTag key h p = w.take 8 then some p else none

/-- KCV of a key (R408): its first two bytes of AES of a zero block, byte 0 above byte 1. -/
def keyKcv (key : List Byte) : Nat := beNat ((aes key zeroBlock).take 2)

end Sys2Proof.Machine
end

