-- ==== Sys2Proof/Machine/FrameCodec.lean ====
section
/-!
DEFINITION. Frames as bytes (05_link_layer.md): the native family of R154 and R155, the acknowledgement of R161, the standard
family of R163, their FCS, and CCM* as R156 and R161 use it.
-/
namespace Sys2Proof.Machine

/-! ### FCS (R154) -/

/-- One bit of the 16-bit FCS of IEEE 802.15.4-2020: generator x¹⁶ + x¹² + x⁵ + 1, least significant bit first. -/
def fcsBit (c : Nat) (b : Bool) : Nat := if (c + b2n b) % 2 = 1 then (c / 2) ^^^ 0x8408 else c / 2

/-- The 16-bit FCS of a byte list, register starting at 0. -/
def fcs16 (bs : List Byte) : Nat :=
  bs.foldl (fun c b => (List.range 8).foldl (fun d i => fcsBit d (b.getLsbD i)) c) 0

/-- One bit of the 32-bit FCS. -/
def fcs32Bit (c : Nat) (b : Bool) : Nat := if (c + b2n b) % 2 = 1 then (c / 2) ^^^ 0xEDB88320 else c / 2

/-- The 32-bit FCS of a byte list. -/
def fcs32 (bs : List Byte) : Nat :=
  (bs.foldl (fun c b => (List.range 8).foldl (fun d i => fcs32Bit d (b.getLsbD i)) c) 0xFFFFFFFF) ^^^ 0xFFFFFFFF

/-- The frame with its 16-bit FCS appended. -/
def withFcs (bs : List Byte) : List Byte := bs ++ natLE 2 (fcs16 bs)

/-- Bytes of the FCS. -/
def fcsLen (four : Bool) : Nat := if four then 4 else 2

/-- The FCS at the end of a PSDU is correct. -/
def fcsGood (psdu : List Byte) (four : Bool) : Bool :=
  let n := psdu.length - fcsLen four
  decide (fcsLen four ≤ psdu.length) &&
    leNat (psdu.drop n) == (if four then fcs32 (psdu.take n) else fcs16 (psdu.take n))

/-! ### CCM* in a frame (R156, R161, R163) -/

/-- Length of the MIC at a security level of IEEE 802.15.4-2020. -/
def micLen (level : Nat) : Nat := match level % 4 with | 0 => 0 | 1 => 4 | 2 => 8 | _ => 16

/-- The payload is encrypted at the level. -/
def encLevel (level : Nat) : Bool := decide (4 ≤ level)

/-- The 13-byte nonce: EUI-64 and counter most significant byte first, then the level (R156). -/
def linkNonce (eui ctr level : Nat) : List Byte := natBE 8 eui ++ natBE 4 ctr ++ [BitVec.ofNat 8 level]

/-- The bytes after the header of a sealed frame: payload, encrypted at the levels that encrypt, then MIC. -/
def sealBytes (key : List Byte) (eui ctr level : Nat) (hdr body : List Byte) : List Byte :=
  let nonce := linkNonce eui ctr level
  if encLevel level then ccmCrypt key nonce body ++ ccmTag key nonce hdr body (micLen level)
  else body ++ ccmTag key nonce (hdr ++ body) [] (micLen level)

/-- The payload of a received secured frame, and whether its MIC is right. -/
def openBytes (key : List Byte) (eui ctr level : Nat) (hdr body mic : List Byte) : List Byte × Bool :=
  let nonce := linkNonce eui ctr level
  if encLevel level then
    let p := ccmCrypt key nonce body
    (p, ccmTag key nonce hdr p (micLen level) == mic)
  else (body, ccmTag key nonce (hdr ++ body) [] (micLen level) == mic)

/-! ### Native frames (R154, R155) -/

/-- FCTL. -/
structure Fctl where
  typ    : Nat
  sec    : Bool
  ackReq : Bool
  stamp  : Bool
  kid    : Nat
  pend   : Bool
  ver    : Nat
deriving DecidableEq, Repr

/-- The fields of an FCTL word. -/
def fctlOf (w : Nat) : Fctl :=
  { typ := w % 8, sec := w / 8 % 2 == 1, ackReq := w / 16 % 2 == 1, stamp := w / 32 % 2 == 1, kid := w / 64 % 2,
    pend := w / 128 % 2 == 1, ver := w / 256 % 4 }

/-- The FCTL word of its fields, bits 15:10 sent as 0. -/
def Fctl.word (f : Fctl) : Nat :=
  f.typ % 8 + 8 * b2n f.sec + 16 * b2n f.ackReq + 32 * b2n f.stamp + 64 * (f.kid % 2) + 128 * b2n f.pend + 256 * (f.ver % 4)

/-- VER or TYPE is reserved (R155). -/
def Fctl.reserved (f : Fctl) : Bool := f.ver != 1 || 4 ≤ f.typ

/-- Security level of a native frame's type (R156). -/
def nativeLevel (f : Fctl) : Nat := if f.typ = 0 then 2 else 6

/-- Bytes of a native header up to the payload, the CTR among them when `ctr`. -/
def natHdrLen (f : Fctl) (ctr : Bool) : Nat := 9 + (if f.stamp then 3 else 0) + (if f.sec && ctr then 4 else 0)

/-- A parsed frame of either family. -/
structure Parsed where
  own  : Bool
  /-- TYPE of a native frame; of a standard one 0 beacon, 1 data, 2 acknowledgement, 3 command. -/
  typ     : Nat
  sec     : Bool
  /-- An acknowledgement is requested. -/
  ackReq  : Bool
  kid     : Nat
  seq     : Nat
  /-- MESHID or PAN identifier of the destination; none when the frame carries none. -/
  mesh    : Option Nat
  /-- Destination and source: short address, or an extended one. -/
  dst     : Option (Nat × Bool)
  src     : Option (Nat × Bool)
  /-- CYC8 × 65,536 + PHASE of a stamped native frame. -/
  stamp   : Option Nat
  level   : Nat
  ctr     : Nat
  /-- Standard frame version 0b10. -/
  v2      : Bool
  /-- Header with CTR, the bytes between it and the MIC, and the MIC. -/
  hdr     : List Byte
  body    : List Byte
  mic     : List Byte
  /-- Where the CTR lies in the header. -/
  ctrAt   : Nat
  /-- A standard frame with a feature that R163 does not list: MAC hands it off and acts on none of it. -/
  other   : Bool
  /-- Its addressing fields could be read. -/
  addrs   : Bool
deriving DecidableEq, Repr

/-- Parses a native frame without its FCS (beacon, data or command); none when it is too short. -/
def parseNative (bs : List Byte) : Option Parsed :=
  let f := fctlOf (leNat (bs.take 2))
  let h := natHdrLen f true
  let m := if f.sec then 8 else 0
  if bs.length < h + m then none
  else
    let at_ := fun i n => leNat ((bs.drop i).take n)
    let c := if f.stamp then 12 else 9
    some { own := true, typ := f.typ, sec := f.sec, ackReq := f.ackReq, kid := f.kid, seq := at_ 2 1,
           mesh := some (at_ 3 2), dst := some (at_ 5 2, false), src := some (at_ 7 2, false),
           stamp := if f.stamp then some (at_ 9 1 * 65536 + at_ 10 2) else none, level := if f.sec then nativeLevel f else 0,
           ctr := if f.sec then at_ c 4 else 0, v2 := false, hdr := bs.take h,
           body := (bs.drop h).take (bs.length - h - m), mic := bs.drop (bs.length - m), ctrAt := c, other := false, addrs := true }

/-! ### Standard frames (R163) -/

/-- Bytes of an address of mode `m`: 2 short, 3 extended. -/
def addrLen (m : Nat) : Nat := if m = 2 then 2 else if m = 3 then 8 else 0

/-- Whether a frame carries the destination PAN identifier and the source PAN identifier (IEEE 802.15.4-2020). -/
def panFields (v2 : Bool) (dm sm : Nat) (comp : Bool) : Bool × Bool :=
  if !v2 then (dm != 0, sm != 0 && (dm == 0 || !comp))
  else if dm = 0 ∧ sm = 0 then (comp, false)
  else if sm = 0 then (!comp, false)
  else if dm = 0 then (false, !comp)
  else if dm = 3 ∧ sm = 3 then (!comp, false)
  else (true, !comp)

/-- A standard frame of whose addressing MAC can read nothing: another version or type, or the reserved addressing mode (R163). -/
def Parsed.opaque_ (bs : List Byte) : Parsed :=
  { own := false, typ := leNat (bs.take 1) % 8, sec := false, ackReq := false, kid := 0, seq := 0, mesh := none, dst := none, src := none,
    stamp := none, level := 0, ctr := 0, v2 := false, hdr := [], body := bs, mic := [], ctrAt := 0, other := true, addrs := false }

/-- The payload IEs that begin at `bs` are Payload Termination alone, or there are none (R163; IEEE 802.15.4-2020). -/
def payloadIes (bs : List Byte) : Bool :=
  let w := leNat (bs.take 2)
  bs.isEmpty || (decide (2 ≤ bs.length) && w / 2048 == 31 && w % 2048 == 0)

/-- The header IEs that begin at `bs`: their length in bytes, whether R163 lists them all, and whether payload IEs follow; none where
they are cut short. Time Correction has element 0x1E, Header Termination 1 and 2 have 0x7E and 0x7F (IEEE 802.15.4-2020). -/
def headerIes : Nat → List Byte → Option (Nat × Bool × Bool)
  | 0, _ => none
  | k + 1, bs =>
    if bs.isEmpty then some (0, true, false)
    else
      let w := leNat (bs.take 2)
      let len := w % 128
      let id := w / 128 % 256
      if bs.length < 2 + len ∨ 32768 ≤ w then none
      else if id = 0x7E ∨ id = 0x7F then some (2 + len, len == 0, id == 0x7E)
      else (headerIes k (bs.drop (2 + len))).map (fun r => (2 + len + r.1, id == 0x1E && r.2.1, r.2.2))

/-- Parses a standard frame without its FCS; `withCtr` tells whether the frame counter is present in the bytes (it is not in a
frame that MAC has yet to seal, R166). The header ends with the header IEs. A received frame with an information element that R163
does not list, with key identifier mode 2 or 3 or without its frame counter keeps everything after its addresses as it came (R163). -/
def parseStandard (bs : List Byte) (withCtr : Bool) : Option Parsed :=
  let fc := leNat (bs.take 2)
  let at_ := fun i n => leNat ((bs.drop i).take n)
  let ver := fc / 4096 % 4
  let v2 := ver == 2
  let sec := fc / 8 % 2 == 1
  let sup := v2 && fc / 256 % 2 == 1
  let dm := fc / 1024 % 4
  let sm := fc / 16384 % 4
  let p := panFields v2 dm sm (fc / 64 % 2 == 1)
  let o0 := if sup then 2 else 3
  let o1 := o0 + (if p.1 then 2 else 0)
  let o2 := o1 + addrLen dm
  let o3 := o2 + (if p.2 then 2 else 0)
  let o4 := o3 + addrLen sm
  let sc := at_ o4 1
  let km := sc / 8 % 4
  let odd := sec && (decide (2 ≤ km) || sc / 32 % 2 == 1)
  let aux := sec && !odd
  let o5 := if aux then o4 + 1 + (if withCtr then 4 else 0) + (if km = 1 then 1 else 0) else o4
  let lv := if aux then sc % 8 else 0
  let inner := (bs.drop o5).take (bs.length - o5 - (if withCtr then micLen lv else 0))
  let ies := if v2 && fc / 512 % 2 == 1 then headerIes (inner.length + 1) inner else some (0, true, false)
  let o6 := o5 + (ies.map (·.1)).getD 0
  let listed := match ies with
    | some r => r.2.1 && (!r.2.2 || decide (4 ≤ lv) || payloadIes (inner.drop r.1))
    | none => false
  let other := odd || (withCtr && !listed)
  let kept := sec && !other
  let level := if kept then lv else 0
  let m := micLen level
  if bs.length < 2 then none
  else if ver = 3 ∨ 4 ≤ fc % 8 ∨ dm = 1 ∨ sm = 1 then some (Parsed.opaque_ bs)
  else if bs.length < o6 + (if withCtr then m else 0) then none
  else
    let e := bs.length - (if withCtr then m else 0)
    some { own := false, typ := fc % 8, sec := kept, ackReq := fc / 32 % 2 == 1, kid := if km = 0 then 0 else 1,
           seq := if sup then 0 else at_ 2 1,
           mesh := if p.1 then some (at_ o0 2) else if p.2 then some (at_ o2 2) else none,
           dst := if dm = 0 then none else some (at_ o1 (addrLen dm), dm == 3),
           src := if sm = 0 then none else some (at_ o3 (addrLen sm), sm == 3),
           stamp := none, level := level, ctr := if kept && withCtr then at_ (o4 + 1) 4 else 0, v2 := v2,
           hdr := bs.take o6, body := (bs.drop o6).take (e - o6), mic := bs.drop e, ctrAt := o4 + 1,
           other := other, addrs := true }

/-- A frame as it is handed off: header without CTR, then the payload (R181). -/
def Parsed.plain (p : Parsed) (body : List Byte) : List Byte :=
  (if p.sec then p.hdr.take p.ctrAt ++ p.hdr.drop (p.ctrAt + 4) else p.hdr) ++ body

/-! ### Acknowledgements (R161, R163) -/

/-- A native acknowledgement without its FCS: `mic` is the MIC of a secured one. -/
def ackBytes (sec : Bool) (kid seq st : Nat) (tc : Option Int) (pend : Bool) : List Byte :=
  let f : Fctl := { typ := 2, sec := sec, ackReq := false, stamp := false, kid := kid, pend := pend, ver := 1 }
  natLE 2 f.word ++ [BitVec.ofNat 8 seq, BitVec.ofNat 8 (st % 4 + 4 * b2n tc.isSome + 8 * b2n pend)] ++
    natLE 2 (intBits 16 (tc.getD 0))

/-- The MIC-32 of a secured acknowledgement (R161). -/
def ackMic (key : List Byte) (eui ctr : Nat) (bs : List Byte) : List Byte := ccmTag key (linkNonce eui ctr 1) bs [] 4

/-- An Imm-Ack without its FCS. -/
def immAck (seq : Nat) : List Byte := natLE 2 2 ++ [BitVec.ofNat 8 seq]

/-- An Enh-Ack with the Time Correction IE alone, without its FCS: `us` is the time correction in microseconds. -/
def enhAck (seq : Nat) (us : Int) : List Byte :=
  natLE 2 (2 + 0x200 + 0x2000) ++ [BitVec.ofNat 8 seq] ++ natLE 2 0x0F02 ++ natLE 2 (intBits 12 us)

end Sys2Proof.Machine
end

