-- ==== Sys2Proof/Machine/Fabric.lean ====
section
/-!
DEFINITION. The event fabric (12_event_fabric.md): sources and channels, pulses to tasks and their crossings, engine
event and interrupt inputs (R306), channel, group and claim writes.
-/
namespace Sys2Proof.Machine

/-! ### Clocks that a pulse needs -/

/-- TCLK and the other main clocks run: RUN or DOZE, with the clocks of R455 or R443 started. -/
def State.tclkOn (s : State) : Bool :=
  (s.pwr.st == .run || s.pwr.st == .doze) && s.start != .clocks && !s.pwr.waking

/-! ### Engine inputs (R306) -/

/-- An engine that WAIT stops leaves it when a pending bit stands whose mask bit is set (R298, R303); the exit takes a
checkpoint (R309). -/
def wakeEngine (regs : List (Nat × Word)) (e : Nat) (g : Engine) : Engine :=
  if g.st = .wait ∧ (rdF regs (ENG_PEND_EPEND e) &&& rdF regs (ENG_MASK_EMASK e) ≠ 0 ∨
      rdF regs (ENG_PEND_IPEND e) &&& rdF regs (ENG_MASK_IMASK e) ≠ 0) then
    { g with st := .run, ckpt := g.g, ckLoad := g.load, undo := [], mmSince := false, idle := false }
  else g

/-- DOZE becomes RUN as soon as an engine leaves idle, and an entry to SLEEP then fails (R437, R442). -/
def pwrWithEngine (p : Pwr) (g : Engine) : Pwr :=
  if p.st = .doze ∧ (g.st = .run ∨ g.st = .restart) then { p with st := .run, failed := p.failed || p.entering } else p

/-- Sets bits of one pending field of engine `e`, counts a coalesced arrival in `ovf`, and ends a WAIT (R298, R303, R306). -/
def State.setPend (s : State) (e : Nat) (pend ovf : Field) (bits : Nat) : State :=
  let old := rdF s.regs pend
  let r1 := wrF s.regs pend (old ||| bits)
  let r2 := incF r1 ovf (bitCount (old &&& bits))
  let g := wakeEngine r2 e (s.eng e)
  { s with regs := r2, engs := Machine.setEng s.engs e g, pwr := pwrWithEngine s.pwr g }

/-- An event task at input `k` of engine `e` (R306, R341); the odd engine of a pair passes it to the even one. -/
def State.eventIn (s : State) (e k : Nat) : State :=
  let t := s.leader e
  s.setPend t (ENG_PEND_EPEND t) (ENG_CNT_EOVF t) (2 ^ k)

/-- A doorbell: the bits written to ENG_DBELLe (R306). -/
def State.doorbell (s : State) (e bits : Nat) : State :=
  let t := s.leader e
  if bits % 256 = 0 then s else s.setPend t (ENG_PEND_IPEND t) (ENG_CNT_IOVF t) (bits % 256)

/-! ### Firing (R338, R345, R347) -/

/-- The source enters the fabric through a Strait (R339). -/
def sourceHasStrait (src : Nat) : Bool :=
  decide (src < 48 ∨ (64 ≤ src ∧ src < 80) ∨ (128 ≤ src ∧ src < 144))

/-- The task lies in another domain than timing and has a crossing of its own (R341, R345). -/
def taskHasCrossing (t : Nat) : Bool := decide (t < 96 ∨ t = 120 ∨ t = 121)

/-- Channel `n` and its group are enabled (R338). -/
def chanOn (regs : List (Nat × Word)) (n : Nat) : Bool :=
  rdF regs (EVF_CH_CFG_EN n) == 1 && rdF regs EVF_GRPEN_GRP / 2 ^ rdF regs (EVF_CH_CFG_GROUP n) % 2 == 1

/-- The enabled channels that name source `src` (R338). -/
def chansOf (regs : List (Nat × Word)) (src : Nat) : List Nat :=
  (List.range 64).filter (fun n => chanOn regs n && rdF regs (EVF_CH_CFG_SRC n) == src)

/-- The tasks that the forks of channel `n` pass a pulse to, each once (R338). -/
def chanTasks (regs : List (Nat × Word)) (n : Nat) : List Nat :=
  (((List.range 4).filter (fun k => rdF regs (EVF_CH_TASK_V n k) == 1)).map
    (fun k => rdF regs (EVF_CH_TASK_TASK n k))).eraseDups

/-- The fabric in the TCLK cycle of TSTAMP `ts`: what an earlier cycle left behind is gone. -/
def Evf.inCycle (evf : Evf) (ts : Nat) : Evf :=
  if evf.at_ = ts then evf
  else { evf with at_ := ts, pulsed := [], hard := [], soft := [], merged := [], was := [], grpSet := 0, grpClr := 0 }

/-- The configuration that a source pulse of the cycle finds: a write that reaches the core in a cycle, and a group task that acts in it,
apply from the next one (R347). -/
def Evf.before (evf : Evf) (regs : List (Nat × Word)) : List (Nat × Word) := evf.was.foldl (fun r p => regSet r p.1 p.2) regs

/-- A configuration word at `a` is about to change in the cycle of TSTAMP `ts`: what it held before stays known. -/
def State.keepWas (s : State) (a : Nat) : State :=
  let e := s.evf.inCycle s.mer.tstamp
  { s with evf := if e.was.any (fun p => p.1 == a) then e else { e with was := e.was ++ [(a, regGet s.regs a)] } }

/-- Two pulses to one task in one TCLK cycle are one; a capture takes the one with the lower channel number (R347). -/
def Pulse.join (q p : Pulse) : Pulse :=
  let low := fun x : Pulse => (x.chans.min?).getD 64
  { q with src := if low p < low q then p.src else q.src, chans := q.chans ++ p.chans }

/-- The crossing of task `t` is occupied at TSTAMP `ts`: a pulse is in flight, or its acknowledge is not back (R345). -/
def Evf.crossing (e : Evf) (t ts : Nat) : Bool :=
  e.fly.any (fun q => q.task == t) || e.acks.any (fun a => a.1 == t && decide (ts < a.2))

/-- The pulse pending at the crossing of task `t` is in flight once the crossing is free (R345). -/
def Evf.launch (e : Evf) (t ts : Nat) : Evf :=
  if e.crossing t ts then e
  else { e with fly := e.fly ++ (e.held.find? (fun q => q.task == t)).toList, held := e.held.eraseP (fun q => q.task == t),
                acks := e.acks.filter (fun a => a.1 != t) }

/-- A pulse reaches the way to its task: combined with one of the same cycle, in flight, pending behind one, or merged and counted
(R345, R347). -/
def enterPulse (x : List (Nat × Word) × Evf) (p : Pulse) : List (Nat × Word) × Evf :=
  let e := x.2.launch p.task p.ts
  let same := fun q : Pulse => q.task == p.task && q.ts == p.ts
  let coll := fun (r : List (Nat × Word)) (k : Nat) => if k = 0 then r else incF r EVF_CNT_TCOLL k
  let lose := fun r : List (Nat × Word) => p.chans.foldl (fun r n => incF r (EVF_CH_CNT_MERGED n)) r
  if e.fly.any same || e.held.any same then
    let j := fun q : Pulse => if same q then q.join p else q
    (coll x.1 p.chans.length, { e with fly := e.fly.map j, held := e.held.map j })
  else if e.merged.contains p.task then (lose (coll x.1 p.chans.length), e)
  else
    let r := coll x.1 (p.chans.length - 1)
    if taskHasCrossing p.task && e.crossing p.task p.ts then
      if e.held.any (fun q => q.task == p.task) then (lose r, { e with merged := p.task :: e.merged })
      else (r, { e with held := e.held ++ [p] })
    else (r, { e with fly := e.fly ++ [p] })

/-- A source pulse takes the place of the software fire of the same channel and cycle in what a capture records (R344, R347). -/
def Pulse.relabel (ts src : Nat) (cs : List Nat) (q : Pulse) : Pulse :=
  if q.ts = ts ∧ q.src = 0xFF ∧ (cs.any (fun n => q.chans.min? == some n)) then { q with src := src } else q

/-- The channels `cs` fire in one TCLK cycle with source number `src`, 0xFF by software, under the configuration `cfg`: FIRED counts, each
task named gets one pulse, and TCOLL counts the pulses combined. A channel that its source and a software fire reach in one cycle fires
once (R338, R347). -/
def fireRegsEvf (cfg regs : List (Nat × Word)) (e : Evf) (mer : Mer) (cs : List Nat) (src : Nat) :
    List (Nat × Word) × Evf :=
  let twice := cs.filter (fun n => if src = 0xFF then e.hard.contains n else e.soft.contains n)
  let once := cs.filter (fun n => !twice.contains n)
  let tasks := (once.flatMap (chanTasks cfg)).eraseDups
  let r1 := once.foldl (fun r n => incF r (EVF_CH_CNT_FIRED n)) regs
  let r2 := twice.foldl (fun r n => incF r (EVF_CH_CNT_MERGED n)) r1
  let mark : Evf := if src = 0xFF then { e with soft := e.soft ++ once }
    else { e with hard := e.hard ++ cs, pulsed := src :: e.pulsed,
                  fly := e.fly.map (Pulse.relabel mer.tstamp src twice), held := e.held.map (Pulse.relabel mer.tstamp src twice) }
  tasks.foldl (fun x t =>
    enterPulse x { task := t, src := src, ts := mer.tstamp, cyc := mer.time / 2 ^ 48, ph := mer.time / 2 ^ 32 % 2 ^ 16,
                   chans := once.filter (fun n => (chanTasks cfg n).contains t) }) (r2, mark)

/-- The channels `cs` fire in the present TCLK cycle with source number `src` under the configuration `cfg`. -/
def State.fireChans (s : State) (cfg : List (Nat × Word)) (cs : List Nat) (src : Nat) : State :=
  let x := fireRegsEvf cfg s.regs (s.evf.inCycle s.mer.tstamp) s.mer cs src
  { s with regs := x.1, evf := x.2 }

/-- The channels of a source of the timing domain fire, under the configuration before the present TCLK cycle (R342, R347). -/
def State.firePulse (s : State) (src : Nat) : State :=
  let cfg := (s.evf.inCycle s.mer.tstamp).before s.regs
  s.fireChans cfg (chansOf cfg src) src

/-- A pulse of a source crossing enters the fabric, `d` TCLK cycles after the present one: its channels fire, under the configuration that
stands then (R338, R342, R346). -/
def State.enterSource (s : State) (d src : Nat) : State :=
  let m : Mer := { s.mer with tstamp := (s.mer.tstamp + d) % 2 ^ 64, time := (s.mer.time + d * s.rd MER_INC_INC) % 2 ^ 80 }
  let e := s.evf.inCycle m.tstamp
  let cfg := e.before s.regs
  let x := fireRegsEvf cfg s.regs e m (chansOf cfg src) src
  { s with regs := x.1, evf := x.2 }

/-- The pulses of the source crossings that enter the fabric in the next `n` TCLK cycles, and the crossings that become free (R345). -/
def State.enterSources (s : State) (n : Nat) : State :=
  if s.evf.srcs.isEmpty then s
  else
    let due := s.evf.srcs.filter (fun x => decide (s.tclk < x.enter ∧ x.enter ≤ s.tclk + n))
    let s1 := due.foldl (fun t x => t.enterSource (x.enter - s.tclk) x.src) s
    { s1 with evf := { s1.evf with srcs := s1.evf.srcs.filter (fun x => decide (s.tclk + n < x.until_)) } }

/-- The clock of the block that drives a source with a crossing, in TCLK cycles, rounded up (R339, R454). -/
def State.nearPeriod (s : State) (src : Nat) : Nat :=
  if src < 16 then 3 else if src < 32 then 12208 else if 64 ≤ src ∧ src < 80 then 5
  else [13, 5, 3, 2].getD (s.rd PWR_STAT_FENG) 13

/-- A pulse in its place among those that enter the fabric. -/
def putSrc (p : SrcPulse) : List SrcPulse → List SrcPulse
  | [] => [p]
  | x :: r => if p.enter < x.enter then p :: x :: r else x :: putSrc p r

/-- A pulse reaches a source crossing (R342, R345, R346). With the crossing free it enters the fabric 1 or 2 TCLK cycles on, and its
acknowledge is back 1 or 2 cycles of its block's clock after that; behind one in flight it is pending, and is launched at the next edge of
that clock after the acknowledge; behind a pending one it merges, and SRCMRG counts it. The counts within these bounds are free. -/
def State.fireStrait (s : State) (src : Nat) : State :=
  let n := s.nearPeriod src
  let ahead := s.evf.srcs.filter (fun x => x.src == src && decide (s.tclk < x.until_))
  let launch := match ahead with
    | [] => s.tclk
    | x :: _ => x.until_ + 1 + s.freeBelow n
  let enter := launch + 1 + Config.freeValue (s.free + 1) % 2
  let p : SrcPulse := { src := src, enter := enter, until_ := enter + n + Config.freeValue (s.free + 2) % (n + 1) }
  if 2 ≤ ahead.length then { s with regs := incF s.regs EVF_CNT_SRCMRG }
  else { s.took 3 with evf := { s.evf with srcs := putSrc p s.evf.srcs } }

/-- A source pulse (R338, R345, R346). A source of the timing domain pulses for one TCLK cycle, so that two happenings in a cycle are one
pulse, and does not pulse while TCLK is stopped; any other pulse reaches its crossing, which holds it while TCLK is stopped. -/
def State.fire (s : State) (src : Nat) : State :=
  if sourceHasStrait src then s.fireStrait src
  else if !s.tclkOn ∨ (s.evf.inCycle s.mer.tstamp).pulsed.contains src then s
  else s.firePulse src

/-- A reset on one side of the crossings of the sources `srcs` and of the tasks `tasks`: their pulses are lost, uncounted (R346, R461). -/
def State.flushPulses (s : State) (srcs tasks : Nat → Bool) : State :=
  let keep := fun p : Pulse => !(tasks p.task && taskHasCrossing p.task)
  { s with evf := { s.evf with fly := s.evf.fly.filter keep, held := s.evf.held.filter keep,
                               acks := s.evf.acks.filter (fun a => !tasks a.1),
                               srcs := s.evf.srcs.filter (fun x => !srcs x.src) } }

/-! ### Refused writes (R352) -/

/-- Records a refused write in EVF_LASTERR. -/
def State.evfRefuse (s : State) (m : Master) (status : Nat) (claim : Bool) (index : Nat) : State :=
  let r1 := wrF s.regs EVF_LASTERR_STATUS status
  let r2 := wrF r1 EVF_LASTERR_OWNER (s.code m)
  let r3 := wrF r2 EVF_LASTERR_CLAIM (b2n claim)
  let r4 := wrF r3 EVF_LASTERR_INDEX index
  { s with regs := incF r4 EVF_LASTERR_COUNT }

/-- R350: the writer may write channel `n`, the write setting SEC when `sec` and OWNER to `owner`. -/
def State.chanAllowed (s : State) (m : Master) (n : Nat) (sec : Bool) (owner : Nat) : Bool :=
  let c := s.code m
  let old := s.rd (EVF_CH_CFG_OWNER n)
  if s.rdB (EVF_CH_CFG_SEC n) || sec then c == 0 || c == 2
  else if c == 2 then true
  else if c == 12 && s.expert then true
  else (old == 15 || old == c) && (owner == 15 || owner == c)

/-- R351 on the configuration that a channel would hold: OK, BAD_PARAM or DENIED by R14. -/
def chanStatus (cfg task : Word) : Nat :=
  let owner := (EVF_CH_CFG_OWNER 0).of cfg
  let sec := (EVF_CH_CFG_SEC 0).of cfg
  let src := (EVF_CH_CFG_SRC 0).of cfg
  let named := ((List.range 4).filter (fun k => (EVF_CH_TASK_V 0 k).of task == 1)).map
    (fun k => (EVF_CH_TASK_TASK 0 k).of task)
  let bad := owner == 13 || owner == 14 || named.any (fun t => decide ((116 ≤ t ∧ t ≤ 119) ∨ 122 ≤ t))
  let denied := sec == 0 && (decide (32 ≤ src ∧ src ≤ 47) || named.any (fun t => decide (t ≤ 23)))
  firstStatus [(denied, stDenied), (bad, stBadParam)]

/-- A CFG write (R350, R351, R352, R354): whole, or refused and recorded. -/
def State.writeChanCfg (s : State) (m : Master) (n : Nat) (v : Word) : State :=
  let a := (EVF_CH_CFG_EN n).addr
  let new := plainActive a v (regGet s.regs a)
  let st := chanStatus new (regGet s.regs (EVF_CH_TASK_V n 0).addr)
  if !s.chanAllowed m n ((EVF_CH_CFG_SEC 0).of v == 1) ((EVF_CH_CFG_OWNER 0).of v) then s.evfRefuse m stDenied false n
  else if st ≠ stOK then s.evfRefuse m st false n
  else { s.keepWas a with regs := regSet s.regs a new }

/-- A TASK write (R350, R351, R352, R354). -/
def State.writeChanTask (s : State) (m : Master) (n : Nat) (v : Word) : State :=
  let a := (EVF_CH_TASK_V n 0).addr
  let new := plainActive a v (regGet s.regs a)
  let st := chanStatus (regGet s.regs (EVF_CH_CFG_EN n).addr) new
  if !s.chanAllowed m n false (s.rd (EVF_CH_CFG_OWNER n)) then s.evfRefuse m stDenied false n
  else if st ≠ stOK then s.evfRefuse m st false n
  else { s.keepWas a with regs := regSet s.regs a new }

/-- EVF_GRPEN becomes `g`; pulses of the cycle still find it as it was (R347). -/
def State.setGrp (s : State) (g : Nat) : State := { s.keepWas EVF_GRPEN_GRP.addr with regs := wrF s.regs EVF_GRPEN_GRP g }

/-- A write to EVF_GRPEN (R348). A group task of the same cycle acts after it (R347). -/
def State.writeGrpen (s : State) (m : Master) (v : Word) : State :=
  let c := s.code m
  let own := s.rd (EVF_CLAIM_OWNER 6)
  if c == 2 || (c == 12 && s.expert) || own == 15 || own == c then
    let e := s.evf.inCycle s.mer.tstamp
    s.setGrp ((v.toNat % 256 ||| e.grpSet) &&& (255 - e.grpClr))
  else s.evfRefuse m stDenied true 6

/-- TAKE of claim `k` (R355). -/
def State.claimTake (s : State) (m : Master) (k : Nat) : State :=
  if s.rd (EVF_CLAIM_OWNER k) = 15 then { s with regs := wrF s.regs (EVF_CLAIM_OWNER k) (s.code m) } else s

/-- FREE of claim `k` (R355). -/
def State.claimFree (s : State) (m : Master) (k : Nat) : State :=
  if s.rd (EVF_CLAIM_OWNER k) = s.code m ∨ s.code m = 2 then { s with regs := wrF s.regs (EVF_CLAIM_OWNER k) 15 }
  else s.evfRefuse m stDenied true k

/-- A write to a claim register: with both bits set it is a TAKE (R355). -/
def State.writeClaim (s : State) (m : Master) (k : Nat) (v : Word) : State :=
  if (EVF_CLAIM_TAKE 0).of v = 1 then s.claimTake m k
  else if (EVF_CLAIM_FREE 0).of v = 1 then s.claimFree m k
  else s

/-- The channels of a software fire that the writer may fire (R349, R350). -/
def State.swPermitted (s : State) (m : Master) (base : Nat) (v : Word) : List Nat :=
  ((List.range 32).filter (fun i => v.getLsbD i)).map (· + base) |>.filter
    (fun n => s.chanAllowed m n false (s.rd (EVF_CH_CFG_OWNER n)))

/-- The channels of a software fire that the writer may not fire (R349, R352). -/
def State.swRefused (s : State) (m : Master) (base : Nat) (v : Word) : List Nat :=
  ((List.range 32).filter (fun i => v.getLsbD i)).map (· + base) |>.filter
    (fun n => !s.chanAllowed m n false (s.rd (EVF_CH_CFG_OWNER n)))

/-! ### Captures (R344) -/

/-- A capture task `k` records the pulse. -/
def captureInto (c : Capture) (p : Pulse) : Capture :=
  { new := true, ovr := c.new || c.ovr, src := p.src, ts := p.ts, cyc := p.cyc, ph := p.ph }

/-- A read of EVF_CAPk_PHASE: the word returned. -/
def capWord (c : Capture) : Word :=
  BitVec.ofNat 32 (b2n c.new * 2 ^ 31 + b2n c.ovr * 2 ^ 30 + c.src % 256 * 2 ^ 16 + c.ph % 2 ^ 16)

/-- A read of EVF_CAPk_PHASE returns the capture, latches the other three registers and clears NEW and OVR. -/
def State.capRead (s : State) (k : Nat) : State :=
  let c := s.evf.caps.getD k .empty
  let r1 := regSet s.regs (EVF_CAP_CYCLE_CYCLE k).addr (BitVec.ofNat 32 c.cyc)
  let r2 := regSet r1 (EVF_CAP_TSLO_TS k).addr (BitVec.ofNat 32 c.ts)
  let r3 := regSet r2 (EVF_CAP_TSHI_TS k).addr (BitVec.ofNat 32 (c.ts / 2 ^ 32))
  { s with regs := r3, busData := capWord c,
           evf := { s.evf with caps := modifyNth (fun c => { c with new := false, ovr := false }) k s.evf.caps } }

/-! ### Task actions that need only the fabric (R341) -/

/-- The pulse at the head of the way to task `t`, if one is in flight. -/
def flyOf (evf : Evf) (t : Nat) : Option Pulse := evf.fly.find? (fun p => p.task == t)

/-- The fabric after the pulse to `t` was delivered: until the acknowledge is back, at TSTAMP `ack`, the crossing stays occupied (R345). -/
def afterDeliver (evf : Evf) (t ack : Nat) : Evf :=
  { evf with fly := evf.fly.eraseP (fun p => p.task == t),
             acks := if taskHasCrossing t then (t, ack) :: evf.acks.filter (fun a => a.1 != t) else evf.acks }

/-- A pulse that switches group `g` off falls into the TCLK cycle of the pulse `p` (R347). -/
def grpdisTogether (evf : Evf) (g : Nat) (p : Pulse) : Bool :=
  evf.fly.any (fun q => q.task == 104 + g && q.ts == p.ts)

/-- The group task of bit `g`, GRPEN or with `off` GRPDIS, acts: when both fall in one cycle, the bit becomes 0 (R347). -/
def State.groupTask (s : State) (g : Nat) (off : Bool) : State :=
  let e := s.evf.inCycle s.mer.tstamp
  let now := s.rd EVF_GRPEN_GRP
  if off then
    let s1 := s.setGrp (now &&& (255 - 2 ^ g))
    { s1 with evf := { s1.evf with grpClr := e.grpClr ||| 2 ^ g } }
  else if e.grpClr / 2 ^ g % 2 = 1 then s
  else
    let s1 := s.setGrp (now ||| 2 ^ g)
    { s1 with evf := { s1.evf with grpSet := e.grpSet ||| 2 ^ g } }

end Sys2Proof.Machine
end

