-- ==== Sys2Proof/Machine/Frames.lean ====
section
/-!
DEFINITION. Transmit descriptors (R166), the conversion of fixed times (R47, R48), comparisons of Meridian times (R44), and
the completion of queued frames (R168, R216, R218).
-/
namespace Sys2Proof.Machine

/-! ### Meridian times in phase units -/

/-- K of R47 for the NOMFREQ of the active set. -/
def State.nomK (s : State) : Nat := if s.rd MER_CFG_NOMFREQ = 0 then 3440640 else 4128768

/-- A fixed time in nanoseconds in phase units (R48). -/
def State.convNs (s : State) (t : Nat) : Nat := ceilDiv (t * s.nomK) 1000000000

/-- A fixed time in microseconds in phase units (R48). -/
def State.convUs (s : State) (t : Nat) : Nat := s.convNs (t * 1000)

/-- Meridian time as cycle × 65,536 + phase. -/
def Mer.now (m : Mer) : Nat := m.time / 2 ^ 32 % 2 ^ 48

/-- Cycle count and phase of a Meridian time. -/
def merCycle (t : Nat) : Nat := t / 65536 % 2 ^ 32
def merPhase (t : Nat) : Nat := t % 65536

/-- Difference of two Meridian times as R44 reads it. -/
def merDiff (a b : Nat) : Int := sInt 48 (a + 2 ^ 48 - b % 2 ^ 48)

/-- Meridian time `a` lies later than `b` (R44). -/
def merAfter (a b : Nat) : Bool := decide (0 < merDiff a b)

/-- Meridian time `a` moved by `d` phase units. -/
def merAdd (a d : Nat) : Nat := (a + d) % 2 ^ 48

/-! ### Transmit descriptors (R166) -/

/-- A transmit descriptor as SHP and MAC read it. -/
structure Desc where
  buf     : Nat
  len     : Nat
  nb      : Nat
  flags   : Nat
  mode    : Nat
  param   : Nat
  power   : Int
  retry   : Nat
  due     : Nat
  keyslot : Nat
  entry   : Nat
deriving DecidableEq, Repr

/-- Reads the descriptor at SRAM address `a`. -/
def State.desc (s : State) (a : Nat) : Desc :=
  { buf := s.sramNat a 4, len := s.sramNat (a + 4) 2, nb := s.sramNat (a + 6) 1, flags := s.sramNat (a + 7) 1,
    mode := s.sramNat (a + 8) 1 % 4, param := s.sramNat (a + 9) 1, power := sInt 8 (s.sramNat (a + 10) 1),
    retry := s.sramNat (a + 11) 1, due := s.sramNat (a + 12) 4 * 65536 + s.sramNat (a + 16) 2,
    keyslot := s.sramNat (a + 18) 1 % 16, entry := s.sramNat (a + 19) 1 % 128 }

/-- The flags of R166. -/
def Desc.broadcast (d : Desc) : Bool := d.flags % 2 == 1
def Desc.sec (d : Desc) : Bool := d.flags / 2 % 2 == 1
def Desc.short (d : Desc) : Bool := d.flags / 4 % 2 == 1
def Desc.mapsel (d : Desc) : Bool := d.flags / 8 % 2 == 1
def Desc.rate (d : Desc) : Nat := d.flags / 16 % 4
def Desc.kid (d : Desc) : Nat := d.flags / 64 % 2
def Desc.own (d : Desc) : Bool := d.flags / 128 % 2 == 1

/-- PSDU length of R209. -/
def Desc.psduLen (d : Desc) : Nat := if d.sec then d.len + 14 else d.len + 2

/-- Airtime profile of R209. -/
def Desc.profile (d : Desc) : Nat := d.mode * 2 + b2n d.short

/-! ### Completing frames -/

/-- The queue is a Timed one (R197). -/
def timedQueue (q : Nat) : Bool := decide (2 ≤ q ∧ q ≤ 4)

/-- DEADLINE, or DUTY_EXHAUSTED where R188 so provides. -/
def Frame.lateStatus (f : Frame) : Nat := if f.duty then stDutyExhausted else stDeadline

/-- Takes `n` from the claimed total of the occurrence that starts at `o`; a total of 0 is not listed. -/
def dropClaim (m : List (Nat × Nat)) (o n : Nat) : List (Nat × Nat) :=
  (m.map (fun p => if p.1 = o then (p.1, p.2 - n) else p)).filter (fun p => p.2 ≠ 0)

/-- The pending on-time of the accumulators in `accs` lowered by `v` (R216). -/
def dropPend (accs : List Nat) (v : Nat) (d : List Nat) : List Nat :=
  accs.foldl (fun l a => modifyNth (fun x => x - v) a l) d

/-- A band's scheduler without frame `f`: its claims on occurrences not yet begun and the pending on-time of its attempts not
radiated are released (R216). -/
def BandShp.without (h : BandShp) (now : Nat) (f : Frame) : BandShp :=
  { h with frames := h.frames.filter (fun g => g.desc ≠ f.desc),
           claimed := (f.claims.filter (fun o => merAfter o now)).foldl (fun m o => dropClaim m o f.n) h.claimed,
           dpend := dropPend f.accs (f.held * f.u) h.dpend }

/-- The bytes MAC writes at completion: STATUS, ATTEMPTS, zeros and TXTS (R166, R168). -/
def completionBytes (f : Frame) (status : Nat) : List Byte :=
  [BitVec.ofNat 8 status, BitVec.ofNat 8 f.attempts, 0, 0] ++ natLE 4 f.txTs

/-- The NEXT field of each frame of a list names the frame that follows it (R198). -/
def State.relink (s : State) : List Frame → State
  | f :: g :: r =>
    (if s.sramNat (f.desc + 20) 4 = g.desc then s else s.sramWrite (f.desc + 20) (natLE 4 g.desc)).relink (g :: r)
  | _ => s

/-- Completes frame `f` of band `b` with `status` (R168, R216, R218): the descriptor is written, the claims are released,
TXDONE fires, and a late Timed frame counts in MISSDL. -/
def State.completeFrame (s : State) (b : Band) (f : Frame) (status : Nat) : State :=
  let h := (s.shp.bands.get b).without s.mer.now f
  let s1 := ({ s with shp := { s.shp with bands := s.shp.bands.set b h } } : State).sramWrite (f.desc + 24)
    (completionBytes f status)
  let s2 := (s1.relink (h.frames.filter (fun g => g.queue == f.queue))).fire 81
  if timedQueue f.queue && (status == stDeadline || status == stDutyExhausted) then
    (s2.inc (SHP_CNT_MISSDL b)).fire 99
  else s2

/-- Completes in turn the frames of a list, each with the status `st` gives it. -/
def State.completeEach (s : State) (b : Band) (st : Frame → Nat) : List Frame → State
  | [] => s
  | f :: r => (s.completeFrame b f (st f)).completeEach b st r

/-- Completes every frame of band `b` that satisfies `p`. -/
def State.completeWhere (s : State) (b : Band) (p : Frame → Bool) (st : Frame → Nat) : State :=
  s.completeEach b st ((s.shp.bands.get b).frames.filter p)

/-- The frame with descriptor address `a`, if band `b` holds it. -/
def State.frameAt (s : State) (b : Band) (a : Nat) : Option Frame :=
  (s.shp.bands.get b).frames.find? (fun f => f.desc == a)

/-- Replaces the frame that has the descriptor of `f`. -/
def BandShp.putFrame (h : BandShp) (f : Frame) : BandShp :=
  { h with frames := h.frames.map (fun g => if g.desc = f.desc then f else g) }

/-- The band's scheduler replaced. -/
def State.setShp (s : State) (b : Band) (h : BandShp) : State :=
  { s with shp := { s.shp with bands := s.shp.bands.set b h } }

/-- The band's link layer replaced. -/
def State.setMac (s : State) (b : Band) (h : BandMac) : State :=
  { s with mac := { s.mac with bands := s.mac.bands.set b h } }

/-- The band's radio replaced. -/
def State.setRfc (s : State) (b : Band) (h : BandRadio) : State :=
  { s with rfc := { s.rfc with bands := s.rfc.bands.set b h } }

/-- The band's scheduler, link layer and radio. -/
def State.shpB (s : State) (b : Band) : BandShp := s.shp.bands.get b
def State.macB (s : State) (b : Band) : BandMac := s.mac.bands.get b
def State.rfcB (s : State) (b : Band) : BandRadio := s.rfc.bands.get b

/-- SHP serves the band (SHP_CFG), MAC serves it (MAC_CFG). -/
def State.shpOn (s : State) : Band → Bool
  | .sg => s.rdB SHP_CFG_SGEN
  | .g24 => s.rdB SHP_CFG_G24EN
def State.macOn (s : State) : Band → Bool
  | .sg => s.rdB MAC_CFG_SGEN
  | .g24 => s.rdB MAC_CFG_G24EN

/-- Frames queued to neighbour `nb` complete with PARTNER_LOST when its link is lost (R167, R186). -/
def State.completeLost (s : State) (nb : Nat) : State :=
  let p := fun t : State => fun f : Frame => !(t.desc f.desc).broadcast && (t.desc f.desc).nb == nb
  let s1 := s.completeWhere .sg (p s) (fun _ => stPartnerLost)
  s1.completeWhere .g24 (p s1) (fun _ => stPartnerLost)

end Sys2Proof.Machine
end

