-- ==== Sys2Proof/Machine/Meridian.lean ====
section
/-!
DEFINITION. MER (02_meridian_timebase.md): the passing of TCLK time, the rate and its clamps, the states of R51 and R52,
mains measurement and steering, sync points, and the commands MAINS_EDGE, MAINS_EDGE_MISSING, ACQUIRE_TIMEOUT,
HOLDOVER_TIMEOUT and MER_PHASE_READ.
-/
namespace Sys2Proof.Machine

/-! ### The rate -/

/-- TCLK cycles in a second (R19). -/
def tclkHz : Nat := 400000000

/-- The nominal increment (R43, R44). -/
def State.nomInc (s : State) : Nat := if s.rd MER_CFG_NOMFREQ = 0 then 0x0218DEF4 else 0x02843EBF

/-- The least and the largest increment inside the rate range of R47. -/
def State.incLow (s : State) : Nat := if s.rd MER_CFG_NOMFREQ = 0 then 33425154 else 40110185
def State.incHigh (s : State) : Nat := if s.rd MER_CFG_NOMFREQ = 0 then 36943590 else 44332308

/-- An increment clamped to the rate range (R47). -/
def State.clampInc (s : State) (i : Int) : Nat := (clampInt s.incLow s.incHigh i).toNat

/-- The shortest and the longest mains period (R47). -/
def State.perLow (s : State) : Nat := if s.rd MER_CFG_NOMFREQ = 0 then 7619048 else 6349207
def State.perHigh (s : State) : Nat := if s.rd MER_CFG_NOMFREQ = 0 then 8421053 else 7017544

/-- MER_PERIOD, or the period of the range's centre before the first is known (R55). -/
def State.period (s : State) : Nat :=
  if s.rd MER_PERIOD_PERIOD ≠ 0 then s.rd MER_PERIOD_PERIOD
  else if s.rd MER_CFG_NOMFREQ = 0 then 8000000 else 6666667

/-- The increment that a mains period gives. -/
def incOfPeriod (p : Nat) : Int := if p = 0 then 0 else roundDiv ((2 ^ 48 : Nat) : Int) p

/-- The largest move of the rate since `rateAt` under MER_SLEW (R58, R59). DESIGN CHOICE (log entry 92): the ppm are taken of the present
increment. -/
def State.slewMax (s : State) (ts : Nat) : Nat :=
  s.rd MER_INC_INC * s.rd MER_SLEW_SLEW * (ts - s.mer.rateAt) / (1000000 * tclkHz)

/-- TSTAMP at which the next move of the rate is measured from, after a move to `t` by `slewMax` at TSTAMP `ts`: the part of a unit
that a move cut short by MER_SLEW did not use counts for the next one. -/
def State.slewFrom (s : State) (t ts : Nat) : Nat :=
  let i := s.rd MER_INC_INC
  let m := s.slewMax ts
  if i ≤ t + m ∧ t ≤ i + m then ts
  else min ts (s.mer.rateAt + ceilDiv (m * (1000000 * tclkHz)) (i * s.rd MER_SLEW_SLEW))

/-- `x` moved towards `t` by at most `m`. -/
def moveTowards (x t m : Int) : Int := if x < t then min (x + m) t else max (x - m) t

/-! ### Time -/

/-- Engine region `r` counts its watchdog: it is enabled and the engine is not in RESET, HALT or STOPPED (R474). -/
def State.wdgRuns (s : State) (r : Nat) : Bool :=
  let e := if r = 0 then 0 else r + 1
  s.rdB (FLT_WDG_EN r) && !((s.eng e).st == .reset || (s.eng e).st == .halt || (s.eng e).st == .stopped)

/-- The rate of SYNTH slews to the nominal frequency (R59). -/
def State.slewSynth (s : State) : State :=
  if s.rd MER_STAT_STATE = 4 ∧ s.rd MER_INC_INC ≠ s.nomInc ∧ 0 < s.slewMax s.mer.tstamp then
    { s with regs := wrF s.regs MER_INC_INC
               (moveTowards (s.rd MER_INC_INC) s.nomInc (s.slewMax s.mer.tstamp)).toNat,
             mer := { s.mer with rateAt := s.slewFrom s.nomInc s.mer.tstamp } }
  else s

/-- `n` TCLK cycles pass (R43, R65): the accumulator, TSTAMP and the watchdogs count, and the source pulses on their way enter the fabric,
each in its own cycle (R342). -/
def State.tick (s0 : State) (n : Nat) : State :=
  let s := s0.enterSources n
  ({ s with tclk := s.tclk + n,
            mer := { s.mer with time := (s.mer.time + n * s.rd MER_INC_INC) % 2 ^ 80,
                                tstamp := (s.mer.tstamp + n) % 2 ^ 64 },
            flt := { s.flt with wdg := (List.range s.flt.wdg.length).map (fun r =>
                       s.flt.wdg.getD r 0 + (if s.wdgRuns r then n else 0)) } } : State).slewSynth

/-- Time passes up to TSTAMP `ts`; never back. -/
def State.advanceTo (s : State) (ts : Nat) : State := s.tick (ts - s.mer.tstamp)

/-- A write to EVF_SWFIRE0 (`base` 0) or EVF_SWFIRE1 (`base` 32): the permitted bits fire in the TCLK cycle in which the write applies, the
next one, and the others are recorded (R347, R349). -/
def State.swFire (s : State) (m : Master) (base : Nat) (v : Word) : State :=
  let s1 := (s.swRefused m base v).foldl (fun t n => t.evfRefuse m stDenied false n) s
  if s.tclkOn then
    let s2 := s1.tick 1
    s2.fireChans s2.regs ((s2.swPermitted m base v).filter (chanOn s2.regs)) 0xFF
  else s1

/-- TCLK cycles until the accumulator reaches the 80-bit time `t`; 0 when it has been reached (R46). -/
def State.cyclesTo (s : State) (t : Nat) : Nat :=
  let d := (t + 2 ^ 80 - s.mer.time % 2 ^ 80) % 2 ^ 80
  if d < 2 ^ 79 then ceilDiv d (s.rd MER_INC_INC) else 0

/-- Time passes until Meridian reaches or passes `t`, in phase units (R46). -/
def State.advanceMer (s : State) (t : Nat) : State := s.tick (s.cyclesTo (t * 2 ^ 32))

/-- Meridian has passed `t`, in phase units, in an earlier TCLK cycle than the present one. -/
def State.passed (s : State) (t : Nat) : Bool :=
  let d := (s.mer.time + 2 ^ 80 - t * 2 ^ 32 % 2 ^ 80) % 2 ^ 80
  decide (s.rd MER_INC_INC ≤ d ∧ d < 2 ^ 79)

/-- Time passes to the boundary at `t`. One that a step has skipped is raised in the next TCLK cycle; `mate` says that the slot or cycle
boundary of the same instant has just been raised, with which it goes together (R63). -/
def State.toBoundary (s : State) (t : Nat) (mate : Bool) : State :=
  if s.passed t then (if mate then s else s.tick 1) else s.advanceMer t

/-- Meridian time at TSTAMP `ts`, by the present increment. -/
def State.merAt (s : State) (ts : Nat) : Nat :=
  if s.mer.tstamp ≤ ts then (s.mer.time + (ts - s.mer.tstamp) * s.rd MER_INC_INC) / 2 ^ 32 % 2 ^ 48
  else (s.mer.time + 2 ^ 80 - (s.mer.tstamp - ts) * s.rd MER_INC_INC % 2 ^ 80) / 2 ^ 32 % 2 ^ 48

/-! ### States (R51, R52) -/

/-- SHP walks the Charts (R204). -/
def State.merWalks (s : State) : Bool := decide (2 ≤ s.rd MER_STAT_STATE)

/-- The walk bits of SHP_STAT follow R204. -/
def walkBits (regs : List (Nat × Word)) : List (Nat × Word) :=
  let w := decide (2 ≤ rdF regs MER_STAT_STATE)
  wrF (wrF regs SHP_STAT_SGWALK (b2n (w && rdF regs SHP_CFG_SGEN == 1))) SHP_STAT_G24WALK
    (b2n (w && rdF regs SHP_CFG_G24EN == 1))

/-- A band's scheduler when walking stops: no occurrence or window, and no share but that of a frame that is still queued. -/
def BandShp.stopWalk (h : BandShp) : BandShp :=
  { h with occ := none, share := h.share.filter (fun x => h.frames.any (fun f => f.desc == x.desc)), wins := [] }

/-- The change into OFF or ACQUIRE (R204): the frames of Q0 to Q4 complete with BAD_STATE and no Chart is walked. -/
def State.stopWalking (s : State) : State :=
  let p := fun f : Frame => decide (f.queue ≤ 4)
  let s1 := s.completeWhere .sg p (fun _ => stBadState)
  let s2 := s1.completeWhere .g24 p (fun _ => stBadState)
  { s2 with shp := { s2.shp with bands := { sg := s2.shp.bands.sg.stopWalk, g24 := s2.shp.bands.g24.stopWalk } } }

/-- MER enters state `st` (R51, R52): counts of the state begin again and MER_STATE fires on a change (R74). DESIGN CHOICE (log entry 102): the
consecutive valid edges that the earlier state counted do not count on after any change of state. -/
def State.setMer (s : State) (st : Nat) : State :=
  if s.rd MER_STAT_STATE = st then s
  else
    let s1 : State := { s with
      regs := walkBits (wrF s.regs MER_STAT_STATE st),
      mer := { s.mer with valid := 0, good := 0, stepped := false, since := s.mer.tstamp,
                          sinceCyc := s.mer.time / 2 ^ 48, rateAt := s.mer.tstamp,
                          wasLocked := s.mer.wasLocked || st == 2 } }
    let s2 := if s.merWalks ∧ st < 2 then s1.stopWalking else s1
    s2.fire 115

/-- MER enters SYNTH (R52, R59, R60). -/
def State.enterSynth (s : State) : State :=
  let s1 := s.setMer 4
  if s.mer.wasLocked then s1 else { s1 with regs := wrF s1.regs MER_INC_INC s1.nomInc }

/-- A manager enters HOLDOVER; with MER_HOLDCYC = 0 and AUTOSYNTH = 1 it goes on to SYNTH at once (R52, R76). -/
def State.enterHoldover (s : State) : State :=
  let s1 := s.setMer 3
  if s1.rd MER_HOLDCYC_HOLDCYC = 0 ∧ s1.rdB MER_CFG_AUTOSYNTH then s1.enterSynth else s1

/-- The device is a manager (R2). -/
def State.isManager (s : State) : Bool := s.rd SYS_ROLE_ROLE == 0

/-- Mains steers Meridian: a manager with SOURCE = MAINS (R50, R57). -/
def State.mainsSteers (s : State) : Bool := s.isManager && s.rd MER_CFG_SOURCE == 1

/-- The accepted commit set SOURCE from `old` to `new` (R52, R75). The edges that end SYNTH are counted from the commit of MAINS. In OFF
nothing steers Meridian, a sync point that still waits included (R50). -/
def State.sourceChange (s : State) (old new : Nat) : State :=
  if old = new then s
  else if new = 0 then
    { s.setMer 0 with mer := { (s.setMer 0).mer with pendSet := none, pendStep := none, pendRate := [] } }
  else if old = 0 then
    if new = 2 then s.enterSynth
    else
      let s1 := s.setMer 1
      { s1 with mer := { s1.mer with valid := 0, good := 0, stepped := false, pendSet := none, pendStep := none,
                                     pendRate := [], rateRef := none } }
  else if new = 2 then s.enterSynth
  else { s with mer := { s.mer with valid := 0, good := 0 } }

/-! ### Mains edges (R54 to R58) -/

/-- Delay of the filter that ZCFILT selects, in TCLK cycles (R54). -/
def zcFilter (sel : Nat) : Nat := if sel = 0 then 100 else if sel = 1 then 400 else if sel = 2 then 1600 else 6400

/-- `k` expected edges were missing (R55): the reference moves on, the consecutive counts break, and eight lose LOCKED
(R52). A worker keeps its count of sync points (R57). -/
def State.missEdges (s : State) (k : Nat) : State :=
  match s.mer.refEdge with
  | none => s
  | some r =>
    if k = 0 then s
    else
      let s1 : State := { s with
        regs := incF s.regs MER_STAT_MISSED k,
        mer := { s.mer with refEdge := some (r + k * s.period), valid := 0,
                            good := if s.mainsSteers then 0 else s.mer.good } }
      if s1.mainsSteers ∧ s1.rd MER_STAT_STATE = 2 ∧ 8 ≤ s1.rd MER_STAT_MISSED then s1.enterHoldover else s1

/-- How many windows ended without an edge before an edge `d` after the reference (R55). -/
def missedBefore (p d : Nat) : Nat := if 4 * d ≤ 5 * p then 0 else ceilDiv (4 * d - 5 * p) (4 * p)

/-- The rate R_t that a valid edge steers towards (R58). -/
def State.steerTo (s : State) : Nat :=
  let rm := incOfPeriod (s.rd MER_PERIOD_PERIOD)
  let lim := roundDiv (rm * s.rd MER_PULL_PULL) 1000000
  let rp := clampInt (-lim) lim (roundDiv (-(sInt 16 (s.rd MER_ZCERR_ZCERR)) * rm) 16777216)
  s.clampInc (rm + rp)

/-- The rate after a valid edge: R_t, or as near to it as the slew limit allows (R58). -/
def State.steerRate (s : State) (edge : Nat) : Nat :=
  s.clampInc (moveTowards (s.rd MER_INC_INC) s.steerTo (s.slewMax edge))

/-- The first edge, which has no window and no interval (R55, R56): it is the first valid edge and the reference of the next. -/
def State.firstEdge (s : State) (edge : Nat) : State :=
  { s with regs := wrF (wrF (wrF s.regs MER_ZCERR_ZCERR (s.merAt edge % 65536)) MER_STAT_MISSED 0) MER_STAT_ZCVALID 1,
           mer := { s.mer with refEdge := some edge } }

/-- The registers and counts of a valid edge at TSTAMP `edge` with interval `d` (R55, R56). DESIGN CHOICE (log entry 37): the mean of the
intervals is rounded down. Only where mains steers does the edge count towards LOCKED (R52, R57). -/
def State.validEdge (s : State) (edge d : Nat) : State :=
  let iv := (d :: s.mer.ivals).take 8
  let e := s.merAt edge % 65536
  let good := if sInt 16 e ≤ 64 ∧ -64 ≤ sInt 16 e then s.mer.good + 1 else 0
  { s with regs := wrF (wrF (wrF (wrF s.regs MER_PERIOD_PERIOD (iv.sum / iv.length)) MER_ZCERR_ZCERR e)
                     MER_STAT_MISSED 0) MER_STAT_ZCVALID 1,
           mer := { s.mer with refEdge := some edge, ivals := iv, valid := s.mer.valid + 1,
                               good := if s.mainsSteers then (if s.mer.stepped then good else 0) else s.mer.good } }

/-- The phase step of ACQUIRE: Meridian's phase becomes the mains phase, and the rate follows MER_PERIOD (R52, R53). DESIGN CHOICE (log
entry 92): the step carries into the cycle count, and boundaries follow R63 through it: none is raised twice, none is skipped. -/
def State.mainsStep (s : State) : State :=
  let e := sInt 16 (s.rd MER_ZCERR_ZCERR)
  { s with regs := wrF s.regs MER_INC_INC (s.clampInc (incOfPeriod (s.rd MER_PERIOD_PERIOD))),
           mer := { s.mer with time := intBits 80 ((s.mer.time : Int) - e * ((2 ^ 32 : Nat) : Int)),
                               stepped := true, good := 0, rateAt := s.mer.tstamp } }

/-- What a valid edge does to a manager's state and rate (R52, R53, R58). -/
def State.mainsRules (s : State) (edge : Nat) : State :=
  let st := s.rd MER_STAT_STATE
  if st = 1 then
    if s.mer.stepped then (if 32 ≤ s.mer.good then s.setMer 2 else s)
    else if 16 ≤ s.mer.valid then s.mainsStep else s
  else if st = 2 then
    { s with regs := wrF s.regs MER_INC_INC (s.steerRate edge),
             mer := { s.mer with rateAt := s.slewFrom s.steerTo edge } }
  else if (st = 3 ∨ st = 4) ∧ 16 ≤ s.mer.valid then s.setMer 2
  else s

/-- MAINS_EDGE_MISSING (R55): the window ends at 125 % of the period after its reference. -/
def execMainsEdgeMissing (s : State) : Host.Outcome State Fault Refusal :=
  match s.mer.refEdge with
  | none => .next s
  | some r => if s.tclkOn then .next ((s.advanceTo (r + s.period * 5 / 4)).missEdges 1) else .next s

/-- HOLDOVER_TIMEOUT (R52): MER_HOLDCYC cycles in HOLDOVER. DESIGN CHOICE (log entry 92): they are counted as cycle boundaries after the
entry. -/
def execHoldoverTimeout (s : State) : Host.Outcome State Fault Refusal :=
  if s.tclkOn ∧ s.mainsSteers ∧ s.rd MER_STAT_STATE = 3 ∧ s.rdB MER_CFG_AUTOSYNTH then
    .next (s.advanceMer ((s.mer.sinceCyc + s.rd MER_HOLDCYC_HOLDCYC) * 65536)).enterSynth
  else .next s

/-! ### Snapshots (R66) -/

/-- The word of MER_PHASE. -/
def Mer.phaseWord (m : Mer) : Word :=
  BitVec.ofNat 32 (merPhase m.now / 8192 * 65536 + merPhase m.now)

/-- A read of MER_PHASE latches phase, cycle count and TSTAMP. -/
def State.phaseRead (s : State) : State :=
  let r1 := regSet s.regs MER_PHASE_PHASE.addr s.mer.phaseWord
  let r2 := regSet r1 MER_CYCLE_CYCLE.addr (BitVec.ofNat 32 (merCycle s.mer.now))
  let r3 := regSet r2 MER_TSTAMP_LO_TSLO.addr (BitVec.ofNat 32 s.mer.tstamp)
  let r4 := regSet r3 MER_TSTAMP_HI_TSHI.addr (BitVec.ofNat 32 (s.mer.tstamp / 2 ^ 32))
  { s with regs := r4, busData := s.mer.phaseWord }

/-- MER_PHASE_READ (R66). -/
def execMerPhaseRead (s : State) : Host.Outcome State Fault Refusal := .next s.phaseRead

/-! ### Sync points (R61 to R64) -/

/-- The guard of a class in phase units (R70). -/
def State.classGuard (s : State) (c : Nat) : Nat := s.convUs (s.rd (MER_GUARD c))

/-- The recovery guard of R73 for class `c` and a contact `d` phase units after the last one. -/
def State.recoveryGuard (s : State) (c d : Nat) : Nat :=
  min 4096 (s.classGuard c + ceilDiv (s.rd MER_DRIFTPPM_DRIFT * d) 1000000)

/-- MER_SYNCERR records a sync point (R61, R64). -/
def State.recordSync (s : State) (err : Nat) : State :=
  { s with regs := wrF (wrF s.regs MER_SYNCERR_ERR err) MER_SYNCERR_COUNT (s.rd MER_SYNCERR_COUNT + 1) }

/-- A sync point in ACQUIRE before the step: the parent's time for the step of R64, and its rate. -/
def State.syncFirst (s : State) (m : MerStep) : State :=
  (({ s with mer := { s.mer with pendSet := some m } } : State).recordSync m.err)

/-- A later sync point with error `e` and reference instant `ref` (R61, R62): in ACQUIRE four in a row within the guard of
class `c` give LOCKED (R52). -/
def State.syncLater (s : State) (e : Int) (ref c : Nat) : State :=
  let s1 := ({ s with mer := { s.mer with pendStep := some e,
                                          pendRate := s.mer.pendRate ++ [{ e := e, ref := ref }] } } : State).recordSync
              (intBits 16 e)
  if s.rd MER_STAT_STATE = 1 then
    let g := s.classGuard c
    let good := if -(g : Int) ≤ e ∧ e ≤ g then s.mer.good + 1 else 0
    let s2 : State := { s1 with mer := { s1.mer with good := good } }
    if 4 ≤ good then s2.setMer 2 else s2
  else s1

/-- The rate change of one sync point (R62). DESIGN CHOICE (log entry 92): where no step of R64 and no rate change precedes it since the
start, as after a warm start, it only becomes the reference of the next. -/
def State.applyRate (s : State) (p : SyncPoint) : State :=
  match s.mer.rateRef with
  | none => { s with mer := { s.mer with rateRef := some p.ref } }
  | some r =>
    let d := merDiff p.ref r
    if d < 32768 then s
    else
      let i := (s.rd MER_INC_INC : Int)
      { s with regs := wrF s.regs MER_INC_INC (s.clampInc (i + roundDiv (-p.e * i) (4 * d.toNat))),
               mer := { s.mer with rateRef := some p.ref } }

/-- The rate changes of the pending sync points in turn (R62). -/
def State.applyRates (s : State) : List SyncPoint → State
  | [] => s
  | p :: r => (s.applyRate p).applyRates r

/-- SYNC_POINT_APPLY (R62): the phase step, the rate changes, MER_SYNC, and LOCKED out of HOLDOVER (R52). -/
def State.applySync (s : State) : State :=
  match s.mer.pendStep with
  | none => s
  | some e =>
    let s1 : State := { s with mer := { s.mer with
      time := intBits 80 ((s.mer.time : Int) - e * ((2 ^ 32 : Nat) : Int)) } }
    let s2 := s1.applyRates s.mer.pendRate
    let s3 := ({ s2 with mer := { s2.mer with pendStep := none, pendRate := [] } } : State).fire 116
    if s3.rd MER_STAT_STATE = 3 then s3.setMer 2 else s3

/-- MERIDIAN_STEP (R64): cycle count, phase and rate become the parent's, and no boundary is raised for the time passed
over. DESIGN CHOICE (log entry 92): the step moves the last contact of no link. -/
def State.applySet (s : State) : State :=
  match s.mer.pendSet with
  | none => s
  | some m =>
    let t := ((m.cyc % 2 ^ 32 * 65536 + m.ph % 65536) * 2 ^ 32 + (s.mer.tstamp - m.at_) * m.inc) % 2 ^ 80
    ({ s with regs := wrF s.regs MER_INC_INC (s.clampInc m.inc),
              mer := { s.mer with time := t, slot := t / 2 ^ 45, cyc := t / 2 ^ 48, stepped := true, good := 0,
                                  pendSet := none, pendStep := none, pendRate := [],
                                  rateRef := some (t / 2 ^ 32), rateAt := s.mer.tstamp },
              shp := { s.shp with bands := { sg := { s.shp.bands.sg with begun := t / 2 ^ 32 },
                                             g24 := { s.shp.bands.g24 with begun := t / 2 ^ 32 } } } } : State).fire 116

end Sys2Proof.Machine
end

