-- ==== Sys2Proof/Machine/Chart.lean ====
section
/-!
DEFINITION. The Chart on Meridian (R199, R200): the fields of an entry and the occurrence that contains an instant.
-/
namespace Sys2Proof.Machine

/-! ### Occurrences (R200) -/

/-- Fields of a Chart entry word (R199). -/
def entDur (w : Word) : Nat := w.toNat % 65536
def entGate (w : Word) : Nat := w.toNat / 65536 % 256
def entWin (w : Word) : Bool := w.getLsbD 31
def entAres (w : Word) : Bool := w.getLsbD 30
def entWinIdx (w : Word) : Nat := w.toNat / 2 ^ 24 % 32

/-- An occurrence: its start in Meridian time, its entry and its true length (R200, R214). -/
structure Place where
  start : Nat
  entry : Nat
  len   : Nat
deriving DecidableEq, Repr

/-- The entry that holds offset `off` of a period, from entry `i` at `base` on. -/
def findEntry : List Word → Nat → Nat → Nat → Option (Nat × Nat × Nat)
  | [], _, _, _ => none
  | w :: r, i, base, off => if off < base + entDur w then some (i, base, entDur w) else findEntry r (i + 1) (base + entDur w) off

/-- The length of a period of the Chart in phase units. -/
def Chart.period (c : Chart) : Nat := c.cycles * 65536

/-- The occurrence of the Chart that contains Meridian time `t`; the wrap of the cycle count cuts the last one (R200). -/
def Chart.at_ (c : Chart) (t : Nat) : Place :=
  let p := (merCycle t - merCycle t % c.cycles) * 65536
  match findEntry c.entries 0 0 (t % 2 ^ 48 - p) with
  | some (i, base, d) => { start := p + base, entry := i, len := min d (2 ^ 48 - (p + base)) }
  | none => { start := p, entry := 0, len := c.period }

/-- The occurrence after one. -/
def Chart.next (c : Chart) (o : Place) : Place := c.at_ (merAdd o.start o.len)

/-- The next `n` occurrences after one, in time order. -/
def Chart.following (c : Chart) : Nat → Place → List Place
  | 0, _ => []
  | n + 1, o => c.next o :: c.following n (c.next o)

/-- The occurrences that begin within one Chart period after `o` are among these: where the wrap of the cycle count cuts the period in
progress, more than LEN of them (R200). -/
def Chart.within (c : Chart) (o : Place) : List Place := c.following (2 * c.len + 1) o

/-- The word of the entry of an occurrence. -/
def Chart.word (c : Chart) (i : Nat) : Word := c.entries.getD i 0x2000

/-- End of an occurrence. -/
def Place.stop (o : Place) : Nat := merAdd o.start o.len

/-- The occurrence that contains the present Meridian time. -/
def State.here (s : State) (b : Band) : Place := (s.shpB b).chart.at_ s.mer.now

end Sys2Proof.Machine
end

