-- ==== Sys2Proof/Machine/CalendarOps.lean ====
section
/-!
DEFINITION. The calendar of the Atoll domain as plain arithmetic (R416, R417), its BCD words, the checks of a set (R421,
R424) and the trim procedure (R425, R426).
-/
namespace Sys2Proof.Machine

/-- A leap year of R417. -/
def leapYear (y : Nat) : Bool := y % 4 == 0 && (y % 100 != 0 || y % 400 == 0)

/-- Days of month `m` in year `y`; 0 for no month. -/
def monthLen (y m : Nat) : Nat :=
  if m = 2 then (if leapYear y then 29 else 28)
  else if m = 4 ∨ m = 6 ∨ m = 9 ∨ m = 11 then 30
  else if 1 ≤ m ∧ m ≤ 12 then 31 else 0

/-- A date and time that R421 admits. -/
def Calendar.valid (c : Calendar) : Bool :=
  decide (2000 ≤ c.year ∧ c.year ≤ 2199 ∧ 1 ≤ c.month ∧ c.month ≤ 12 ∧ 1 ≤ c.day ∧ c.day ≤ monthLen c.year c.month ∧
    c.hour ≤ 23 ∧ c.min ≤ 59 ∧ c.sec ≤ 59)

/-- Days from 2000-01-01 to the first day of year `y`, 2000 to 2199. -/
def yearDays (y : Nat) : Nat := 365 * (y - 2000) + (y - 2000 + 3) / 4 - (if 2100 < y then 1 else 0)

/-- Days of year `y` before month `m`. -/
def daysBefore (y : Nat) : Nat → Nat
  | 0 => 0
  | m + 1 => daysBefore y m + monthLen y m

/-- The weekday of R416, from 1 for Monday to 7 for Sunday; 2000-01-01 is 6. -/
def Calendar.wday (c : Calendar) : Nat := (5 + yearDays c.year + daysBefore c.year c.month + (c.day - 1)) % 7 + 1

/-- The next day's date; 2199-12-31 goes to 2000-01-01 (R417). -/
def Calendar.nextDay (c : Calendar) : Calendar :=
  if c.day < monthLen c.year c.month then { c with day := c.day + 1 }
  else if c.month < 12 then { c with day := 1, month := c.month + 1 }
  else if c.year < 2199 then { c with day := 1, month := 1, year := c.year + 1 }
  else { c with day := 1, month := 1, year := 2000 }

/-- The calendar one second later (R416). -/
def Calendar.next (c : Calendar) : Calendar :=
  if c.sec < 59 then { c with sec := c.sec + 1 }
  else if c.min < 59 then { c with sec := 0, min := c.min + 1 }
  else if c.hour < 23 then { c with sec := 0, min := 0, hour := c.hour + 1 }
  else { c with sec := 0, min := 0, hour := 0 }.nextDay

/-- The advance from `c` wraps the calendar (R417). -/
def Calendar.wraps (c : Calendar) : Bool := c.year == 2199 && c.next.year == 2000

/-- The layout of RTC_TIME. -/
def Calendar.timeWord (c : Calendar) : Word :=
  BitVec.ofNat 32 (c.wday * 2 ^ 24 + bcd2 c.hour * 2 ^ 16 + bcd2 c.min * 2 ^ 8 + bcd2 c.sec)

/-- The layout of RTC_DATE. -/
def Calendar.dateWord (c : Calendar) : Word :=
  BitVec.ofNat 32 (bcd4 c.year * 2 ^ 16 + bcd2 c.month * 2 ^ 8 + bcd2 c.day)

/-! ### Sets (R421, R424) -/

/-- The fields of a time word in the layout of RTC_SETTIME, as BCD. -/
def tHour (w : Word) : Nat := RTC_SETTIME_HOUR.of w
def tMin (w : Word) : Nat := RTC_SETTIME_MIN.of w
def tSec (w : Word) : Nat := RTC_SETTIME_SEC.of w

/-- A time part that R421 admits. -/
def timeOk (w : Word) : Bool :=
  bcdOk 2 (tHour w) && bcdOk 2 (tMin w) && bcdOk 2 (tSec w) &&
  decide (bcdVal 2 (tHour w) ≤ 23 ∧ bcdVal 2 (tMin w) ≤ 59 ∧ bcdVal 2 (tSec w) ≤ 59)

/-- The fields of a date word in the layout of RTC_SETDATE, as numbers. -/
def dYear (w : Word) : Nat := bcdVal 4 (RTC_SETDATE_YEAR.of w)
def dMonth (w : Word) : Nat := bcdVal 2 (RTC_SETDATE_MONTH.of w)
def dDay (w : Word) : Nat := bcdVal 2 (RTC_SETDATE_DAY.of w)

/-- A date part that R421 admits. -/
def dateOk (w : Word) : Bool :=
  bcdOk 4 (RTC_SETDATE_YEAR.of w) && bcdOk 2 (RTC_SETDATE_MONTH.of w) && bcdOk 2 (RTC_SETDATE_DAY.of w) &&
  decide (2000 ≤ dYear w ∧ dYear w ≤ 2199 ∧ 1 ≤ dMonth w ∧ dMonth w ≤ 12 ∧ 1 ≤ dDay w ∧
    dDay w ≤ monthLen (dYear w) (dMonth w))

/-- The alarm enables some field. -/
def alarmEnabled (t d : Word) : Bool :=
  RTC_ALMTIME_HOUREN.of t == 1 || RTC_ALMTIME_MINEN.of t == 1 || RTC_ALMTIME_SECEN.of t == 1 ||
  RTC_ALMDATE_MONEN.of d == 1 || RTC_ALMDATE_DAYEN.of d == 1 || RTC_ALMDATE_WDAYEN.of d == 1

/-- The alarm's mode and period that R421 refuses with BAD_PARAM. -/
def alarmBad (t d c : Word) : Bool :=
  let m := RTC_ALMCFG_MODE.of c
  m == 3 || (m == 2 && RTC_ALMCFG_PERIOD.of c == 0) || (m == 1 && !alarmEnabled t d)

/-- An alarm date and time that R421 and R424 allow: a month and a day that are both enabled exist together in some year. -/
def alarmOk (t d : Word) : Bool :=
  let mon := bcdVal 2 (RTC_ALMDATE_MONTH.of d)
  let day := bcdVal 2 (RTC_ALMDATE_DAY.of d)
  timeOk t && bcdOk 2 (RTC_ALMDATE_MONTH.of d) && bcdOk 2 (RTC_ALMDATE_DAY.of d) &&
  decide (1 ≤ mon ∧ mon ≤ 12 ∧ 1 ≤ day ∧ day ≤ 31) &&
  (RTC_ALMDATE_MONEN.of d == 0 || RTC_ALMDATE_DAYEN.of d == 0 || decide (day ≤ monthLen 2000 mon))

/-- Status of a set by the table of R421, TLOST after it given. -/
def RtcSet.status (p : RtcSet) (tlost : Bool) : Nat :=
  if p.alarm && alarmBad p.almTime p.almDate p.almCfg then stBadParam
  else if (p.time && !timeOk p.setTime) || (p.date && !dateOk p.setDate) || (p.alarm && !alarmOk p.almTime p.almDate) then
    stDateInvalid
  else if tlost then stTimeLost
  else if !(p.date || p.time || p.alarm) then stOkEmpty
  else stOK

/-- The calendar with the date part, the time part, of a set. -/
def Calendar.withDate (c : Calendar) (w : Word) : Calendar :=
  { c with year := dYear w, month := dMonth w, day := dDay w }
def Calendar.withTime (c : Calendar) (w : Word) : Calendar :=
  { c with hour := bcdVal 2 (tHour w), min := bcdVal 2 (tMin w), sec := bcdVal 2 (tSec w) }

/-- Every enabled field of the calendar alarm matches (R424). -/
def alarmMatch (t d : Word) (c : Calendar) : Bool :=
  (RTC_ALMTIME_SECEN.of t == 0 || bcdVal 2 (tSec t) == c.sec) &&
  (RTC_ALMTIME_MINEN.of t == 0 || bcdVal 2 (tMin t) == c.min) &&
  (RTC_ALMTIME_HOUREN.of t == 0 || bcdVal 2 (tHour t) == c.hour) &&
  (RTC_ALMDATE_DAYEN.of d == 0 || bcdVal 2 (RTC_ALMDATE_DAY.of d) == c.day) &&
  (RTC_ALMDATE_MONEN.of d == 0 || bcdVal 2 (RTC_ALMDATE_MONTH.of d) == c.month) &&
  (RTC_ALMDATE_WDAYEN.of d == 0 || RTC_ALMDATE_WDAY.of d == c.wday)

/-! ### Trim (R425, R426) -/

/-- The accumulator and the length of the second that begins, after a second boundary with trim `t` (R425). -/
def trimStep (acc : Nat) (t : Int) : Nat × Nat :=
  let a := (acc : Int) + t
  ((a % 1048576).toNat, (32768 - a / 1048576).toNat)

/-- The target T of R426 before its clamp. -/
def trimTarget (freq lfratio inc : Nat) : Int :=
  let li := lfratio * inc
  roundDiv ((32768 * li : Nat) * 1048576 - ((2 ^ 64 * freq : Nat) : Int) * 1048576) li

end Sys2Proof.Machine
end

