-- ==== Sys2Proof/Machine/SurveyBase.lean ====
section
/-!
DEFINITION. The open sheet of the Survey recorder (20_survey_recorder.md): samples and counts (R509 to R511), the bytes of a
closed sheet (R507, R508), and its close (R512, R513, R515, R517).
-/
namespace Sys2Proof.Machine

/-! ### Slots -/

/-- The value of a hardware sample in slot `k` (R510). -/
def State.svrValue (s : State) (k : Nat) (signed : Bool) (r : Int) : Int :=
  let sh := s.rd (SVR_M_CFG_SHIFT k)
  if signed then clampInt (-32768) 32767 (r / ((2 ^ sh : Nat) : Int))
  else clampInt 0 65535 (((intBits 32 r) / 2 ^ sh : Nat) : Int)

/-- The bin of value `v` (R510). -/
def svrBin (lo step v : Int) : Nat := (clampInt 0 7 (if step = 0 then 0 else (v - lo) / step)).toNat

/-- A slot with one more sample (R510); counts saturate at 32 bits. -/
def SvrSlot.sample (x : SvrSlot) (bin : Nat) (v : Int) : SvrSlot :=
  { x with range := match x.range with
             | none => some (v, v)
             | some (a, b) => some (min a v, max b v),
           bins := modifyNth (fun n => min (n + 1) 0xFFFFFFFF) bin x.bins }

/-- A counter slot with `n` more (R511). -/
def SvrSlot.count (x : SvrSlot) (n : Nat) : SvrSlot :=
  { x with value := (x.value + n) % 10 ^ 16, delta := (x.delta + n) % 10 ^ 16,
           wrap := x.wrap || decide (10 ^ 16 ≤ x.value + n) }

/-- Slot `k` is enabled with source `src`. -/
def State.svrSlotOn (s : State) (k src : Nat) : Bool :=
  s.rdB SVR_CFG_EN && s.svr.sheet.isSome && s.rd (SVR_M_CFG_EN k) == 1 && s.rd (SVR_M_CFG_SRC k) == src

/-- The state with slot `k` changed. -/
def State.setSlot (s : State) (k : Nat) (f : SvrSlot → SvrSlot) : State :=
  { s with svr := { s.svr with slots := modifyNth f k s.svr.slots } }

/-- Takes the value `v` into slot `k`. -/
def State.svrTake (s : State) (k : Nat) (v : Int) : State :=
  let sg := s.rd (SVR_M_CFG_SGN k) == 1
  let lo := s.rd (SVR_M_BIN_LO k)
  s.setSlot k (fun x => x.sample (svrBin (if sg then sInt 16 lo else lo) (s.rd (SVR_M_BIN_STEP k)) v) v)

/-- A sample of source `src` with parameter `par`: every slot that names it takes it (R509, R510). -/
def State.svrSample (s : State) (src par : Nat) (r : Int) : State :=
  ((List.range 24).filter (fun k => s.svrSlotOn k src && s.rd (SVR_M_CFG_PARAM k) == par)).foldl
    (fun t k => t.svrTake k (t.svrValue k (t.rd (SVR_M_CFG_SGN k) == 1) r)) s

/-- A count of 1 of source `src` with parameter `par` (R509). -/
def State.svrCount (s : State) (src par : Nat) : State :=
  ((List.range 24).filter (fun k => s.svrSlotOn k src && s.rd (SVR_M_CFG_PARAM k) == par)).foldl
    (fun t k => t.setSlot k (fun x => x.count 1)) s

/-- The samples and counts of a calendar second (R509): die temperature, PWM duties, occupied zones, lamp-burn time. -/
def State.svrSecondSamples (s : State) : State :=
  let s1 := (List.range 8).foldl (fun t p => t.svrSample 4 p (sInt 12 (t.rd RFC_TEMP_TEMP))) s
  let s2 := (List.range 4).foldl (fun t c => t.svrSample 5 c (t.rd (SNS_PWM_DUTY_DUTY c))) s1
  let s3 := (List.range 8).foldl (fun t z => if t.rd (SNS_SZ_STAT_STATE z) = 1 then t.svrCount 9 z else t) s2
  (List.range 4).foldl (fun t c =>
    if t.rd (SNS_PWM_CFG_MODE c) ≠ 0 ∧ 0 < t.rd (SNS_PWM_DUTY_DUTY c) then t.svrCount 10 c else t) s3

/-! ### The bytes of a sheet (R507, R508) -/

/-- `k` BCD digits of `n`, digit 0 in the low bits. -/
def bcdNum : Nat → Nat → Nat
  | 0, _ => 0
  | k + 1, n => n % 10 + 16 * bcdNum k (n / 10)

/-- A calendar in the order year, month, day, hour, minute, second. -/
def calBytes (c : Calendar) : List Byte :=
  natLE 2 (bcd4 c.year) ++ [BitVec.ofNat 8 (bcd2 c.month), BitVec.ofNat 8 (bcd2 c.day), BitVec.ofNat 8 (bcd2 c.hour),
    BitVec.ofNat 8 (bcd2 c.min), BitVec.ofNat 8 (bcd2 c.sec)]

/-- The 20 bytes of a SAMPLE slot. -/
def SvrSlot.sampleBytes (x : SvrSlot) : List Byte :=
  let r := x.range.getD (0xFFFF, 0)
  let total := x.bins.sum
  natLE 2 (intBits 16 r.1) ++ natLE 2 (intBits 16 r.2) ++
    x.bins.flatMap (fun n => natLE 2 (if total = 0 then 0 else min (n * 65536 / total) 65535))

/-- The 20 bytes of a COUNTER slot. -/
def SvrSlot.counterBytes (x : SvrSlot) : List Byte :=
  natLE 8 (bcdNum 16 x.value) ++ natLE 8 (bcdNum 16 x.delta) ++ [BitVec.ofNat 8 (b2n x.wrap), 0, 0, 0]

/-- The 20 bytes of slot `k` (R507). -/
def State.slotBytes (s : State) (k : Nat) : List Byte :=
  let x := s.svr.slots.getD k .empty
  let src := s.rd (SVR_M_CFG_SRC k)
  if s.rd (SVR_M_CFG_EN k) = 0 ∨ src = 0 then List.replicate 20 0
  else if 8 ≤ src then x.counterBytes else x.sampleBytes

/-- The flags of a close (R507): LATE, CFG, CALSET. -/
structure CloseWhy where
  late   : Bool := false
  cfg    : Bool := false
  calset : Bool := false
deriving DecidableEq, Repr

/-- The sheet of 512 bytes that closes (R507). -/
def State.sheetBytes (s : State) (start fin : Calendar) (restart founding : Bool) (w : CloseWhy) : List Byte :=
  let flags := b2n founding + 2 * b2n w.late + 4 * s.rd RTC_STAT_TLOST + 8 * b2n restart + 16 * b2n w.cfg + 32 * b2n w.calset
  let mask := (List.range 24).foldl (fun m k => m + s.rd (SVR_M_CFG_EN k) * 2 ^ k) 0
  let head := natLE 4 (s.rd SVR_SEQ_SEQ) ++ calBytes start ++ calBytes fin ++ natLE 4 (s.mer.time / 2 ^ 48) ++
    [BitVec.ofNat 8 flags, BitVec.ofNat 8 s.svr.cfgId] ++ natLE 3 mask ++ [0, 0, 0]
  let body := (List.range 24).flatMap s.slotBytes
  head ++ natLE 2 (crc16 (head ++ body)) ++ body

/-! ### Closing (R512, R515, R517) -/

/-- The slots of a new sheet: samples begin again, counters keep their value. -/
def SvrSlot.reopen (x : SvrSlot) : SvrSlot := { SvrSlot.empty with value := x.value }

/-- A founding place is free and the next sheet takes it (R515). -/
def State.goesFounding (s : State) : Bool :=
  decide (s.svr.fnext + (s.svr.waiting.filter (·.founding)).length < 256) &&
    (s.rdB SVR_CFG_FOUNDAUTO || s.svr.found)

/-- The waiting sheets with one more: at most two, the oldest drops (R517). Number `busy` is being programmed: it waits no longer, and
does not drop (log entry 83). -/
def pushSheet (l : List Sheet) (busy : Option Nat) (x : Sheet) : List Sheet × Bool :=
  match l with
  | a :: _ :: _ => if busy = some a.seq then ([a, x], true) else (l.drop 1 ++ [x], true)
  | _ => (l ++ [x], false)

/-- SRC and PARAM of every slot. -/
def State.svrSrcs (s : State) : List Nat := (List.range 24).map (fun k => s.rd (SVR_M_CFG_SRC k) * 8 + s.rd (SVR_M_CFG_PARAM k))

/-- The open sheet closes with END `fin`, and the next opens with START `start`; an erase that has failed may start again (R512, R516,
R517). -/
def State.svrClose (s : State) (fin start : Calendar) (w : CloseWhy) : State :=
  match s.svr.sheet with
  | none => s
  | some (st, restart) =>
    let founding := s.goesFounding
    let x : Sheet := { bytes := s.sheetBytes st fin restart founding w, seq := s.rd SVR_SEQ_SEQ, founding := founding, srcs := s.svrSrcs }
    let q := pushSheet s.svr.waiting (s.svr.writing.map (fun x => x.2.2)) x
    let r1 := wrF (wrF s.regs SVR_SEQ_SEQ (s.rd SVR_SEQ_SEQ + 1)) SVR_STAT_WAITING q.1.length
    { s with regs := if q.2 then incF r1 SVR_CNT_DROPS else r1,
             svr := { s.svr with sheet := some (start, false), waiting := q.1, found := false, eraseStuck := false,
                                 slots := s.svr.slots.map SvrSlot.reopen } }

/-- The open sheet closes by command now (R512). -/
def State.svrCloseNow (s : State) : State := s.svrClose s.rtc.cal s.rtc.cal {}

/-- A boundary of R512. -/
def State.svrBoundary (s : State) (c : Calendar) : Bool :=
  let iv := s.rd SVR_CFG_INTERVAL
  c.sec == 0 && iv != 0 && (c.hour * 60 + c.min) % iv == 0

/-- SVR at the calendar second that enters `c`, TCLK running or not; a set at the same edge has closed the sheet (R509, R512,
R513). -/
def State.svrSecond (s : State) (running set : Bool) (c : Calendar) : State :=
  if !(s.rdB SVR_CFG_EN && s.svr.sheet.isSome) then s
  else if !running then
    if s.svrBoundary c then { s with svr := { s.svr with late := some c } } else s
  else if set then s.svrSecondSamples
  else
    let s1 := match s.svr.late with
      | some l =>
        let t := s.svrClose (if s.svrBoundary c then c else l) c { late := true }
        { t with svr := { t.svr with late := none } }
      | none => if s.svrBoundary c then s.svrClose c c {} else s
    s1.svrSecondSamples

/-- A set of the calendar closes the open sheet (R512, CALSET): `old` before it, `new` after it. A late boundary that falls together with
it is carried by the same sheet (R513). -/
def State.svrCalset (s : State) (old new : Calendar) : State :=
  if s.rdB SVR_CFG_EN then
    let t := s.svrClose (s.svr.late.getD old) new { calset := true, late := s.svr.late.isSome }
    { t with svr := { t.svr with late := none } }
  else s

end Sys2Proof.Machine
end

