-- ==== Sys2Proof/Machine/Atoll.lean ====
section
/-!
DEFINITION. The Atoll domain (15_calendar_and_atoll.md): backup RAM and the Meridian record (R69, R413 to R415), what one
LFCLK edge does (R416 to R425), and the commands of the calendar, the alarm, the WAKE pins and the supplies.
-/
namespace Sys2Proof.Machine

/-! ### Backup RAM -/

/-- Bytes 0 to 29 with the CRC that the domain computes (R414). -/
def bkupCrc (m : List Byte) : List Byte := m.take 30 ++ natLE 2 (crc16 (m.take 30)) ++ m.drop 32

/-- `m` with the bytes `bs` at offset `k`. -/
def putBytes (m : List Byte) (k : Nat) (bs : List Byte) : List Byte := m.take k ++ bs ++ m.drop (k + bs.length)

/-- The signature of R415. -/
def bkupSigOk (m : List Byte) : Bool :=
  leNat (m.take 4) == 0x7A110C5E && (leNat ((m.drop 24).take 1)) % 2 == 1 &&
  leNat ((m.drop 30).take 2) == crc16 (m.take 30)

/-- The backup RAM replaced; SIGOK follows (R415). -/
def State.setBkup (s : State) (m : List Byte) : State :=
  { s with regs := wrF s.regs RTC_STAT_SIGOK (b2n (bkupSigOk m)), rtc := { s.rtc with bkup := m } }

/-- Stores bytes at offset `k`; a write that touches bytes 0 to 31 recomputes the CRC (R414). -/
def State.bkupStore (s : State) (k : Nat) (bs : List Byte) : State :=
  let m := putBytes s.rtc.bkup k bs
  s.setBkup (if k < 32 then bkupCrc m else m)

/-- The Meridian record of R69 in the layout of bytes 4 to 29 (R414). -/
def State.merRecord (s : State) : List Byte :=
  natLE 4 (merCycle s.mer.now) ++ natLE 2 (merPhase s.mer.now) ++ natLE 6 s.rtc.tick ++ natLE 4 (s.rd MER_INC_INC) ++
  natLE 4 (s.rd MER_LFRATIO_RATIO) ++ natLE 1 (1 + 2 * b2n s.isManager) ++ natLE 5 (s.mer.tstamp / 2 ^ 24)

/-- A record of R69 is due: MER takes its snapshot at the next LFCLK edge (R414). -/
def State.recordDue (s : State) : State := { s with mer := { s.mer with recDue := true } }

/-- Cycle count, phase, increment and LFRATIO of the record, and the TSTAMP bits and tick it holds (R69). -/
structure MerRecord where
  cyc   : Nat
  ph    : Nat
  tick  : Nat
  inc   : Nat
  ratio : Nat
  tshi  : Nat
deriving DecidableEq, Repr

/-- The record in the backup RAM. -/
def Rtc.record (r : Rtc) : MerRecord :=
  let f := fun a n => leNat ((r.bkup.drop a).take n)
  { cyc := f 4 4, ph := f 8 2, tick := f 10 6, inc := f 16 4, ratio := f 20 4, tshi := f 25 5 }

/-- MER after the projection of a record over the ticks elapsed (R67, R69), its rate held inside the range of NOMFREQ (R47). The slew of
R59 and the second of R187 count from here. -/
def State.projectRecord (s : State) : State :=
  let r := s.rtc.record
  let el := (s.rtc.tick + 2 ^ 48 - r.tick) % 2 ^ 48
  let n := el * r.ratio / 65536
  let inc := s.clampInc r.inc
  let t := ((r.cyc * 65536 + r.ph) * 2 ^ 32 + n * inc) % 2 ^ 80
  let ts := ((r.tshi + 2) * 2 ^ 24 + n) % 2 ^ 64
  { s with regs := wrF (wrF s.regs MER_INC_INC inc) MER_LFRATIO_RATIO r.ratio,
           mer := { s.mer with time := t, tstamp := ts, slot := t / 2 ^ 45, cyc := t / 2 ^ 48, since := ts, sinceCyc := t / 2 ^ 48,
                               rateAt := ts },
           mac := { s.mac with binSec := ts / tclkHz },
           shp := { s.shp with bands := { sg := { s.shp.bands.sg with begun := t / 2 ^ 32 },
                                          g24 := { s.shp.bands.g24 with begun := t / 2 ^ 32 } } } }

/-- The master may write backup RAM word `n` (R413). -/
def bkupAllowed (m : Master) (n : Nat) : Bool := isE2 m || decide (8 ≤ n)

/-- A write of backup RAM word `n` by `m`, at its LFCLK edge (R413, R414). -/
def State.bkupWrite (s : State) (m : Master) (n : Nat) (v : Word) : State :=
  if bkupAllowed m n ∧ n < 16 then s.bkupStore (4 * n) (wordBytes v) else s

/-! ### Wake sources (R448) -/

/-- Wake source `k` can wake the device from its present state, or abandon an entry. -/
def State.wakeable (s : State) (k : Nat) : Bool :=
  match s.pwr.st with
  | .sleep | .standby => !s.pwr.waking
  | .backupCmd => decide (k ≤ 5)
  | .run | .doze => s.pwr.entering
  | .off | .backupBrown => false

/-- Wake source `k` comes: while it is enabled and the device sleeps or enters sleep, it is noted (R448). -/
def State.wakeSignal (s : State) (k : Nat) : State :=
  if s.wakeable k ∧ s.rd PWR_WAKEEN_EN / 2 ^ k % 2 = 1 then
    { s with pwr := { s.pwr with wakeReq := s.pwr.wakeReq ||| 2 ^ k } }
  else s

/-! ### Register writes into the domain (R21, R458, R460) -/

/-- A write of RTC_SETCMD with value `v` (R420, R421). -/
def State.writeSetcmd (s : State) (m : Master) (v : Word) : State :=
  if isE2 m ∧ s.rd RTC_SETSTAT_BUSY = 0 then
    let p : RtcSet :=
      { date := RTC_SETCMD_DATE.of v == 1, time := RTC_SETCMD_TIME.of v == 1, alarm := RTC_SETCMD_ALARM.of v == 1,
        setTime := regGet s.regs 0x40005018, setDate := regGet s.regs 0x4000501C,
        almTime := regGet s.regs 0x40005020, almDate := regGet s.regs 0x40005024,
        almCfg := regGet s.regs 0x40005028 }
    { s with regs := wrF s.regs RTC_SETSTAT_BUSY 1, rtc := { s.rtc with pend := some p } }
  else s

/-- RTC_WAKECFG: PULL 0b11 is stored as 0b00 and EDGE 0b11 as 0b10 (R430). -/
def wakeWord (v : Word) : Word :=
  let pull := v &&& (v >>> 1) &&& 0x08080808
  let edge := v &&& (v >>> 1) &&& 0x02020202
  v &&& ~~~(pull ||| (pull <<< 1) ||| edge)

/-- A register of the Atoll domain: RTC, the registers of PWR from 0x040 on, and CLK_LFTRIM (R18, R430, R451, R463). -/
def isAtoll (a : Nat) : Bool :=
  decide ((0x40005000 ≤ a ∧ a < 0x40006000) ∨ (0x40001040 ≤ a ∧ a < 0x40002000) ∨ a = 0x40002008)

/-- A register write that has reached the Atoll domain (R413, R420, R426, R430, R451, R463). -/
def State.writeAtoll (s : State) (m : Master) (a : Nat) (v : Word) : State :=
  if a = RTC_SETCMD_DATE.addr then s.writeSetcmd m v
  else if 0x40005018 ≤ a ∧ a < 0x4000502C then (if isE2 m then s.plainWrite a v else s)
  else if a = RTC_TRIMCFG_SRC.addr then
    s.plainWrite a (if isE2 m then v else RTC_TRIMCFG_SRC.put v (s.rd RTC_TRIMCFG_SRC))
  else if a = RTC_TRIM_TRIM.addr then (if isE2 m ∧ s.rd RTC_TRIMCFG_SRC = 0 then s.plainWrite a v else s)
  else if a = 0x4000503C then s.plainWrite a (wakeWord v)
  else if 0x40005080 ≤ a ∧ a < 0x400050C0 then s.bkupWrite m ((a - 0x40005080) / 4) v
  else s.plainWrite a v

/-- A read of RTC_TIME latches the five values of R418. -/
def State.timeRead (s : State) : State :=
  let r := s.rtc
  let r1 := regSet s.regs 0x40005004 r.cal.timeWord
  let r2 := regSet r1 0x40005008 r.cal.dateWord
  let r3 := regSet r2 0x4000500C (BitVec.ofNat 32 (r.sub % 65536))
  let r4 := regSet r3 0x40005010 (BitVec.ofNat 32 r.tick)
  let r5 := regSet r4 0x40005014 (BitVec.ofNat 32 (r.tick / 2 ^ 32))
  { s with regs := r5, busData := r.cal.timeWord }

/-- A read of RTC_STMP_SUB (R428). -/
def State.stampRead (s : State) : State :=
  let c := s.rtc.stamp.1
  let w : Word := BitVec.ofNat 32 (b2n s.rtc.stampNew * 2 ^ 31 + b2n s.rtc.stampOvr * 2 ^ 30 + s.rtc.stamp.2 % 65536)
  let r1 := regSet s.regs 0x40005040 c.timeWord
  let r2 := regSet r1 0x40005044 c.dateWord
  { s with regs := r2, busData := w, rtc := { s.rtc with stampNew := false, stampOvr := false } }

/-- A transfer enters the Strait into the Atoll domain, which holds it until its LFCLK edge (R21, R458, R460). -/
def State.holdItem (s : State) (x : HeldItem) : State := { s with rtc := { s.rtc with held := s.rtc.held ++ [x] } }

/-- A register write enters that Strait. -/
def State.hold (s : State) (m : Master) (a : Nat) (v : Word) : State := s.holdItem (.write m a v)

/-- The Atoll domain takes a transfer (R458). -/
def State.takeItem (s : State) : HeldItem → State
  | .write m a v => s.writeAtoll m a v
  | .record bs => s.bkupStore 4 bs
  | .read a => if a = 0x40005004 then s.timeRead else if a = 0x40005048 then s.stampRead else s

/-! ### One LFCLK edge -/

/-- LFCLK has an edge to come: the domain is powered, the clock runs, and the edge is not that of the 67th low sample, at which
POWER_GOOD_FALL drops power-good (R410, log entry 99). -/
def State.lfOn (s : State) : Bool := s.rtc.powered && s.rtc.lf && !(s.rtc.isLow && s.rtc.low == 66)

/-- TRIM of RTC_TRIM, signed. -/
def State.trim (s : State) : Int := sInt 24 (s.rd RTC_TRIM_TRIM)

/-- A second ends at the next LFCLK edge. -/
def Rtc.secondEnds (r : Rtc) : Bool := decide (r.secLen ≤ r.sub + 1)

/-- The tick and the prescaler at an edge; at the end of a second the calendar advances and the trim gives the next second
its length (R416, R419, R425). -/
def State.edgeCount (s : State) : State :=
  let r := s.rtc
  if r.secondEnds then
    let t := trimStep r.acc s.trim
    { s with regs := if r.cal.wraps then wrF s.regs RTC_STAT_WRAP 1 else s.regs,
             rtc := { r with tick := (r.tick + 1) % 2 ^ 48, sub := 0, cal := r.cal.next, acc := t.1, secLen := t.2 } }
  else { s with rtc := { r with tick := (r.tick + 1) % 2 ^ 48, sub := r.sub + 1 } }

/-- The set `p` applied at an edge (R421 to R423), its status `st` known to be no refusal. -/
def State.applySetParts (s : State) (p : RtcSet) : State :=
  let r := s.rtc
  let c1 := if p.date then r.cal.withDate p.setDate else r.cal
  let c2 := if p.time then c1.withTime p.setTime else c1
  let dd := r.dateSet || p.date
  let tt := r.timeSet || p.time
  { s with regs := if dd && tt then wrF s.regs RTC_STAT_TLOST 0 else s.regs,
           rtc := { r with cal := c2, sub := if p.time then 0 else r.sub, dateSet := dd, timeSet := tt,
                           almTime := if p.alarm then p.almTime else r.almTime,
                           almDate := if p.alarm then p.almDate else r.almDate,
                           almCfg := if p.alarm then p.almCfg else r.almCfg,
                           almCount := if p.alarm then 0 else r.almCount } }

/-- TLOST as the set `p` leaves it (R412). -/
def State.tlostAfter (s : State) (p : RtcSet) : Bool :=
  s.rdB RTC_STAT_TLOST && !((s.rtc.dateSet || p.date) && (s.rtc.timeSet || p.time))

/-- The waiting set at an edge: checked, applied or refused, and reported in RTC_SETSTAT (R421). With the calendar set after a cold
start, vendor firmware writes SIG (R415). -/
def State.edgeSet (s : State) : State :=
  match s.rtc.pend with
  | none => s
  | some p =>
    let st := p.status (s.tlostAfter p)
    let s1 := if st = stOK ∨ st = stTimeLost then s.applySetParts p else s
    let s2 : State := { s1 with regs := wrF (wrF s1.regs RTC_SETSTAT_STATUS st) RTC_SETSTAT_BUSY 0, rtc := { s1.rtc with pend := none } }
    let sign := s.rdB RTC_STAT_TLOST && !s2.rdB RTC_STAT_TLOST && s.path == .cold && s.rdB SYS_BOOT_DONE
    if sign then s2.hold (.eng 2) 0x40005080 0x7A110C5E else s2

/-- The waiting set names the date or the time and is not refused. -/
def State.setsCalendar (s : State) : Bool :=
  match s.rtc.pend with
  | none => false
  | some p => (p.date || p.time) && (p.status (s.tlostAfter p) == stOK || p.status (s.tlostAfter p) == stTimeLost)

/-- The waiting set is applied and sets the alarm, which then fires at no match of this edge (R423). -/
def State.setsAlarm (s : State) : Bool :=
  match s.rtc.pend with
  | none => false
  | some p => p.alarm && (p.status (s.tlostAfter p) == stOK || p.status (s.tlostAfter p) == stTimeLost)

/-- ALARM fires (R424, R429, R448). -/
def State.fireAlarm (s : State) : State := (s.fire 17).wakeSignal 4

/-- LEAF_SEARCH_WAKE (R246): the interval alarm wakes a leaf between its searches, and it listens for 200 ms. -/
def State.leafWake (s : State) : State :=
  if s.mesh.phase = .asleep then
    { s with mesh := { s.mesh with phase := .listen, cands := [], heard := false, searchEnd := s.tclk + 80000000 } }
  else s

/-- The interval alarm at an edge (R424); it wakes a leaf that searches (R246). -/
def State.edgeInterval (s : State) : State :=
  if RTC_ALMCFG_MODE.of s.rtc.almCfg = 2 then
    if RTC_ALMCFG_PERIOD.of s.rtc.almCfg ≤ s.rtc.almCount + 1 then
      ({ s with rtc := { s.rtc with almCount := 0 } } : State).fireAlarm.leafWake
    else { s with rtc := { s.rtc with almCount := s.rtc.almCount + 1 } }
  else s

/-- What a second boundary raises: SECOND, and the calendar alarm where it is not set at the same edge and both the second that the
advance reached, `old`, and the calendar after the edge match it, so that no set makes it fire (R416, R423, R424, log entry 100). SVR
takes the second (R509, R512). -/
def State.edgeSecond (s : State) (set quiet : Bool) (old : Calendar) : State :=
  let s1 := ((s.fire 16).wakeSignal 6).svrSecond s.tclkOn set s.rtc.cal
  let hit := fun c : Calendar => alarmMatch s1.rtc.almTime s1.rtc.almDate c
  if !quiet && RTC_ALMCFG_MODE.of s1.rtc.almCfg == 1 && hit old && hit s1.rtc.cal then s1.fireAlarm else s1

/-- The wake timer at an edge (R448). -/
def State.edgeTimer (s : State) : State :=
  if !s.pwr.noTimer ∧ s.rtc.tick = s.rd PWR_TIMER_HI_TICK % 65536 * 2 ^ 32 + s.rd PWR_TIMER_LO_TICK then s.wakeSignal 5 else s

/-- MER's snapshot at an LFCLK edge, on its way into the domain (R69, R414). -/
def State.edgeRecord (s : State) : State :=
  if s.mer.recDue then ({ s with mer := { s.mer with recDue := false } } : State).holdItem (.record s.merRecord) else s

/-- The transfer that waited when an edge came is taken by it (R458). -/
def State.takeFirst (s : State) (l : List HeldItem) : State :=
  match l with
  | [] => s
  | x :: _ => s.takeItem x

/-- The supplies at an edge: a low sample counts, another clears the count (R410). -/
def Rtc.sample (r : Rtc) : Rtc := { r with held := r.held.tail, low := if r.isLow then r.low + 1 else 0 }

/-- One LFCLK edge (R410, R416, R421 to R425, R458). A transfer that enters the domain's Strait at this edge waits for a later one, and a write
of RTC_SETCMD that this edge takes is applied at the next (R421). -/
def State.lfEdge (s : State) : State :=
  if s.lfOn then
    let ends := s.rtc.secondEnds
    let sets := s.setsCalendar
    let quiet := s.setsAlarm
    let s1 := (({ s with rtc := s.rtc.sample } : State).edgeCount).edgeRecord
    let old := s1.rtc.cal
    let s2 := s1.edgeInterval.edgeSet
    let s3 := if sets then s2.svrCalset old s2.rtc.cal else s2
    ((if ends then s3.edgeSecond sets quiet old else s3).edgeTimer).takeFirst s.rtc.held
  else s

/-- A sleeping device has a wake source to take, at the edge that brought it (R448, R449). -/
def State.wakeDue (s : State) : Bool :=
  (s.pwr.st == .sleep || s.pwr.st == .standby || s.pwr.st == .backupCmd) && !s.pwr.waking && s.pwr.wakeReq != 0

/-- `n` LFCLK edges, or those up to the edge at which the device takes a wake source or after which LFCLK has none. -/
def State.lfRun (s : State) : Nat → State
  | 0 => s
  | n + 1 => if s.wakeDue || !s.lfOn then s else s.lfEdge.lfRun n

/-- The LFCLK edges that take every transfer which the domain's Strait holds. -/
def State.drain (s : State) : State := s.lfRun s.rtc.held.length

/-- The record of R69 written and acknowledged: a snapshot, then the edges up to the one that stores it (R414, R462). With LFCLK stopped it
cannot be written (log entry 99). -/
def State.writeRecord (s : State) : State := if s.lfOn then s.recordDue.lfEdge.drain else s

/-! ### Commands -/

/-- The Atoll domain at R411: the calendar, the backup RAM and every register that R411 alone resets. -/
def State.atollReset (s : State) (powered : Bool) : State :=
  { s with regs := regsReset 0x40002008 0x4000200C (regsReset 0x40001040 0x40002000 (regsReset 0x40005000 0x40006000 s.regs)),
           rtc := { Rtc.atPowerUp with powered := powered } }

/-- SUPPLY_SWITCH_OVER (R409, R410): VBKUP feeds the domain or VBAT does; a supply back at 1.50 V makes the samples that follow no low
ones. -/
def execSupplySwitchOver (vbkup back : Bool) (s : State) : Host.Outcome State Fault Refusal :=
  .next { s with regs := wrF s.regs RTC_STAT_SUPPLY (b2n vbkup),
                 rtc := { s.rtc with isLow := s.rtc.isLow && !back } }

/-- A write to the Atoll domain arrives there: at once when nothing is ahead of it, else after the edges that take what is; while LFCLK
stands still it is held (R21, R458, R460). -/
def State.arrive (s : State) (m : Master) (a : Nat) (v : Word) : State :=
  if s.lfOn then
    if s.rtc.held.isEmpty then s.writeAtoll m a v else (s.hold m a v).drain
  else s.hold m a v

/-- RTC_SET_APPLY (R421): the next LFCLK edge, while a set or a write into the domain waits. -/
def execRtcSetApply (s : State) : Host.Outcome State Fault Refusal :=
  .next (if s.rtc.pend.isSome || !s.rtc.held.isEmpty then s.lfEdge else s)

/-- CALENDAR_SECOND (R416): the LFCLK edges up to the end of the present second. A waiting set is taken at the first. -/
def execCalendarSecond (s : State) : Host.Outcome State Fault Refusal :=
  let s1 := if s.rtc.pend.isSome && !s.rtc.secondEnds then s.lfEdge else s
  .next (s1.lfRun (max 1 (s1.rtc.secLen - s1.rtc.sub)))

/-- The interval alarm of a leaf's search: every 20.0 s, and it wakes the device (R246, R424, R448). -/
def State.searchAlarm (s : State) : State :=
  { s with regs := wrF s.regs PWR_WAKEEN_EN (s.rd PWR_WAKEEN_EN ||| 16),
           rtc := { s.rtc with almCfg := RTC_ALMCFG_PERIOD.put (RTC_ALMCFG_MODE.put s.rtc.almCfg 2) 655360, almCount := 0 } }

/-- The search goes on with the alarm that runs, from one wake to the next (R246). -/
def State.searchKeep (s : State) : State :=
  if RTC_ALMCFG_MODE.of s.rtc.almCfg = 2 ∧ RTC_ALMCFG_PERIOD.of s.rtc.almCfg = 655360 then s else s.searchAlarm

/-- INTERVAL_ALARM (R424): the LFCLK edges up to the next firing of the interval alarm. -/
def execIntervalAlarm (s : State) : Host.Outcome State Fault Refusal :=
  if RTC_ALMCFG_MODE.of s.rtc.almCfg = 2 then
    .next (s.lfRun (max 1 (RTC_ALMCFG_PERIOD.of s.rtc.almCfg - s.rtc.almCount)))
  else .next s

/-- An edge to `level` is of the kind that EDGE selects: rising, falling, both (R427). -/
def edgeSelected (edge : Nat) (level : Bool) : Bool := edge == 2 || (edge == 0 && level) || (edge == 1 && !level)

/-- WAKE_EDGE (R427): a new level has held for two samples on WAKE pin `n`. -/
def execWakeEdge (n : Fin 4) (level : Bool) (s : State) : Host.Outcome State Fault Refusal :=
  let old := s.rd RTC_STAT_WAKELVL
  if (old / 2 ^ n.val % 2 == 1) = level ∨ !s.lfOn then .next s
  else
    let lvl := if level then old + 2 ^ n.val else old - 2 ^ n.val
    let s1 : State := { s with regs := wrF s.regs RTC_STAT_WAKELVL lvl }
    if s.rd (RTC_WAKECFG_EN n) = 1 ∧ edgeSelected (s.rd (RTC_WAKECFG_EDGE n)) level then
      .next ((s1.fire (18 + n.val)).wakeSignal n.val)
    else .next s1

/-- A read of the register at `a` goes through the domain's Strait behind what it holds (R20, R21); with LFCLK stopped it is held
(R460), and with the domain unpowered it ends at once in a bus error, counted in CLK_FLUSH (R461). -/
def State.farRead (s : State) (a : Nat) : State :=
  if !s.rtc.powered then s.inc CLK_FLUSH_FLUSHES
  else
    let s1 := s.drain
    if s1.lfOn ∧ s1.rtc.held.isEmpty then s1.takeItem (.read a) else s1.holdItem (.read a)

/-- RTC_TIME_READ (R418). -/
def execRtcTimeRead (s : State) : Host.Outcome State Fault Refusal := .next (s.farRead 0x40005004)

/-- RTC_STAMP (R428): the task records the calendar and the prescaler. -/
def State.stamp (s : State) : State :=
  { s with rtc := { s.rtc with stamp := (s.rtc.cal, s.rtc.sub), stampNew := true,
                               stampOvr := s.rtc.stampOvr || s.rtc.stampNew } }

/-- STMP_SUB_READ (R428). -/
def execStmpSubRead (s : State) : Host.Outcome State Fault Refusal := .next (s.farRead 0x40005048)

/-- WAKE_TIMER (R448): the LFCLK edges up to the one at which RTC_TICK reaches PWR_TIMER. -/
def execWakeTimer (s : State) : Host.Outcome State Fault Refusal :=
  let w := s.rd PWR_TIMER_HI_TICK % 65536 * 2 ^ 32 + s.rd PWR_TIMER_LO_TICK
  .next (s.lfRun ((w + 2 ^ 48 - s.rtc.tick) % 2 ^ 48))

/-- TRIM_UPDATE (R426): at a new LFRATIO, with SRC = MERIDIAN and MER in LOCKED or SYNTH. -/
def State.trimUpdate (s : State) : State :=
  let li := s.rd MER_LFRATIO_RATIO * s.rd MER_INC_INC
  if s.rdB RTC_TRIMCFG_SRC ∧ (s.rd MER_STAT_STATE = 2 ∨ s.rd MER_STAT_STATE = 4) ∧ li ≠ 0 then
    let t0 := trimTarget (if s.rd MER_CFG_NOMFREQ = 0 then 50 else 60) (s.rd MER_LFRATIO_RATIO) (s.rd MER_INC_INC)
    let t := clampInt (-8388608) 8388607 t0
    let new := s.trim + roundDiv (t - s.trim) (2 ^ s.rd RTC_TRIMCFG_TAVG)
    let r1 := wrF s.regs RTC_TRIM_TRIM (intBits 24 new)
    { s with regs := if t = t0 then r1 else wrF r1 RTC_STAT_TRCLAMP 1 }
  else s

/-- LFRATIO_MEASURE (R68, R426): `n` TCLK cycles were counted over 32,768 LFCLK ticks. -/
def execLfratioMeasure (n : BitVec 32) (s : State) : Host.Outcome State Fault Refusal :=
  if s.tclkOn && s.lfOn then
    let s1 := (s.lfRun (32768 - (s.rtc.tick + 2 ^ 48 - s.mer.lfTick) % 2 ^ 48)).tick (n.toNat - (s.tclk - s.mer.lfTclk))
    let s2 : State := { s1 with regs := wrF s1.regs MER_LFRATIO_RATIO (2 * n.toNat),
                                mer := { s1.mer with lfTick := s1.rtc.tick, lfTclk := s1.tclk } }
    .next s2.trimUpdate
  else .next s

end Sys2Proof.Machine
end

