-- ==== Sys2Proof/Machine/FlashRead.lean ====
section
/-!
DEFINITION. Reads of the flash die (13_flash_array.md, R359 to R361, R376, R377) and of an engine's flash read buffer
(R293, R295).
-/
namespace Sys2Proof.Machine

/-- What a read through the flash window gives. -/
inductive FlashAns where
  | data (bs : List Byte)
  /-- FLASH_ECC (0x23) or FLASH_HALF_ERASED (0x22). -/
  | err (status : Nat)
  /-- The read waits: for the scan, the die's power, a rollover or a margin read (R375, R377, R443). -/
  | waits
deriving DecidableEq, Repr

/-- A programmed code word at word index `w` of the window, if the word is programmed. -/
def codeWordAt : List (Nat × CodeWord) → Nat → Option CodeWord
  | [], _ => none
  | (i, c) :: r, w => if i = w then some c else codeWordAt r w

/-- The words with word `w` programmed as `c`, in rising order. -/
def putCodeWord (m : List (Nat × CodeWord)) (w : Nat) (c : CodeWord) : List (Nat × CodeWord) :=
  spInsert w c (spErase w m)

/-- The 32 bytes of a journal record (R372). -/
def JrnRec.bytes (r : JrnRec) : List Byte :=
  [BitVec.ofNat 8 r.type, BitVec.ofNat 8 r.bank, BitVec.ofNat 8 r.block,
   BitVec.ofNat 8 (if r.type = 3 ∨ r.type = 4 then 8 else 0)] ++ natLE 4 r.seq ++
  ((r.counts.flatMap (natLE 3)) ++ List.replicate 24 0).take 24

/-- The code word at word index `w`: a journal record in block 127 of a bank (R364), else a programmed word. -/
def Flc.wordAt (f : Flc) (w : Nat) : Option CodeWord :=
  if w / 2048 % 128 = 127 then
    ((f.jrn.getD (w / 262144) [])[w % 2048]?).map
      (fun r => { data := r.bytes, err := if r.bad then some true else none })
  else codeWordAt f.words w

/-- The code word at word index `w` while a PROGRAM runs: the words that it has programmed show its data (R369, R377). -/
def Flc.wordSeen (f : Flc) (w : Nat) : Option CodeWord :=
  match f.op with
  | some o =>
    if o.op = 1 ∧ o.dst / 32 ≤ w ∧ w < o.dst / 32 + f.done ∧ (codeWordAt f.words w).isNone then
      some { data := (o.data.drop (32 * (w - o.dst / 32))).take 32, err := none }
    else f.wordAt w
  | none => f.wordAt w

/-- How many words a running PROGRAM has programmed when a read of its bank is served: more than before by a free number, at most all of
them, and none beyond a word that was programmed before it (R369, R377). -/
def State.programGoes (s : State) (bank : Nat) : State :=
  match s.flc.op with
  | some o =>
    let n := o.data.length / 32
    if o.op = 1 ∧ o.dst / 0x800000 = bank then
      let stop := ((List.range n).find? (fun i => (codeWordAt s.flc.words (o.dst / 32 + i)).isSome)).getD n
      { s.took with flc := { s.flc with done := min stop (s.flc.done + s.freeBelow (n - s.flc.done + 1)) } }
    else s
  | none => s

/-! ### Journals (R371 to R374) -/

/-- The erase count of block `k` of bank `b`. -/
def Flc.count (f : Flc) (b k : Nat) : Nat := spGet (fun _ => 0) f.counts (b * 128 + k)

/-- The erase count replaced. -/
def Flc.setCount (f : Flc) (b k n : Nat) : Flc := { f with counts := spSet (fun _ => 0) f.counts (b * 128 + k) n }

/-- A record added at the end of journal `b`. -/
def Flc.putRec (f : Flc) (b : Nat) (r : JrnRec) : Flc := { f with jrn := modifyNth (fun l => l ++ [r]) b f.jrn, seq := (f.seq + 1) % 2 ^ 32 }

/-- One record written to journal `b` (R372). -/
def Flc.addRec (f : Flc) (b type bank block : Nat) (counts : List Nat) : Flc :=
  f.putRec b { type := type, bank := bank, block := block, seq := f.seq, counts := counts, bad := false }

/-- A record of journal `b` that was cut short: it fails ECC (R375). -/
def Flc.spoil (f : Flc) (b : Nat) : Flc := f.putRec b { type := 0, bank := 0, block := 0, seq := f.seq, counts := [], bad := true }

/-- Free records of journal `b`, the custody reserve included. -/
def Flc.freeRecs (f : Flc) (b : Nat) : Nat := 2048 - (f.jrn.getD b []).length

/-- Records of the custody reserve of journal `b` that are left (R373). -/
def Flc.reserveLeft (f : Flc) (b : Nat) : Nat :=
  64 - ((f.jrn.getD b []).filter (fun r => r.type == 4 || r.type == 5)).length

/-- A rollover of journal `b` begins, with the count of block 127 increased by 1 (R373). -/
def Flc.rollFrom (f : Flc) (b : Nat) : Flc :=
  { f.setCount b 127 (min (f.count b 127 + 1) 0xFFFFFF) with roll := some (b, 0) }

/-- Part `i` of a rollover of journal `b` (R373): 0 to 15 the CUSTODY records in journal c = (b + 1) mod 8, 16 the erase of block 127,
17 to 32 the SNAPSHOT records, 33 the RELEASE. -/
def Flc.rollPart (f : Flc) (b i : Nat) : Flc :=
  let c := (b + 1) % 8
  let eight := fun g : Nat => (List.range 8).map (fun k => f.count b (8 * g + k))
  if i < 16 then f.addRec c 4 b (8 * i) (eight i)
  else if i = 16 then { f with jrn := modifyNth (fun _ => []) b f.jrn }
  else if i < 33 then f.addRec b 3 b (8 * (i - 17)) (eight (i - 17))
  else f.addRec c 5 b 0 []

/-- The next part of the rollover that runs, and the journal that it has rolled over; step 5 of R373 goes on with the next journal. -/
def Flc.rollNext (f : Flc) : Flc × List Nat :=
  match f.roll with
  | none => (f, [])
  | some (b, i) =>
    let g := f.rollPart b i
    if i < 33 then ({ g with roll := some (b, i + 1) }, [])
    else if g.reserveLeft ((b + 1) % 8) < 17 then (g.rollFrom ((b + 1) % 8), [b])
    else ({ g with roll := none }, [b])

/-- The next `n` parts, and the journals rolled over; 272 parts are eight rollovers. -/
def Flc.rollRun : Nat → Flc → Flc × List Nat
  | 0, f => (f, [])
  | n + 1, f =>
    let x := f.rollNext
    let y := x.1.rollRun n
    (y.1, x.2 ++ y.2)

/-- FLC_JRNb shows the free records (R382). -/
def jrnRegs (f : Flc) (m : List (Nat × Word)) : List (Nat × Word) :=
  (List.range 8).foldl (fun r b => wrF r (FLC_JRN_FREE b) (f.freeRecs b)) m

/-- The counts of the rollovers done (R373). -/
def rollRegs (l : List Nat) (m : List (Nat × Word)) : List (Nat × Word) :=
  l.foldl (fun r b => incF r (FLC_JRN_ROLLS b)) m

/-- An ERASE in bank `b` needs a rollover first: fewer than 2 records are free beside the reserve (R371). -/
def Flc.rollDue (f : Flc) (b : Nat) : Bool := decide (f.freeRecs b - f.reserveLeft b < 2)

/-- INTENT with the new count (R371). -/
def Flc.intent (f : Flc) (b k : Nat) : Flc :=
  let n := min (f.count b k + 1) 0xFFFFFF
  (f.addRec b 1 b k [n]).setCount b k n

/-- An ERASE up to its INTENT (R371), and the journals rolled over. -/
def Flc.eraseBegin (f : Flc) (b k : Nat) : Flc × List Nat :=
  let x := if f.rollDue b then (f.rollFrom b).rollRun 272 else (f, [])
  (x.1.intent b k, x.2)

/-- The end of a verified ERASE (R371): the words are erased, DONE is written and the mark goes. -/
def Flc.eraseEnd (f : Flc) (b k : Nat) : Flc :=
  let f1 := f.addRec b 2 b k [f.count b k]
  { f1 with words := f1.words.filter (fun p => p.1 / 2048 ≠ b * 128 + k), half := f1.half.filter (· ≠ b * 128 + k),
            srcs := f1.srcs.filter (fun p => p.1 / 2048 ≠ b * 128 + k) }

/-- A rollover of R373 is running: how long one takes, up to 401.32 ms each, is free. -/
def State.rolling (s : State) : Bool := s.flc.roll.isSome && decide (s.tclk < s.flc.rollEnd)

/-- The journal blocks that differ between two states of the die: FLC has programmed a record there or rolled the journal over. -/
def changedJournals (f g : Flc) : List Nat :=
  ((List.range 8).filter (fun b => f.jrn.getD b [] != g.jrn.getD b [])).map (fun b => b * 128 + 127)

/-- Every engine's read buffer without the lines of the blocks `blks` (R295). -/
def invalidateBlocks (v : Vector Engine 12) (blks : List Nat) : Vector Engine 12 :=
  v.map (fun g => { g with rbuf := g.rbuf.filter (fun p => !blks.contains (p.1 / 0x10000)) })

/-- The die becomes `f`, with the journals of `l` rolled over: FLC_JRNb follows, and lines of journals changed leave the read buffers. -/
def State.putDie (s : State) (f : Flc) (l : List Nat) : State :=
  { s with regs := rollRegs l (jrnRegs f s.regs), engs := invalidateBlocks s.engs (changedJournals s.flc f), flc := f }

/-- The rollover that runs ends, and the INTENT of the ERASE follows (R371). -/
def State.flashSettle (s : State) : State :=
  match s.flc.op with
  | some o =>
    if s.flc.roll.isNone then s
    else
      let x := s.flc.rollRun 272
      s.putDie (x.1.intent (o.dst / 0x800000) (o.dst / 0x10000 % 128)) x.2
  | none => s

/-- How far the rollover that runs has come: it has ended when its time is over, and till then a free number of its parts is done. -/
def State.flashGoes (s : State) : State :=
  if s.flc.roll.isNone then s
  else if s.flc.rollEnd ≤ s.tclk then s.flashSettle
  else
    let x := s.flc.rollRun (s.freeBelow 272)
    if x.1.roll.isNone then s.took else s.took.putDie x.1 x.2


/-- The block of window offset `off` is under erase: what its words read as is open. -/
def Flc.erasing (f : Flc) (off : Nat) : Bool :=
  match f.op with
  | some o => o.op == 2 && o.dst / 0x10000 == off / 0x10000
  | none => false

/-- Block number (bank × 128 + block) of window offset `off`. -/
def blockOf (off : Nat) : Nat := off / 0x10000

/-- PROGRESS of a running ERASE: it grows by a free amount, and not while the erase is suspended (R377). -/
def State.eraseGoes (s0 : State) : State :=
  let s := s0.flashGoes
  match s.flc.op with
  | some o =>
    let p := s.rd FLC_ERSTAT_PROGRESS
    if o.op = 2 ∧ s.rd FLC_ERSTAT_SUSP = 0 ∧ !s.rolling then
      { s with regs := wrF s.regs FLC_ERSTAT_PROGRESS (p + s.freeBelow (256 - p)), free := s.free + 1 }
    else s
  | none => s

/-- A read of bank `bank` finds an erase running there: the erase suspends, counted and signalled (R377). -/
def State.suspendErase (s : State) (bank : Nat) : State :=
  match s.flc.op with
  | some o =>
    if o.op = 2 ∧ o.dst / 0x800000 = bank ∧ s.rd FLC_ERSTAT_SUSP = 0 ∧ !s.rolling then
      (({ s with regs := wrF (incF s.eraseGoes.regs FLC_ERSTAT_SUSPENDS) FLC_ERSTAT_SUSP 1, free := s.free + 1 } : State).fire 1)
    else s
  | none => s

/-- A read must wait for the running operation: a rollover or a margin read of its bank (R377). -/
def State.dieBusy (s : State) (bank : Nat) : Bool :=
  match s.flc.op with
  | some o => o.dst / 0x800000 == bank && (o.op == 3 || s.rolling)
  | none => false

/-- Reads of the die that FLC corrects and that it cannot correct: they count, and each of the latter fires ECCERR (R361, R380). -/
def State.eccCount (s : State) (cor uncor : Nat) : State :=
  (List.range uncor).foldl (fun t _ => t.fire 2) ((s.inc FLC_ECC_COR cor).inc FLC_ECC_UNCOR uncor)

/-- A read of the bank of a suspended erase: RESUMEMIN is counted from it (R377). -/
def State.noteRead (s : State) (bank : Nat) : State :=
  if s.rd FLC_ERSTAT_SUSP = 1 ∧ s.flc.op.any (fun o => o.dst / 0x800000 == bank) then
    { s with flc := { s.flc with lastRead := s.tclk } }
  else s

/-- Wait states used and WSLOW when software's are below the table (R362, R363). -/
def State.waitState (s : State) : State :=
  let tbl := fun l : Nat => if l = 0 then 0 else if l = 1 then 2 else if l = 2 then 3 else 5
  let lvl := s.rd PWR_STAT_FENG
  let need := match s.pwr.change with
    | some c => max (tbl c.fFrom) (tbl c.fTo)
    | none => tbl lvl
  if s.rd FLC_CFG_WAIT < need then { s with regs := wrF s.regs FLC_STAT_WSLOW 1 } else s

/-- What a read of a block under erase finds: free bytes, or a word that does not decode (log entry 96). -/
def State.readErasing (s : State) : Option CodeWord :=
  if Config.freeValue s.free % 2 = 0 then some { data := (List.range 32).map (fun i => BitVec.ofNat 8 (Config.freeValue (s.free + 1 + i))), err := none }
  else some { data := [], err := some true }

/-- A read of the code word at window offset `off` (a multiple of 32) from the die (R360, R361, R376, R377). -/
def State.dieRead (sb : State) (off : Nat) : FlashAns × State :=
  let bank := off / 0x800000
  let s := sb.flashGoes
  if s.rd FLC_STAT_SCANDONE = 0 ∨ s.pwr.flashOn = false ∨ s.dieBusy bank then (.waits, s)
  else
    let s0 := (((s.suspendErase bank).noteRead bank).programGoes bank).waitState
    let s1 := if s0.flc.erasing off then s0.took 33 else s0
    if s1.flc.half.contains (blockOf off) then (.err stFlashHalfErased, s1)
    else match (if s0.flc.erasing off then s0.readErasing else s0.flc.wordSeen (off / 32)) with
      | none => (.data (List.replicate 32 0xFF), s1)
      | some c =>
        match c.err with
        | none => (.data c.data, s1)
        | some false => (.data c.data, s1.eccCount 1 0)
        | some true => (.err stFlashEcc, s1.eccCount 0 1)

/-- The line at `off` with the read buffer `rb`, if the buffer holds it. -/
def bufLine : List (Nat × List Byte) → Nat → Option (List Byte)
  | [], _ => none
  | (a, l) :: r, off => if a = off then some l else bufLine r off

/-- The set of a line: 64 sets of 32-byte lines (R293). -/
def bufSet (off : Nat) : Nat := off / 32 % 64

/-- Drops what lies beyond the newest `k` lines of set `t`. -/
def keepWays (t : Nat) : Nat → List (Nat × List Byte) → List (Nat × List Byte)
  | _, [] => []
  | k, (a, l) :: r =>
    if bufSet a = t then
      match k with
      | 0 => keepWays t 0 r
      | k + 1 => (a, l) :: keepWays t k r
    else (a, l) :: keepWays t k r

/-- The buffer with the line at `off` used most recently; a fifth line of its set drops out (R293). -/
def bufTouch (rb : List (Nat × List Byte)) (off : Nat) (l : List Byte) : List (Nat × List Byte) :=
  keepWays (bufSet off) 4 ((off, l) :: rb.filter (fun p => p.1 ≠ off))

/-- A read of engine `e` through its read buffer at window offset `off`, a multiple of 32: a hit, or a fill from the die;
a line whose fill fails is not stored (R293, R295). -/
def State.bufRead (s : State) (e off : Nat) : FlashAns × State :=
  let g := s.eng e
  match bufLine g.rbuf off with
  | some l => (.data l, s.setEng e { g with rbuf := bufTouch g.rbuf off l })
  | none =>
    match s.dieRead off with
    | (.data l, s1) =>
      let g1 := s1.eng e
      (.data l, s1.setEng e { g1 with rbuf := bufTouch g1.rbuf off l })
    | (a, s1) => (a, s1)

/-- `n` bytes at offset `k` of a line. -/
def lineBytes (l : List Byte) (k n : Nat) : List Byte := (l.drop k).take n

end Sys2Proof.Machine
end

