-- ==== Sys2Proof/Machine/FlashOps.lean ====
section
/-!
DEFINITION. Flash operations (13_flash_array.md): the checks of a command (R366), PROGRAM (R369, R370), ERASE (R371), the start
scan (R375) and the end of an operation (R367).
-/
namespace Sys2Proof.Machine

/-! ### Program (R369, R370) -/

/-- Cuts a byte list into code words of 32 bytes. -/
def chunks32 : Nat → List Byte → List (List Byte)
  | 0, _ => []
  | n + 1, l => l.take 32 :: chunks32 n (l.drop 32)

/-- Programs code words from word index `w` on (R369): `bad` names the word, counted from the first, whose read-back disagrees,
and whether it is uncorrectable. Answers the words programmed without a stop and the status. -/
def Flc.program (f : Flc) (w : Nat) (bad : Option (Nat × Bool)) : List (List Byte) → Nat → Flc × Nat × Nat
  | [], n => (f, n, stOK)
  | d :: r, n =>
    if (codeWordAt f.words w).isSome then (f, n, stFlashReprogram)
    else match bad with
      | some (k, u) =>
        if k = n then ({ f with words := putCodeWord f.words w { data := d, err := some u } }, n, stFlashEcc)
        else ({ f with words := putCodeWord f.words w { data := d, err := none } } : Flc).program (w + 1) bad r (n + 1)
      | none => ({ f with words := putCodeWord f.words w { data := d, err := none } } : Flc).program (w + 1) bad r (n + 1)

/-- What a reset leaves of the word that a PROGRAM was at (R370): erased, failing ECC, or programmed with bits short of the source `d`,
of which one may be in error; `mask` has a 1 for each bit that was not reached. -/
def Flc.cutWord (f : Flc) (w : Nat) (d : List Byte) (kind mask : Nat) : Flc :=
  let short := d.zipIdx.map (fun p => p.1 ||| BitVec.ofNat 8 (mask / 256 ^ p.2))
  if kind % 4 = 0 ∨ (codeWordAt f.words w).isSome then f
  else if kind % 4 = 1 then { f with words := putCodeWord f.words w { data := d, err := some true } }
  else { f with words := putCodeWord f.words w { data := short, err := if kind % 4 = 2 then none else some false } }

/-- What a reset leaves of the record that an ERASE was writing, in its rollover or at its end: nothing, or one that fails ECC (R375). -/
def Flc.cutRecord (f : Flc) (o : FlashOp) (cut : Bool) : Flc :=
  if !cut then f
  else match f.roll with
    | none => f.spoil (o.dst / 0x800000)
    | some (b, i) => if i = 16 then f else f.spoil (if 16 < i ∧ i < 33 then b else (b + 1) % 8)

/-- What a reset leaves of the running operation: a PROGRAM has programmed `n` words and left the next as `kind` and `mask` say (R370), an
ERASE stays without DONE and a rollover without its last records (R375). Counts and marks come back with the scan (R374, R382). -/
def Flc.interrupt (f : Flc) (n kind mask : Nat) : Flc :=
  let f0 : Flc := { f with op := none, roll := none, counts := [], half := [] }
  match f.op with
  | none => f0
  | some o =>
    if o.op = 1 then
      let ws := chunks32 (o.data.length / 32) o.data
      let x := f0.program (o.dst / 32) none (ws.take n) 0
      if n < ws.length ∧ x.2.2 = stOK then x.1.cutWord (o.dst / 32 + n) (ws.getD n []) kind mask else x.1
    else if o.op = 2 then { f.cutRecord o (kind % 2 == 1) with op := none, roll := none, counts := [], half := [] }
    else f0

/-- A reset stops the running operation; how far it came is free (R370, R373). -/
def State.flashInterrupt (s : State) : State :=
  let t := s.flashGoes
  { t with flc := t.flc.interrupt (max t.flc.done (t.freeBelow 2049)) (Config.freeValue (t.free + 1)) (Config.freeValue (t.free + 2)),
           free := t.free + 3 }

/-! ### Commands (R365 to R368) -/

/-- The window offset of a window address. -/
def winOff (a : Nat) : Nat := a - 0x20000000

/-- The address lies in the flash read window. -/
def inWindow (a : Nat) : Bool := decide (0x20000000 ≤ a ∧ a < 0x24000000)

/-- The fetch bank of a master (R378). -/
def State.fetchBank (s : State) (m : Master) : Option Nat :=
  match m with
  | .eng e =>
    let p := (s.eng (s.leader e.val)).g.p.toNat
    if inWindow p then some (winOff p / 0x800000) else none
  | .hif => none

/-- The `n` blocks of a run that begins at block number `b`, the journals skipped (R514). -/
def runBlocks (b : Nat) : Nat → Nat → List Nat
  | 0, _ => []
  | _, 0 => []
  | fuel + 1, n + 1 => if b % 128 = 127 then runBlocks (b + 1) fuel (n + 1) else b :: runBlocks (b + 1) fuel n

/-- The blocks of the Survey area in effect: founding and rolling (R514). -/
def Svr.blocks (v : Svr) : List Nat := runBlocks (v.bank * 128 + v.block) 1100 (2 + v.rollBlk)

/-- The area is closed to the issuer (R364, R514): that of vendor firmware to PROGRAM and ERASE alone (R34). -/
def State.flashDenied (s : State) (code op blk : Nat) : Bool :=
  blk % 128 == 127 || (decide (blk < 32) && code != 2 && op != 3) ||
  (s.rdB SVR_CFG_EN && code != 13 && s.svr.blocks.contains blk)

/-- The status of a command (R366): `op`, source, window address and length, from owner `code` with fetch bank `fb`. -/
def State.flashStatus (s : State) (code : Nat) (fb : Option Nat) (op src dst len : Nat) : Nat :=
  let blk := blockOf (winOff dst)
  let inW := inWindow dst
  let bad := !(op == 1 || op == 2 || op == 3) || !inW ||
    (op == 1 && (src % 4 != 0 || dst % 32 != 0 || len % 32 != 0 || decide (65536 < len) ||
      (len != 0 && code != 13 && !(inSram src && inSram (src + len - 1))) ||
      (len != 0 && blockOf (winOff dst + len - 1) != blk))) ||
    ((op == 2 || op == 3) && dst % 0x10000 != 0)
  firstStatus
    [(inW && s.flashDenied code op blk, stDenied),
     (s.rd FLC_STAT_SCANDONE == 0, stBadState),
     (bad, stBadParam),
     (s.rdB FLC_CFG_FETCH_GUARD && fb == some (blk / 128), stFlashSameBank),
     ((op == 1 || op == 3) && s.flc.half.contains blk, stFlashHalfErased),
     (s.flc.op.isSome || s.rdB FLC_STAT_BUSY, stBusy),
     (op == 1 && len == 0, stOkEmpty)]

/-- The result of owner `code` (R367). -/
def flashRes (m : List (Nat × Word)) (code op words status : Nat) : List (Nat × Word) :=
  wrF (wrF (wrF m (FLC_RES_OP code) op) (FLC_RES_WORDS code) words) (FLC_RES_STATUS code) status

/-- The registers at the start of an operation (R367, R382). -/
def flashBusy (m : List (Nat × Word)) (code op off : Nat) : List (Nat × Word) :=
  let r1 := flashRes m code op 0 stPending
  let r2 := wrF (wrF (wrF r1 FLC_STAT_OWNER code) FLC_STAT_BANK (off / 0x800000)) FLC_STAT_BUSY 1
  if op = 2 then wrF (wrF (wrF r2 FLC_ERSTAT_SUSPENDS 0) FLC_ERSTAT_SUSP 0) FLC_ERSTAT_PROGRESS 0 else r2

/-- An accepted command starts (R367, R371). An ERASE begins with its INTENT, or with a rollover whose time is free (R373). -/
def State.flashStart (s : State) (code op dst : Nat) (data : List Byte) : State :=
  let off := winOff dst
  let b := off / 0x800000
  let o : FlashOp := { owner := code, op := op, dst := off, data := data }
  let s1 := if op = 2 then s else s.waitState
  let roll := op == 2 && s.flc.rollDue b
  let wait := if roll then s.freeBelow (160528000 * ((s.flc.rollFrom b).rollRun 272).2.length + 1) else 0
  let s2 : State := { s1.took with regs := flashBusy s1.regs code op off,
                                   flc := { (if roll then s.flc.rollFrom b else s.flc) with
                                            op := some o, done := 0, rollEnd := s.tclk + wait } }
  if op = 2 ∧ !roll then s2.putDie (s2.flc.intent b (off / 0x10000 % 128)) [] else s2

/-- A command with its descriptor's values (R365, R366). -/
def State.flashIssue (s : State) (code : Nat) (fb : Option Nat) (op src dst len : Nat) : State :=
  let st := s.flashStatus code fb op src dst len
  if st = stOK then s.flashStart code op dst (if op = 1 then s.sramBytes src len else [])
  else { s with regs := flashRes s.regs code op 0 st }

/-- A write of FLC_CMD by `m` (R365). -/
def State.flashCmd (s : State) (m : Master) (op desc : Nat) : State :=
  let a := sramBase + 4 * desc
  s.flashIssue (s.code m) (s.fetchBank m) op (s.sramNat a 4) (s.sramNat (a + 4) 4) (s.sramNat (a + 8) 4)

/-- PROGRAM (R369): FLC_CMD with OP = 0x1. -/
def execProgram (m : Master) (desc : BitVec 19) (s : State) : Host.Outcome State Fault Refusal :=
  .next (s.writes m 3 (s.flashCmd m 1 desc.toNat))

/-- ERASE (R371): FLC_CMD with OP = 0x2. -/
def execErase (m : Master) (desc : BitVec 19) (s : State) : Host.Outcome State Fault Refusal :=
  .next (s.writes m 3 (s.flashCmd m 2 desc.toNat))

/-- MARGIN (R379): FLC_CMD with OP = 0x3. -/
def execMargin (m : Master) (desc : BitVec 19) (s : State) : Host.Outcome State Fault Refusal :=
  .next (s.writes m 3 (s.flashCmd m 3 desc.toNat))

/-! ### The end of an operation -/

/-- Programmed words of the block that show an error: corrected, or not when `u`. -/
def Flc.blockBad (f : Flc) (blk : Nat) (u : Bool) : Nat := (f.words.filter (fun p => p.1 / 2048 == blk && p.2.err == some u)).length

/-- The die and the result at the end of `o`: words programmed and status. A word that a read has found programmed cannot fail its
read-back any more. -/
def Flc.finish (f : Flc) (o : FlashOp) (bad : Option (Nat × Bool)) : Flc × Nat × Nat :=
  let f1 : Flc := { f with op := none }
  if o.op = 1 then f1.program (o.dst / 32) (bad.map (fun p => (max p.1 f.done, p.2))) (chunks32 (o.data.length / 32) o.data) 0
  else if o.op = 2 then (f1.eraseEnd (o.dst / 0x800000) (o.dst / 0x10000 % 128), 0, stOK)
  else (f1, 0, if bad.isSome || f1.blockBad (blockOf o.dst) false + f1.blockBad (blockOf o.dst) true != 0 then stFlashEcc else stOK)

/-- Corrected and uncorrectable reads that FLC makes during `o` (R361): the word at which a PROGRAM stops, every word at a MARGIN. -/
def Flc.eccReads (f : Flc) (o : FlashOp) (bad : Option (Nat × Bool)) : Nat × Nat :=
  let of := fun e : Option Bool => (b2n (e == some false), b2n (e == some true))
  if o.op = 1 then
    let x := f.finish o bad
    if x.2.2 = stFlashReprogram then of ((codeWordAt f.words (o.dst / 32 + x.2.1)).bind CodeWord.err)
    else if x.2.2 = stFlashEcc then of (bad.map (·.2))
    else (0, 0)
  else if o.op = 3 then
    let b := blockOf o.dst
    let more := match bad with
      | some p => if (f.wordAt (b * 2048 + p.1)).any (fun c : CodeWord => c.err.isSome) then (0, 0) else of (some p.2)
      | none => (0, 0)
    (f.blockBad b false + more.1, f.blockBad b true + more.2)
  else (0, 0)

/-- The registers at the end of an operation (R367). -/
def flashIdle (m : List (Nat × Word)) : List (Nat × Word) :=
  wrF (wrF (wrF (wrF m FLC_STAT_OWNER 15) FLC_STAT_BANK 0) FLC_STAT_BUSY 0) FLC_ERSTAT_SUSP 0

/-- The operation ends: the lines of a block programmed or erased, and of a journal that it wrote, leave the read buffers, the result is
written and OPDONE fires (R295, R367). -/
def State.flashEnd (s : State) (o : FlashOp) (f : Flc) (words status : Nat) : State :=
  (({ s with regs := wrF (jrnRegs f (flashIdle (flashRes s.regs o.owner o.op words status))) FLC_HECOUNT_COUNT
                       f.half.length,
             engs := invalidateBlocks s.engs ((if o.op = 3 then [] else [blockOf o.dst]) ++ changedJournals s.flc f), flc := f } : State).fire 0)

/-- The running operation `o` ends, with the words that fail named by `bad`: FLC's own reads count (R361, R363), then R367. -/
def State.flashFinish (s : State) (o : FlashOp) (bad : Option (Nat × Bool)) : State × Nat × Nat :=
  let t := s.flashSettle.waitState
  let x := t.flc.finish o bad
  let n := t.flc.eccReads o bad
  ((t.eccCount n.1 n.2).flashEnd o x.1 x.2.1 x.2.2, x.2.1, x.2.2)

/-! ### The start scan (R375) -/

/-- The counts of bank `b` from its journal: the snapshot, then every INTENT (R374). -/
def scanCounts (recs : List JrnRec) (b : Nat) (f : Flc) : Flc :=
  recs.foldl (fun g r =>
    if r.bad then g
    else if r.type = 3 then
      (r.counts.zipIdx).foldl (fun h p => h.setCount b (r.block + p.2) p.1) g
    else if r.type = 1 then g.setCount b r.block (r.counts.headD 0)
    else g) f

/-- The INTENT records of bank `b` without a later DONE of the same block and count (R375). -/
def openIntents (b : Nat) : List JrnRec → List JrnRec
  | [] => []
  | r :: rest =>
    let o := openIntents b rest
    if !r.bad && r.type == 1 && !rest.any (fun d => !d.bad && d.type == 2 && d.block == r.block && d.counts == r.counts) then r :: o
    else o

/-- The custody records of bank `b` in journal (b + 1) mod 8 after its last RELEASE. -/
def openCustody (recs : List JrnRec) (b : Nat) : List JrnRec :=
  recs.foldl (fun l r =>
    if r.bad then l
    else if r.type = 4 ∧ r.bank = b then l ++ [r]
    else if r.type = 5 ∧ r.bank = b then []
    else l) []

/-- Step 2 of R375 for bank `b`. -/
def Flc.scanCustody (f : Flc) (b : Nat) : Flc × List Nat :=
  let l := openCustody (f.jrn.getD ((b + 1) % 8) []) b
  if l.length = 0 then (f, [])
  else if 16 ≤ l.length then
    let f1 := l.foldl (fun g r => (r.counts.zipIdx).foldl (fun h p => h.setCount b (r.block + p.2) p.1) g) f
    ({ f1 with roll := some (b, 16) } : Flc).rollRun 272
  else (f.addRec ((b + 1) % 8) 5 b 0 [], [])

/-- Steps 1 to 3 of R375. -/
def Flc.scanJournals (f : Flc) : Flc × List Nat :=
  let f0 := (List.range 8).foldl (fun g b => scanCounts (g.jrn.getD b []) b g) { f with counts := [] }
  (List.range 8).foldl (fun x b => let y := x.1.scanCustody b; (y.1, x.2 ++ y.2)) (f0, [])

/-- The open INTENT records of the die, oldest first. -/
def openErases (f : Flc) : List JrnRec := (List.range 8).flatMap (fun b => openIntents b (f.jrn.getD b []))

/-- Block number (bank × 128 + block) of a record. -/
def JrnRec.blk (r : JrnRec) : Nat := r.bank * 128 + r.block

/-- An INTENT of the same block that is newer than `r` has its DONE: the block's contents are known. -/
def Flc.healed (f : Flc) (r : JrnRec) : Bool :=
  (f.jrn.getD r.bank []).any (fun d => !d.bad && d.type == 2 && d.block == r.block && decide (r.counts.headD 0 < d.counts.headD 0))

/-- The block of an open INTENT verifies erased at margin (R375): as its words tell where a later ERASE has ended, as `erased` says for the
newest INTENT, and freely for the others, whose erase was given up before. -/
def Flc.verifies (f : Flc) (erased : Bool) (newest free : Nat) (r : JrnRec) : Bool :=
  if f.healed r then f.words.all (fun p => p.1 / 2048 != r.blk)
  else if r.seq = newest then erased
  else Config.freeValue (free + r.blk) % 2 == 1

/-- The erase of a block has been found complete: its words are erased and the DONE of INTENT `r` is written (R375). -/
def Flc.doneOf (f : Flc) (r : JrnRec) : Flc :=
  let f1 := f.addRec r.bank 2 r.bank r.block r.counts
  { f1 with words := f1.words.filter (fun p => p.1 / 2048 ≠ r.blk), srcs := f1.srcs.filter (fun p => p.1 / 2048 ≠ r.blk) }

/-- Step 4 of R375: a DONE for each open INTENT whose block verifies erased, and the mark of each other. -/
def Flc.scanIntents (f : Flc) (erased : Bool) (free : Nat) : Flc :=
  let l := openErases f
  let newest := (l.map (·.seq)).foldl max 0
  let bad := l.filter (fun r => !f.verifies erased newest free r)
  let g := (l.filter (f.verifies erased newest free)).foldl Flc.doneOf f
  { g with half := (bad.map JrnRec.blk).eraseDups }

/-- Reads of the scan that fail ECC: records, and words of blocks that stay marked, whose contents are open: how many is free (R361). -/
def State.scanEcc (s : State) (f : Flc) : State :=
  let recs := ((s.flc.jrn.map (fun l => (l.filter (·.bad)).length))).sum
  let n := 2048 * f.half.length + 1
  (s.took 2).eccCount (s.freeBelow n) (recs + Config.freeValue (s.free + 1) % n)

/-- The scan of R375 as a whole; what it completes leaves the read buffers (R295). -/
def State.flashScan (s : State) (erased : Bool) : State :=
  let x := s.flc.scanJournals
  let f := x.1.scanIntents erased s.free
  let s1 := (((s.took 1024).waitState).scanEcc f)
  { s1 with regs := wrF (wrF (rollRegs x.2 (jrnRegs f s1.regs)) FLC_HECOUNT_COUNT f.half.length) FLC_STAT_SCANDONE 1,
            engs := invalidateBlocks s.engs ((openErases s.flc).map JrnRec.blk ++ changedJournals s.flc f), flc := f }

end Sys2Proof.Machine
end

