-- ==== Sys2Proof/Machine/EngineBase.lean ====
section
/-!
DEFINITION. What other blocks need of the engines: TCM bytes (R293, R294), changes of state (R298) with the idle timers of R438,
and the results of engine commands (R301).
-/
namespace Sys2Proof.Machine

/-! ### TCM -/

/-- What TCM byte `a` of engine `e` holds that nothing has written since its clearing: 0 (R294), or vendor firmware. -/
def tcmDefault (g : Engine) (e a : Nat) : Byte := if g.vendor then Config.vendorTcm e a else 0

/-- A TCM byte. -/
def Engine.byte (g : Engine) (e a : Nat) : Byte := spGet (tcmDefault g e) g.tcm a

/-- `n` TCM bytes from `a` on. -/
def Engine.bytes (g : Engine) (e a n : Nat) : List Byte := readBytes (tcmDefault g e) g.tcm a n

/-- An engine with bytes written to its TCM. -/
def Engine.store (g : Engine) (e a : Nat) (bs : List Byte) : Engine :=
  { g with tcm := writeBytes (tcmDefault g e) g.tcm a bs }

/-- An engine with its TCM cleared and its check bits valid (R294). -/
def Engine.cleared (g : Engine) : Engine := { g with tcm := [], vendor := false, tcmErr := [] }

/-! ### Idle engines and DOZE (R437, R438) -/

/-- The state is one in which an engine may be idle (R438). -/
def EngState.restful : EngState → Bool
  | .wait | .halt | .reset | .stopped => true
  | .run | .restart | .paired => false

/-- Every engine is idle; the odd engine of a pair is timed at the even one (R438). -/
def State.allIdle (s : State) : Bool :=
  (List.range 12).all (fun e => (s.eng e).st == .paired || (s.eng e).idle)

/-- RUN becomes DOZE at once when every engine is idle (R437). -/
def State.checkDoze (s : State) : State :=
  if s.pwr.st = .run ∧ s.start = .none ∧ s.allIdle then { s with pwr := { s.pwr with st := .doze, dozeFrom := s.tclk } } else s

/-- HIF receives bytes: DOZE becomes RUN, and again DOZE at once, with the idle timer at 0, when every engine is idle (R437, R439). -/
def State.hifByte (s : State) : State :=
  if s.pwr.st = .doze then ({ s with pwr := { s.pwr with st := .run } } : State).checkDoze else s

/-- An engine that enters state `st`: its idle count begins, unless the state it leaves counts as well, and with ENGIDLE = 0 it is idle at
once (R438). -/
def Engine.enter (g : Engine) (st : EngState) (tclk engidle : Nat) : Engine :=
  if g.st.restful && st.restful then { g with st := st, idle := g.idle || engidle == 0 }
  else { g with st := st, idleFrom := tclk, idle := st.restful && engidle == 0 }

/-- Engine `e` enters state `st` (R298); DOZE becomes RUN as soon as an engine runs (R437). -/
def State.engTo (s : State) (e : Nat) (st : EngState) : State :=
  let g := (s.eng e).enter st s.tclk (s.rd PWR_ENGIDLE_CYC)
  ({ s with engs := Machine.setEng s.engs e g, pwr := pwrWithEngine s.pwr g } : State).checkDoze

/-! ### Command results (R301) -/

/-- The result of a command of owner `m`: CMDDONE fires at every result but PENDING. -/
def State.cmdResult (s : State) (m target status : Nat) : State :=
  let s1 : State := { s with regs := wrF (wrF s.regs (ENG_CMDRES_TARGET m) target) (ENG_CMDRES_STATUS m) status }
  if status = stPending then s1 else s1.fire 130

/-- The owners whose outstanding HALT names engine `e`. -/
def State.haltOwners (s : State) (e : Nat) : List Nat :=
  (s.engJobs.filter (fun j => j.2 == EngJob.halt e)).map (·.1)

/-- The outstanding HALTs of engine `e` end with `status`. -/
def State.endHalts (s : State) (e status : Nat) : State :=
  (s.haltOwners e).foldl (fun t m => t.cmdResult m e status)
    { s with engJobs := s.engJobs.filter (fun j => j.2 != EngJob.halt e) }

/-- The transfers that the reset of master `c` discards before the Atoll domain takes them, each counted (R461). -/
def State.dropHeld (s : State) (c : Nat) : State :=
  { s with rtc := { s.rtc with held := s.rtc.held.filter (fun x => !s.heldBy c x) },
           regs := incF s.regs CLK_FLUSH_FLUSHES (s.heldCount c) }

/-- Engine `e`, standing for its pair, enters RESET: what was outstanding is gone, an access or a write held in a Strait counted as flushed,
and its TCM is kept (R298, R300, R461). -/
def State.engReset (s : State) (e : Nat) : State :=
  let g := s.eng e
  let g1 : Engine := { g with load := none, flushed := [], access := none, entering := none, haltWant := false, undo := [], mmSince := false,
                              mmVec := false }
  let s1 : State := { s with engs := Machine.setEng s.engs e g1, resvs := s.resvs.filter (fun r => r.1 ≠ e),
                             regs := incF s.regs CLK_FLUSH_FLUSHES (if g.access.isSome then 1 else 0) }
  (((s1.dropHeld e).engTo e .reset).endHalts e stBadState)

/-- Engine `e` enters STOPPED (R298): STOPPED fires, and a pair counts it (R310, R311). -/
def State.engStop (s : State) (e : Nat) : State :=
  (((s.engTo e .stopped).endHalts e stBadState).fire 129)

/-! ### Flushed transfers (R305, R461) -/

/-- A reset of the far side answers every held access of an engine whose address `p` names with a bus error, and fails that of a DP_READ; `conseq` tells
that FLT's action is that reset (R25, R461, R470). -/
def State.failAccesses (s : State) (p : Nat → Bool) (conseq : Bool) : State :=
  let s1 := (List.range 12).foldl (fun t e =>
    match (t.eng e).access with
    | some (.held a) =>
      if p a.toNat then (t.setEng e { (t.eng e) with access := some (.failed a conseq) }).inc CLK_FLUSH_FLUSHES else t
    | some (.failed _ _) | none => t) s
  match s1.hif.dp, s1.hif.parked with
  | some d, some (3, true, _) =>
    if !d.failed && p ((d.base + d.moved) % 2 ^ 32) then
      ({ s1 with hif := { s1.hif with dp := some { d with failed := true } } } : State).inc CLK_FLUSH_FLUSHES
    else s1
  | _, _ => s1

end Sys2Proof.Machine
end

