-- ==== Sys2Proof/Machine/Restart.lean ====
section
/-!
DEFINITION. Resets and the decision of the start path (R2, R6, R17, R473, R476), and the fault log with its tiers, actions and
escalation (R464 to R472).
-/
namespace Sys2Proof.Machine

/-! ### Device reset -/

/-- Register addresses that a device reset leaves: the Atoll registers (R411, R430, R451, R463), FLT_TIER and FLT_CNT (R473). -/
def keptReg (a : Nat) : Bool :=
  decide ((0x40005000 ≤ a ∧ a < 0x40006000) ∨ (0x40001040 ≤ a ∧ a < 0x40002000) ∨ a = 0x40002008 ∨
    a = 0x4000E018 ∨ a = 0x4000E01C)

/-- A reset cause at which the main domain powers up, which clears the records of R473. -/
def powerUpCause (c : Nat) : Bool := c == 0 || c == 1 || c == 3 || c == 4

/-- The device may start warm (R17, R476): signature, stored calibration, a stored parent in a worker, FORCECOLD = 0. -/
def State.warmAllowed (s : State) (fc : Bool) : Bool :=
  s.rdB RTC_STAT_SIGOK && s.fw.cals.isSome && (s.fw.role == 0 || s.fw.parent.isSome) && !fc

/-- Every action at BLOCK_RESTART ends, and its entry is DONE: a device reset starts all its regions again (R469, log entry 98). -/
def Flt.endBlocks (f : Flt) : Flt :=
  let isBlock := fun a : Action => a.tier == 1
  { f with log := f.log.map (fun e => if (e.state = 1 ∨ e.state = 2) ∧ e.tier = 1 then { e with state := 3 } else e),
           queue := [], active := f.active.filter (fun a => !isBlock a) }

/-- FLT through a device reset: the log, the episodes and the cold-start history stay (R473); the watchdogs do not. -/
def Flt.afterReset (f : Flt) (c : Nat) : Flt :=
  if powerUpCause c then .atPowerUp else { f.endBlocks with wdg := List.replicate 11 0 }

/-- The register words after a device reset of cause `c`. -/
def resetRegs (m : List (Nat × Word)) (c : Nat) (fc safe : Bool) : List (Nat × Word) :=
  let hist := if powerUpCause c then 0 else rdF m SYS_RSTCAUSE_HIST
  let r0 := if powerUpCause c then regsReset 0x4000E000 0x4000F000 m else m
  let r1 := spClear (fun a => !keptReg a) r0
  wrF (wrF (wrF (wrF r1 SYS_RSTCAUSE_HIST (hist ||| 2 ^ c)) SYS_RSTCAUSE_CAUSE c) SYS_BOOT_FORCECOLD (b2n fc))
    SYS_BOOT_SAFE (b2n safe)

/-- The engines after a device reset at TCLK count `t`: RESET, with the TCMs as they are until ENG clears them (R294, R298). -/
def resetEngines (v : Vector Engine 12) (t : Nat) : Vector Engine 12 :=
  let w := v.map (fun g => { Engine.atReset with tcm := g.tcm, vendor := g.vendor, tcmErr := g.tcmErr, idleFrom := t })
  Machine.setEng w 1 { w[1] with st := .paired }

/-- Shared SRAM after the named banks have lost their contents (R445). -/
def State.loseBanks (s : State) (lost : Nat → Bool) : State :=
  { s with sram := spClear (fun a => lost ((a - sramBase) / 0x40000)) s.sram,
           sramGen := s.sramGen.zipIdx.map (fun p => if lost p.2 then p.1 + 1 else p.1) }

/-- What vendor firmware keeps through a reset of MAC: the counter it had reached (R157, R178). -/
def State.keptFw (s : State) : Fw :=
  if s.rd MAC_TXCTR_CTR = 0 then s.fw else { s.fw with ctrTop := s.rd MAC_TXCTR_CTR }

/-- TCLK cycles that the present SLEEP has lasted, by the LFCLK ticks (R67). -/
def State.asleep (s : State) : Nat :=
  if s.pwr.st = .sleep then (s.rtc.tick + 2 ^ 48 - s.pwr.tickAt) % 2 ^ 48 * s.rd MER_LFRATIO_RATIO / 65536 else 0

/-- The time that the windows of FLT and HIF run in (R467, R471, R498 to R500), in TCLK cycles, SLEEP included. -/
def State.fltNow (s : State) : Nat := s.tclk + s.flt.slept + s.asleep

/-- A device reset of cause `c` (R473, R476), FORCECOLD and SAFE as given: what the reset leaves, and the path of the start that
follows. Writes not yet taken by the Atoll domain are lost, and a set that it has taken is not (R411, R462). Meridian goes on over a warm start, and so does that a manager has been
LOCKED (R60). -/
def State.deviceReset (s : State) (c : Nat) (fc safe : Bool) : State :=
  let s0 := s.flashInterrupt
  let s1 := if powerUpCause c then s0.loseBanks (fun _ => true) else s0
  { State.reset with
    tst := { Tst.atReset with testEn := s1.tst.testEn },
    pending := s1.pending, free := s1.free, busData := s1.busData, tclk := s1.tclk,
    regs := resetRegs s1.regs c fc safe,
    sram := s1.sram, sramGen := s1.sramGen,
    engs := resetEngines s1.engs s1.tclk,
    flt := ({ s1.flt with slept := s1.flt.slept + s1.asleep } : Flt).afterReset c,
    path := if safe then .safe else if s1.warmAllowed fc then .warm else .cold,
    rtc := { s1.rtc with held := [] },
    mer := { Mer.atReset with wasLocked := s1.mer.wasLocked && !safe && s1.warmAllowed fc },
    flc := s1.flc, fw := s1.keptFw }

/-- SAFE is kept by a reset that is no power-up (R476). -/
def State.safeKept (s : State) (c : Nat) : Bool := !powerUpCause c && s.rdB SYS_BOOT_SAFE

/-- FORCECOLD as a reset of cause `c` keeps it (R473). -/
def State.coldKept (s : State) (c : Nat) : Bool := !powerUpCause c && s.rdB SYS_BOOT_FORCECOLD


/-! ### The fault log (R467 to R472) -/

/-- A fault as it reaches FLT (R465). -/
structure FaultIn where
  code   : Nat
  region : Nat
  tier   : Nat
  owner  : Nat := 15
  addr   : Nat := 0
  status : Nat := 0
  conseq : Bool := false
deriving DecidableEq, Repr

/-- The region of a master (R464): the pair E0/E1, E2, then each engine, a pair under its even engine; HIF 15. -/
def State.regionOf (s : State) : Master → Nat
  | .eng e => let t := s.leader e.val; if t ≤ 1 then 0 else t - 1
  | .hif => 15

/-- The engine of regions 0 and 2 to 10, the even one of a pair. -/
def engineOf (r : Nat) : Nat := if r = 0 then 0 else r + 1

/-- Region `r` has an action queued or active. -/
def Flt.hasAction (f : Flt) (r : Nat) : Bool :=
  (match f.active with | some a => a.region == r | none => false) || f.queue.any (fun a => a.region == r)

/-- The open episode of region `r` at the time `t`, with WIN in ms (R467). -/
def Flt.openEpisode (f : Flt) (r t win : Nat) : Option Episode :=
  match f.episodes.getD r none with
  | none => none
  | some ep => if f.hasAction r ∨ t - ep.last < win * 400000 then some ep else none

/-- The tier that a fault takes (R467, R468, R471). -/
def State.faultTier (s : State) (f : FaultIn) : Nat :=
  let win := s.rd FLT_CFG_WIN
  let t0 := match s.flt.openEpisode f.region s.fltNow win with
    | some ep => max f.tier (ep.tier + 1)
    | none => f.tier
  let t1 := if (f.region = 1 ∨ f.region = 14) ∧ t0 = 1 then 2 else t0
  let t2 := if f.region = 1 ∧ s.flt.active.isSome then max t1 2 else t1
  let t3 := min t2 3
  if s.rd SYS_BOOT_DONE = 0 then 3
  else if t3 = 2 then
    match s.flt.warmEnd with
    | some w => if s.fltNow - w < win * 400000 then 3 else 2
    | none => 2
  else t3

/-- FLT_STAT and FLT_TIER follow the actions and the episodes (R481). -/
def State.fltSync (s : State) : State :=
  let f := s.flt
  let win := s.rd FLT_CFG_WIN
  let r0 := wrF (wrF s.regs FLT_STAT_BUSY (b2n f.active.isSome)) FLT_STAT_QUEUED f.queue.length
  let r1 := match f.active with
    | some a => wrF (wrF r0 FLT_STAT_ATIER a.tier) FLT_STAT_AREG a.region
    | none => wrF (wrF r0 FLT_STAT_ATIER 0) FLT_STAT_AREG 0
  { s with regs := (List.range 16).foldl (fun m r =>
      wrF m (FLT_TIER r) (match f.openEpisode r s.fltNow win with | some ep => ep.tier | none => 0)) r1 }

/-- A device reset of cause `c` that keeps what R473 keeps; FLT_STAT shows an action that goes on. -/
def State.plainReset (s : State) (c : Nat) : State := (s.deviceReset c (s.coldKept c) (s.safeKept c)).fltSync

/-- Index of the entry that a new fault overwrites: the oldest that is neither QUEUED nor ACTIVE, the lowest at equal age. -/
def oldestEntry : List LogEntry → Nat → Option (Nat × Nat) → Nat
  | [], _, best => match best with | some (i, _) => i | none => 0
  | e :: r, i, best =>
    if e.state = 1 ∨ e.state = 2 then oldestEntry r (i + 1) best
    else match best with
      | some (_, a) => if e.age < a then oldestEntry r (i + 1) (some (i, e.age)) else oldestEntry r (i + 1) best
      | none => oldestEntry r (i + 1) (some (i, e.age))

/-- The newest entry of region `r` that FLT's own action did not cause, by its place. -/
def newestOf : List LogEntry → Nat → Nat → Option (Nat × Nat) → Option Nat
  | [], _, _, best => best.map (·.1)
  | e :: l, r, i, best =>
    let newer := match best with
      | some (_, a) => decide (a < e.age)
      | none => true
    if e.region == r && e.code != 0 && !e.conseq && newer then newestOf l r (i + 1) (some (i, e.age))
    else newestOf l r (i + 1) best

/-- The state of entry `i` replaced. -/
def Flt.mark (f : Flt) (i st : Nat) : Flt := { f with log := modifyNth (fun e => { e with state := st }) i f.log }

/-- A fault of region `r` at the time `now` escalates an open episode: the region's earlier entry is ESCALATED (R472). -/
def Flt.escalate (f : Flt) (r now win : Nat) : Flt :=
  if (f.openEpisode r now win).isSome then
    match newestOf f.log r 0 none with
    | some i => f.mark i 4
    | none => f
  else f

/-- A new entry of tier `t` and state `st` (R472): the log with it and its index. -/
def State.logEntry (s : State) (f : FaultIn) (t st : Nat) : State × Nat :=
  let i := oldestEntry s.flt.log 0 none
  let old := s.flt.log.getD i .empty
  let e : LogEntry := { status := f.status, code := f.code, region := f.region, conseq := f.conseq, state := st, tier := t,
                        owner := f.owner, addr := f.addr, cycle := s.mer.time / 2 ^ 48, age := s.flt.written + 1 }
  let r1 := if old.code ≠ 0 then incF s.regs FLT_STAT_OVERWR else s.regs
  ({ s with regs := wrF r1 FLT_STAT_NEWEST i,
            flt := { s.flt with log := modifyNth (fun _ => e) i s.flt.log, written := s.flt.written + 1 } }, i)

/-! ### Actions (R464, R466) -/

/-- Every queued frame completes with FAULT, and the four radio blocks are reset (region 11). -/
def State.resetRadio (s : State) : State :=
  let s1 := (s.completeWhere .sg (fun _ => true) (fun _ => stFault)).completeWhere .g24 (fun _ => true) (fun _ => stFault)
  let s2 := (((s1.resetBlock 0x40008000).resetBlock 0x40009000).resetBlock 0x4000A000).resetBlock 0x4000B000
  let s3 := s2.flushPulses (fun x => decide (64 ≤ x ∧ x < 80)) (fun _ => false)
  { s3 with fw := s.keptFw, rfc := .atReset, mdm := .atReset, mac := { Mac.atReset with binSec := s.mac.binSec },
            shp := { Shp.atReset with bands := { sg := { BandShp.atReset with begun := s.mer.now },
                                                 g24 := { BandShp.atReset with begun := s.mer.now } } } }

/-- CIP and the TRNG are reset (region 12, R389, R398). -/
def State.resetCip (s : State) : State :=
  { (s.resetBlock 0x40007000).flushPulses (fun x => decide (32 ≤ x ∧ x < 48)) (fun _ => false) with cip := .atReset }

/-- FLC is reset, and its scan begins (region 13, R375). A read of the flash window that an engine waits for ends in a bus error (R461). -/
def State.resetFlc (s : State) : State :=
  ((s.flashInterrupt.resetBlock 0x40003000).failAccesses inWindow true).flushPulses (fun x => decide (x < 16)) (fun _ => false)

/-- HIF and TST are reset (region 15): what HIF has in a Strait is flushed (R461), a run ends, and a commit of MDM that it held back is dropped (log entry 29). -/
def State.resetHost (s : State) : State :=
  let s0 := ((s.dropHeld 12).inc CLK_FLUSH_FLUSHES (b2n s.hif.dp.isSome)).resetBlock 0x4000D000
  let s1 := (s0.resetBlock 0x4000F000).flushPulses (fun _ => false) (fun t => t == 121)
  let flash := match s.tst.run with
    | some x => x.link == 1
    | none => false
  let r1 := if flash then wrF (wrF s1.regs FLC_STAT_BUSY 0) FLC_STAT_OWNER 15 else s1.regs
  let r2 := if s.tst.heldMdm.isSome then wrF r1 MDM_COMMIT_BUSY 0 else r1
  { s1 with regs := r2, hif := .atReset, tst := { Tst.atReset with testEn := s.tst.testEn } }

/-- The BLOCK_RESTART action of region `r` (R464). -/
def State.blockAction (s : State) (r : Nat) : State :=
  if r = 0 ∨ (2 ≤ r ∧ r ≤ 10) then s.engReset (s.leader (engineOf r))
  else if r = 11 then s.resetRadio
  else if r = 12 then s.resetCip
  else if r = 13 then s.resetFlc
  else if r = 15 then s.resetHost
  else s

/-- An action at BLOCK_RESTART begins (R466): its entry is ACTIVE, E2 takes doorbell 7, and HIF shows FAULT. -/
def State.startAction (s : State) (a : Action) : State :=
  let s1 : State := { s with regs := incF s.regs FLT_CNT_BLOCK,
                             flt := { (s.flt.mark a.entry 2) with active := some a, activeAt := s.tclk } }
  let s2 := (s1.blockAction a.region).doorbell 2 0x80
  { s2 with regs := wrF s2.regs HIF_EVPEND_FAULT 1 }

/-- The queued action that FLT takes next (R469): the deeper tier, then the lower region. -/
def nextAction : List Action → Option Action
  | [] => none
  | a :: r =>
    match nextAction r with
    | none => some a
    | some b => if a.tier > b.tier ∨ (a.tier = b.tier ∧ a.region ≤ b.region) then some a else some b

/-- With no action active, the next queued one begins. -/
def State.takeQueued (s : State) : State :=
  match s.flt.active, nextAction s.flt.queue with
  | none, some a =>
    ({ s with flt := { s.flt with queue := s.flt.queue.filter (fun b => b.region ≠ a.region) } } : State).startAction a
  | _, _ => s

/-- Three COLD_STARTs within 600 s of RTC_TICK (R471). -/
def thirdCold (l : List Nat) : Bool :=
  match l with
  | a :: _ :: c :: _ => decide ((a + 2 ^ 48 - c) % 2 ^ 48 ≤ 19660800)
  | _ => false

/-- WARM_START (2) or COLD_START (3) with log entry `i` (R466, R469, R471): every other action ends, the record is written, and
the device resets. HIF_EVPEND.FAULT tells of it after the reset (R506). -/
def State.deepAction (s : State) (r t i : Nat) : State :=
  let log := (s.flt.log.zipIdx).map (fun p => if (p.1.state = 1 ∨ p.1.state = 2) ∧ p.2 ≠ i then { p.1 with state := 3 } else p.1)
  let colds := if t = 3 then (s.rtc.tick :: s.flt.colds).take 3 else s.flt.colds
  let s1 : State := { s with regs := incF s.regs (if t = 3 then FLT_CNT_COLD else FLT_CNT_WARM),
                             flt := { (({ s.flt with log := log } : Flt).mark i 2) with
                                      active := some { region := r, tier := t, entry := i }, activeAt := s.tclk,
                                      queue := [], colds := colds } }
  let safe := s1.safeKept 7 || (t == 3 && thirdCold colds)
  (s1.writeRecord.deviceReset (if t = 3 then 7 else 6) (t == 3 || s1.coldKept 6) safe).fltSync.wr HIF_EVPEND_FAULT 1

/-- FAULT_LOG: a fault reaches FLT (R467 to R472). -/
def State.fault (s : State) (f : FaultIn) : State :=
  if f.conseq then
    ({ (s.logEntry f 0 0).1 with regs := incF (s.logEntry f 0 0).1.regs FLT_CNT_RETRY } : State).fltSync
  else
    let t := s.faultTier f
    let win := s.rd FLT_CFG_WIN
    let fl1 := s.flt.escalate f.region s.fltNow win
    let fl2 : Flt := { fl1 with
      episodes := modifyNth (fun _ => some { tier := t, last := s.fltNow }) f.region fl1.episodes,
      queue := fl1.queue.filter (fun a => a.region ≠ f.region) }
    let x := ({ s with flt := fl2 } : State).logEntry f t (if t = 0 then 0 else if t = 1 then 1 else 2)
    let s1 := x.1
    if t = 0 then ({ s1 with regs := incF s1.regs FLT_CNT_RETRY } : State).fltSync
    else if t = 1 then
      (({ s1 with flt := { s1.flt with queue := s1.flt.queue ++ [{ region := f.region, tier := 1, entry := x.2 }] } } :
        State).takeQueued).fltSync
    else s1.deepAction f.region t x.2

/-- The register block at `a` belongs to the region that FLT restarts (R470). -/
def State.byRestart (s : State) (a : Nat) : Bool :=
  let b := a / 0x1000 - 0x40000
  match s.flt.active with
  | some x => (x.region == 11 && decide (8 ≤ b ∧ b ≤ 11)) || (x.region == 12 && b == 7) || (x.region == 13 && b == 3) ||
      (x.region == 15 && (b == 13 || b == 15))
  | none => false

/-- A retired write of owner `t` to the register at `a` is flushed by a reset of the far side (R305, R461): it is counted, and the fault of
an engine is logged at once; its vector is entered at the next instruction boundary, of a pair in RESTART at the end of its restore. -/
def State.noteFlush (s : State) (m : Master) (a : Nat) : State :=
  match m with
  | .eng e =>
    let t := s.leader e.val
    let g := s.eng t
    ((s.setEng t { g with flushed := g.flushed ++ [BitVec.ofNat 32 a] }).inc CLK_FLUSH_FLUSHES).fault
      { code := 5, region := s.regionOf m, tier := 0, owner := t, addr := a, conseq := s.byRestart a }
  | .hif => s.inc CLK_FLUSH_FLUSHES

/-- Vendor firmware writes SIG at the end of a cold start, once the calendar has been set (R415). -/
def State.signCold (s : State) : State :=
  if s.path = .cold ∧ !s.rdB RTC_STAT_TLOST ∧ s.rtc.powered then s.hold (.eng 2) 0x40005080 0x7A110C5E else s

/-- SYS_BOOT.DONE becomes 1: a WARM_START or COLD_START ends (R466), and a completed cold start clears FORCECOLD (R476). -/
def State.startDone (s : State) : State :=
  let fl := match s.flt.active with
    | some a => if 2 ≤ a.tier then
        { (s.flt.mark a.entry 3) with active := none, warmEnd := if a.tier = 2 then some s.fltNow else s.flt.warmEnd }
      else s.flt
    | none => s.flt
  let r1 := wrF (wrF (wrF s.regs SYS_BOOT_DONE 1) SYS_BOOT_STEP 10) HIF_EVPEND_READY 1
  let r2 := if s.path = .warm then r1 else wrF r1 SYS_BOOT_FORCECOLD 0
  ((({ s with regs := r2, flt := fl, start := .none } : State).signCold).fltSync).checkDoze

end Sys2Proof.Machine
end

