-- ==== Sys2Proof/Machine/Radio.lean ====
section
/-!
DEFINITION. RFC (03_radio_front_end.md): the calibration tables, the radio states of R90 and R91, hops and calibrations,
the offset table, and the commands of the radio that involve no frame.
-/
namespace Sys2Proof.Machine

/-! ### Frequency words and the calibration table (R81 to R83) -/

/-- The frequency word of a frequency in hertz, an exact half rounded up (R81). -/
def freqWord (f : Nat) : Nat := (2 * f * 4194304 + 40000000) / 80000000

/-- The frequency of entry `k` in the reset plan, in hertz (R83). -/
def planHz (b : Band) (k : Nat) : Nat :=
  match b with
  | .sg => if k < 64 then 863100000 + k * 200000 else 902200000 + (k - 64) * 400000
  | .g24 => if k < 79 then 2402000000 + k * 1000000 else 2402500000 + (k - 79) * 1000000

/-- Entry `k` of a calibration table after reset: INVALID with the frequency of the reset plan (R83, log entry 6). -/
def calDefault (b : Band) (k : Nat) : CalEntry := { state := 0, freq := freqWord (planHz b k), tcal := 0, codes := 0 }

/-- Entry `k` of the band's calibration table. -/
def Rfc.cal (r : Rfc) (b : Band) (k : Nat) : CalEntry := spGet (calDefault b) (r.cals.get b) k

/-- Replaces entry `k` of the band's calibration table. -/
def Rfc.putCal (r : Rfc) (b : Band) (k : Nat) (e : CalEntry) : Rfc :=
  { r with cals := r.cals.set b (spSet (calDefault b) (r.cals.get b) k e) }

/-- The entry is INVALID (R82). -/
def State.calInvalid (s : State) (b : Band) (k : Nat) : Bool := (s.rfc.cal b k).state == 0

/-- The entry becomes INVALID (R84, R85). -/
def State.invalidate (s : State) (b : Band) (k : Nat) : State :=
  { s with rfc := s.rfc.putCal b k { s.rfc.cal b k with state := 0 } }

/-- The frequency word lies in the band's ranges (R77, R107). -/
def inBand (b : Band) (w : Nat) : Bool :=
  let at_ := fun f : Nat => w * 40000000 ≥ f * 4194304
  let upTo := fun f : Nat => w * 40000000 ≤ f * 4194304
  match b with
  | .sg => decide ((at_ 863000000 ∧ upTo 876000000) ∨ (at_ 902000000 ∧ upTo 928000000))
  | .g24 => decide (at_ 2400000000 ∧ upTo 2483500000)

/-- Die temperature in 0.25 °C (R86). -/
def State.temp (s : State) : Int := sInt 12 (s.rd RFC_TEMP_TEMP)

/-! ### Enables and requests for reception -/

/-- The enable bit of the band in RFC_CTRL. -/
def rfcEn : Band → Field
  | .sg => RFC_CTRL_SGEN
  | .g24 => RFC_CTRL_G24EN

/-- The active receive-window entry of the band. -/
def State.rxwin (s : State) (b : Band) : Nat := s.rd (RFC_RXWIN_ENTRY b)

/-- The entry in service of the band, or before the first occurrence has begun the one of the present time, leaves the receivers on:
it has RXOFF = 0 (R208). -/
def State.entryReceives (s : State) (b : Band) : Bool :=
  let h := s.shpB b
  let e := match h.occ with | some o => o.entry | none => (s.here b).entry
  !(h.chart.word e).getLsbD 29

/-- MAC requests reception in the band (R91, R204, R207, R208, R173, R185, R192): only an entry with RXOFF ends it. -/
def State.wantRx (s : State) (b : Band) : Bool :=
  let h := s.shpB b
  let m := s.macB b
  let ackDue := match m.att with | some a => a.unicast && a.radiated | none => false
  s.rdB (rfcEn b) &&
    (!s.merWalks || !s.shpOn b || m.listen.isSome || m.daa.isSome || ackDue || !h.wins.isEmpty ||
     s.entryReceives b)

/-! ### The channels follow the radio (R114, R115) -/

/-- The channel holds a frame: SELECT to PAYLOAD. -/
def Chan.active (c : Chan) : Bool := c.st == .select || c.st == .sync || c.st == .header || c.st == .payload

/-- The band is blanked: it hops, calibrates, turns or transmits, or its chains do not stream again yet (R85, R90). -/
def BandRadio.blanked (r : BandRadio) : Bool :=
  r.st == .hop || r.st == .cal || r.st == .turnTx || r.st == .tx || r.st == .turnRx || (r.st == .rx && r.opening)

/-- The receive chains of the band stream (R90). -/
def BandRadio.streams (r : BandRadio) : Bool := r.st == .rx && !r.opening

/-- The state of a channel under the radio state: DISABLED while it is off or the chains are off, BLANKED while the band is
blanked, and SEARCH when the chains stream again (R115). -/
def Chan.follow (c : Chan) (en : Bool) (r : BandRadio) : Chan :=
  if !en then { c with st := .disabled, lastWon := none }
  else if r.blanked then { c with st := .blanked }
  else if r.streams then (if c.st == .disabled || c.st == .blanked then { c with st := .search } else c)
  else { c with st := .disabled }

/-- Every channel of the band follows the radio; MAC counts the receptions lost to blanking (R38, R115). -/
def State.rechan (s : State) (b : Band) : State :=
  let cs := s.mdm.chans.get b
  let r := s.rfcB b
  let lost := if r.blanked then (cs.filter Chan.active).length else 0
  let cs' := (List.range cs.length).map (fun n => (cs.getD n .atReset).follow (s.rdB (MDM_CH_CFG_EN b n)) r)
  ({ s with mdm := { s.mdm with chans := s.mdm.chans.set b cs' } } : State).inc (MAC_CNT0_BLANKED b) lost

/-- The powers at the aerials read 0x80 while their chain is off (R108). -/
def State.rssiOff (s : State) (b : Band) : State :=
  let off := (s.rfcB b).st == .off || (s.rfcB b).st == .ready
  let s1 := if off || s.rd (RFC_DIV_MODE b) = 2 then s.wr (RFC_RSSI_RSSIA b) 0x80 else s
  if off || s.rd (RFC_DIV_MODE b) = 1 then s1.wr (RFC_RSSI_RSSIB b) 0x80 else s1

/-- The radio turns or transmits (R90). -/
def BandRadio.turns (r : BandRadio) : Bool := r.st == .turnTx || r.st == .tx || r.st == .turnRx

/-- The radio `r` with the start of its 24 µs span noted when one begins at TSTAMP `t` in place of `old`, and the end of a turn. -/
def BandRadio.timed (r old : BandRadio) (t : Nat) : BandRadio :=
  let r1 := if old.turns && !r.turns then { r with turnEnd := some t } else r
  if (r.opening ∧ !old.opening) ∨ (r.st = .turnRx ∧ old.st ≠ .turnRx) then { r1 with since := t } else r1

/-- The band's radio becomes `r`, and its channels follow. -/
def State.radio (s : State) (b : Band) (r : BandRadio) : State :=
  ((s.setRfc b (r.timed (s.rfcB b) s.mer.tstamp)).rechan b).rssiOff b

/-! ### Hops and calibrations (R84 to R88) -/

/-- The receive-window entry of the band becomes `e` in the active set. -/
def State.setWin (s : State) (b : Band) (e : Nat) : State := s.wr (RFC_RXWIN_ENTRY b) e

/-- A receive-window hop begins from RX or READY (R91). -/
def State.beginHop (s : State) (b : Band) (e : Nat) : State :=
  let r := s.rfcB b
  s.radio b { r with st := .hop, back := r.st, hopFrom := r.locked, hopTo := e, hopBack := false, opening := false,
                     needHop := false }

/-- The calibration of entry `e` begins from RX or READY (R85). -/
def State.beginCal (s : State) (b : Band) (e : Nat) (auto : Bool) : State :=
  let r := s.rfcB b
  s.radio b { r with st := .cal, back := r.st, opening := false,
                     cal := some { entry := e, auto := auto, prev := s.rfc.cal b e } }

/-- The STALE entries of the band in entry order (R86, R87). -/
def State.staleEntries (s : State) (b : Band) : List Nat :=
  (List.range 128).filter (fun k => (s.rfc.cal b k).state == 2)

/-- The calibration command ends with `st` (R87). -/
def State.endCalcmd (s : State) (st : Nat) : State :=
  (((({ s with rfc := { s.rfc with cmd := none } } : State).wr RFC_CALSTAT_STATUS st).wr RFC_CALSTAT_BUSY 0)).fire 52

/-- The command that waits for the band starts, or goes on with its next entry, once the band is in RX or READY (R87, R88), an assessment of
R192 apart, which listens in RX. With OP = 2 the entries that are STALE at the start count, and none ends it with OK_EMPTY. -/
def State.tryCal (s : State) (b : Band) : State :=
  let r := s.rfcB b
  match s.rfc.cmd with
  | some c =>
    if c.band = b ∧ (r.st = .rx ∨ r.st = .ready) ∧ r.cal.isNone ∧ (s.macB b).daa.isNone then
      match (if c.op = 2 ∧ !c.begun then s.staleEntries b else c.left) with
      | e :: l =>
        ({ s with rfc := { s.rfc with cmd := some { c with left := e :: l, begun := true } } } : State).beginCal b e false
      | [] => s.endCalcmd stOkEmpty
    else s
  | none => s

/-- Reception is opened or closed as MAC requests it (R91): READY opens within 24 µs, RX closes at once; in READY a calibration
that was pre-empted goes on (R88). -/
def State.updateRx (s : State) (b : Band) : State :=
  let r := s.rfcB b
  let want := s.wantRx b
  if r.st = .ready ∧ want ∧ !r.opening then s.radio b { r with opening := true }
  else if r.st = .ready ∧ !want ∧ r.opening then (s.radio b { r with opening := false }).tryCal b
  else if r.st = .rx ∧ !want then (s.radio b { r with st := .ready, opening := false }).tryCal b
  else s

/-- Reception in both bands follows MAC's request. -/
def State.updateRxs (s : State) : State := (s.updateRx .sg).updateRx .g24

/-- Reception follows a change of MER into or out of OFF and ACQUIRE (R204); `was` tells whether SHP walked before it. -/
def State.followWalk (s : State) (was : Bool) : State := if s.merWalks = was then s else s.updateRxs

/-- The band has reached RX or READY: a receive-window hop that waited begins, else a waiting calibration, else reception
follows MAC's request (R87, R88, R107). -/
def State.settle (s : State) (b : Band) : State :=
  let r := s.rfcB b
  if r.needHop ∧ s.rxwin b ≠ r.locked then
    if s.calInvalid b (s.rxwin b) then ((s.setWin b r.locked).setRfc b { r with needHop := false }).tryCal b
    else s.beginHop b (s.rxwin b)
  else
    let s1 := (s.setRfc b { r with needHop := false }).tryCal b
    if (s1.rfcB b).st = .cal then s1 else s1.updateRx b

/-- The calibration in progress is pre-empted: its entry is as it was, ABORTS counts, and the band is in the state it left
(R88). -/
def State.preemptCal (s : State) (b : Band) : State :=
  let r := s.rfcB b
  match r.cal with
  | none => s
  | some c =>
    let s1 := ({ s with rfc := s.rfc.putCal b c.entry c.prev } : State).inc RFC_CALSTAT_ABORTS
    s1.radio b { r with st := r.back, cal := none, opening := r.back == .rx }

/-- The hop in progress is abandoned without effect on the table (R88). -/
def State.preemptHop (s : State) (b : Band) : State :=
  let r := s.rfcB b
  if r.st = .hop then s.radio b { r with st := r.back, locked := r.hopFrom, hopBack := false,
                                         needHop := r.needHop || s.rxwin b != r.hopFrom, opening := r.back == .rx }
  else s

/-- A request that pre-empts a hop and a calibration comes (R88). -/
def State.preempt (s : State) (b : Band) : State := (s.preemptHop b).preemptCal b

/-- Completion status of a command (R87). -/
def CalCmd.status (c : CalCmd) : Nat := if c.failed then stCalInvalid else stOK

/-- The command has done with its present entry; the failure counts when `failed` (R87). -/
def State.nextCal (s : State) (failed : Bool) : State :=
  match s.rfc.cmd with
  | none => s
  | some c =>
    let c' : CalCmd := { c with left := c.left.drop 1, failed := c.failed || failed }
    if c'.left = [] then s.endCalcmd c'.status else { s with rfc := { s.rfc with cmd := some c' } }

/-- A write to RFC_CALCMD (R87): in a band that neither receives nor rests the command waits with BUSY = 1. -/
def State.writeCalcmd (s : State) (b : Band) (op e : Nat) : State :=
  if op = 0 then s
  else if s.rdB RFC_CALSTAT_BUSY then s.wr RFC_CALSTAT_STATUS stBusy
  else if (s.rfcB b).st = .off then s.endCalcmd stBadState
  else
    let es := if op = 1 then [e % 128] else if op = 2 then [] else List.range 128
    (({ s with rfc := { s.rfc with cmd := some { band := b, op := op, left := es, failed := false, begun := false } } } : State).wr
      RFC_CALSTAT_BUSY 1).tryCal b

/-- A calibration of entry `e` of the band is abandoned because a commit redefines the entry (R87, R107): ABORTS counts, a
command goes on with its next entry, and a command with OP = 1 ends with CAL_INVALID. -/
def State.abandonCal (s : State) (b : Band) (e : Nat) : State :=
  let r := s.rfcB b
  match r.cal with
  | none => s
  | some c =>
    if c.entry ≠ e then s
    else
      let s1 := (s.inc RFC_CALSTAT_ABORTS).radio b { r with st := r.back, cal := none, opening := r.back == .rx }
      let s2 := if c.auto then s1 else
        (match s1.rfc.cmd with
        | some k => s1.nextCal (k.op == 1)
        | none => s1)
      s2.settle b

/-! ### The offset table (R100 to R104) -/

/-- A cleared entry of the offset table (R100). -/
def Offset.cleared : Offset := { ofs := 0, set := false, corr := false, antSg := none, ant24 := none }

/-- Entry `nb` of the offset table. -/
def State.offset (s : State) (nb : Nat) : Offset := spGet (fun _ => Offset.cleared) s.rfc.offsets nb

/-- Replaces entry `nb` of the offset table. -/
def State.putOffset (s : State) (nb : Nat) (o : Offset) : State :=
  { s with rfc := { s.rfc with offsets := spSet (fun _ => Offset.cleared) s.rfc.offsets nb o } }

/-- The aerial recorded for the band. -/
def Offset.ant (o : Offset) : Band → Option Bool
  | .sg => o.antSg
  | .g24 => o.ant24

/-- Records the aerial of an accepted frame (R99). -/
def Offset.setAnt (o : Offset) (b : Band) (a : Bool) : Offset :=
  match b with
  | .sg => { o with antSg := some a }
  | .g24 => { o with ant24 := some a }

/-- RFC_FODATA of entry `nb` has been written in the present TCLK cycle: the register write stands over an update (R104). -/
def State.foWrittenNow (s : State) (nb : Nat) : Bool := s.rfc.foWrite == some (nb, s.mer.tstamp)

/-- The measurement of an accepted frame enters the sender's entry (R101), unless a register write stands over it (R104). -/
def State.offsetUpdate (s : State) (nb : Nat) (m : Int) : State :=
  let o := s.offset nb
  let lim : Int := s.rd RFC_FOCFG_LIMIT * 256
  if s.foWrittenNow nb then s
  else if lim < m ∨ m < -lim ∨ m < -32768 ∨ 32767 < m ∨ s.rd RFC_FOCFG_LIMIT = 0 then s.inc RFC_FOCFG_REJECTS
  else if !o.set then s.putOffset nb { o with ofs := m, set := true }
  else s.putOffset nb { o with ofs := o.ofs + roundDiv (m - o.ofs) (2 ^ s.rd RFC_FOCFG_AVG) }

/-- The word of RFC_FODATA for entry `nb`. -/
def Offset.word (o : Offset) : Word :=
  BitVec.ofNat 32 (b2n (o.ant24.getD false) * 2 ^ 19 + b2n (o.antSg.getD false) * 2 ^ 18 + b2n o.set * 2 ^ 17 +
    b2n o.corr * 2 ^ 16 + intBits 16 o.ofs)

/-- A write to RFC_FODATA: SET = 0 clears the entry (R104, R108). Of a cleared entry the spec states SET = 0 and OFS = 0; that
CORR and the recorded aerials go too is the model's choice (DESIGN CHOICE, log entry 93). -/
def State.writeFodata (s : State) (v : Word) : State :=
  let n := v.toNat
  let i := s.rd RFC_FOIDX_INDEX
  let s1 : State := { s with rfc := { s.rfc with foWrite := some (i, s.mer.tstamp) } }
  s1.putOffset i
    (if v.getLsbD 17 then
      { ofs := sInt 16 n, set := true, corr := v.getLsbD 16, antSg := some (v.getLsbD 18), ant24 := some (v.getLsbD 19) }
     else .cleared)

/-- The transmit word of an entry towards a neighbour (R92, R102): the entry's word, corrected when CORR = 1. -/
def State.txWord (s : State) (b : Band) (e : Nat) (nb : Option Nat) : Nat :=
  let f := (s.rfc.cal b e).freq
  match nb with
  | none => f
  | some n =>
    let o := s.offset n
    if o.corr then ((f : Int) + roundDiv ((f : Int) * o.ofs) 256000000).toNat else f

/-- The transmit aerial towards a neighbour (R96). -/
def State.txAerial (s : State) (b : Band) (nb : Option Nat) : Bool :=
  match s.rd (RFC_PA_TXANT b) with
  | 0 => false
  | 1 => true
  | _ => (match nb with | some n => ((s.offset n).ant b).getD false | none => false)

/-! ### Power amplifier (R94, R95) -/

/-- PMAX of the measured VDD_PA in millivolts, in 0.5 dB steps (R94); below 1.8 V the value of the 1.8 V row (R539). -/
def pmaxOf (b : Band) (mv : Nat) : Nat :=
  match b with
  | .sg => if 3200 ≤ mv then 40 else if 2700 ≤ mv then 36 else if 2200 ≤ mv then 32 else 26
  | .g24 => if 2200 ≤ mv then 20 else 16

/-- The band's power range of R77 in 0.5 dB steps. -/
def powerLow : Band → Int
  | .sg => -20
  | .g24 => -40
def powerHigh : Band → Int
  | .sg => 40
  | .g24 => 20

/-- A power within the band's range and PMAX (R94). -/
def State.clampPower (s : State) (b : Band) (p : Int) : Int :=
  min (clampInt (powerLow b) (powerHigh b) p) (sInt 8 (s.rd (RFC_PASTAT_PMAX b)))

/-- How many of the two clamps of R94 act on a power. DESIGN CHOICE (log entry 105): one that both cut counts twice in CLAMPS. -/
def State.clampCount (s : State) (b : Band) (p : Int) : Nat :=
  let q := clampInt (powerLow b) (powerHigh b) p
  b2n (q != p) + b2n (decide (sInt 8 (s.rd (RFC_PASTAT_PMAX b)) < q))

/-- RAMP of the band in microseconds (R95). -/
def State.rampUs (s : State) (b : Band) : Nat := 4 * 2 ^ s.rd (RFC_PA_RAMP b)

/-- TCLK cycles in a microsecond (R19). -/
def usTclk : Nat := 400

/-! ### A band goes OFF, a turn begins (R91, R92) -/

/-- MAC treats the band's transmission as not sent (R93): an attempt is dropped and its frame stays at the head. -/
def State.dropAttempt (s : State) (b : Band) : State :=
  let m := s.macB b
  match m.att with
  | none => s
  | some a =>
    let h := s.shpB b
    let h' := match s.frameAt b a.desc with
      | some f => h.putFrame { f with busy := false }
      | none => h
    (s.setShp b h').setMac b { m with att := none, daa := none }

/-- The band's acknowledgement exchange ends (R171); a reception kept for it alone is done with. -/
def State.endExch (s : State) (b : Band) : State :=
  let m := s.macB b
  s.setMac b { m with exch := none, rxs := m.rxs.filter (fun r => r.hand || r.waiting) }

/-- The transmission that the band's radio carries will not be completed (R93). -/
def State.abortTx (s : State) (b : Band) : State :=
  match (s.rfcB b).tx with
  | none => s
  | some j => if j.kind = .ack then s.endExch b else s.dropAttempt b

/-- The band enters OFF at once; with its enable bit set again meanwhile it starts towards READY (R91). -/
def State.bandOff (s : State) (b : Band) : State :=
  let s1 := (s.preempt b).abortTx b
  let r := s1.rfcB b
  s1.radio b { r with st := .off, starting := s1.rdB (rfcEn b), opening := false, needHop := false, offAfter := false, lockOk := false,
                      hopBack := false, tx := none }

/-- The band turns back after a transmission or a failed turn: TURN_RX towards the receive-window entry (R91, R92). DESIGN CHOICE (log entry
106): it turns back there also when the failed turn has just made that entry INVALID (R84). -/
def State.turnBack (s : State) (b : Band) : State :=
  let r := s.rfcB b
  s.radio b { r with st := .turnRx, tx := none, lockOk := false, hopTo := s.rxwin b, opening := false }

/-- The turn of the transmission `j` begins (step 1 of R92). -/
def State.beginTurn (s : State) (b : Band) (j : TxJob) : State :=
  let s1 := s.preempt b
  let r := s1.rfcB b
  s1.radio b { r with st := .turnTx, tx := some j, lockOk := false, opening := false, hopTo := j.entry }

/-! ### Commands -/

/-- The band's enable bit is set, and a band in OFF leaves it with VDD_PA at `mv` millivolts; below 1.8 V both bands take the PMAX
of the 1.8 V row (R91, R94, R539). -/
def State.enableBand (s : State) (b : Band) (mv : Nat) : State :=
  let s1 := s.wr (rfcEn b) 1
  let r := s.rfcB b
  if (r.st = .off ∧ !r.starting) ∨ r.offAfter then
    let s2 := if mv < 1800 then (s1.wr (RFC_PASTAT_PMAX .sg) (pmaxOf .sg mv)).wr (RFC_PASTAT_PMAX .g24) (pmaxOf .g24 mv)
      else s1.wr (RFC_PASTAT_PMAX b) (pmaxOf b mv)
    if r.st = .off then s2.setRfc b { r with starting := true } else s2
  else s1

/-- BAND_ENABLE (R91, R94). -/
def execBandEnable (b : Band) (mv : Nat) (s : State) : Host.Outcome State Fault Refusal := .next (s.enableBand b mv)

/-- The band reaches READY from OFF (R91). -/
def State.bandReady (s : State) (b : Band) : State :=
  let r := s.rfcB b
  if r.st = .off ∧ r.starting then
    (s.radio b { r with st := .ready, starting := false, locked := s.rxwin b, needHop := false }).settle b
  else s

/-- BAND_READY (R91). -/
def execBandReady (b : Band) (s : State) : Host.Outcome State Fault Refusal := .next (s.bandReady b)

/-- Clearing the band's enable bit (R88, R91, R93): in TX the ramp down begins and OFF follows it. -/
def State.disableBand (s : State) (b : Band) : State :=
  let s1 := s.wr (rfcEn b) 0
  let r := s1.rfcB b
  if r.st = .tx then
    s1.setRfc b { r with offAfter := true,
                         tx := r.tx.map (fun j => if j.down then j else { j with down := true, symEnd := s.mer.tstamp }) }
  else s1.bandOff b

/-- BAND_DISABLE (R91). -/
def execBandDisable (b : Band) (s : State) : Host.Outcome State Fault Refusal := .next (s.disableBand b)

/-- HOP_LOCK (R84, R91, R92): the synthesiser confirms lock. -/
def execHopLock (b : Band) (s : State) : Host.Outcome State Fault Refusal :=
  let r := s.rfcB b
  if r.st = .hop then .next ((s.radio b { r with st := r.back, locked := r.hopTo, hopBack := false }).settle b)
  else if r.st = .turnTx ∨ r.st = .turnRx then .next (s.setRfc b { r with lockOk := true })
  else .next s

/-- A hop has failed (R84): its entry is INVALID, LOCKFAIL counts and fires. -/
def State.lockFailed (s : State) (b : Band) (e : Nat) : State :=
  ((s.invalidate b e).inc (RFC_CNT_LOCKFAIL b)).fire 53

/-- HOP_LOCK_FAIL (R84, R91, R93): an entry that a commit has named meanwhile stays in RXWIN, and its hop follows (R107). -/
def execHopLockFail (b : Band) (s : State) : Host.Outcome State Fault Refusal :=
  let r := s.rfcB b
  if r.st = .hop then
    let s1 := s.lockFailed b r.hopTo
    if r.hopBack then .next ((s1.wr (rfcEn b) 0).bandOff b)
    else .next ((if s.rxwin b = r.hopTo then s1.setWin b r.hopFrom else s1).setRfc b { r with hopTo := r.hopFrom, hopBack := true })
  else if r.st = .turnTx ∧ !r.lockOk then .next (((s.lockFailed b r.hopTo).abortTx b).turnBack b)
  else if r.st = .turnRx ∧ !r.lockOk then .next (s.lockFailed b r.hopTo)
  else .next s

/-- CAL_ENTRY (R87): RFC_CALCMD with OP = 1. -/
def execCalEntry (b : Band) (e : Fin 128) (s : State) : Host.Outcome State Fault Refusal := .next (s.writeCalcmd b 1 e.val)

/-- CAL_STALE (R87): RFC_CALCMD with OP = 2. -/
def execCalStale (b : Band) (s : State) : Host.Outcome State Fault Refusal := .next (s.writeCalcmd b 2 0)

/-- CAL_ALL (R87): RFC_CALCMD with OP = 3. -/
def execCalAll (b : Band) (s : State) : Host.Outcome State Fault Refusal := .next (s.writeCalcmd b 3 0)

/-- The entry after its calibration: VALID with the die temperature and the codes found, or INVALID (R85). -/
def State.calResult (s : State) (b : Band) (e : Nat) (ok : Bool) (codes : Nat) : State :=
  let c := s.rfc.cal b e
  { s with rfc := s.rfc.putCal b e (if ok then { c with state := 1, tcal := s.temp, codes := codes }
                                    else { c with state := 0 }) }

/-- CAL_ENTRY_DONE (R85, R87): the calibration under way ends with success or failure and the codes found. -/
def execCalEntryDone (b : Band) (ok : Bool) (codes : Nat) (s : State) : Host.Outcome State Fault Refusal :=
  let r := s.rfcB b
  match r.cal with
  | none => .next s
  | some c =>
    let s1 := s.calResult b c.entry ok codes
    let s2 := if ok then s1 else s1.inc RFC_CALSTAT_FAILS
    let s3 := s2.radio b { r with st := r.back, cal := none, opening := r.back == .rx }
    let s4 := if c.auto then s3 else s3.nextCal (!ok)
    .next (s4.settle b)

/-- The entry is VALID and the die temperature has moved from its calibration by more than DTEMP (R82). -/
def State.stale (s : State) (t : Int) (e : CalEntry) : Bool :=
  e.state == 1 && decide (4 * (s.rd RFC_CALCFG_DTEMP : Int) < (t - e.tcal).natAbs)

/-- The VALID entries of the band that have moved become STALE (R86). -/
def State.staleBand (s : State) (b : Band) (t : Int) : State :=
  { s with rfc := { s.rfc with cals := s.rfc.cals.set b ((s.rfc.cals.get b).map
      (fun p => if s.stale t p.2 then (p.1, { p.2 with state := 2 }) else p)) } }

/-- TEMP_CHECK (R86, R108): the die temperature, in 0.25 °C, is read and compared. -/
def execTempCheck (t : BitVec 12) (s : State) : Host.Outcome State Fault Refusal :=
  let s1 := s.wr RFC_TEMP_TEMP t.toNat
  .next ((s1.staleBand .sg t.toInt).staleBand .g24 t.toInt)

/-- AUTO_CALIBRATE (R86). -/
def execAutoCalibrate (b : Band) (s : State) : Host.Outcome State Fault Refusal :=
  let r := s.rfcB b
  match s.staleEntries b with
  | e :: _ =>
    if s.rdB RFC_CALCFG_AUTOCAL ∧ r.st = .ready ∧ !r.opening ∧ !r.needHop ∧ r.cal.isNone then .next (s.beginCal b e true)
    else .next s
  | [] => .next s

/-- Chain A or B of the band is powered in RX (R97). -/
def State.chainOn (s : State) (b : Band) (chainB : Bool) : Bool :=
  (s.rfcB b).streams && s.rd (RFC_DIV_MODE b) != (if chainB then 1 else 2)

/-- RSSI_UPDATE (R108): the window powers at the aerials in dBm. -/
def execRssiUpdate (b : Band) (pa pb : Int) (s : State) : Host.Outcome State Fault Refusal :=
  let w := fun p : Int => intBits 8 (clampInt (-127) 127 p)
  let s1 := if s.chainOn b false then s.wr (RFC_RSSI_RSSIA b) (w pa) else s
  .next (if s.chainOn b true then s1.wr (RFC_RSSI_RSSIB b) (w pb) else s1)

/-- AGC_GAIN_STEP (R80): one step of 6 dB, the index staying within 0 to 11. -/
def execAgcGainStep (b : Band) (chainB up : Bool) (s : State) : Host.Outcome State Fault Refusal :=
  let f := if chainB then RFC_RSSI_GAINB b else RFC_RSSI_GAINA b
  let g := s.rd f
  if s.chainOn b chainB then .next (s.wr f (if up then min (g + 1) 11 else g - 1)) else .next s

/-! ### Commit of the shadow set (R107) -/

/-- The field as a commit would make it active (R9). -/
def State.shOf (s : State) (f : Field) : Nat := s.sh f

/-- Band of RFC_CALDEF in the shadow set. -/
def State.calDefBand (s : State) : Band := if s.sh RFC_CALDEF_BAND = 0 then .sg else .g24

/-- The status of a commit of RFC (R107, R96, R97). -/
def State.rfcCommitStatus (s : State) : Nat :=
  let b := s.calDefBand
  let e := s.sh RFC_CALDEF_ENTRY
  let dt := s.sh RFC_CALCFG_DTEMP
  let bad := dt = 0 || 60 < dt || s.sh (RFC_PA_TXANT .sg) = 3 || s.sh (RFC_PA_TXANT .g24) = 3 ||
    s.sh (RFC_DIV_MODE .sg) = 3 || s.sh (RFC_DIV_MODE .g24) = 3
  let redefines := s.rfc.defSet &&
    (!inBand b (s.sh RFC_CALFREQ_FREQ) || e == s.rxwin b || e == s.sh (RFC_RXWIN_ENTRY b))
  let invalid := fun x : Band => s.calInvalid x (s.sh (RFC_RXWIN_ENTRY x))
  firstStatus [(bad, stBadParam), (redefines || invalid .sg || invalid .g24, stMismatch)]

/-- The receive window of the band after an accepted commit changed it (R107). -/
def State.windowChanged (s : State) (b : Band) : State :=
  let r := s.rfcB b
  match r.st with
  | .rx | .ready => s.beginHop b (s.rxwin b)
  | .turnRx | .hop => s.setRfc b { r with needHop := true }
  | .cal => let s1 := s.preemptCal b; s1.beginHop b (s1.rxwin b)
  | .off | .turnTx | .tx => s

/-- What an accepted commit of RFC does beside the copy (R107); `w0`, `w1` are the entries of the windows before it. -/
def State.rfcCommitted (s : State) (w0 w1 : Nat) : State :=
  let b := s.calDefBand
  let e := s.sh RFC_CALDEF_ENTRY
  let s1 := if s.rfc.defSet then
      let t := s.abandonCal b e
      { t with rfc := (t.rfc.putCal b e { t.rfc.cal b e with state := 0, freq := s.sh RFC_CALFREQ_FREQ }) }
    else s
  let s2 : State := { s1 with rfc := { s1.rfc with defSet := false } }
  let s3 := if s2.rxwin .sg ≠ w0 then s2.windowChanged .sg else s2
  let s4 := if s3.rxwin .g24 ≠ w1 then s3.windowChanged .g24 else s3
  (s4.rssiOff .sg).rssiOff .g24

/-! ### Hopping moves the window (R191) -/

/-- MAC moves the receive window of the band to entry `e`: a request that pre-empts a hop or a calibration (R88). -/
def State.macHop (s : State) (b : Band) (e : Nat) : State :=
  if s.calInvalid b e ∨ s.rxwin b = e then s
  else
    let s1 := s.setWin b e
    let r := s1.rfcB b
    match r.st with
    | .rx | .ready => s1.beginHop b e
    | .hop | .cal => let s2 := s1.preempt b; s2.beginHop b e
    | .turnRx => s1.setRfc b { r with needHop := true }
    | .off | .turnTx | .tx => s1

end Sys2Proof.Machine
end

