-- ==== Sys2Proof/Machine/Waveform.lean ====
section
/-!
DEFINITION. MODE_SL as a coding (04_modem.md): the sequence generator, pilots and training symbols, the header and its CRC,
the LDPC codes, scrambling, codewords, placement on tones, constellations, airtime and the loading map.
-/
namespace Sys2Proof.Machine

/-! ### Sequences (R121 to R123) -/

/-- Output of the generator in state `g` (11 bits). -/
def seqOut (g : Nat) : Nat := (g / 1024 + g / 256) % 2

/-- The state after one step. -/
def seqNext (g : Nat) : Nat := (g * 2) % 2048 + seqOut g

/-- The first `n` outputs of the generator from state `g`. -/
def seqBits : Nat → Nat → List Nat
  | 0, _ => []
  | n + 1, g => seqOut g :: seqBits n (seqNext g)

/-- The eight pilot tones and their signs in increasing tone order (R120, R122). -/
def pilotTones : List Int := [-45, -32, -19, -6, 6, 19, 32, 45]
def pilotSigns : List Int := [1, -1, 1, 1, -1, 1, -1, -1]

/-- The pilots of data symbol `n` (R122). -/
def pilots (n : Nat) : List Int :=
  pilotSigns.map (fun p => p * (1 - 2 * ((seqBits (n + 1) 0x7FF).getD n 0 : Int)))

/-- The tones of the short training symbol, ±4 to ±52, in increasing order (R123). -/
def stsTones : List Int := ((List.range 27).map (fun k : Nat => (4 * k : Int) - 52)).filter (· ≠ 0)

/-- The sign of each STS tone; the tone's value is √2 × sign × (1 + j) (R123). -/
def stsSigns : List Int := (seqBits 26 0x2C5).map (fun o : Nat => 1 - 2 * (o : Int))

/-- The values of the long training symbol on the tones −52 to +52 but 0 (R123). -/
def ltsSigns : List Int := (seqBits 104 0x5A3).map (fun o : Nat => 1 - 2 * (o : Int))

/-- The number of the tone that data tone `d` uses (R120). -/
def dataTone (d : Nat) : Int :=
  (((List.range 105).map (fun k : Nat => (k : Int) - 52)).filter (fun t => t ≠ 0 ∧ !pilotTones.contains t)).getD d 0

/-! ### Header (R126, R127) -/

/-- Bits `lo` to `lo + n − 1` of the header, least significant first. -/
def hdrField (h : BitVec 48) (lo n : Nat) : Nat := h.toNat / 2 ^ lo % 2 ^ n

/-- One bit of the CRC-8 of R127. -/
def crc8Bit (c : Nat) (bit : Bool) : Nat :=
  if (c / 128 + b2n bit) % 2 = 1 then ((c * 2) % 256) ^^^ 0x07 else (c * 2) % 256

/-- CRC-8 of the header bits 0 to 39. -/
def hcs (h : BitVec 48) : Nat := (List.range 40).foldl (fun c i => crc8Bit c (h.getLsbD i)) 0

/-- The HCS that the header carries, sent most significant bit first (R127). -/
def hdrHcs (h : BitVec 48) : Nat := (List.range 8).foldl (fun v i => v * 2 + b2n (h.getLsbD (40 + i))) 0

/-- The header bits of a frame to be sent, HCS included. -/
def makeHeader (short : Bool) (rate mapsel mapid len seed : Nat) : BitVec 48 :=
  let h : BitVec 48 := BitVec.ofNat 48 (b2n short * 4 + rate % 4 * 8 + mapsel % 4 * 32 + mapid % 16 * 128 +
    len % 2048 * 2048 + seed % 128 * 2 ^ 22)
  let c := hcs h
  h ||| BitVec.ofNat 48 ((List.range 8).foldl (fun v i => v + c / 2 ^ (7 - i) % 2 * 2 ^ (40 + i)) 0)

/-- The header is in error (R125 to R127): VER, PRE against the form detected, MAPSEL, LEN or HCS. -/
def hdrBad (h : BitVec 48) (short : Bool) : Bool :=
  hdrField h 0 2 != 0 || (hdrField h 2 1 == 1) != short || 2 ≤ hdrField h 5 2 || hdrField h 11 11 == 0 || hdrHcs h != hcs h

/-! ### LDPC (R129) -/

/-- Row blocks of the code at a rate: 0 1/2, 1 2/3, 2 3/4, 3 5/6. -/
def ldpcM (rate : Nat) : Nat := match rate with | 0 => 12 | 1 => 8 | 2 => 6 | _ => 4

/-- Information bits of a code with block size `z`. -/
def ldpcK (z rate : Nat) : Nat := (24 - ldpcM rate) * z

/-- The shift of the block that data column `j` places for `m` = 0, 1, 2. -/
def ldpcShift (z j m : Nat) : Nat := (7 + 13 * j + 29 * m + 5 * j * m) % z

/-- The row block of that block. -/
def ldpcRow (mb j m : Nat) : Nat := (j + m * (mb / 3)) % mb

/-- Bit `t` of s_i: the parity of row block `i` over the data columns. -/
def ldpcS (z mb kb : Nat) (u : List Bool) (i t : Nat) : Bool :=
  (List.range kb).foldl (fun p j => (List.range 3).foldl (fun q m =>
    if ldpcRow mb j m = i then q != u.getD (j * z + (t + ldpcShift z j m) % z) false else q) p) false

/-- The parity blocks from row block `i` on, given the parity block before it. -/
def ldpcParity (z mb kb : Nat) (u : List Bool) : Nat → Nat → List Bool → List Bool
  | 0, _, _ => []
  | n + 1, i, prev =>
    let p := (List.range z).map (fun t =>
      let s := ldpcS z mb kb u i t
      if i = 0 then s else s != prev.getD t false)
    p ++ ldpcParity z mb kb u n (i + 1) p

/-- The codeword of the information bits `u` (R129). -/
def ldpcEncode (z rate : Nat) (u : List Bool) : List Bool :=
  u ++ ldpcParity z (ldpcM rate) (24 - ldpcM rate) u (ldpcM rate) 0 []

/-! ### From PSDU to symbols (R130 to R133) -/

/-- The bits of a byte list, least significant bit of byte 0 first. -/
def byteBits (bs : List Byte) : List Bool := bs.flatMap (fun b => (List.range 8).map (fun i => b.getLsbD i))

/-- Outputs of the scrambler for SCRSEED (R130). -/
def scramble (n seed : Nat) : List Nat := seqBits n (0x780 + seed % 128)

/-- Block size of the payload code: short (32) or long (128) (R131). -/
def payloadZ (bits rate : Nat) : Nat := if bits ≤ 4 * ldpcK 32 rate then 32 else 128

/-- Number of codewords. -/
def numCw (bits rate : Nat) : Nat := ceilDiv bits (ldpcK (payloadZ bits rate) rate)

/-- Shortening bits in all. -/
def numShrt (bits rate : Nat) : Nat := numCw bits rate * ldpcK (payloadZ bits rate) rate - bits

/-- Coded bits that a frame of `bits` scrambled bits sends: T_b (R131). -/
def codedBits (bits rate : Nat) : Nat := numCw bits rate * (24 * payloadZ bits rate) - numShrt bits rate

/-- The codewords from number `i` on, without their shortening bits. -/
def codewords (z rate ncw nshrt : Nat) : Nat → Nat → List Bool → List Bool
  | 0, _, _ => []
  | n + 1, i, bits =>
    let si := nshrt / ncw + (if i < nshrt % ncw then 1 else 0)
    let k := ldpcK z rate
    let data := bits.take (k - si)
    let cw := ldpcEncode z rate (data ++ List.replicate si false)
    data ++ cw.drop k ++ codewords z rate ncw nshrt n (i + 1) (bits.drop (k - si))

/-- The coded payload bits of a PSDU. -/
def payloadBits (psdu : List Byte) (rate seed : Nat) : List Bool :=
  let raw := byteBits psdu
  let b := raw.length
  let scr := (raw.zip (scramble b seed)).map (fun p => p.1 != (p.2 == 1))
  codewords (payloadZ b rate) rate (numCw b rate) (numShrt b rate) (numCw b rate) 0 scr

/-- The order in which a symbol's coded bits take their places: bit `p` of tone `d` (R132). -/
def toneOrder (map : List Nat) : List (Nat × Nat) :=
  (List.range 6).flatMap (fun p => ((List.range 96).map (fun i => (29 * i) % 96)).filter
    (fun d => decide (p < map.getD d 0)) |>.map (fun d => (p, d)))

/-- Level of the Gray code of an axis with `n` bits (R133). -/
def axisLevel (n v : Nat) : Int :=
  match n with
  | 0 => 0
  | 1 => [-1, 1].getD v 0
  | 2 => [-3, -1, 3, 1].getD v 0
  | _ => [-7, -5, -1, -3, 7, 5, 1, 3].getD v 0

/-- The square of the divisor of R133, by the bits on the tone. -/
def toneEnergy (n : Nat) : Nat := match n with | 0 => 1 | 1 => 1 | 2 => 2 | 3 => 6 | 4 => 10 | 5 => 26 | _ => 42

/-- A level of a tone with `n` bits: the axis of one bit carries ±1, of two ±1 or ±3, of three ±1 to ±7 (R133). -/
def toneLevels (bits : List Bool) : Int × Int :=
  let n := bits.length
  let v := fun l : List Bool => l.foldl (fun a b => 2 * a + b2n b) 0
  let ev := (List.range n).filter (· % 2 = 0) |>.map (fun i => bits.getD i false)
  let od := (List.range n).filter (· % 2 = 1) |>.map (fun i => bits.getD i false)
  (axisLevel ev.length (v ev), axisLevel od.length (v od))

/-- The training symbol STS: √2 × (±1 ± j), written as (±2 ± 2j) / √2 (R123). -/
def sts : Symbol := stsTones.zip (stsSigns.map (fun v => (2, 2 * v, 2 * v)))

/-- The tones −52 to +52 but 0 (R123). -/
def ltsTones : List Int := ((List.range 105).map (fun k : Nat => (k : Int) - 52)).filter (· ≠ 0)

/-- The training symbol LTS (R123). -/
def lts : Symbol := ltsTones.zip (ltsSigns.map (fun v => (1, v, 0)))

/-- The preamble of a frame, full or short (R124). -/
def preambleSymbols (short : Bool) : List Symbol := if short then [sts, lts] else [sts, sts, sts, sts, lts, lts]

/-- Data symbol `n` with the values of its data tones and its pilots, in increasing tone order (R120, R122); symbol 0 is the header. -/
def withPilots (n : Nat) (data : List (Nat × Int × Int)) : Symbol :=
  ltsTones.map (fun t => match pilotTones.idxOf? t with
    | some i => (t, 1, (pilots n).getD i 0, 0)
    | none => (t, data.getD (((List.range 96).find? (fun d => dataTone d == t)).getD 0) (1, 0, 0)))

/-- The data tones of one symbol: its coded bits on the tones of the map (R132, R133). -/
def dataTones (map : List Nat) (bits : List Bool) : List (Nat × Int × Int) :=
  let placed := (toneOrder map).zip bits
  (List.range 96).map (fun d =>
    let n := map.getD d 0
    let lv := toneLevels ((List.range n).map (fun p => ((placed.find? (fun q => q.1 == (p, d))).map (·.2)).getD false))
    (toneEnergy n, lv.1, lv.2))

/-- Symbol `n` of a frame, the header being symbol 0. -/
def makeSymbol (n : Nat) (map : List Nat) (bits : List Bool) : Symbol := withPilots n (dataTones map bits)

/-- Payload symbols of the coded bits from symbol `i` on, `n` of them. -/
def makeSymbols (map : List Nat) (bsym i : Nat) : Nat → List Bool → List Symbol
  | 0, _ => []
  | n + 1, bits => makeSymbol i map (bits.take bsym) :: makeSymbols map bsym (i + 1) n (bits.drop bsym)

/-- The uniform map: 2 bits on every tone (R135). -/
def uniformMap : List Nat := List.replicate 96 2

/-- Coded bits of a payload symbol (R132). -/
def bSym (map : List Nat) : Nat := map.sum

/-- Payload symbols of a frame with a PSDU of `len` bytes (R132). -/
def nSym (len rate : Nat) (map : List Nat) : Nat := ceilDiv (codedBits (8 * len) rate) (bSym map)

/-- The bits that the payload symbols of a PSDU carry: its coded bits and the pad that fills the last symbol (R130 to R132). -/
def filledBits (psdu : List Byte) (rate seed : Nat) (map : List Nat) : List Bool :=
  let tb := payloadBits psdu rate seed
  let scrAll := scramble (8 * psdu.length + (nSym psdu.length rate map * bSym map - tb.length)) seed
  tb ++ (scrAll.drop (8 * psdu.length)).map (· == 1)

/-- The symbols of a MODE_SL frame: preamble, header and payload (R124, R128, R130 to R133). -/
def frameSymbols (psdu : List Byte) (short : Bool) (rate mapsel mapid seed : Nat) (map : List Nat) : List Symbol :=
  let h := makeHeader short rate mapsel mapid psdu.length seed
  let hb := ldpcEncode 4 0 ((List.range 48).map (fun i => h.getLsbD i))
  preambleSymbols short ++ makeSymbol 0 (List.replicate 96 1) hb ::
    makeSymbols map (bSym map) 1 (nSym psdu.length rate map) (filledBits psdu rate seed map)

/-! ### What a receiver measures (R144 to R146, R559) -/

/-- A power ratio in steps of 0.25 dB, rounded down, from 0 to 254: the largest k with 10^(k/40) ≤ `sig` / `err` (R559). The spec
states none of 0 to 0: a free value. -/
def quarterDb (sig err : Nat) : Nat :=
  if sig = 0 ∧ err = 0 then Config.zeroRatio % 255
  else ((List.range 254).filter (fun k => decide (10 ^ (k + 1) * err ^ 40 ≤ sig ^ 40))).length

/-- The root of degree `p` of `n`, rounded down, whose bits from bit `k` on are those of `r`. -/
def rootFrom (p n : Nat) : Nat → Nat → Nat
  | 0, r => r
  | k + 1, r => rootFrom p n k (if (r + 2 ^ k) ^ p ≤ n then r + 2 ^ k else r)

/-- The amplitude that the gain index takes off a chain, 10^(6 × index / 20), in 1/2^32: steps of exactly 6 dB (R80). -/
def gainFactor (idx : Nat) : Nat := rootFrom 10 (10 ^ (3 * idx) * 2 ^ 320) 44 0

/-- A number divided by a power of two, or multiplied by one, the quotient rounded to the nearest. -/
def scaleInt (v : Int) (shift : Int) : Int :=
  if 0 ≤ shift then v * 2 ^ shift.toNat else roundDiv v (2 ^ (-shift).toNat)

/-- The shift that brings the largest magnitude `m` of a record between 16,384 and 32,767 (R146). -/
def estShift (m : Nat) : Int :=
  let s : Int := 14 - (m.log2 : Int)
  if scaleInt m s ≤ 32767 then s else s - 1

/-- The sums over the training symbols received of each data tone's value divided by the value sent, which is 1 or −1 (R146). -/
def ltsSums (l : List (List (Int × Int))) : List (Int × Int) :=
  (List.range 96).map (fun d =>
    let sent := ltsSigns.getD ((ltsTones.idxOf? (dataTone d)).getD 0) 1
    l.foldl (fun a sym => let v := sym.getD d (0, 0); (a.1 + sent * v.1, a.2 + sent * v.2)) (0, 0))

/-- The correction of an estimate for the gain index and the receive path, as a mantissa and a power of two (R80, R146). -/
def rxCorrection (b : Band) (aerialB : Bool) (gain : Nat) : Nat × Int :=
  let g := Config.rxGain b aerialB
  (g.1 * gainFactor gain, g.2 - 32)

/-- The estimates of a record and its EXP (R146): the mean over the LTS received, corrected by `g`, with the largest value of the
record between 16,384 and 32,767. Quotients are rounded to the nearest; a record whose every value is 0 has EXP 0 (log entry 93). -/
def estimates (l : List (List (Int × Int))) (g : Nat × Int) : List (Int × Int) × Int :=
  let v : List (Int × Int) := (ltsSums l).map (fun p => (p.1 * (g.1 : Int), p.2 * (g.1 : Int)))
  let m := v.foldl (fun a p => max a (max p.1.natAbs p.2.natAbs)) 0
  if m = 0 then (v, 0)
  else
    let k := estShift m
    (v.map (fun p => (scaleInt p.1 k, scaleInt p.2 k)), g.2 - (if l.length = 2 then 1 else 0) - k + 14)

/-- The square of the magnitude of a complex number. -/
def norm2 (v : Int × Int) : Nat := v.1.natAbs ^ 2 + v.2.natAbs ^ 2

/-- One axis of a constellation point in 1/65,536: a level over the root of the tone's energy (R133), rounded towards 0. -/
def axisPoint (energy : Nat) (level : Int) : Int := level.sign * (rootFrom 2 (level.natAbs ^ 2 * 2 ^ 32 / energy) 24 0 : Int)

/-- The points of a frame's payload symbols from the decoded bits, in 1/65,536 on each data tone (R132, R133, R146, R559). -/
def modPoints (map : List Nat) : Nat → List Bool → List (List (Int × Int))
  | 0, _ => []
  | n + 1, bits => (dataTones map (bits.take (bSym map))).map (fun t => (axisPoint t.1 t.2.1, axisPoint t.1 t.2.2)) ::
      modPoints map n (bits.drop (bSym map))

/-- `n` × 65,536 × (received − estimate × point), where the estimate is the sum `h` over `n` LTS: the error of R146. -/
def toneError (n : Nat) (h p y : Int × Int) : Int × Int :=
  (n * 65536 * y.1 - (h.1 * p.1 - h.2 * p.2), n * 65536 * y.2 - (h.1 * p.2 + h.2 * p.1))

/-- SNR_d of one data tone (R146), rounded down to 0.25 dB as R559 does (DESIGN CHOICE, log entry 93): |H_d|² over the mean squared
error of the symbols, `h` being the sum over `n` LTS; on a tone without bits every point is 0. -/
def toneSnr (n : Nat) (h : Int × Int) (l : List ((Int × Int) × (Int × Int))) : Nat :=
  quarterDb (l.length * 2 ^ 32 * norm2 h) (l.map (fun q => norm2 (toneError n h q.1 q.2))).sum

/-- The squared error of R559, in 1/2^64, between a point and the received value that the estimate equalises. -/
def equalError (n : Nat) (h p y : Int × Int) : Nat :=
  if norm2 h = 0 then Config.deadTone p y else norm2 (toneError n h p y) * 2 ^ 32 / norm2 h

/-- The SNR byte of a MODE_SL frame (R559): the sums over the loaded tones `ts` of each payload symbol. -/
def slSnr (n : Nat) (hs : List (Int × Int)) (ts : List Nat) (syms : List (List (Int × Int) × List (Int × Int))) : Nat :=
  let at_ := fun (l : List (Int × Int)) (d : Nat) => l.getD d (0, 0)
  quarterDb ((syms.flatMap (fun q => ts.map (fun d => norm2 (at_ q.1 d)))).sum * 2 ^ 32)
    (syms.flatMap (fun q => ts.map (fun d => equalError n (at_ hs d) (at_ q.1 d) (at_ q.2 d)))).sum

/-- The ratio of R559 over pairs of the point decided and the value received. -/
def pairSnr (l : List ((Int × Int) × (Int × Int))) : Nat :=
  quarterDb (l.map (fun q => norm2 q.1)).sum (l.map (fun q => norm2 (q.1.1 - q.2.1, q.1.2 - q.2.2))).sum

/-- The equaliser at a preamble detection: feed-forward tap 3 is 1, every other tap 0 (R144). -/
def Dfe.fresh (mu : Nat) : Dfe :=
  { mu := mu, ff := (List.range 8).map (fun i => if i = 3 then (65536, 0) else (0, 0)), fb := List.replicate 4 (0, 0) }

/-- The product of two complex numbers in 1/65,536, the second conjugated when `conj`, rounded down (DESIGN CHOICE, log entry 93). -/
def cmul (a b : Int × Int) (conj : Bool) : Int × Int :=
  let q := if conj then -b.2 else b.2
  ((a.1 * b.1 - a.2 * q) / 65536, (a.1 * q + a.2 * b.1) / 65536)

/-- A sum of complex numbers. -/
def csum (l : List (Int × Int)) : Int × Int := l.foldl (fun a p => (a.1 + p.1, a.2 + p.2)) (0, 0)

/-- The output of the equaliser. -/
def Dfe.out (e : Dfe) (q : EqSym) : Int × Int :=
  let f := csum ((e.ff.zip q.x).map (fun p => cmul p.1 p.2 false))
  let b := csum ((e.fb.zip q.d).map (fun p => cmul p.1 p.2 false))
  (f.1 - b.1, f.2 - b.2)

/-- One LMS step with the step 2^−MU (R144). -/
def Dfe.adapt (e : Dfe) (q : EqSym) : Dfe :=
  let y := e.out q
  let er : Int × Int := (q.want.1 - y.1, q.want.2 - y.2)
  let step := fun p : Int × Int => (p.1 / 2 ^ e.mu, p.2 / 2 ^ e.mu)
  { e with ff := (e.ff.zip q.x).map (fun p => let c := step (cmul er p.2 true); (p.1.1 + c.1, p.1.2 + c.2)),
           fb := (e.fb.zip q.d).map (fun p => let c := step (cmul er p.2 true); (p.1.1 - c.1, p.1.2 - c.2)) }

/-- The symbols decided with the outputs of the equaliser as it adapts (R144, R559). -/
def Dfe.pairs (e : Dfe) : List EqSym → List ((Int × Int) × (Int × Int))
  | [] => []
  | q :: l => (q.want, e.out q) :: (e.adapt q).pairs l

/-- The channel's equaliser after the symbols `l` (R144). -/
def Chan.adapted (c : Chan) (l : List EqSym) : Chan := { c with dfe := c.dfe.map (fun e => l.foldl Dfe.adapt e) }

/-! ### Airtime (R119, R124, R134) -/

/-- Symbol time in microseconds. -/
def tSym : Band → Nat
  | .sg => 120
  | .g24 => 60

/-- Preamble length in microseconds. -/
def slPreamble : Band → Bool → Nat
  | .sg, false => 720
  | .sg, true => 240
  | .g24, false => 360
  | .g24, true => 120

/-- Airtime of a MODE_SL frame in microseconds (R134). -/
def slAirtime (b : Band) (short : Bool) (len rate : Nat) (map : List Nat) : Nat :=
  slPreamble b short + tSym b * (1 + nSym len rate map)

/-! ### The loading map (R135) -/

/-- Bit `k` of a string of bytes. -/
def stringBit (bs : List Byte) (k : Nat) : Nat := b2n ((bs.getD (k / 8) 0).getLsbD (k % 8))

/-- The 96 values of a 36-byte map string. -/
def unpackMap (bs : List Byte) : List Nat :=
  (List.range 96).map (fun d => stringBit bs (3 * d) + 2 * stringBit bs (3 * d + 1) + 4 * stringBit bs (3 * d + 2))

/-- The 36-byte string of a map. -/
def packMap (m : List Nat) : List Byte :=
  (List.range 36).map (fun k => BitVec.ofNat 8 ((List.range 8).foldl
    (fun v i => v + m.getD ((8 * k + i) / 3) 0 / 2 ^ ((8 * k + i) % 3) % 2 * 2 ^ i) 0))

/-- The map is valid: no entry is 7 and a symbol carries at least 48 bits. -/
def mapValid (m : List Nat) : Bool := m.all (· ≠ 7) && decide (48 ≤ bSym m)

end Sys2Proof.Machine
end

