-- ==== Sys2Proof/Machine/Modem.lean ====
section
/-!
DEFINITION. MDM (04_modem.md): modes and the channel plan, the loading maps in shared SRAM, the check of a transmit request,
receive channels up to the header, the sounding buffer, and the commit of its shadow set.
-/
namespace Sys2Proof.Machine

/-! ### Modes and the channel plan (R109 to R113) -/

/-- The mode may be used in the band (R109): 0 MODE_OQ, 1 MODE_FSK, 2 MODE_OFDM, 3 MODE_SL. -/
def modeAllowed (b : Band) (mode : Nat) : Bool :=
  match b with
  | .sg => mode == 1 || mode == 2 || mode == 3
  | .g24 => mode == 0 || mode == 3

/-- Largest PSDU of a mode (R109). -/
def maxPsdu (mode : Nat) : Nat := if mode = 0 then 127 else 2047

/-- The mode defines the PARAM value (R113, MDM_SG_CHn_CFG). -/
def paramOk (mode param : Nat) : Bool :=
  match mode with
  | 1 => decide (param < 32)
  | 2 => decide (param < 8)
  | _ => param == 0

/-- Occupied width of a channel in hertz (R112). -/
def chanWidth (b : Band) (mode param : Nat) : Nat :=
  match mode with
  | 0 => 2000000
  | 1 => (match param % 4 with | 0 => 200000 | 1 => 400000 | 2 => 400000 | _ => 600000)
  | 2 => (match param % 4 with | 0 => 1200000 | 1 => 800000 | 2 => 400000 | _ => 200000)
  | _ => (match b with | .sg => 1200000 | .g24 => 2400000)

/-- MCS values of a MODE_OFDM option, first and last (R110). -/
def ofdmMcs (param : Nat) : Nat × Nat :=
  match param % 4 with | 0 => (0, 3) | 1 => (0, 5) | 2 => (1, 6) | _ => (2, 6)

/-- A channel of the shadow set: enabled, mode, PARAM and signed offset. -/
structure PlanChan where
  en     : Bool
  mode   : Nat
  param  : Nat
  offset : Int
deriving DecidableEq, Repr

/-- The shadow plan of a band. -/
def State.plan (s : State) (b : Band) : List PlanChan :=
  (List.range 8).map (fun n => { en := s.sh (MDM_CH_CFG_EN b n) == 1, mode := s.sh (MDM_CH_CFG_MODE b n),
                                 param := s.sh (MDM_CH_CFG_PARAM b n), offset := sInt 21 (s.sh (MDM_CH_FREQ_OFFSET b n)) })

/-- The channel does not lie within ±7.5 MHz of the window's centre (R113). -/
def PlanChan.outside (b : Band) (c : PlanChan) : Bool :=
  decide (7500000 * 4194304 < c.offset.natAbs * 40000000 + chanWidth b c.mode c.param * 2097152)

/-- Two channels overlap by more than a touch (R113). -/
def PlanChan.clash (b : Band) (x y : PlanChan) : Bool :=
  decide (2 * ((x.offset - y.offset).natAbs * 40000000) < (chanWidth b x.mode x.param + chanWidth b y.mode y.param) * 4194304)

/-- Two enabled channels of a list clash. -/
def planClash (b : Band) : List PlanChan → Bool
  | [] => false
  | c :: r => r.any (fun d => c.clash b d) || planClash b r

/-- The status of a commit of MDM (R113, R151). -/
def State.mdmCommitStatus (s : State) : Nat :=
  let on := fun b : Band => (s.plan b).filter (fun c => c.en)
  let bad := fun b : Band => (on b).any (fun c => !modeAllowed b c.mode || !paramOk c.mode c.param)
  let mis := fun b : Band => (on b).any (fun c => c.outside b) || planClash b (on b)
  let base := s.sh MDM_SBUF_BASE_BASE * 512
  let size := s.sh MDM_SBUF_SIZE_SIZE
  let map := s.sh MDM_MAPBASE_BASE * 0x20000
  let thr := [s.sh MDM_SLTHR0_THR1, s.sh MDM_SLTHR0_THR2, s.sh MDM_SLTHR0_THR3, s.sh MDM_SLTHR0_THR4,
    s.sh MDM_SLTHR1_THR5, s.sh MDM_SLTHR1_THR6]
  let rising := (thr.zip (thr.drop 1)).all (fun p => decide (p.1 < p.2))
  firstStatus [(bad .sg || bad .g24 || decide (2048 < size) || decide (map < 0x10000000 ∨ 0x10200000 < map + 0x20000),
                stBadParam),
               (mis .sg || mis .g24 || decide (base < 0x10000000 ∨ 0x10200000 < base + size * 512) || !rising, stMismatch)]

/-- The channel's committed registers differ between two register sets. -/
def chanDiffers (old new : List (Nat × Word)) (b : Band) (n : Nat) : Bool :=
  let a := (MDM_CH_CFG_EN b n).addr
  let f := (MDM_CH_FREQ_OFFSET b n).addr
  decide (regGet old a &&& shMask a ≠ regGet new a &&& shMask a ∨ regGet old f &&& shMask f ≠ regGet new f &&& shMask f)

/-- A commit changed the channel (R115): its frame is abandoned, and it searches or is DISABLED. -/
def State.recommit (s : State) (b : Band) (n : Nat) : State :=
  let c := (s.mdm.chans.get b).getD n .atReset
  let s1 := if c.active then s.inc (MDM_CH_ERR_ABORT b n) else s
  let c' := { c with st := if c.active then .search else c.st }
  let r := s.rfcB b
  let cs := modifyNth (fun _ => c'.follow (s.rdB (MDM_CH_CFG_EN b n)) r) n (s1.mdm.chans.get b)
  { s1 with mdm := { s1.mdm with chans := s1.mdm.chans.set b cs } }

/-- The changed channels of a band after a commit. -/
def State.recommits (s : State) (old : List (Nat × Word)) (b : Band) : State :=
  ((List.range 8).filter (chanDiffers old s.regs b)).foldl (fun t n => t.recommit b n) s

/-- The ring is empty again (R149). -/
def State.emptySbuf (s : State) : State :=
  let s1 := ((s.wr MDM_SBUF_WR_WR 0).wr MDM_SBUF_RD0_RD 0).wr MDM_SBUF_RD1_RD 0
  { s1 with mdm := { s1.mdm with unread0 := 0, unread1 := 0 } }

/-- What an accepted commit of MDM does beside the copy; `old` is the register set before it (R115, R149). -/
def State.mdmCommitted (s : State) (old : List (Nat × Word)) : State :=
  let s1 := (s.recommits old .sg).recommits old .g24
  if rdF old MDM_SBUF_BASE_BASE ≠ s.rd MDM_SBUF_BASE_BASE ∨ rdF old MDM_SBUF_SIZE_SIZE ≠ s.rd MDM_SBUF_SIZE_SIZE then
    s1.emptySbuf
  else s1

/-! ### Loading maps (R136 to R138) -/

/-- Address of a map slot: direction 0 TX, 1 RX (R136). -/
def State.mapSlot (s : State) (nb : Nat) (b : Band) (dir k : Nat) : Nat :=
  s.rd MDM_MAPBASE_BASE * 0x20000 + (((nb * 2 + b.idx) * 2 + dir) * 2 + k) * 64

/-- A slot as MDM fetches it: MAPID and map, none when it is absent, and whether its map is invalid (R138). -/
def State.fetchSlot (s : State) (a : Nat) : Option (Nat × List Nat) × Bool :=
  let m := unpackMap (s.sramBytes (a + 2) 36)
  if s.sramNat a 1 ≠ 1 then (none, false)
  else if mapValid m then (some (s.sramNat (a + 1) 1 % 16, m), false)
  else (none, true)

/-- MAPERR counts and fires (R138, R150). DESIGN CHOICE (log entry 111): it fires also while the saturated count stays. -/
def State.mapErr (s : State) : State := (s.inc MDM_MAPERR_MAPERR).fire 67

/-- MAPERR counts for each true item. -/
def State.mapErrs (s : State) : List Bool → State
  | [] => s
  | e :: r => (if e then s.mapErr else s).mapErrs r

/-- The newest present TX slot towards a neighbour, and how often MAPERR counts in finding it (R138). -/
def State.txMap (s : State) (nb : Nat) (b : Band) : Option (Nat × List Nat) × List Bool :=
  let x := s.fetchSlot (s.mapSlot nb b 0 0)
  let y := s.fetchSlot (s.mapSlot nb b 0 1)
  match x.1, y.1 with
  | some p, some q =>
    if q.1 = (p.1 + 1) % 16 then (some q, [x.2, y.2])
    else if p.1 = (q.1 + 1) % 16 then (some p, [x.2, y.2])
    else (none, [x.2, y.2, true])
  | some p, none => (some p, [x.2, y.2])
  | none, q => (q, [x.2, y.2])

/-- The present RX slot of a neighbour with a MAPID (R138). -/
def State.rxMap (s : State) (nb : Nat) (b : Band) (mapid : Nat) : Option (List Nat) × List Bool :=
  let x := s.fetchSlot (s.mapSlot nb b 1 0)
  let y := s.fetchSlot (s.mapSlot nb b 1 1)
  ((([x.1, y.1].filterMap id).find? (fun p => p.1 == mapid)).map (·.2), [x.2, y.2])

/-- Writes a map slot in the order of R137; bytes 38 to 63 are written 0 (R136). -/
def State.writeSlot (s : State) (a mapid : Nat) (m : List Byte) : State :=
  ((s.sramWrite a [0]).sramWrite (a + 2) (m ++ List.replicate 26 0)).sramWrite a [1, BitVec.ofNat 8 (mapid % 16)]

/-- STATE = 0 is written to the 8 slots of an index (R165). -/
def State.clearSlots (s : State) (nb : Nat) : State :=
  (List.range 8).foldl (fun t i => t.sramWrite (t.mapSlot nb .sg 0 0 + i * 64) [0]) s

/-- Every slot of the map table is cleared (R136, R142). -/
def State.clearMaps (s : State) : State :=
  (List.range 2048).foldl (fun t i => t.sramWrite (t.mapSlot 0 .sg 0 0 + i * 64) (List.replicate 64 0)) s

/-- Which of the two slots of a record is not the newest: the absent one, else the older (R140, R160). -/
def olderSlot (x y : Option (Nat × List Nat)) : Nat :=
  match x, y with
  | some p, some q => if q.1 = (p.1 + 1) % 16 then 0 else 1
  | some _, none => 1
  | none, _ => 0

/-! ### The check of a transmit request (R143) -/

/-- The carrier stands on channel 11 to 26 of MODE_OQ (R110), to one unit of the frequency word. -/
def onOqGrid (w : Nat) : Bool :=
  (List.range 16).any (fun k => decide ((w : Int) - (freqWord (2405000000 + 5000000 * k) : Nat) ∈ [-1, 0, 1]))

/-- What MDM is asked to send (R143). -/
structure TxReq where
  b       : Band
  mode    : Nat
  param   : Nat
  /-- PSDU length, and LEN of the descriptor. -/
  psdu    : Nat
  len     : Nat
  short   : Bool
  mapsel  : Bool
  /-- Destination neighbour; none for a broadcast frame. -/
  nb      : Option Nat
  /-- Frequency word of the calibration entry. -/
  word    : Nat
  /-- MODE_FSK: data whitening, preamble octets, the 4-byte FCS type; MODE_OFDM: the MCS. -/
  white   : Bool
  octets  : Nat
  fcs32   : Bool
  mcs     : Nat
deriving DecidableEq, Repr

/-- R110 lists the options of the request. -/
def TxReq.listed (r : TxReq) : Bool :=
  match r.mode with
  | 0 => onOqGrid r.word && !r.fcs32
  | 1 => decide (4 ≤ r.octets ∧ r.octets ≤ 1000)
  | 2 => decide ((ofdmMcs r.param).1 ≤ r.mcs ∧ r.mcs ≤ (ofdmMcs r.param).2)
  | _ => !r.fcs32

/-- The status MDM gives a request (R143). -/
def State.txCheck (s : State) (r : TxReq) : Nat :=
  let sl := r.mode == 3
  let noMap := sl && r.mapsel && (match r.nb with | some n => ((s.txMap n r.b).1).isNone | none => true)
  let noOfs := sl && r.short && ((match r.nb with | some n => !(s.offset n).set | none => true) ||
    s.rd MER_STAT_STATE != 2)
  firstStatus [(decide (maxPsdu r.mode < r.psdu), stBadLength), (noMap || noOfs, stBadState),
               (!modeAllowed r.b r.mode || !paramOk r.mode r.param || !r.listed, stBadParam), (r.len == 0, stOkEmpty)]

/-! ### Receive channels (R114 to R116) -/

/-- Channel `n` of the band. -/
def State.chan (s : State) (b : Band) (n : Nat) : Chan := (s.mdm.chans.get b).getD n .atReset

/-- Replaces channel `n` of the band. -/
def State.setChan (s : State) (b : Band) (n : Nat) (c : Chan) : State :=
  { s with mdm := { s.mdm with chans := s.mdm.chans.set b (modifyNth (fun _ => c) n (s.mdm.chans.get b)) } }

/-- Mode of a channel in the active set. -/
def State.chanMode (s : State) (b : Band) (n : Nat) : Nat := s.rd (MDM_CH_CFG_MODE b n)

/-- The centre word of a channel (R112). -/
def State.chanWord (s : State) (b : Band) (n : Nat) : Int :=
  ((s.rfc.cal b (s.rxwin b)).freq : Int) + sInt 21 (s.rd (MDM_CH_FREQ_OFFSET b n))

/-- The equaliser of a channel's mode at a preamble detection, when it is enabled (R144). -/
def State.dfeOf (s : State) (mode : Nat) : Option Dfe :=
  if (mode = 0 ∧ s.rdB MDM_DFE_G24EN) ∨ (mode = 1 ∧ s.rdB MDM_DFE_SGEN) then some (Dfe.fresh (s.rd MDM_DFE_MU)) else none

/-- A carrier offset lies within two tone spacings of the derotator start (R125): `cfo` and `derot` in 1/256 ppm. -/
def State.shortReach (s : State) (b : Band) (n : Nat) (cfo derot : Int) : Bool :=
  let f := (s.chanWord b n).toNat
  decide ((cfo - derot).natAbs * f * 40000000 * 3 ≤ (match b with | .sg => 62500 | .g24 => 125000) * 256000000 * 4194304)

/-- The range of carrier offset in 1/256 ppm over which a mode acquires a full or standard preamble on a channel with a frequency
word (R125, R560): a tolerance in 1/512 ppm, doubled. -/
def acquireRange (mode param word : Nat) : Nat :=
  match mode with
  | 0 => 80 * 256
  | 3 => 60 * 256
  | _ => Config.stdTolerance mode param word

/-- The channel acquires a preamble of the form `short` at a carrier offset (R110, R125, R560): a full preamble of MODE_SL within
±60 ppm of the channel frequency, a compatibility mode within its range around the derotator start, MODE_OQ on channels 11 to 26 alone. -/
def State.acquires (s : State) (b : Band) (n : Nat) (short : Bool) (cfo derot : Int) : Bool :=
  let mode := s.chanMode b n
  let r := acquireRange mode (s.rd (MDM_CH_CFG_PARAM b n)) (s.chanWord b n).toNat
  if short then mode == 3 && s.shortReach b n cfo derot
  else if mode = 3 then decide (cfo.natAbs ≤ r)
  else decide ((cfo - derot).natAbs ≤ r) && (mode != 0 || onOqGrid (s.chanWord b n).toNat)

/-- The windows open on the slot have heard a preamble (R207). -/
def State.windowSeen (s : State) (b : Band) (n : Nat) : State :=
  let h := s.shpB b
  s.setShp b { h with wins := h.wins.map (fun w =>
    if w.slot = n ∧ !merAfter s.mer.now (merAdd w.te w.guard) then { w with seen := true } else w) }

/-- The reception on channel `n` has ended: the preamble that an open window heard there stands for a contact only if one has come
(R207). -/
def State.windowUnheard (s : State) (b : Band) (n : Nat) : State :=
  let h := s.shpB b
  s.setShp b { h with wins := h.wins.map (fun w => if w.slot = n then { w with seen := false } else w) }

/-- The awaited acknowledgement's preamble (R173). -/
def State.ackSeen (s : State) (b : Band) : State :=
  let m := s.macB b
  match m.att with
  | some a => if a.waiting then s.setMac b { m with att := some { a with seen := true } } else s
  | none => s

/-- PREAMBLE_DETECT (R115, R125, R560): at TSTAMP `t` the correlator output of channel `n` stands `metric` (0.25 dB) above the
noise floor, the preamble has the short form or not, and its carrier lies `cfo` (1/256 ppm) off. -/
def execPreambleDetect (b : Band) (n : Fin 8) (t metric : Nat) (short : Bool) (cfo : Int) (s : State) :
    Host.Outcome State Fault Refusal :=
  let s0 := s.advanceTo t
  let c := s0.chan b n
  if c.st = .search ∧ s0.rd (MDM_CH_CFG_THR b n) < metric ∧ s0.acquires b n short cfo c.derot then
    let mode := s0.rd (RFC_DIV_MODE b)
    let c' := { c with st := if mode = 0 then .select else .sync, det := s0.mer.tstamp, short := short,
                       aerialB := mode == 2, dfe := s0.dfeOf (s0.chanMode b n), map := none, noMap := false, fcs32 := false,
                       len := 0, mapid := 0, rate := 0, seed := 0, keys := [] }
    .next ((((s0.setChan b n c').inc (MDM_CH_CNT_DET b n)).windowSeen b n).ackSeen b)
  else .next s0

/-- B wins against A raised by BIAS dB (R98): the sums are energies, so BIAS dB is a factor of 10^(BIAS/10). The comparison
of the tenth powers is exact. -/
def biasWins (sumA sumB : Nat) (bias : Int) : Option Bool :=
  let l := if 0 ≤ bias then sumB ^ 10 else sumB ^ 10 * 10 ^ bias.natAbs
  let r := if 0 ≤ bias then sumA ^ 10 * 10 ^ bias.natAbs else sumA ^ 10
  if r < l then some true else if l < r then some false else none

/-- ANTENNA_SELECT (R98): the two sums of squared correlator output, 32 µs after detection. -/
def execAntennaSelect (b : Band) (n : Fin 8) (sumA sumB : Nat) (s : State) : Host.Outcome State Fault Refusal :=
  let c := s.chan b n
  if c.st = .select then
    let s0 := s.advanceTo (c.det + 32 * usTclk)
    let w := (biasWins sumA sumB (sInt 4 (s.rd (RFC_DIV_BIAS b)))).getD (c.lastWon.getD false)
    .next (s0.setChan b n { c with st := .sync, aerialB := w })
  else .next s

/-- PREAMBLE_COMPLETE (R115, R117, R144): the start of the PHR reaches the pad, and the known symbols of preamble and SFD have adapted
the equaliser. -/
def execPreambleComplete (b : Band) (n : Fin 8) (p : PreEnd) (s : State) : Host.Outcome State Fault Refusal :=
  let c := s.chan b n
  if c.st = .sync then
    let s0 := s.advanceTo p.ref
    .next (s0.setChan b n { c.adapted p.train with st := .header, refTs := p.ref, refMer := s0.merAt p.ref })
  else .next s

/-- SYNC_TIMEOUT (R115): the channel searches again, and nothing is reported. -/
def execSyncTimeout (b : Band) (n : Fin 8) (s : State) : Host.Outcome State Fault Refusal :=
  let c := s.chan b n
  if c.st = .sync then .next ((s.setChan b n { c with st := .search }).windowUnheard b n) else .next s

/-- A header error on a channel (R111, R115). -/
def State.headerError (s : State) (b : Band) (n : Nat) : State :=
  (((s.setChan b n { s.chan b n with st := .search }).windowUnheard b n).inc (MDM_CH_ERR_HDRERR b n)).fire 66

/-- The neighbour that the window open on the slot names (R138); of two windows that overlap there, the one opened last. -/
def State.winNb (s : State) (b : Band) (n : Nat) : Option Nat :=
  ((s.shpB b).wins.filter (fun w => w.slot == n)).getLast?.map (·.nb)

/-- A valid MODE_SL header: the map of the frame is fetched (R138). -/
def State.slHeader (s : State) (b : Band) (n : Nat) (h : BitVec 48) : State :=
  let c := s.chan b n
  let c' := { c with st := .payload, keys := s.cip.slots, len := hdrField h 11 11, rate := hdrField h 3 2, seed := hdrField h 22 7,
                     mapid := if hdrField h 5 2 = 0 then 0 else hdrField h 7 4 }
  if hdrField h 5 2 = 0 then s.setChan b n { c' with map := none }
  else
    let f := match s.winNb b n with
      | some nb => s.rxMap nb b (hdrField h 7 4)
      | none => (none, [])
    let s1 := s.mapErrs f.2
    match f.1 with
    | some m => s1.setChan b n { c' with map := some m }
    | none => ((s1.setChan b n { c' with noMap := true }).inc MDM_MAPERR_MAPMISS).fire 67

/-- HEADER_DECODE (R111, R115, R126, R138). -/
def execHeaderDecode (b : Band) (n : Fin 8) (h : PhyHdr) (s : State) : Host.Outcome State Fault Refusal :=
  let c := s.chan b n
  let mode := s.chanMode b n
  if c.st ≠ .header then .next s
  else
    match h with
    | .sl w =>
      if mode ≠ 3 then .next s
      else if hdrBad w c.short then .next (s.headerError b n)
      else .next (s.slHeader b n w)
    | .std len mcs ms f32 =>
      let rng := ofdmMcs (s.rd (MDM_CH_CFG_PARAM b n))
      if mode = 3 ∨ maxPsdu mode < len then .next s
      else if (mode = 1 ∧ ms) ∨ (mode = 2 ∧ (mcs < rng.1 ∨ rng.2 < mcs)) then .next (s.headerError b n)
      else .next (s.setChan b n { c with st := .payload, keys := s.cip.slots, len := len, mapid := if mode = 2 then mcs else 0, rate := 0,
                                              fcs32 := f32 && (mode == 1 || mode == 2) })

/-! ### The sounding buffer (R145 to R148) -/

/-- Every enabled reader has passed the place of the next record (R148). -/
def State.sbufFree (s : State) : Bool :=
  let size := s.rd MDM_SBUF_SIZE_SIZE
  !(s.rdB MDM_SBUF_RD0_EN && size ≤ s.mdm.unread0) && !(s.rdB MDM_SBUF_RD1_EN && size ≤ s.mdm.unread1)

/-- A write to MDM_SBUF_RD0 (`k` = 0) or MDM_SBUF_RD1: an index outside the ring is ignored (R148). DESIGN CHOICE (log
entry 110): an index equal to WR means that the reader has passed every record, also while the ring is full. -/
def State.writeSbufRd (s : State) (k : Nat) (v : Word) : State :=
  let size := s.rd MDM_SBUF_SIZE_SIZE
  let rd := (MDM_SBUF_RD0_RD).of v
  if size ≤ rd then s
  else
    let left := (s.rd MDM_SBUF_WR_WR + size - rd) % size
    let s1 := s.plainWrite (if k = 0 then MDM_SBUF_RD0_RD.addr else MDM_SBUF_RD1_RD.addr) v
    { s1 with mdm := if k = 0 then { s1.mdm with unread0 := left } else { s1.mdm with unread1 := left } }

/-- Records that a reader has not passed once `wr` is the place of the next record: one more for an enabled reader; a disabled one
holds no place, and its index alone tells (R148). -/
def unreadNext (en : Bool) (old wr rd size : Nat) : Nat := if en then old + 1 else (wr + size - rd) % size

/-- Writes a record with its SEQ to the ring, or drops it when the place is not free (R148). -/
def State.writeRecordRing (s : State) (bytes : List Byte) : State :=
  let size := s.rd MDM_SBUF_SIZE_SIZE
  if size = 0 then s
  else if s.sbufFree then
    let wr := s.rd MDM_SBUF_WR_WR
    let a := s.rd MDM_SBUF_BASE_BASE * 512 + wr * 512
    let s1 := s.sramWrite a (bytes.take 12 ++ natLE 2 s.mdm.recs ++ bytes.drop 14)
    let next := (wr + 1) % size
    let u0 := unreadNext (s.rdB MDM_SBUF_RD0_EN) s.mdm.unread0 next (s.rd MDM_SBUF_RD0_RD) size
    let u1 := unreadNext (s.rdB MDM_SBUF_RD1_EN) s.mdm.unread1 next (s.rd MDM_SBUF_RD1_RD) size
    (({ s1 with mdm := { s1.mdm with recs := (s1.mdm.recs + 1) % 65536, unread0 := u0, unread1 := u1 } } : State).wr MDM_SBUF_WR_WR
      next).fire 64
  else (s.inc MDM_SBUF_DROP_DROP).fire 65

/-- The map that the frame on a channel uses: the one latched, or the uniform map (R138). -/
def Chan.loading (c : Chan) : List Nat := c.map.getD uniformMap

/-- The payload symbols of a MODE_SL frame: the points of its decoded bits with the received values (R146, R559). -/
def Chan.payload (c : Chan) (m : RxMeas) : List (List (Int × Int) × List (Int × Int)) :=
  let psdu := (List.range c.len).map (fun i => m.psdu.getD i 0)
  (modPoints c.loading (nSym c.len c.rate c.loading) (filledBits psdu c.rate c.seed c.loading)).zip m.rx

/-- The SNR bytes of the 96 data tones of a MODE_SL frame that LDPC has decoded (R146). -/
def Chan.toneSnrs (c : Chan) (m : RxMeas) : List Nat :=
  let hs := ltsSums m.lts
  let syms := c.payload m
  (List.range 96).map (fun d =>
    toneSnr m.lts.length (hs.getD d (0, 0)) (syms.map (fun q => (q.1.getD d (0, 0), q.2.getD d (0, 0)))))

/-- The SNR byte of a frame of mode `mode` on the channel (R559); `fec` tells that the payload failed. -/
def Chan.snrByte (c : Chan) (mode : Nat) (m : RxMeas) (fec : Bool) : Nat :=
  if fec then 255
  else if mode = 3 then
    slSnr m.lts.length (ltsSums m.lts) ((List.range 96).filter (fun d => c.loading.getD d 0 != 0)) (c.payload m)
  else
    match c.dfe with
    | some e => pairSnr ((m.phr.foldl Dfe.adapt e).pairs m.eq)
    | none => pairSnr m.pts

/-- The bytes of a record as it stands at the end of the frame: NB, NBVALID and the accepted bit are 0 and SEQ is open
(R145, R146). -/
def recordBytes (b : Band) (n : Nat) (c : Chan) (m : RxMeas) (fec : Bool) : List Byte :=
  let h := estimates m.lts (rxCorrection b c.aerialB m.gain)
  natLE 4 (merCycle c.refMer) ++ natLE 2 (merPhase c.refMer) ++
  [0, BitVec.ofNat 8 (b.idx + 2 * n + 16 * b2n c.aerialB + 128 * b2n c.short),
   BitVec.ofNat 8 (m.gain % 16 + 16 * c.mapid), m.rssi, BitVec.ofNat 8 (c.snrByte 3 m fec), 0, 0, 0, BitVec.ofInt 8 h.2, 0] ++
  h.1.flatMap (fun p => natLE 2 (intBits 16 p.1) ++ natLE 2 (intBits 16 p.2)) ++
  (if fec then List.replicate 96 0xFF else (c.toneSnrs m).map (BitVec.ofNat 8)) ++
  List.replicate 16 0

/-- The record with the sender and MAC's decision filled in (R145). -/
def recordWith (r : List Byte) (nb : Option Nat) (accepted : Bool) : List Byte :=
  let old := (r.getD 7 0).toNat
  let f := old / 128 * 128 + 64 * b2n accepted + 32 * b2n nb.isSome + old % 32
  r.take 6 ++ [BitVec.ofNat 8 (nb.getD 0), BitVec.ofNat 8 f] ++ r.drop 8

/-- The receive report (R118, R559): `fec` tells that the payload failed. -/
def reportBytes (b : Band) (n mode : Nat) (c : Chan) (m : RxMeas) (fec : Bool) (divMode : Nat) : List Byte :=
  natLE 8 c.refTs ++
  [BitVec.ofNat 8 (n + 8 * b.idx + 16 * mode + 64 * b2n c.aerialB + 128 * b2n c.short),
   if divMode = 2 then 0x80 else m.metricA, if divMode = 1 then 0x80 else m.metricB, m.rssi] ++
  natLE 2 (intBits 16 m.cfo) ++
  [BitVec.ofNat 8 (c.snrByte mode m fec),
   BitVec.ofNat 8 (b2n fec + 16 * (if 2 ≤ mode then c.mapid else 0))]

/-- The per-tone means of a link after an accepted MODE_SL frame (R139): A_d + (snr_d − A_d) / 2^LAVG. DESIGN CHOICE (log
entry 108): the quotient is rounded to the nearest, halves away from zero; R139 gives no rounding. -/
def meansNext (lavg : Nat) (old snrs : List Nat) : List Nat :=
  (List.range 96).map (fun d =>
    let a := old.getD d 0
    let v := snrs.getD d 255
    if 255 ≤ v then a else ((a : Int) + roundDiv ((v : Int) - a) (2 ^ lavg)).toNat)

/-- The link-sequencing firmware on E0/E1 takes the SNR fields of an accepted frame's record (R139). -/
def State.takeSnrs (s : State) (nb : Nat) (b : Band) (snrs : List Nat) : State :=
  let k := nb * 2 + b.idx
  let old := (s.mdm.means.lookup k).getD []
  let new := (k, meansNext (s.rd MDM_SLHOLD_LAVG) old snrs)
  { s with mdm := { s.mdm with means := new :: s.mdm.means.filter (fun p => p.1 ≠ k) } }

/-- E0/E1 executes its firmware. -/
def State.e01Runs (s : State) : Bool := (s.eng 0).st == .run || (s.eng 0).st == .wait

/-- Reader 1 takes the record at the place that it reads next (R139, R148). -/
def State.readerOne (s : State) : State :=
  let size := s.rd MDM_SBUF_SIZE_SIZE
  let rd := s.rd MDM_SBUF_RD1_RD
  let r := s.sramBytes (s.rd MDM_SBUF_BASE_BASE * 512 + rd * 512) 512
  let fl := (r.getD 7 0).toNat
  let s1 := if fl / 32 % 4 = 3 then
      s.takeSnrs (r.getD 6 0).toNat (if fl % 2 = 0 then .sg else .g24) (((r.drop 400).take 96).map (fun v : Byte => v.toNat))
    else s
  ({ s1 with mdm := { s1.mdm with unread1 := s1.mdm.unread1 - 1 } } : State).wr MDM_SBUF_RD1_RD ((rd + 1) % size)

/-- Reader 1 takes `k` records in ring order. -/
def State.readerOnes : Nat → State → State
  | 0, s => s
  | k + 1, s => State.readerOnes k s.readerOne

/-- A record goes to the ring, and E0/E1 reads what stands there unread: at once, while it executes (DESIGN CHOICE, log entry 93: the
spec names no instant). -/
def State.exportRecord (s : State) (bytes : List Byte) : State :=
  let s1 := s.writeRecordRing bytes
  if s1.e01Runs ∧ s1.rdB MDM_SBUF_RD1_EN ∧ s1.rd MDM_SBUF_SIZE_SIZE ≠ 0 then State.readerOnes s1.mdm.unread1 s1 else s1

end Sys2Proof.Machine
end

