-- ==== Sys2Proof/Machine/LinkBase.lean ====
section
/-!
DEFINITION. What MAC keeps (05_link_layer.md): the neighbour table, contacts and link states (R185, R186), the duty-cycle
accounts (R187 to R189), the hop sequence (R191), airtimes, and the receive ring (R181).
-/
namespace Sys2Proof.Machine

/-! ### Neighbour table (R164, R165) -/

/-- An entry as a cold start leaves it. -/
def Nbr.empty : Nbr :=
  { valid := false, parent := false, cls := 0, key1 := 0, key0 := 0, short := 0xFFFE, eui := 0, euiNew := 0, ackPwr := 0,
    link := .normal, missed := 0, last := 0, err := 0, dups := 0,
    win := { valid := false, top := 0, bits := 0, ctr := 0 }, txSeq := 0 }

/-- Entry `i` of the neighbour table. -/
def State.nbr (s : State) (i : Nat) : Nbr := spGet (fun _ => Nbr.empty) s.mac.nbrs i

/-- Replaces entry `i`; a change of the state of a valid link makes a report of the mesh firmware due (R249). -/
def State.putNbr (s : State) (i : Nat) (n : Nbr) : State :=
  { s with mac := { s.mac with nbrs := spSet (fun _ => Nbr.empty) s.mac.nbrs i n },
           mesh := { s.mesh with reportDue := s.mesh.reportDue || (n.valid && n.link != (s.nbr i).link) } }

/-- The valid entry of a sender: by short address or by extended address, the lower index first (R164). -/
def State.nbrOf (s : State) (src : Nat × Bool) : Option Nat :=
  (s.mac.nbrs.find? (fun p => p.2.valid && (if src.2 then p.2.eui == src.1 else p.2.short == src.1))).map (·.1)

/-- The valid PARENT entry, the lowest index first. -/
def State.parentIdx (s : State) : Option Nat := (s.mac.nbrs.find? (fun p => p.2.valid && p.2.parent)).map (·.1)

/-- The RAM time of a contact: the present Meridian time. -/
def Nbr.touch (n : Nbr) (t : Nat) : Nbr := { n with link := .normal, missed := 0, last := t }

/-- Every baseline of the links on neighbour index `i` is EMPTY (R261). -/
def State.sndDropIndex (s : State) (i : Nat) : State :=
  { s with snd := { s.snd with links := s.snd.links.map (fun l =>
      if l.nb = i then { l with a := .fresh, b := .fresh } else l) } }

/-- What the firmware keeps about the neighbour of entry `i` is gone: the mean SNR of its frames (R249), and the tone means and the map
update of the link (R139, R140). -/
def State.forgetNbr (s : State) (i : Nat) : State :=
  { s with mesh := { s.mesh with newNbrs := i :: s.mesh.newNbrs, snrs := s.mesh.snrs.filter (fun p => p.1 ≠ i) },
           mdm := { s.mdm with means := s.mdm.means.filter (fun p => p.1 / 2 ≠ i),
                               updates := s.mdm.updates.filter (fun p => p.1 / 2 ≠ i) } }

/-- A write to MAC_NBCFG for entry `i` (R165): a new identity reuses the index, and every baseline of it is EMPTY (R261, log entry 113); a LOST
entry made valid is NORMAL again. -/
def State.nbWrite (s : State) (i : Nat) (v : Word) : State :=
  let n := s.nbr i
  let w := v.toNat
  let short := w % 65536
  let valid := v.getLsbD 31
  let base := { n with valid := valid, parent := v.getLsbD 30, cls := w / 2 ^ 28 % 4, key1 := w / 2 ^ 24 % 16,
                       key0 := w / 2 ^ 20 % 16, short := short, eui := n.euiNew }
  if valid ∧ (!n.valid ∨ n.short ≠ short ∨ n.eui ≠ n.euiNew) then
    let s1 := s.putNbr i ({ base with win := { valid := false, top := 0, bits := 0, ctr := 0 } } |>.touch s.mer.now)
    (((s1.putOffset i { s1.offset i with ofs := 0, set := false, corr := false }).clearSlots i).forgetNbr i).sndDropIndex i
  else if valid ∧ n.link = .lost then s.putNbr i (base.touch s.mer.now)
  else s.putNbr i base

/-! ### Contacts and link states (R185, R186) -/

/-- Link state by its code. -/
def LinkState.code : LinkState → Nat
  | .normal => 0 | .recovery => 1 | .listen => 2 | .lost => 3

/-- The guard of a scheduled contact with entry `i` at Meridian time `t` (R70, R73). -/
def State.linkGuard (s : State) (i t : Nat) : Nat :=
  let n := s.nbr i
  if n.link = .normal then s.classGuard n.cls else s.recoveryGuard n.cls (merDiff t n.last).toNat

/-- The bands stop listening continuously, and reception follows. -/
def State.endListen (s : State) : State :=
  let s1 := (s.setMac .sg { s.macB .sg with listen := none }).setMac .g24 { s.macB .g24 with listen := none }
  s1.updateRxs

/-- The last contact of entry `i` is renewed, whatever its link state (R183). -/
def State.renewLast (s : State) (i : Nat) : State := s.putNbr i { s.nbr i with last := s.mer.now }

/-- A contact with entry `i` (R186). -/
def State.contact (s : State) (i : Nat) : State :=
  let n := s.nbr i
  if n.link = .lost then s
  else
    let s1 := s.putNbr i (n.touch s.mer.now)
    if n.link = .listen then s1.endListen else s1

/-- Entry `i` becomes LOST (R186): LINKLOST fires, its frames complete, and a parent's PARTNER_LOST reaches MER (R52). -/
def State.loseLink (s : State) (i : Nat) : State :=
  let n := s.nbr i
  let s1 := ((s.putNbr i { n with link := .lost }).fire 84).completeLost i
  if n.parent ∧ s.rd MER_CFG_SOURCE = 3 ∧ (s.rd MER_STAT_STATE = 2 ∨ s.rd MER_STAT_STATE = 3) then
    ((if s.rd MER_STAT_STATE = 2 then s1.setMer 3 else s1).setMer 1).followWalk true
  else s1

/-- Entry `i` enters RECOVERY (R186): LINKREC fires, and a worker whose parent link it is leaves LOCKED (R52). -/
def State.recoverLink (s : State) (i : Nat) : State :=
  let s1 := s.fire 83
  if (s.nbr i).parent ∧ s.rd MER_CFG_SOURCE = 3 ∧ s.rd MER_STAT_STATE = 2 then s1.setMer 3 else s1

/-- A scheduled contact with entry `i` is missed; `wide` tells that its guard reached 4,096 (R186). -/
def State.missContact (s : State) (i : Nat) (wide : Bool) : State :=
  let n := s.nbr i
  if !n.valid ∨ n.link = .lost then s
  else
    let n' := { n with missed := min (n.missed + 1) 255 }
    match n.link with
    | .normal => if 3 ≤ n'.missed then (s.putNbr i { n' with link := .recovery }).recoverLink i else s.putNbr i n'
    | .recovery => if wide ∧ !n.parent then (s.putNbr i n').loseLink i else s.putNbr i n'
    | .listen => s.putNbr i n'
    | .lost => s

/-! ### Duty-cycle accounts (R187 to R189) -/

/-- Sum of the bins of an accumulator given as (count, value) runs. -/
def binSum (l : List (Nat × Nat)) : Nat := (l.map (fun p => p.1 * p.2)).sum

/-- Adds `u` units to the current bin, the last one. -/
def binAdd (u : Nat) : List (Nat × Nat) → List (Nat × Nat)
  | [] => [(1, u)]
  | [(c, v)] => if c ≤ 1 then [(1, v + u)] else [(c - 1, v), (1, v + u)]
  | p :: q :: r => p :: binAdd u (q :: r)

/-- Takes the oldest bin away. -/
def binDrop : List (Nat × Nat) → List (Nat × Nat)
  | [] => []
  | (c, v) :: r => if c ≤ 1 then r else (c - 1, v) :: r

/-- Appends a bin at 0. -/
def binPush : List (Nat × Nat) → List (Nat × Nat)
  | [] => [(1, 0)]
  | [(c, v)] => if v = 0 then [(c + 1, 0)] else [(c, v), (1, 0)]
  | p :: q :: r => p :: binPush (q :: r)

/-- `k` second boundaries pass (R187). -/
def binRetire : Nat → List (Nat × Nat) → List (Nat × Nat)
  | 0, l => l
  | k + 1, l => binRetire k (binPush (binDrop l))

/-- The DCSUM registers of a band show the accumulators. -/
def State.syncSums (s : State) (b : Band) : State :=
  (List.range 8).foldl (fun t n => t.wr (MAC_DCSUM_SUM b n) (binSum ((s.macB b).bins.getD n []))) s

/-- Every accumulator of the band is preloaded (R189). -/
def State.preloadBand (s : State) (b : Band) : State :=
  let bins := preloadBins ((List.range 8).map (fun n => s.rd (MAC_DCLIM_LIMIT b n))) (s.rd MAC_DCCFG_PRELOAD)
  (s.setMac b { s.macB b with bins := bins }).syncSums b

/-- Every accumulator of both bands is preloaded (R189). -/
def State.preloadDuty (s : State) : State := (s.preloadBand .sg).preloadBand .g24

/-- The channel of width `w` hertz around frequency word `f` shares more than a point with [LO, HI) (R187). -/
def overlaps (f w lo hi : Nat) : Bool :=
  let c := 2 * f * 40000000
  let h := w * 4194304
  decide (c < hi * 50000 * 2 * 4194304 + h ∧ lo * 50000 * 2 * 4194304 < c + h)

/-- The enabled accumulators of the band that a width around a frequency word overlaps (R187). -/
def State.accsOf (s : State) (b : Band) (f w : Nat) : List Nat :=
  (List.range 8).filter (fun n => s.rdB (MAC_DCLIM_EN b n) &&
    overlaps f w (s.rd (MAC_DCSUB_LO b n)) (s.rd (MAC_DCSUB_HI b n)))

/-- The cap of accumulator `n`: acknowledgements and beacons against LIMIT, other frames against LIMIT less the reserve
(R188). -/
def State.dutyCap (s : State) (b : Band) (n : Nat) (priority : Bool) : Nat :=
  let l := s.rd (MAC_DCLIM_LIMIT b n)
  l * 225 - (if priority then 0 else min (s.rd (MAC_DCRES_RESERVE b)) l * 225)

/-- The check of R188 refuses `u` units on the accumulators `set`. -/
def State.dutyRefuses (s : State) (b : Band) (set : List Nat) (u : Nat) (priority : Bool) : Bool :=
  set.isEmpty || set.any (fun n => decide (s.dutyCap b n priority < binSum ((s.macB b).bins.getD n []) + u))

/-- The charge of R188 at the start of the ramp up. -/
def State.dutyCharge (s : State) (b : Band) (set : List Nat) (u : Nat) : State :=
  let m := s.macB b
  (s.setMac b { m with bins := set.foldl (fun l n => modifyNth (binAdd u) n l) m.bins }).syncSums b

/-- What the check of R188 finds of an on-time: the accumulators around the frequency word `f`, the units and the µs. -/
def State.dutyFor (s : State) (b : Band) (f w ramp air : Nat) : Duty :=
  { accs := s.accsOf b f w, units := ceilDiv (2 * ramp + air) (16 * usTclk), us := ceilDiv (2 * ramp + air) usTclk }

/-- DUTY_BIN_RETIRE (R187): one bin is retired for each second of TSTAMP that has passed. -/
def execDutyBinRetire (s : State) : Host.Outcome State Fault Refusal :=
  let s0 := if s.tclkOn then s.advanceTo ((s.mac.binSec + 1) * tclkHz) else s
  let now := s0.mer.tstamp / tclkHz
  let k := min (now - s0.mac.binSec) 3600
  let go := fun m : BandMac => { m with bins := m.bins.map (binRetire k) }
  let s1 : State := { s0 with mac := { s0.mac with binSec := max now s0.mac.binSec,
                                                   bands := { sg := go s0.mac.bands.sg, g24 := go s0.mac.bands.g24 } } }
  .next ((s1.syncSums .sg).syncSums .g24)

/-! ### Hopping (R191) -/

/-- The SG band hops. -/
def State.hopOn (s : State) (b : Band) : Bool := b == .sg && s.rdB MAC_HOP_EN

/-- Entries 64 to 127 that the masks `m0`, `m1` leave. -/
def hopEntries (m0 m1 : Nat) : List Nat :=
  ((List.range 64).filter (fun k => (if k < 32 then m0 / 2 ^ k else m1 / 2 ^ (k - 32)) % 2 == 0)).map (· + 64)

/-- The list L of R191 in the active set. -/
def State.hopList (s : State) : List Nat := hopEntries (s.rd MAC_HOPMASK0_MASK) (s.rd MAC_HOPMASK1_MASK)

/-- The hop entry of the slot that holds Meridian time `t`. -/
def State.hopEntry (s : State) (t : Nat) : Nat :=
  let l := s.hopList
  let m := l.length
  let i := (8 * merCycle t + merPhase t / 8192) % m
  l.getD ((37 * i + s.rd MAC_HOP_HOPOFS) % m) 64

/-- The calibration entry of a transmission at Meridian time `t`: the hop entry, or the one named. -/
def State.sendEntry (s : State) (b : Band) (e t : Nat) : Nat := if s.hopOn b then s.hopEntry t else e

/-- On-time that a hop slot may hold, in µs (R191). -/
def dwellMax : Nat := 1900

/-- The absolute number of the slot that holds TSTAMP `t`. -/
def State.slotAtTs (s : State) (t : Nat) : Nat := s.merAt t / 8192

/-- On-time charged so far to slot `n` (R191). -/
def BandMac.dwellOf (m : BandMac) (n : Nat) : Nat := if m.dwellSlot = n then m.dwell else 0

/-- The slot in which a turn that starts at TSTAMP `start` would begin its ramp up has no room for `us` more (R191). -/
def State.dwellRefuses (s : State) (b : Band) (start us : Nat) : Bool :=
  s.hopOn b && decide (dwellMax < (s.macB b).dwellOf (s.slotAtTs (start + 40 * usTclk)) + us)

/-! ### Airtimes -/

/-- The map of a frame: its TX map when MAPSEL is set and one is present, else the uniform map. -/
def State.frameMap (s : State) (b : Band) (mapsel : Bool) (nb : Option Nat) : List Nat :=
  if mapsel then
    match nb with
    | some n => (match (s.txMap n b).1 with | some m => m.2 | none => uniformMap)
    | none => uniformMap
  else uniformMap

/-- Airtime in TCLK cycles; of a compatibility mode the standard's, which the spec does not restate (log entry 24). -/
def airCycles (b : Band) (mode param : Nat) (short : Bool) (len rate : Nat) (map : List Nat) : Nat :=
  if mode = 3 then slAirtime b short len rate map * usTclk else Config.stdAirtime mode param len

/-- From the first preamble sample to the reference instant of R117, in TCLK cycles. -/
def preCycles (b : Band) (mode param : Nat) (short : Bool) : Nat :=
  if mode = 3 then slPreamble b short * usTclk else Config.stdPreamble mode param

/-- On-time RAMP + airtime + RAMP of a transmission in 16 µs units, rounded up (R187, R188). -/
def State.onUnits (s : State) (b : Band) (air : Nat) : Nat := ceilDiv (2 * s.rampUs b * usTclk + air) (16 * usTclk)

/-- On-time in µs, rounded up. -/
def State.onUs (s : State) (b : Band) (air : Nat) : Nat := ceilDiv (2 * s.rampUs b * usTclk + air) usTclk

/-- AIFS in microseconds (R175). -/
def aifsUs (mode : Nat) : Nat := if mode = 0 then 192 else 1000

/-- Bytes of an acknowledgement with its FCS (R161, R163). -/
def ackLen (own sec enh : Bool) : Nat := if own then (if sec then 12 else 8) else if enh then 9 else 5

/-- Airtime of an acknowledgement in TCLK cycles (R162). -/
def ackAir (b : Band) (mode param : Nat) (short own sec enh : Bool) : Nat :=
  airCycles b mode param short (ackLen own sec enh) 2 uniformMap

/-! ### Receive ring (R181) -/

/-- Bytes of a ring slot. -/
def State.slotSize (s : State) : Nat := [256, 512, 1024, 2112].getD (s.rd MAC_RXCFG_SLOTSZ) 2112

/-- Receptions accepted and not yet handed off. -/
def State.ringOwed (s : State) : Nat :=
  let n := fun m : BandMac => (m.rxs.filter (fun r => r.hand)).length
  n s.mac.bands.sg + n s.mac.bands.g24

/-- The ring has no place for one more frame beside those accepted and not yet written. -/
def State.ringFull (s : State) : Bool :=
  let c := s.rd MAC_RXCFG_COUNT
  c == 0 || decide (c ≤ (s.rd MAC_RXWR_WR + c - s.rd MAC_RXRD_RD) % c + s.ringOwed + 1)

/-- A link key slot as MAC may use it at Seal (`enc`) or Accept (R384): the key of the AES-128 that MAC always uses (R402). -/
def linkKeyOf (slots : List KeySlot) (slot : Nat) (enc : Bool) : Option (List Byte) :=
  let k := slots.getD slot .empty
  let bit := fun f : Field => (f.of (BitVec.ofNat 32 k.pol)) == 1
  if k.loaded && bit CIP_KPOL_LINK && (if enc then bit CIP_KPOL_ENC else bit CIP_KPOL_DEC) then some (k.key.take 16) else none

/-- The key of slot `slot` as it stands now. -/
def State.linkKey (s : State) (slot : Nat) (enc : Bool) : Option (List Byte) := linkKeyOf s.cip.slots slot enc

/-- CIP refuses a use of slot `slot` at Seal (R402): CIP_LASTERR records DENIED with owner 15, and KEYERR fires. -/
def State.sealKeyError (s : State) (slot : Nat) : State :=
  let r1 := wrF (wrF (wrF s.regs CIP_LASTERR_STATUS stDenied) CIP_LASTERR_OWNER 15) CIP_LASTERR_SLOT slot
  ({ s with regs := incF r1 CIP_LASTERR_COUNT } : State).fire 34

/-- The two passes of CIP disagree (R397): counted, fired and logged at tier `tier`. -/
def State.cipDisagree (s : State) (tier : Nat) : State :=
  ((s.inc CIP_CNT0_DCMISM).fire 33).fault { code := 7, region := 12, tier := tier, status := stFault }

/-- The next value of MAC_TXCTR is taken for a Seal (R157); CTRWARN fires when it reaches 0xFFF0_0000. -/
def State.takeCtr (s : State) : State :=
  let c := s.rd MAC_TXCTR_CTR + 1
  let s1 := s.wr MAC_TXCTR_CTR c
  if c = 0xFFF00000 then s1.fire 87 else s1

/-- The device's own EUI-64. -/
def ownEui : Nat := Config.eui64.toNat

end Sys2Proof.Machine
end

