-- ==== Sys2Proof/Machine/MeshBase.lean ====
section
/-!
DEFINITION. What the mesh firmware does with a received frame and with a lost parent (07_mesh_roles_and_startup.md): detachment
(R233), the return of a node (R251 to R253), and the candidates of a scan (R236).
-/
namespace Sys2Proof.Machine

/-- A little-endian number of `n` bytes at place `i` of a byte list. -/
def bytesAt (bs : List Byte) (i n : Nat) : Nat := leNat ((bs.drop i).take n)

/-- The device is a leaf (R2). -/
def State.isLeaf (s : State) : Bool := s.rd SYS_ROLE_ROLE == 2

/-- A worker is detached: its parent link is in LISTEN or LOST, or its parent's latest beacon carries HOLD (R233). -/
def State.isDetached (s : State) : Bool :=
  !s.isManager && (match s.parentIdx with
    | some p => (s.nbr p).link == .listen || (s.nbr p).link == .lost || s.mesh.parentHold
    | none => false)

/-- A worker that has joined begins again at R236, with REJOIN = 1 and its old address and rank (R251). -/
def State.beginRejoin (s : State) : State :=
  if s.isManager ∨ (s.mesh.phase ≠ .operational ∧ s.mesh.phase ≠ .joined) then s
  else
    ({ s with mesh := { s.mesh with phase := .listen, cands := [], tried := [], chosen := none, named := none, attempt := 0, fails := 0,
                                    rejoin := true, heard := false, oldShort := s.rd MAC_ADDR_SHORT, oldRank := s.mesh.rank } } : State).wr
      MAC_CFG_OPEN 1

/-- The parent link is LOST and the worker rejoins (R186, R251). -/
def State.loseParent (s : State) (i : Nat) : State :=
  let parent := (s.nbr i).parent
  let s1 := s.loseLink i
  if parent then s1.endListen.beginRejoin else s1

/-- A status code of R13 that the spec leaves open (log entry 3). -/
def State.freeStatus (s : State) : Nat := statusCodes.getD (s.freeBelow 23) 0

/-- A LEAVE with a status code as its reason (R249). -/
def leaveBytes (eui status : Nat) : List Byte := [0x13] ++ natLE 8 eui ++ [BitVec.ofNat 8 status]

/-- An authenticated beacon of the parent (R232, R233, R252): HOLD and the parent's rank; a rank above 16 makes the worker leave
and rejoin, with its rank until then as the old one; one that looks for another parent already has left. -/
def State.parentBeacon (s : State) (body : List Byte) : State :=
  if s.isManager ∨ body.length < 16 then s
  else
    let rank := bytesAt body 8 1 + 1
    let s1 : State := { s with mesh := { s.mesh with parentHold := bytesAt body 9 1 / 4 % 2 == 1 } }
    if rank ≤ 16 then { s1 with mesh := { s1.mesh with rank := rank } }
    else if s.mesh.phase ≠ .operational ∧ s.mesh.phase ≠ .joined then s1
    else
      let s2 := ({ s1 with mesh := { s1.mesh with owed := s1.mesh.owed ++ [(0, leaveBytes ownEui s1.freeStatus)] } } : State).took.beginRejoin
      { s2 with mesh := { s2.mesh with rank := rank } }

/-- A beacon heard by a device that looks for a parent (R236): any keeps a leaf awake (R246), the first open one begins the scan, and the scan keeps the latest
FLAGS, rank and times of each sender and the SNR of its beacons. -/
def State.candidate (s : State) (src : Nat) (body : List Byte) (ts stamp snr : Nat) : State :=
  let m := s.mesh
  if body.length < 16 ∨ (m.phase ≠ .listen ∧ m.phase ≠ .scan) then s
  else
    let flags := bytesAt body 9 1
    let phase := if m.phase = .listen ∧ flags % 2 = 1 then .scan else m.phase
    let since := if m.phase = .listen ∧ flags % 2 = 1 then merCycle s.mer.now else m.since
    if phase = .listen then { s with mesh := { m with heard := true } }
    else
      let old := (m.cands.find? (fun c => c.short == src)).getD
        { short := src, rank := 0, flags := 0, snr := 0, count := 0, ts := 0, mer := 0, inc := 0 }
      let new : Cand := { old with rank := bytesAt body 8 1, flags := flags,
                                   snr := if snr = 255 then old.snr else old.snr + snr,
                                   count := if snr = 255 then old.count else old.count + 1,
                                   ts := ts, mer := bytesAt body 0 4 * 65536 + stamp % 65536, inc := bytesAt body 4 4 }
      { s with mesh := { m with phase := phase, since := since, heard := true,
                                cands := m.cands.filter (fun c => c.short ≠ src) ++ [new] } }

end Sys2Proof.Machine
end

