-- ==== Sys2Proof/Machine/Zones.lean ====
section
/-!
DEFINITION. The zone detectors of SNS (08_sounding.md R269 to R272) and the duty targets that zones give the dimming outputs
(09_luminaire_io.md R287): the commands ZONE_INDEX_WRITE and ZONE_CFG_WRITE.
-/
namespace Sys2Proof.Machine

/-! ### Duty from a zone (R287) -/

/-- The target of dimming output `n`. -/
def State.dutyTarget (s : State) (n : Nat) : Nat :=
  if s.rdB (SNS_SZ_STAT_STATE (s.rd (SNS_PWM_ZCFG_ZONE n))) then s.rd (SNS_PWM_ZLVL_OCC n) else s.rd (SNS_PWM_ZLVL_VAC n)

/-- DUTY after one move by FADE towards `t`. -/
def fadeStep (d t fade : Nat) : Nat :=
  if fade = 0 then t else if d < t then min (d + fade) t else max (d - fade) t

/-- Dimming output `n` replaced. -/
def State.putPwm (s : State) (n : Nat) (p : Pwm) : State :=
  { s with sns := { s.sns with pwms := modifyNth (fun _ => p) n s.sns.pwms } }

/-- Dimming output `n`. -/
def State.pwm (s : State) (n : Nat) : Pwm := s.sns.pwms.getD n .atReset

/-- DUTY of output `n` becomes `d`. What it was before this TCLK cycle stays known, since a period that starts in the cycle latches that
(R284). -/
def State.setDuty (s : State) (n d : Nat) : State :=
  let p := s.pwm n
  let keep : Bool := match p.was with
    | some w => w.1 == s.tclk
    | none => false
  (s.wr (SNS_PWM_DUTY_DUTY n) d).putPwm n { p with was := if keep then p.was else some (s.tclk, s.rd (SNS_PWM_DUTY_DUTY n)) }

/-- DUTY of output `n` moves towards its target, once in a TCLK cycle; reaching it by a move fires FADEDONE (R287). -/
def State.moveDuty (s : State) (n : Nat) : State :=
  let d := s.rd (SNS_PWM_DUTY_DUTY n)
  let t := s.dutyTarget n
  if !s.rdB (SNS_PWM_ZCFG_ZEN n) ∨ (s.pwm n).moved = some s.tclk ∨ d = t then s
  else
    let d' := fadeStep d t (s.rd (SNS_PWM_ZCFG_FADE n))
    let s0 := s.setDuty n d'
    let s1 := s0.putPwm n { s0.pwm n with moved := some s.tclk }
    if d' = t then s1.fire 149 else s1

/-- The outputs that zone `z` drives move at its change (R287). -/
def State.zoneDuty (s : State) (z : Nat) : State :=
  ((List.range 4).filter (fun n => s.rd (SNS_PWM_ZCFG_ZONE n) == z)).foldl (fun t n => t.moveDuty n) s

/-! ### Detectors (R269, R270) -/

/-- STATE of zone `z` becomes `occ`, and OCC shows it. -/
def State.setZone (s : State) (z : Nat) (occ : Bool) : State :=
  let o := s.rd SNS_SZSUM_OCC
  let o' := if o / 2 ^ z % 2 = b2n occ then o else if occ then o + 2 ^ z else o - 2 ^ z
  (s.wr (SNS_SZ_STAT_STATE z) (b2n occ)).wr SNS_SZSUM_OCC o'

/-- STATE changes under R269: the source fires, and the outputs of the zone follow. -/
def State.zoneChange (s : State) (z : Nat) (occ : Bool) : State := ((s.setZone z occ).fire (152 + z)).zoneDuty z

/-- The table of R269 for a write that counts. -/
def State.detect (s : State) (z index : Nat) : State :=
  if s.rdB (SNS_SZ_STAT_STATE z) then
    if index ≤ s.rd (SNS_SZ_CFG_OFF z) then
      let h := s.rd (SNS_SZ_STAT_HELD z) + 1
      if s.rd (SNS_SZ_CFG_HOLD z) * 4 ≤ h then (s.wr (SNS_SZ_STAT_HELD z) 0).zoneChange z false
      else s.wr (SNS_SZ_STAT_HELD z) h
    else s.wr (SNS_SZ_STAT_HELD z) 0
  else if s.rd (SNS_SZ_CFG_ON z) ≤ index then
    let a := s.rd (SNS_SZ_STAT_ABOVE z) + 1
    if s.rd (SNS_SZ_CFG_ONCNT z) ≤ a then
      ((s.wr (SNS_SZ_STAT_ABOVE z) 0).wr (SNS_SZ_STAT_HELD z) 0).zoneChange z true
    else s.wr (SNS_SZ_STAT_ABOVE z) a
  else s.wr (SNS_SZ_STAT_ABOVE z) 0

/-- A write of `v` to SNS_SZz_IDX (R269, R270): only E2 writes it; SVR takes the index (R509). -/
def State.writeZoneIndex (s : State) (m : Master) (z : Nat) (v : Word) : State :=
  if !isE2 m then s
  else
    let same := !s.sns.fresh.getD z true && s.rd (SNS_SZ_IDX_CYCLE z) == (SNS_SZ_IDX_CYCLE z).of v
    let nodata := (SNS_SZ_IDX_NODATA z).of v == 1
    let s1 := (s.plainWrite (SNS_SZ_IDX_INDEX z).addr v).wr (SNS_SZ_AGE_AGE z) 0
    let s2 : State := { s1 with sns := { s1.sns with fresh := modifyNth (fun _ => false) z s1.sns.fresh } }
    let s3 := if nodata then s2 else s2.svrSample 2 z ((SNS_SZ_IDX_INDEX z).of v)
    if same || nodata || !s3.rdB (SNS_SZ_CFG_EN z) then s3 else s3.detect z ((SNS_SZ_IDX_INDEX z).of v)

/-- A write of `v` to SNS_SZz_CFG (R270). -/
def State.writeZoneCfg (s : State) (z : Nat) (v : Word) : State :=
  if ((SNS_SZ_CFG_EN z).of v = 1 ∧ (SNS_SZ_CFG_ONCNT z).of v = 0) ∨ (SNS_SZ_CFG_ON z).of v ≤ (SNS_SZ_CFG_OFF z).of v then
    s.wr SNS_SZSUM_CFGERR 1
  else
    let s1 := ((s.plainWrite (SNS_SZ_CFG_EN z).addr v).wr (SNS_SZ_STAT_ABOVE z) 0).wr (SNS_SZ_STAT_HELD z) 0
    let s2 : State := { s1 with sns := { s1.sns with fresh := modifyNth (fun _ => true) z s1.sns.fresh } }
    if (SNS_SZ_CFG_EN z).of v = 0 ∧ s2.rdB (SNS_SZ_STAT_STATE z) then (s2.setZone z false).zoneDuty z else s2

/-- ZONE_INDEX_WRITE (R269, R270). -/
def execZoneIndexWrite (m : Master) (z : Fin 8) (v : Word) (s : State) : Host.Outcome State Fault Refusal :=
  .next (s.writes m 17 (s.writeZoneIndex m z.val v))

/-- ZONE_CFG_WRITE (R270). -/
def execZoneCfgWrite (z : Fin 8) (v : Word) (s : State) : Host.Outcome State Fault Refusal := .next (s.writeZoneCfg z.val v)

/-- AGE of every zone counts a MER_CYCLE event (R272), and the fades of R287 go on. -/
def State.zonesCycle (s : State) : State :=
  let s1 := (List.range 8).foldl (fun t z => t.inc (SNS_SZ_AGE_AGE z)) s
  (List.range 4).foldl (fun t n => t.moveDuty n) s1

end Sys2Proof.Machine
end

