-- ==== Sys2Proof/Machine/Sounding.lean ====
section
/-!
DEFINITION. The Sounding library of E2 (08_sounding.md R256 to R268): shapes and deviations in fixed point, baselines, the close of a
cycle and the zone indices; and NEIGHBOUR_WRITE (R165).
-/
namespace Sys2Proof.Machine

/-! ### Arithmetic in 1/65,536 dB (R257, R258)

The library computes in 1/256 dB and R258 grants its index ±1 for that; the model's own values are finer, so that the free ±1 is all
that stands between its index and the formula (log entry 57). -/

/-- The next `i` bits of the decimal logarithm of a mantissa `x` / 2^64 from 1 to 10, after the bits `k`: each squaring doubles it. -/
def logBits : Nat → Nat → Nat → Nat
  | 0, _, k => k
  | i + 1, x, k =>
    let y := x * x / 2 ^ 64
    if 10 * 2 ^ 64 ≤ y then logBits i (y / 10) (2 * k + 1) else logBits i y (2 * k)

/-- 10 × log10 n in 1/65,536 dB, rounded down, for n below 10^16; 0 for 0. -/
def dBFine (n : Nat) : Nat :=
  let e := ((List.range 16).filter (fun k => decide (10 ^ (k + 1) ≤ n))).length
  if n = 0 then 0 else logBits 20 (n * 2 ^ 64 / 10 ^ e) e * 5 / 8

/-- The integer square root, found bit by bit. -/
def sqrtSearch (n : Nat) : Nat → Nat → Nat
  | 0, r => r
  | i + 1, r => sqrtSearch n i (if (r + 2 ^ i) * (r + 2 ^ i) ≤ n then r + 2 ^ i else r)

/-- The shape vector of 96 estimates given as 384 bytes (R257). -/
def shapeOf (est : List Byte) : List Int :=
  let iq := fun k : Nat => sInt 16 (bytesAt est (2 * k) 2)
  let p := (List.range 96).map (fun d => dBFine ((iq (2 * d)) * (iq (2 * d)) + (iq (2 * d + 1)) * (iq (2 * d + 1))).toNat)
  let low : Int := (p.foldl max 0 : Nat) - 30 * 65536
  let q := p.map (fun x : Nat => max (x : Int) low)
  let mean := roundDiv q.sum 96
  q.map (fun x => x - mean)

/-- The sum of the squared differences of two shapes: 96 δ² of R258. -/
def squares (a b : List Int) : Nat :=
  (((List.range 96).map (fun d => (a.getD d 0 - b.getD d 0) * (a.getD d 0 - b.getD d 0))).sum).toNat

/-- The root mean square difference of two shapes (R258). -/
def deviation (a b : List Int) : Int := (sqrtSearch (squares a b / 96) 24 0 : Nat)

/-- Two shapes added, and a sum divided by a count. -/
def addShape (a b : List Int) : List Int := (List.range 96).map (fun d => a.getD d 0 + b.getD d 0)
def meanShape (s : List Int) (n : Nat) : List Int := s.map (fun x => roundDiv x n)

/-- A value moved towards `t` by its difference over 2^k (R262). -/
def adapt (x t : Int) (k : Nat) : Int := x + roundDiv (t - x) (2 ^ k)

/-- K × σ in 1/400 of 1/65,536 dB, σ taken as at least SIGMIN: K counts quarters and SIGMIN hundredths of a dB (R258). -/
def SndCfg.floor (c : SndCfg) (b : Baseline) : Int := c.k * max (100 * b.sigma) (65536 * c.sigmin)

/-- m_r of the formula of R258 for the squares `sq`, with `slack` × 1/65,536 dB added to δ. -/
def SndCfg.formula (c : SndCfg) (b : Baseline) (sq : Nat) (slack : Int) : Int :=
  let d : Nat := sqrtSearch (sq * (400 * c.scale) ^ 2 / 96) 48 0
  clampInt 0 255 (((d : Int) + 400 * c.scale * slack - c.scale * c.floor b) / (400 * 65536))

/-- m_r of a record with the squares `sq`: `err` −1, 0 or 1 is the tolerance of the fixed-point computation. The shape of the record
is within 1/65,536 dB of the exact one, so the result is within ±1 of the formula whichever way that falls. -/
def SndCfg.motion (c : SndCfg) (b : Baseline) (sq : Nat) (err : Int) : Nat :=
  (clampInt 0 255 ((if err < 0 then c.formula b sq 1 else c.formula b sq (-1)) + err)).toNat

/-! ### Baselines (R260 to R263) -/

/-- Cycle `x` is older than cycle `c`, both modulo 2^32 (R264). -/
def cycleOlder (x c : Nat) : Bool := decide (0 < (2 ^ 32 + c - x) % 2 ^ 32 ∧ (2 ^ 32 + c - x) % 2 ^ 32 < 2 ^ 31)

/-- What a record adds to its cycle. -/
def CycleAcc.add (c : CycleAcc) (m : Option Nat) (still : Bool) (a : List Int) : CycleAcc :=
  { cycle := c.cycle, still := c.still && still, last := a,
    top := match m, c.top with
      | some x, some y => some (max x y)
      | some x, none => some x
      | none, t => t }

/-- The used records of cycle `c`. -/
def Baseline.acc (b : Baseline) (c : Nat) : Option CycleAcc := b.accs.find? (fun x => x.cycle == c)

/-- A record of cycle `x` is entered while cycle `c` closes: under its own cycle, or, when it is late, under none (R264). A late one
ends the run of cycles without a record where it stands (R261). -/
def Baseline.account (b : Baseline) (x c : Nat) (m : Option Nat) (still : Bool) (a : List Int) : Baseline :=
  if cycleOlder x c then { b with absent := min b.absent ((2 ^ 32 + c - x) % 2 ^ 32 - 1) }
  else
    let old := (b.acc x).getD { cycle := x, top := none, still := true, last := a }
    { b with accs := old.add m still a :: b.accs.filter (fun y => y.cycle != x) }

/-- A new mean begins with the shape `a`. -/
def Baseline.learn (b : Baseline) (a : List Int) (bound : Int) : Baseline :=
  { b with st := .learnMean, bound := bound, count := 1, sum := a, sumD := 0, calm := 0 }

/-- A used record of cycle `x` with shape `a` on a baseline whose slot has centre word `word`, read while cycle `cl` closes: the
baseline after it, and whether a restart of learning is counted (R261, R262). -/
def Baseline.take (c : SndCfg) (b : Baseline) (a : List Int) (word : Int) (x cl : Nat) (err : Int) : Baseline × Bool :=
  let sq := squares a b.b
  let d := deviation a b.b
  let b0 := { b with prev := some a }
  match b.st with
  | .empty => ((b0.learn a word).account x cl none true a, false)
  | .learnMean =>
    let sum := addShape b.sum a
    let b1 := if c.nlearn ≤ b.count + 1 then
        { b0 with st := .learnSpread, count := 0, sum := [], sumD := 0, b := meanShape sum (b.count + 1) }
      else { b0 with count := b.count + 1, sum := sum }
    (b1.account x cl none true a, false)
  | .learnSpread =>
    if 96 * (65536 * c.maxlearn) ^ 2 < 100 * sq then ((b0.learn a b.bound).account x cl none true a, true)
    else
      let b1 := if c.nlearn ≤ b.count + 1 then
          { b0 with st := .ready, count := 0, sumD := 0, sigma := roundDiv (b.sumD + d) (b.count + 1), calm := 0 }
        else { b0 with count := b.count + 1, sumD := b.sumD + d }
      (b1.account x cl none true a, false)
  | .ready =>
    let m := c.motion b sq err
    let eps : Nat := match b.prev with
      | some p => squares a p
      | none => 0
    let b1 := if m = 0 then
        { b0 with b := (List.range 96).map (fun i => adapt (b.b.getD i 0) (a.getD i 0) c.bavg), sigma := adapt b.sigma d c.bavg }
      else b0
    (b1.account x cl (some m) (decide (160000 * (eps : Int) ≤ 96 * c.floor b ^ 2)) a, false)

/-- The index of an aerial for cycle `c` (R259). -/
def Baseline.index (b : Baseline) (c : Nat) : Option Nat := if b.st = .ready then (b.acc c).bind (·.top) else none

/-- The close of cycle `cl` for a baseline: the counts of R263 and ABSENT, and the transitions they cause (R261); the flag tells a
relearning. -/
def Baseline.close (c : SndCfg) (cl : Nat) (b : Baseline) : Baseline × Bool :=
  let later := b.accs.filter (fun y => cycleOlder cl y.cycle)
  match b.acc cl with
  | none =>
    let b0 := { b with accs := later }
    if b.st = .empty then (b0, false)
    else if c.absent ≠ 0 ∧ c.absent ≤ b.absent + 1 then ({ Baseline.fresh with accs := later }, false)
    else ({ b0 with absent := b.absent + 1 }, false)
  | some y =>
    let b0 := { b with accs := later, absent := 0 }
    match b.index cl with
    | none => (b0, false)
    | some m =>
      let calm := if m = 0 || !y.still then 0 else b.calm + 1
      if c.relearn ≠ 0 ∧ c.relearn ≤ calm then (b0.learn y.last b.bound, true) else ({ b0 with calm := calm }, false)

/-! ### Links and records (R256) -/

/-- A Sounding record as the library reads it. -/
structure SndRec where
  cycle : Nat
  nb    : Nat
  flags : Nat
  est   : List Byte
deriving DecidableEq, Repr

/-- The record at place `i` of the ring (R145). -/
def State.sndRec (s : State) (i : Nat) : SndRec :=
  let bs := s.sramBytes (s.rd MDM_SBUF_BASE_BASE * 512 + i * 512) 400
  { cycle := bytesAt bs 0 4, nb := bytesAt bs 6 1, flags := bytesAt bs 7 1, est := bs.drop 16 }

/-- Band, channel slot and aerial of a record. -/
def SndRec.band (r : SndRec) : Band := if r.flags % 2 = 0 then .sg else .g24
def SndRec.slot (r : SndRec) : Nat := r.flags / 2 % 8
def SndRec.aerialB (r : SndRec) : Bool := r.flags / 16 % 2 == 1

/-- The link that a record is of: its pair of NB and band is held, and its slot is the link's. -/
def Snd.linkOf (d : Snd) (r : SndRec) : Option SndLink :=
  d.links.find? (fun l => l.nb == r.nb && l.band == r.band && l.slot == r.slot)

/-- A baseline of a link by aerial. -/
def SndLink.base (l : SndLink) (b : Bool) : Baseline := if b then l.b else l.a
def SndLink.setBase (l : SndLink) (b : Bool) (x : Baseline) : SndLink := if b then { l with b := x } else { l with a := x }

/-- The link replaced. -/
def Snd.putLink (d : Snd) (l : SndLink) : Snd :=
  { d with links := d.links.map (fun k => if k.nb = l.nb ∧ k.band = l.band then l else k) }

/-- The record's slot carries hopping links (R191, R256). -/
def State.sndHops (s : State) (r : SndRec) : Bool := s.hopOn r.band && r.slot == 0

/-- The library would use the record (R256), centre words apart. -/
def State.sndUsable (s : State) (r : SndRec) : Bool :=
  r.flags / 32 % 4 == 3 && (s.snd.linkOf r).isSome && !s.sndHops r

/-- The library reads a record while it closes cycle `c`. -/
def State.sndRead (s : State) (c : Nat) (r : SndRec) : State :=
  let unused : State := { s with snd := { s.snd with unused := s.snd.unused + 1 } }
  match s.snd.linkOf r with
  | none => unused
  | some l =>
    let word := s.chanWord r.band r.slot
    let b := l.base r.aerialB
    if r.flags / 32 % 2 = 1 ∧ b.st ≠ .empty ∧ b.bound ≠ word then
      { s with snd := { (s.snd.putLink (l.setBase r.aerialB .fresh)) with unused := s.snd.unused + 1 } }
    else if !s.sndUsable r then unused
    else
      let x := b.take s.snd.cfg (shapeOf r.est) word r.cycle c ((s.freeBelow 3 : Nat) - 1)
      ({ s with snd := { (s.snd.putLink (l.setBase r.aerialB x.1)) with
          late := s.snd.late + b2n (cycleOlder r.cycle c), restarts := s.snd.restarts + b2n x.2 } } : State).took

/-- Reader 0 reads its `n` oldest unread records (R148, R264). -/
def State.sndReads (s : State) (c : Nat) : Nat → State
  | 0 => s
  | n + 1 =>
    let size := s.rd MDM_SBUF_SIZE_SIZE
    let rd := s.rd MDM_SBUF_RD0_RD
    let s1 := s.sndRead c (s.sndRec rd)
    (({ s1 with mdm := { s1.mdm with unread0 := s1.mdm.unread0 - 1 } } : State).wr MDM_SBUF_RD0_RD
      (if size = 0 then 0 else (rd + 1) % size)).sndReads c n

/-- The unread records that the library would use. -/
def State.sndPending (s : State) : Nat :=
  ((List.range s.mdm.unread0).filter (fun i =>
    s.sndUsable (s.sndRec ((s.rd MDM_SBUF_RD0_RD + i) % max (s.rd MDM_SBUF_SIZE_SIZE) 1)))).length

/-- E2 keeps up with the records of a cycle (R265). -/
def State.sndKeepsUp (s : State) : Bool :=
  let l := s.rd PWR_STAT_FENG
  (decide (2 ≤ l) && decide (s.sndPending ≤ 64)) || (l == 1 && decide (s.sndPending ≤ 16))

/-- The oldest records beyond half the ring are passed over (R267). -/
def State.sndSkip (s : State) : State :=
  let size := s.rd MDM_SBUF_SIZE_SIZE
  let k := s.mdm.unread0 - size / 2
  if k = 0 then s
  else ({ s with mdm := { s.mdm with unread0 := s.mdm.unread0 - k }, snd := { s.snd with skip := s.snd.skip + k } } : State).wr
    MDM_SBUF_RD0_RD ((s.rd MDM_SBUF_RD0_RD + k) % max size 1)

/-! ### Indices and zones (R259, R268) -/

/-- The index of a link for cycle `c`. -/
def SndLink.now (c : Nat) (l : SndLink) : Option Nat :=
  match l.a.index c, l.b.index c with
  | some x, some y => some (max x y)
  | some x, none => some x
  | none, y => y

/-- The zone index over the indices of the member links. -/
def zoneIndex (mode : Nat) (l : List Nat) : Option Nat :=
  let m := l.foldl max 0
  match l with
  | [] => none
  | [x] => some x
  | _ => if mode = 0 then some m else some ((l.erase m).foldl max 0)

/-- The word written to SNS_SZz_IDX for cycle `c`. -/
def zoneWord (c : Nat) (i : Option Nat) : Word :=
  match i with
  | some x => BitVec.ofNat 32 (c % 65536 * 65536 + x)
  | none => BitVec.ofNat 32 (c % 65536 * 65536 + 256)

/-- The index of zone `z` for cycle `c`. -/
def Snd.zone (d : Snd) (c z : Nat) : Option Nat :=
  zoneIndex (d.zmodes.getD z 0) ((d.links.filter (fun l => l.mask / 2 ^ z % 2 == 1)).filterMap (SndLink.now c))

/-- The links after the close of cycle `c`: their last indices, and the counts of their baselines. -/
def Snd.closeLinks (d : Snd) (c : Nat) : Snd :=
  let go := fun l : SndLink =>
    ({ l with a := (l.a.close d.cfg c).1, b := (l.b.close d.cfg c).1,
              index := match l.now c with
                | some i => some (i, c)
                | none => l.index } : SndLink)
  let re := (d.links.map (fun l => b2n (l.a.close d.cfg c).2 + b2n (l.b.close d.cfg c).2)).sum
  { d with links := d.links.map go, relearns := d.relearns + re, closed := some c }

/-- The library closes cycle `c` (R264, R267), reading `n` records. -/
def State.sndClose (s : State) (c n : Nat) : State :=
  let s1 := s.sndReads c n
  let zs := (List.range 8).filter (fun z => s1.rdB (SNS_SZ_CFG_EN z))
  let s2 := zs.foldl (fun t z => t.writeZoneIndex (.eng 2) z (zoneWord c (s1.snd.zone c z))) s1
  ({ s2 with snd := s1.snd.closeLinks c } : State).sndSkip

/-- CYCLE_CLOSE (R264): at slot 2 of a cycle the library closes the cycle before it. `done` is how many of the unread records it
reaches when more arrive than R265 grants. -/
def execCycleClose (done : Nat) (s : State) : Host.Outcome State Fault Refusal :=
  if !s.snd.started || !s.tclkOn || s.start != .none then .next s
  else
    let cyc := merCycle s.mer.now
    let s1 := s.advanceMer (cyc * 65536 + 16384)
    let c := (cyc + 2 ^ 32 - 1) % 2 ^ 32
    if s1.snd.closed = some c then .next s1
    else .next (s1.sndClose c (if s1.sndKeepsUp then s1.mdm.unread0 else min done s1.mdm.unread0))

/-! ### Neighbour writes (R165) -/

/-- MAC_NBCFG is written at the index of MAC_NBIDX. -/
def State.writeNbcfg (s : State) (v : Word) : State := s.nbWrite (s.rd MAC_NBIDX_INDEX) v

/-- NEIGHBOUR_WRITE (R165). -/
def execNeighbourWrite (v : Word) (s : State) : Host.Outcome State Fault Refusal := .next (s.writeNbcfg v)

end Sys2Proof.Machine
end

