-- ==== Sys2Proof/Machine/LinkRx.lean ====
section
/-!
DEFINITION. Reception (05_link_layer.md): the end of a frame and its report (R118), acknowledgements of a sender's attempt
(R168), the exchange of a receiver (R169 to R171, R175), CIP's check (R404), the judgement of a frame (R170, R176 to R183), and
the hand-off (R181, R182).
-/
namespace Sys2Proof.Machine

/-! ### The sender's acknowledgement (R168) -/

/-- The attempt of the band has ended: its frame is free for the next gate, and reception follows. A calibration that its assessment pre-empted
goes on (R88). -/
def State.endAttempt (s : State) (b : Band) : State :=
  let t := (s.dropAttempt b).updateRx b
  if (s.macB b).daa.isSome then t.tryCal b else t

/-- The frame of an ended attempt completes with `st`. -/
def State.finishAttempt (s : State) (b : Band) (a : Attempt) (st : Nat) : State :=
  let s1 := s.dropAttempt b
  let s2 := match s1.frameAt b a.desc with
    | some f => s1.completeFrame b f st
    | none => s1
  s2.updateRx b

/-- The attempt has ended without success: the frame completes with DEADLINE when 1 + RETRY attempts have been radiated, else it
stays (R168). -/
def State.failAttempt (s : State) (b : Band) (a : Attempt) : State :=
  match s.frameAt b a.desc with
  | some f => if (s.desc a.desc).retry < f.attempts then s.finishAttempt b a stDeadline else s.endAttempt b
  | none => s.endAttempt b

/-- The guard of the entry's link reaches 4,096 (R186). -/
def State.wideGuard (s : State) (nb : Nat) : Bool := decide (4096 ≤ s.linkGuard nb s.mer.now)

/-- The acknowledgement of the attempt is missed (R168, R173): ACKMISS counts and fires, and the contact is missed. -/
def State.ackMissed (s : State) (b : Band) (a : Attempt) : State :=
  let w := s.wideGuard a.nb
  ((((s.inc (MAC_CNT0_ACKMISS b)).fire 82).failAttempt b a).missContact a.nb w)

/-- The MIC of a native acknowledgement of the attempt is right, or none is needed (R161). -/
def State.ackMicGood (s : State) (a : Attempt) (bs : List Byte) : Bool :=
  let f := fctlOf (bytesAt bs 0 2)
  if f.sec ≠ a.secured ∨ f.kid ≠ a.kid then !a.secured && !f.sec
  else if !a.secured then true
  else
    let n := s.nbr a.nb
    match s.linkKey (if a.kid = 0 then n.key0 else n.key1) false with
    | none => false
    | some k => ackMic k n.eui a.ctr (bs.take 6) == (bs.drop 6).take 4

/-- An acknowledgement of the attempt that has passed its checks, with its status, its time correction and the Meridian time of
its reference instant (R168, R184, R185). -/
def State.ackTaken (s : State) (b : Band) (a : Attempt) (st : Nat) (tc : Option Int) (ref : Nat) : State :=
  let s1 := s.contact a.nb
  let steer := a.secured && (s1.nbr a.nb).parent && s1.rd MER_CFG_SOURCE == 3 &&
    (s1.rd MER_STAT_STATE == 2 || s1.rd MER_STAT_STATE == 3 || (s1.rd MER_STAT_STATE == 1 && s1.mer.stepped))
  let s2 := match tc with
    | some t => if steer then s1.syncLater (-t) ref (s1.nbr a.nb).cls else s1
    | none => s1
  if st ≤ 1 then s2.finishAttempt b a stOK else s2.failAttempt b a

/-- ACK_RECEIVE (R168): a received acknowledgement `bs` (without FCS), good or not, with the reference instant `ref`. -/
def State.ackReceived (s : State) (b : Band) (own good : Bool) (bs : List Byte) (ref : Nat) : State :=
  match (s.macB b).att with
  | none => s
  | some a =>
    if !a.waiting ∨ a.own ≠ own ∨ bytesAt bs 2 1 ≠ a.seq then s
    else if !good then s.ackMissed b a
    else if own then
      if !s.ackMicGood a bs then s.ackMissed b a
      else
        let st := bytesAt bs 3 1
        s.ackTaken b a (st % 4) (if st / 4 % 2 = 1 then some (sInt 16 (bytesAt bs 4 2)) else none) ref
    else s.ackTaken b a 0 none ref

/-! ### The receiver's exchange (R169, R171, R175) -/

/-- The entry in service of the band has ACKOPEN = 1 (R208). -/
def State.ackOpen (s : State) (b : Band) : Bool :=
  let h := s.shpB b
  match h.occ with
  | some o => let w := h.chart.entries.getD o.entry 0; !w.getLsbD 31 && w.getLsbD 28
  | none => false

/-- The expected neighbour of an acknowledgement window on slot `n`, when one is open (R169, R207): of two windows that overlap there,
the one whose neighbour sent the frame `p`, else the one opened last. -/
def State.ackWindow (s : State) (b : Band) (n : Nat) (p : Option Parsed) : Option Nat :=
  let nbs := ((s.shpB b).wins.filter (fun w => w.slot == n && w.ack)).map (·.nb)
  match (p.bind (·.src)).bind s.nbrOf with
  | some nb => if nbs.contains nb then some nb else nbs.getLast?
  | none => nbs.getLast?

/-- The neighbour that a frame would be acknowledged to (R169, R208): of the window, or a valid neighbour's unicast frame to this
device under ACKOPEN. -/
def State.ackPartner (s : State) (b : Band) (n : Nat) (own good : Bool) (p : Option Parsed) : Option Nat :=
  if !s.merWalks then none
  else
    match s.ackWindow b n p with
    | some nb => some nb
    | none =>
      match p with
      | some f =>
        if own && good && s.ackOpen b && f.mesh == some (s.rd MAC_ADDR_MESHID) &&
            f.dst == some (s.rd MAC_ADDR_SHORT, false) then
          (match f.src with | some a => s.nbrOf a | none => none)
        else none
      | none => none

/-- The acknowledgement's preamble form (R162): the frame's, when R143 allows it. -/
def State.ackShort (s : State) (mode nb : Nat) (short : Bool) : Bool :=
  mode == 3 && short && (s.offset nb).set && s.rd MER_STAT_STATE == 2

/-- A new exchange is wanted (R169, R171): it starts, or it is suppressed or collides. -/
def State.startExch (s : State) (b : Band) (e : AckExch) : State :=
  let m := s.macB b
  if s.dutyRefuses b e.duty.accs e.duty.units true then (s.inc (MAC_CNT1_ACKSUPP b)).fire 85
  else if s.dwellRefuses b e.start e.duty.us then s.inc (MAC_CNT1_ACKSUPP b)
  else if s.calInvalid b e.entry then s.inc (MAC_CNT1_ACKSUPP b)
  else
    match m.exch with
    | some x =>
      if x.er = e.er ∧ !x.turned ∧ e.chan < x.chan then (s.inc (MAC_CNT2_ACKCOLL b)).setMac b { m with exch := some e }
      else s.inc (MAC_CNT2_ACKCOLL b)
    | none => s.setMac b { m with exch := some e }

/-- The frame addresses this device (R182): its MESHID or PAN, and its destination; `broadcast` tells which. -/
def State.addressed (s : State) (p : Parsed) : Bool :=
  let mesh := s.rd MAC_ADDR_MESHID
  let m := match p.mesh with | some v => v == mesh || (!p.own && v == 0xFFFF) | none => !p.own
  m && (match p.dst with
    | some (a, false) => a == s.rd MAC_ADDR_SHORT || a == 0xFFFF
    | some (a, true) => a == ownEui
    | none => !p.own && p.typ == 0)

/-- The frame is broadcast. -/
def Parsed.broadcast (p : Parsed) : Bool :=
  match p.dst with
  | some (a, false) => a == 0xFFFF
  | some (_, true) => false
  | none => true

/-- A frame asks for an acknowledgement: a native one by ACKREQ, or when it could not be decoded (R169); a standard one with the AR
bit only when it is addressed to this device alone and MAC can read it (R163, R175). -/
def State.ackAsked (s : State) (own good : Bool) (p : Option Parsed) : Bool :=
  match p with
  | some f => if own then !good || f.ackReq else good && f.ackReq && !f.other && !f.broadcast && s.addressed f
  | none => own

/-- The exchange of a received frame, when it is to be acknowledged. -/
def State.openExch (s : State) (b : Band) (n : Nat) (c : Chan) (own good : Bool) (bs : List Byte) (p : Option Parsed)
    (er : Nat) : State :=
  let mode := s.chanMode b n
  let param := s.rd (MDM_CH_CFG_PARAM b n)
  match s.ackPartner b n own good p with
  | none => s
  | some nb =>
    if !s.ackAsked own good p then s
    else
      let sec := match p with | some f => f.sec | none => false
      let short := s.ackShort mode nb c.short
      let enh := !own && (match p with | some f => f.v2 | none => false)
      let entry := if s.hopOn b then s.hopEntry s.mer.now else rdF s.regs (MAC_ACKENT b n)
      let air := ackAir b mode param short own (sec && own) enh
      s.startExch b
        { chan := n, er := er,
          start := if own then er else er + (aifsUs mode - 40 - s.rampUs b) * usTclk,
          nb := nb, seq := bytesAt bs 2 1, secured := sec && own, kid := match p with | some f => f.kid | none => 0,
          ctr := match p with | some f => f.ctr | none => 0, own := own, enh := enh, short := short, mode := mode,
          param := param, entry := entry, air := air,
          duty := s.dutyFor b (s.txWord b entry (some nb)) (chanWidth b mode param) (s.rampUs b * usTclk) air, turned := false,
          radiated := false, ackst := none, psdu := [] }

/-! ### Judgement (R170, R176 to R183) -/

/-- What R177 finds of a frame: 0 new, 1 duplicate, 2 replay; the window as it would become, and whether a restart is counted. -/
def classify (w0 : DupWin) (seq : Nat) (secured : Bool) (ctr : Nat) : Nat × DupWin × Bool :=
  let d := (ctr + 2 ^ 32 - w0.ctr % 2 ^ 32) % 2 ^ 32
  let restart := secured && w0.valid && decide (2 ^ 19 ≤ d ∧ d < 2 ^ 31)
  if secured && w0.valid && decide (2 ^ 31 ≤ d ∧ d ≤ 2 ^ 32 - 1024) then (2, w0, false)
  else
    let w := if restart then { w0 with valid := false } else w0
    let ahead := (seq + 256 - w.top % 256) % 256
    let back := (w.top + 256 - seq % 256) % 256
    let x : Nat × DupWin :=
      if !w.valid then (0, { w with valid := true, top := seq % 256, bits := 1 })
      else if 1 ≤ ahead ∧ ahead ≤ 127 then
        (0, { w with top := seq % 256, bits := (w.bits * 2 ^ ahead ||| 1) % 2 ^ 32 })
      else if back ≤ 31 ∧ w.bits / 2 ^ back % 2 = 0 then (0, { w with bits := w.bits ||| 2 ^ back })
      else (1, w)
    let y := if secured && (!w0.valid || d < 2 ^ 31) then { x.2 with ctr := ctr } else x.2
    (x.1, y, restart)

/-- The window of neighbour `nb` becomes `w` (R178), a restart counting in MAC_CNT2. -/
def State.setWindow (s : State) (nb : Nat) (w : DupWin) (restart : Bool) : State :=
  let s1 := s.putNbr nb { s.nbr nb with win := w }
  if restart then s1.inc MAC_CNT2_RESTARTS else s1

/-- D of R183, between the own time and a stamp (CYC8 × 65,536 + PHASE). -/
def stampDiff (own stamp : Nat) : Int := sInt 24 (own % 2 ^ 24 + 2 ^ 24 - stamp % 2 ^ 24)

/-- Neighbour entry `nb` records e (R183). -/
def State.recordErr (s : State) (nb : Nat) (d : Int) : State :=
  if -32767 ≤ d ∧ d ≤ 32767 then s.putNbr nb { s.nbr nb with err := intBits 16 d } else s.inc MAC_CNT2_SYNCRANGE

/-- An authenticated frame of the parent whose stamp stands `d` from the own time reaches MER (R184, R61, R64): whether it was
taken as a sync point, and the state. In ACQUIRE before the step a frame of the parent that is no beacon is neither recorded nor counted
as a sync point (DEDUCED, log entry 92: R64 makes the step the first sync point's effect, and only a beacon carries what it needs). DESIGN
CHOICE (log entry 103): with SOURCE = OFF no frame of the parent is recorded or counted. -/
def State.steer (s : State) (nb : Nat) (r : Rx) (typ stamp : Nat) (body : List Byte) (d : Int) : State × Bool :=
  let st := s.rd MER_STAT_STATE
  if !r.tagOk ∨ !(s.nbr nb).parent ∨ s.rd MER_CFG_SOURCE ≠ 3 then (s, false)
  else if st = 1 ∧ !s.mer.stepped then
    if typ = 0 then
      (s.syncFirst { cyc := bytesAt body 0 4, ph := stamp % 65536, at_ := r.refTs, inc := bytesAt body 4 4,
                     err := if -32767 ≤ d ∧ d ≤ 32767 then intBits 16 d else 0x8000 }, true)
    else (s, false)
  else if (st = 1 ∨ st = 2 ∨ st = 3) ∧ -32767 ≤ d ∧ d ≤ 32767 then
    ((s.syncLater d r.refMer (s.nbr nb).cls).followWalk s.merWalks, true)
  else (s, false)

/-- R253: an authenticated beacon of the parent whose CYCLE differs by more than 64 from the own cycle count, once Meridian has taken
the parent's time. -/
def State.cycleBroken (s : State) (nb : Nat) (r : Rx) (typ : Nat) (body : List Byte) : Bool :=
  let d := sInt 32 (merCycle r.refMer + 2 ^ 32 - bytesAt body 0 4)
  r.tagOk && typ == 0 && (s.nbr nb).parent && !s.isManager && (s.rd MER_STAT_STATE == 2 || s.rd MER_STAT_STATE == 3 || (s.rd MER_STAT_STATE == 1 && s.mer.stepped)) &&
    decide (d < -64 ∨ 64 < d)

/-- What the acceptance of a frame does besides window and hand-off (R99, R101, R183, R184, R232, R253). -/
def State.acceptEffects (s : State) (b : Band) (nb : Nat) (r : Rx) (p : Parsed) (body : List Byte) : State × Rx :=
  let s1 := s.offsetUpdate nb r.cfo
  let s2 := s1.putOffset nb ((s1.offset nb).setAnt b r.aerialB)
  let s4 := if p.own ∧ p.typ = 0 ∧ r.tagOk ∧ (s2.nbr nb).parent then s2.parentBeacon body else s2
  let x : State × Rx := match p.stamp with
    | some st =>
      if !p.own then (s4, r)
      else
        let d := stampDiff r.refMer st
        let y := ((s4.recordErr nb d).renewLast nb).steer nb r p.typ st body d
        (y.1, { r with err := if -32767 ≤ d ∧ d ≤ 32767 then some d else none, synced := y.2 })
    | none => (s4, r)
  if s2.cycleBroken nb r p.typ body then (x.1.loseParent nb, x.2) else x

/-- A MAP_UPDATE payload is taken (R141, R160): byte 0 MAPID and band, then the map, into the TX slot that is not the newest. A payload whose
MAPID a slot holds already is a repeat, and nothing is written. DESIGN CHOICE (log entry 107): the band has a MODE_SL link to the sender
when any enabled channel slot of it is in MODE_SL. -/
def State.takeMap (s : State) (nb : Nat) (pay : List Byte) : State :=
  let b : Band := if bytesAt pay 0 1 / 16 % 2 = 0 then .sg else .g24
  let id := bytesAt pay 0 1 % 16
  let map := (pay.drop 1).take 36
  let sl := (List.range 8).any (fun n => s.rdB (MDM_CH_CFG_EN b n) && s.chanMode b n == 3)
  if pay.length < 37 ∨ !mapValid (unpackMap map) ∨ !sl then s
  else
    let x := (s.fetchSlot (s.mapSlot nb b 0 0)).1
    let y := (s.fetchSlot (s.mapSlot nb b 0 1)).1
    let k := olderSlot x y
    let holds := fun z : Option (Nat × List Nat) => match z with | some m => m.1 == id | none => false
    if holds x || holds y then s else s.writeSlot (s.mapSlot nb b 0 k) id map

/-- The reception ends in `verdict` without a hand-off. -/
def Rx.refused (r : Rx) (verdict : Nat) : Rx := { r with verdict := some verdict, waiting := false, hand := false }

/-- The frame does not fit the ring slot (R182). -/
def State.tooBig (s : State) (r : Rx) : Bool := decide (s.slotSize < 32 + r.plain.length)

/-- A new frame that is to be handed off: ring full, or handed off (R170, R181). -/
def State.offer (s : State) (r : Rx) : State × Rx :=
  if s.ringFull then (s.fire 86, r.refused 2)
  else (s, { r with verdict := some 0, waiting := false, hand := true })

/-- The command identity of a native command frame (R159). -/
def Parsed.command (p : Parsed) (body : List Byte) : Option Nat := if p.own ∧ p.typ = 3 then some (bytesAt body 0 1) else none

/-- The command identity is reserved (R159). -/
def reservedCmd (c : Option Nat) : Bool := match c with | some id => decide (2 ≤ id ∧ id ≤ 0xF) | none => false

/-- A frame of neighbour `nb` whose tag has passed or is not needed (R159, R160, R170, R176 to R182): a frame that is too long for the slot,
or whose sender is not the expected neighbour, is not accepted, and has none of the effects of acceptance. DESIGN CHOICE (log entry 112): with
COUNT = 0 a frame that R170 rejects is answered REJECT and not BUSY (R181). -/
def State.acceptKnown (s : State) (b : Band) (nb : Nat) (r : Rx) (p : Parsed) (body : List Byte) : State × Rx :=
  let c := if p.broadcast then (0, (s.nbr nb).win, false) else classify (s.nbr nb).win p.seq p.sec p.ctr
  if c.1 = 2 then (s.inc MAC_CNT0_REPLAY, r.refused 3)
  else
    let s1 := s.contact nb
    let id := p.command body
    if reservedCmd id then (s1.inc MAC_CNT0_FMTERR, r.refused 3)
    else if s1.tooBig r then (s1.inc MAC_CNT1_OVERSIZE, r.refused 3)
    else
      let expected := match r.ackNb with | some e => e == nb | none => true
      let x := if expected then s1.acceptEffects b nb r p body else (s1, r)
      let r1 := { x.2 with record := x.2.record.map (fun rec => recordWith rec (some nb) expected) }
      if c.1 = 1 then
        let n := x.1.nbr nb
        ((x.1.putNbr nb { n with dups := min (n.dups + 1) 65535 }).setWindow nb c.2.1 c.2.2,
          r1.refused (if s.rd MAC_RXCFG_COUNT = 0 then 2 else 1))
      else if id = some 1 then
        if s.ringFull then (x.1.fire 86, r1.refused 2)
        else (if expected then x.1.takeMap nb (body.drop 1) else x.1, r1.refused 0)
      else
        let y := x.1.offer r1
        (if y.2.hand && !p.broadcast then y.1.setWindow nb c.2.1 c.2.2 else y.1, y.2)

/-- A frame of an unknown sender (R159, R182): with OPEN it is handed off with its tag unchecked, but for a command that MAC itself would
treat; the identity of a secured command stands encrypted and is not read. -/
def State.acceptUnknown (s : State) (r : Rx) (p : Parsed) (body : List Byte) : State × Rx :=
  let id := if p.sec then none else p.command body
  if reservedCmd id then (s.inc MAC_CNT0_FMTERR, r.refused 3)
  else if !s.rdB MAC_CFG_OPEN ∨ id = some 1 then (s, r.refused 3)
  else if s.tooBig r then (s.inc MAC_CNT1_OVERSIZE, r.refused 3)
  else
    let y := s.offer r
    (y.1, { y.2 with verdict := some 3 })

/-- The judgement of a reception (R170, R180, R182): `p` is the parsed frame, `body` its payload in clear. -/
def State.judge (s : State) (b : Band) (r : Rx) (p : Parsed) (body : List Byte) : State × Rx :=
  let r0 := { r with plain := p.plain body }
  let z : State × Rx := match r0.nb with
    | some nb => s.acceptKnown b nb r0 p body
    | none => s.acceptUnknown r0 p body
  match z.2.ackNb with
  | some e => if z.2.nb = some e then z else (z.1, { z.2 with verdict := some 3 })
  | none => z

/-- The sounding record of a judged reception goes to the ring (R145). -/
def State.flushRecord (s : State) (r : Rx) : State × Rx :=
  match r.record with
  | some rec => (s.exportRecord rec, { r with record := none })
  | none => (s, r)

/-- A reception is kept while CIP works on it, and when judged until its hand-off or the end of its exchange; one that needs neither is dropped. -/
def State.keepRx (s : State) (b : Band) (r : Rx) : State :=
  let x := if r.waiting then (s, r) else (s.windowUnheard b r.chan).flushRecord r
  let m := x.1.macB b
  let inExch := match m.exch with | some e => e.chan == x.2.chan && e.er == x.2.er | none => false
  let others := m.rxs.filter (fun q => q.chan ≠ x.2.chan ∨ q.er ≠ x.2.er)
  x.1.setMac b { m with rxs := if x.2.hand || x.2.waiting || inExch then others ++ [x.2] else others }

/-- Records of a reception that MAC does not accept still name its sender when that is known. -/
def Rx.named (r : Rx) : Rx :=
  { r with record := r.record.map (fun rec => recordWith rec r.nb false) }

/-- A frame decoded from neighbour `nb` in band `b` carries MAPID `id`: an update that waits for it is over (R140). -/
def State.mapSeen (s : State) (nb : Nat) (b : Band) (id : Nat) : State :=
  let k := nb * 2 + b.idx
  { s with mdm := { s.mdm with updates := s.mdm.updates.map (fun p =>
      if p.1 = k ∧ p.2.2 = some id then (p.1, (p.2.1, none)) else p) } }

/-- A standard frame with a feature that R163 does not list is handed off as it came, and MAC acts on nothing in it. -/
def State.handOther (s : State) (r : Rx) (p : Parsed) : State × Rx :=
  let r0 := { r.named with plain := p.hdr ++ p.body ++ p.mic }
  if s.tooBig r0 then (s.inc MAC_CNT1_OVERSIZE, r0.refused 3)
  else
    let y := s.offer r0
    (y.1, { y.2 with verdict := some 3 })

/-- A frame that reached the end of PAYLOAD and is no acknowledgement is examined (R170, R182, R404); `keys` are the slots as its payload
began. DEDUCED (log entry 115): that is when its Accept starts. -/
def State.examine (s : State) (b : Band) (r : Rx) (p : Option Parsed) (reservedF : Bool) (keys : List KeySlot) : State :=
  if !r.good then s.keepRx b (r.named.refused 3)
  else
    match p with
    | none => (s.inc MAC_CNT0_FMTERR).keepRx b (r.named.refused 3)
    | some f =>
      if reservedF then (s.inc MAC_CNT0_FMTERR).keepRx b (r.named.refused 3)
      else if f.addrs && !s.addressed f then (s.inc MAC_CNT1_ADDRFLT).keepRx b (r.named.refused 3)
      else
        let nb := match f.src with | some a => s.nbrOf a | none => none
        let r1 := { r with nb := nb }
        let s := match nb with
          | some i => (match r.loaded with | some id => s.mapSeen i b id | none => s)
          | none => s
        if f.other then let x := s.handOther r1 f; x.1.keepRx b x.2
        else match nb with
        | none => let x := s.judge b r1 f f.body; x.1.keepRx b x.2
        | some i =>
          if !f.sec then let x := s.judge b r1.named f f.body; x.1.keepRx b x.2
          else if s.cip.trng ≠ 1 then (s.inc CIP_CNT1_ACCLATE).keepRx b (r1.named.refused 2)
          else
            match linkKeyOf keys (if f.kid = 0 then (s.nbr i).key0 else (s.nbr i).key1) false with
            | none => s.keepRx b (r1.named.refused 3)
            | some k => s.keepRx b { r1.named with waiting := true, key := k }

/-- The bytes of a frame parsed in its family. -/
def parseFrame (own : Bool) (bs : List Byte) : Option Parsed := if own then parseNative bs else parseStandard bs true

/-- RX_FRAME_END (R118): the last symbol of the frame on channel `n` ends at TSTAMP `t`, with what the receiver measured. DESIGN
CHOICE (log entry 109): the record of an acknowledgement that MAC takes names no sender and is not marked as accepted (R145). -/
def execRxFrameEnd (b : Band) (n : Fin 8) (t : Nat) (m : RxMeas) (s : State) : Host.Outcome State Fault Refusal :=
  let c := s.chan b n
  if c.st ≠ .payload then .next s
  else
    let s0 := s.advanceTo t
    let fec := !m.decoded || c.noMap
    let s1 := (s0.setChan b n { c.adapted (m.phr ++ m.eq) with st := .search, lastWon := some c.aerialB }).inc (MDM_CH_CNT_DONE b n)
    let s2 := if fec then s1.inc (MDM_CH_ERR_FECERR b n) else s1
    let mode := s.chanMode b n
    let own := mode == 3 || s.rd (MAC_FAMILY_NATIVE b) / 2 ^ n.val % 2 == 1
    let psdu := (List.range c.len).map (fun i => m.psdu.getD i 0)
    let four := c.fcs32 && !own
    let good := !fec && fcsGood psdu four
    let bs := psdu.take (psdu.length - fcsLen four)
    let rec_ := if mode = 3 then some (recordBytes b n c m fec) else none
    let isAck := if own then (fctlOf (bytesAt bs 0 2)).typ == 2 && (fctlOf (bytesAt bs 0 2)).ver == 1
      else bytesAt bs 0 1 % 8 == 2
    if isAck && !fec then
      let s3 := (s2.ackReceived b own good bs c.refMer).windowUnheard b n
      .next (match rec_ with | some r => s3.exportRecord r | none => s3)
    else
      let p := parseFrame own bs
      let s3 := if s2.macOn b then s2.openExch b n c own good bs p t else s2
      let r : Rx := { chan := n, report := reportBytes b n mode c m fec (s.rd (RFC_DIV_MODE b)), mode := mode,
                      loaded := if c.map.isSome then some c.mapid else none, bytes := bs, good := good, own := own, er := t, refTs := c.refTs, refMer := c.refMer, aerialB := c.aerialB,
                      cfo := m.cfo, ackNb := s3.ackWindow b n p, waiting := false, key := [], tagOk := false, plain := [],
                      nb := none, verdict := none, hand := false, err := none, synced := false, acked := false, record := rec_ }
      if s3.macOn b then .next (s3.examine b r p (own && (fctlOf (bytesAt bs 0 2)).reserved) c.keys)
      else .next (match rec_ with | some x => (s3.windowUnheard b n).exportRecord x | none => s3.windowUnheard b n)

/-- The reception on channel `n` that waits for CIP. -/
def BandMac.waitingRx (m : BandMac) (n : Nat) : Option Rx := m.rxs.find? (fun r => r.chan == n && r.waiting)

/-- A Seal is in progress (R402, R408). -/
def Attempt.sealing (a : Attempt) : Bool := a.secured && !a.sealed && !a.spoilt

/-- CIP serves a Seal in some band. -/
def State.sealing (s : State) : Bool := s.mac.bands.sg.att.any Attempt.sealing || s.mac.bands.g24.att.any Attempt.sealing

/-- An Accept waits in some band after the end of its frame. -/
def State.accepting (s : State) : Bool := s.mac.bands.sg.rxs.any (·.waiting) || s.mac.bands.g24.rxs.any (·.waiting)

/-- The band answers the reception with an acknowledgement. -/
def BandMac.answers (m : BandMac) (r : Rx) : Bool := m.exch.any (fun e => e.chan == r.chan && e.er == r.er)

/-- Another Accept comes before that of `r` in band `b` (R401): those answered with an acknowledgement first, then in order of E_r. -/
def State.acceptBefore (s : State) (b : Band) (r : Rx) : Bool :=
  let mine := (s.macB b).answers r
  [s.mac.bands.sg, s.mac.bands.g24].any (fun m => m.rxs.any (fun x =>
    x.waiting && ((m.answers x && !mine) || (m.answers x == mine && decide (x.er < r.er)))))

/-- CIP_ACCEPT_DONE (R398, R401, R404): CIP has checked and decrypted the reception on channel `n`, its two passes agreeing or not. It
cannot complete before a Seal, or an Accept that comes first. -/
def execCipAcceptDone (b : Band) (n : Fin 8) (disagree : Bool) (s : State) : Host.Outcome State Fault Refusal :=
  match (s.macB b).waitingRx n with
  | none => .next s
  | some r =>
    if s.sealing || s.acceptBefore b r then .next s
    else if s.cip.trng ≠ 1 then .next ((s.inc CIP_CNT1_ACCLATE).keepRx b (r.refused 2))
    else if disagree then .next (((s.cipDisagree 0).inc CIP_CNT1_ACCLATE).keepRx b (r.refused 2))
    else
      match r.nb, parseFrame r.own r.bytes with
      | some nb, some p =>
        let o := openBytes r.key (s.nbr nb).eui p.ctr p.level p.hdr p.body p.mic
        if !o.2 then .next ((s.inc CIP_CNT0_AUTHFAIL).keepRx b (r.refused 3))
        else
          let x := s.judge b { r with tagOk := true } p o.1
          .next (x.1.keepRx b x.2)
      | _, _ => .next (s.keepRx b (r.refused 3))

/-! ### The acknowledgement's contents (R161, R169) -/

/-- Frames for the sender are queued (PEND of R161). -/
def State.pendingFor (s : State) (nb : Nat) : Bool :=
  let p := fun f : Frame => !(s.desc f.desc).broadcast && (s.desc f.desc).nb == nb
  s.shp.bands.sg.frames.any p || s.shp.bands.g24.frames.any p

/-- The key slot of the exchange's acknowledgement. -/
def State.ackSlot (s : State) (x : AckExch) : Nat := if x.kid = 0 then (s.nbr x.nb).key0 else (s.nbr x.nb).key1

/-- The bytes of the exchange's acknowledgement with status `st`, and none when its key cannot be used. -/
def State.ackPsdu (s : State) (x : AckExch) (st : Nat) (err : Option Int) : Option (List Byte) :=
  if x.own then
    let bs := ackBytes x.secured x.kid x.seq st err (s.pendingFor x.nb)
    if x.secured then
      (s.linkKey (s.ackSlot x) true).map (fun k => withFcs (bs ++ ackMic k ownEui x.ctr bs))
    else some (withFcs bs)
  else if x.enh then
    let us := match err with | some e => -(e * 1000000) / (s.nomK : Int) | none => 0
    some (withFcs (enhAck x.seq us))
  else some (withFcs (immAck x.seq))

/-- ACK_DECIDE (R169, R402, R404): MAC decides the exchange's acknowledgement, and CIP seals it, its two passes agreeing or not. A key
that may not be used is refused, and nothing is sent. -/
def execAckDecide (b : Band) (disagree : Bool) (s : State) : Host.Outcome State Fault Refusal :=
  let m := s.macB b
  match m.exch with
  | none => .next s
  | some x =>
    if x.ackst.isSome then .next s
    else
      match m.rxs.find? (fun r => r.chan == x.chan && r.er == x.er) with
      | none => .next s
      | some r =>
        let late := r.waiting
        let s0 := if late then s.inc CIP_CNT1_ACCLATE else s
        let st := if late then 2 else r.verdict.getD 3
        let r1 := if late then r.refused 2 else r
        let noKey := x.own && x.secured && (s.linkKey (s.ackSlot x) true).isNone
        let s1 := if noKey then s0.sealKeyError (s.ackSlot x) else if x.secured && disagree then s0.cipDisagree 0 else s0
        let bytes := if x.secured && (disagree || s.cip.trng != 1) then none else s1.ackPsdu x st r.err
        let s2 := s1.setMac b { s1.macB b with exch := some { x with ackst := some st, psdu := bytes.getD [] } }
        .next (s2.keepRx b r1)

/-! ### Hand-off (R181, R182) -/

/-- The bytes of a ring slot (R181). -/
def ringBytes (r : Rx) (ctr : Nat) (broadcast : Bool) : List Byte :=
  let flags := b2n r.nb.isSome + 2 * b2n r.tagOk + 4 * b2n broadcast + 8 * b2n r.synced + 16 * b2n (!r.own) +
    32 * b2n r.acked
  r.report ++ natLE 2 r.plain.length ++ [BitVec.ofNat 8 (r.nb.getD 0), BitVec.ofNat 8 flags] ++ natLE 4 ctr ++
    natLE 2 (intBits 16 (r.err.getD 0)) ++ List.replicate 6 0 ++ r.plain

/-- E0/E1 at the destination of an Assured flow takes sequence number `q` of flow `id` (R41): whether it is delivered. The first copy
of a flow makes its record. DESIGN CHOICE (log entry 95): the newest 256 numbers of a flow are remembered. -/
def State.assuredDeliver (s : State) (id q : Nat) : State × Bool :=
  match s.mesh.dsts.find? (fun d => d.id == id) with
  | none => ({ s with mesh := { s.mesh with dsts := s.mesh.dsts ++ [{ id := id, seen := [q], dups := 0 }] } }, true)
  | some d =>
    let put := fun e : AssuredDst => ({ s with mesh := { s.mesh with
      dsts := s.mesh.dsts.map (fun x => if x.id = id then e else x) } } : State)
    if d.seen.contains q then (put { d with dups := d.dups + 1 }, false)
    else (put { d with seen := (q :: d.seen).take 256 }, true)

/-- The firmware takes the SNR of a receive report from neighbour `nb` into its mean (R249, R118); one that is not valid counts not. -/
def State.noteSnr (s : State) (nb : Option Nat) (snr : Nat) : State :=
  match nb with
  | none => s
  | some i =>
    if snr = 255 then s
    else
      let x := (s.mesh.snrs.lookup i).getD (0, 0)
      { s with mesh := { s.mesh with snrs := (i, x.1 + snr, x.2 + 1) :: s.mesh.snrs.filter (fun p => p.1 ≠ i) } }

/-- HAND_OFF (R181, R182, R41): the oldest accepted frame of channel `n` whose exchange is over is written to the ring. `assured`
is the Assured flow and sequence number that the link-sequencing firmware finds in it at its destination. -/
def execHandOff (b : Band) (n : Fin 8) (assured : Option (Nat × Nat)) (s : State) : Host.Outcome State Fault Refusal :=
  let m := s.macB b
  match m.rxs.find? (fun r => r.chan == n.val && r.hand) with
  | none => .next s
  | some r =>
    let inExch := match m.exch with | some e => e.chan == r.chan && e.er == r.er | none => false
    if inExch then .next s
    else
      let s1 := s.setMac b { m with rxs := m.rxs.filter (fun q => q.chan ≠ r.chan ∨ q.er ≠ r.er) }
      match parseFrame r.own r.bytes with
      | none => .next s1
      | some p =>
        let count := s.rd MAC_RXCFG_COUNT
        if count = 0 then .next s1
        else
        let wr := s.rd MAC_RXWR_WR
        let a := s.rd MAC_RXBASE_BASE * 64 + wr * s.slotSize
        let s2 := ((s1.sramWrite a (ringBytes r p.ctr (p.addrs && p.broadcast))).wr MAC_RXWR_WR ((wr + 1) % count)).fire 80
        let snr := (r.report.getD 14 0).toNat
        let s3 := (match assured with | some (f, q) => (s2.assuredDeliver f q).1 | none => s2).noteSnr r.nb snr
        .next (match p.own, p.typ, p.src, p.stamp with
          | true, 0, some (a, false), some st => s3.candidate a (r.plain.drop (natHdrLen (fctlOf (bytesAt r.bytes 0 2)) false)) r.refTs st snr
          | _, _, _, _ => s3)

end Sys2Proof.Machine
end

