-- ==== Sys2Proof/Machine/Cipher.lean ====
section
/-!
DEFINITION. CIP (14_cipher_engine.md): refused writes, key slots and the key load, jobs from their checks to their final status, and
the TRNG.
-/
namespace Sys2Proof.Machine

/-! ### Refusals (R385, R406) -/

/-- A refusal that fires KEYERR; `slot` is the slot concerned, where the refused write names one. -/
def State.cipRefuse (s : State) (owner status : Nat) (slot : Option Nat) : State :=
  let s1 := if slot.isNone then s.took else s
  let n := match slot with
    | some k => k
    | none => s.freeBelow 16
  let r1 := wrF (wrF (wrF s1.regs CIP_LASTERR_STATUS status) CIP_LASTERR_OWNER owner) CIP_LASTERR_SLOT n
  ({ s1 with regs := incF r1 CIP_LASTERR_COUNT } : State).fire 34

/-! ### Key slots (R384, R386, R387) -/

/-- Key slot `k`. -/
def State.slot (s : State) (k : Nat) : KeySlot := s.cip.slots.getD k .empty

/-- A field of a policy word. -/
def KeySlot.has (k : KeySlot) (f : Field) : Bool := f.of (BitVec.ofNat 32 k.pol) != 0

/-- Key slot `k` replaced. -/
def State.putSlot (s : State) (k : Nat) (v : KeySlot) : State :=
  { s with cip := { s.cip with slots := modifyNth (fun _ => v) k s.cip.slots } }

/-- Key bytes of a KLEN code. -/
def klenBytes (k : Nat) : Nat := [16, 24, 32].getD k 32

/-- A slot loaded with a key. -/
def KeySlot.load (klen pol : Nat) (key : List Byte) : KeySlot :=
  { loaded := true, key := key, klen := klen, pol := pol, kcv := keyKcv key }

/-- The policy `pol` may not stand beside a key of length code `klen` (R386). -/
def policyBad (klen pol : Nat) : Bool :=
  let w := BitVec.ofNat 32 pol
  CIP_KPOL_LINK.of w == 1 && (klen != 0 || CIP_KPOL_KEK.of w == 1)

/-- The words written are exactly the first ones of a key of length code `klen`. -/
def wordsOk (wrote : List Bool) (klen : Nat) : Bool :=
  decide (wrote = (List.range 8).map (fun i => decide (i < klenBytes klen / 4)))

/-- The registers of the key-load group. -/
def keyGroup : List Nat := [CIP_KSEL_SLOT.addr, CIP_KPOL_LOCK.addr]

/-- The status of CIP_COMMIT (R386). -/
def State.cipCommitStatus (s : State) : Nat :=
  let slot := s.sh CIP_KSEL_SLOT
  let klen := s.sh CIP_KSEL_KLEN
  let pol := (regGet s.shadow CIP_KPOL_LOCK.addr).toNat
  firstStatus [(slot == 15 || klen == 3, stBadParam),
    (!wordsOk s.cip.wrote klen || policyBad klen pol || (s.slot slot).has CIP_KPOL_LOCK, stMismatch)]

/-- CIP_COMMIT from E2 (R386): judged in full when a key word has been written, else under R10; the key buffer is empty after it. -/
def State.cipCommit (s : State) : State :=
  let any := s.cip.wrote.any id
  let same := !any && shadowEq s.regs s.shadow keyGroup
  let st := if same then stOK else s.cipCommitStatus
  let klen := s.sh CIP_KSEL_KLEN
  let key := (s.cip.buf.flatMap wordBytes).take (klenBytes klen)
  let s1 := if st = stOK ∧ !same then
      ({ s with regs := copyShadow s.regs s.shadow keyGroup } : State).putSlot (s.sh CIP_KSEL_SLOT)
        (.load klen (regGet s.shadow CIP_KPOL_LOCK.addr).toNat key)
    else s
  { s1 with regs := wrF s1.regs CIP_COMMIT_STATUS st,
            cip := { s1.cip with buf := List.replicate 8 0, wrote := List.replicate 8 false } }

/-- A write to CIP_KEYWn (R385, R386). -/
def State.keyWord (s : State) (m : Master) (n : Nat) (v : Word) : State :=
  if isE2 m then
    { s with cip := { s.cip with buf := modifyNth (fun _ => v) n s.cip.buf, wrote := modifyNth (fun _ => true) n s.cip.wrote } }
  else s.cipRefuse (s.code m) stDenied none

/-- Slot `k` is erased (R387). -/
def State.eraseSlot (s : State) (k : Nat) : State := s.putSlot k .empty

/-- CIP_KCMD with OP = 0x1 (R385, R387). -/
def State.keyErase (s : State) (m : Master) (k : Nat) : State :=
  if !isE2 m ∨ k = 15 ∨ (s.slot k).has CIP_KPOL_LOCK then s.cipRefuse (s.code m) stDenied (some k) else s.eraseSlot k

/-- A write by E2 of a CIP register that R385 gives to E2 alone; the write of another master is recorded. -/
def State.cipGuarded (s : State) (m : Master) (a : Nat) (v : Word) : State :=
  if isE2 m then s.plainWrite a v
  else s.cipRefuse (s.code m) stDenied (if a = CIP_KSEL_SLOT.addr then some (CIP_KSEL_SLOT.of v) else none)

/-! ### Jobs: the checks of R391 -/

/-- The job of the descriptor at SRAM address `a`, from owner `owner` (R390). -/
def State.jobAt (s : State) (owner a : Nat) : CipJob :=
  let f := fun o n => s.sramNat (a + o) n
  { owner := owner, op := f 0 1, slot := f 1 1 % 16, inv := f 1 1 / 16 % 2 == 1, tagLen := f 2 1, nLen := f 3 1, src := f 4 4,
    dst := f 8 4, len := f 12 4, aad := f 16 4, aadLen := f 20 4, iv := f 24 4, tag := f 28 4, key := none, held := [] }

/-- The kinds of job. -/
def CipJob.isCmac (j : CipJob) : Bool := j.op == 2 || j.op == 3
def CipJob.isCcm (j : CipJob) : Bool := j.op == 4 || j.op == 5
def CipJob.isGcm (j : CipJob) : Bool := j.op == 6 || j.op == 7
def CipJob.isWrap (j : CipJob) : Bool := j.op == 8 || j.op == 9
/-- The slot that NLEN names, and PAIR. -/
def CipJob.target (j : CipJob) : Nat := j.nLen % 16
def CipJob.pair (j : CipJob) : Bool := j.nLen / 16 % 2 == 1

/-- The policy allows the job's direction (R384): ENC and DEC both allow CTR. -/
def CipJob.wayOk (j : CipJob) (k : KeySlot) : Bool :=
  let enc := k.has CIP_KPOL_ENC
  let dec := k.has CIP_KPOL_DEC
  if j.op = 1 then enc || dec else if j.op = 2 ∨ j.op = 4 ∨ j.op = 6 ∨ j.op = 8 then enc else dec

/-- The policy of slot `k` allows the job (R384). -/
def CipJob.allowed (j : CipJob) (k : KeySlot) : Bool :=
  let w := BitVec.ofNat 32 k.pol
  let mode := fun n : Nat => CIP_KPOL_MODES.of w / 2 ^ n % 2 == 1
  (if j.isWrap then k.has CIP_KPOL_KEK
   else if j.op == 1 then mode 0 else if j.isCmac then mode 1 else if j.isCcm then mode 2 else mode 3) &&
  j.wayOk k && CIP_KPOL_USERS.of w / 2 ^ j.owner % 2 == 1

/-- The slots that a WRAP wraps. -/
def State.wrapped (s : State) (j : CipJob) : List KeySlot :=
  s.slot j.target :: (if j.pair then [s.slot (j.target + 1)] else [])

/-- The keys `l` that a WRAP wraps are not as long as its LEN says (R395). -/
def CipJob.keysLong (j : CipJob) (l : List KeySlot) : Bool :=
  l.any (fun k => k.loaded && klenBytes k.klen != (if j.pair then 16 else j.len))

/-- LEN of a WRAP or UNWRAP is not that of R395. The device key of slot 15 is not judged: its EXPORT is 0 (R389, R391). -/
def State.wrapLenBad (s : State) (j : CipJob) : Bool :=
  if j.op = 8 then
    (j.len != 16 && j.len != 32) || (j.pair && j.len != 32) ||
    j.keysLong ((s.wrapped j).take (15 - j.target))
  else j.op == 9 && ((j.len != 24 && j.len != 40) || (j.pair && j.len != 40))

/-- A TAGLEN or NLEN outside R383. -/
def CipJob.sizeBad (j : CipJob) : Bool :=
  if j.isCmac then decide (j.tagLen < 1 ∨ 16 < j.tagLen)
  else if j.isCcm then !([0, 4, 6, 8, 10, 12, 14, 16].contains j.tagLen) || decide (j.nLen < 7 ∨ 13 < j.nLen)
  else if j.isGcm then !([4, 8, 12, 13, 14, 15, 16].contains j.tagLen)
  else false

/-- `n` bytes from `a` on lie in shared SRAM, or in the flash read window. -/
def ramRange (a n : Nat) : Bool := n == 0 || (inSram a && inSram (a + n - 1))
def winRange (a n : Nat) : Bool := n == 0 || (inWindow a && inWindow (a + n - 1))

/-- The output bytes of a job. -/
def CipJob.outLen (j : CipJob) : Nat := if j.isCmac ∨ j.op = 9 then 0 else if j.op = 8 then j.len + 8 else j.len

/-- The bytes at IV. -/
def CipJob.ivLen (j : CipJob) : Nat :=
  if j.op = 1 then 16 else if j.isCcm then j.nLen else if j.isGcm then 12 else if j.isWrap then 8 else 0

/-- A field range lies outside its region (R390). -/
def CipJob.rangeBad (j : CipJob) : Bool :=
  let src := if j.op = 8 then 0 else j.len
  !(ramRange j.src src || winRange j.src src) || !ramRange j.dst j.outLen ||
  ((j.isCcm || j.isGcm) && !ramRange j.aad j.aadLen) || !ramRange j.iv j.ivLen ||
  ((j.isCmac || j.isCcm || j.isGcm) && !ramRange j.tag j.tagLen)

/-- A target of a WRAP or UNWRAP that R391 refuses. -/
def State.targetBad (s : State) (j : CipJob) : Bool :=
  (j.isWrap && j.pair && decide (14 ≤ j.target)) ||
  (j.op == 9 && (j.target == 15 || (s.slot j.target).has CIP_KPOL_LOCK ||
    (j.pair && (s.slot (j.target + 1)).has CIP_KPOL_LOCK)))

/-- The status of a job write (R391). The policy of an EMPTY slot is not judged. -/
def State.jobStatus (s : State) (j : CipJob) : Nat :=
  let k := s.slot j.slot
  let known := decide (1 ≤ j.op ∧ j.op ≤ 9)
  firstStatus
    [(decide (65535 < j.len ∨ 65535 < j.aadLen) || s.wrapLenBad j, stBadLength),
     ((known && k.loaded && !j.allowed k) || (j.isWrap && j.owner != 2) ||
      (j.op == 8 && (s.wrapped j).any (fun w => w.loaded && !w.has CIP_KPOL_EXPORT)), stDenied),
     (!k.loaded || (j.op == 8 && (s.wrapped j).any (fun w => !w.loaded)) || s.cip.trng == 0, stBadState),
     (!known || j.sizeBad || j.rangeBad || s.targetBad j, stBadParam),
     (s.cip.trng == 2, stFault),
     (s.cip.jobs.any (fun i => i.owner == j.owner), stBusy),
     ((j.len == 0 && (j.aadLen == 0 || j.isCmac)), stOkEmpty)]

/-- The result of owner `m`'s job (R391, R392). -/
def cipRes (r : List (Nat × Word)) (m op status : Nat) (auth : Bool) : List (Nat × Word) :=
  wrF (wrF (wrF r (CIP_RES_OP m) op) (CIP_RES_STATUS m) status) (CIP_RES_AUTH m) (b2n auth)

/-- The key of the job whose turn has come is latched, and the keys that it wraps (R388). -/
def State.latchJob (s : State) : State :=
  match s.cip.jobs with
  | j :: r => if j.key.isNone then { s with cip := { s.cip with jobs := { j with key := some (s.slot j.slot), held := if j.op = 8 then s.wrapped j else [] } :: r } } else s
  | [] => s

/-- A job is submitted: refused, empty, or PENDING and queued (R391). -/
def State.submitJob (s : State) (j : CipJob) : State :=
  let st := s.jobStatus j
  let s1 : State := { s with regs := cipRes s.regs j.owner j.op (if st = stOK then stPending else st) false }
  if st = stOK then ({ s1 with cip := { s1.cip with jobs := s1.cip.jobs ++ [j] } } : State).latchJob
  else if st = stDenied then s1.cipRefuse j.owner stDenied (some j.slot)
  else s1

/-- A write of CIP_JOB by `m` (R390). -/
def State.cipJob (s : State) (m : Master) (desc : Nat) : State := s.submitJob (s.jobAt (s.code m) (sramBase + 4 * desc))

/-- A job write whose descriptor has OP `op`. -/
def State.jobOf (s : State) (m : Master) (desc : BitVec 19) (op : Nat) : State :=
  if (s.jobAt 0 (sramBase + 4 * desc.toNat)).op = op then s.cipJob m desc.toNat else s

/-! ### Jobs: the final status (R392) -/

/-- The input of a job read through the window, code word by code word: the bytes before a failure, and the failure. -/
def State.windowInput (s : State) (off : Nat) : Nat → Nat → List Byte → List Byte × FlashAns × State
  | 0, _, acc => (acc, .data [], s)
  | _, 0, acc => (acc, .data [], s)
  | fuel + 1, n, acc =>
    match s.dieRead (off / 32 * 32) with
    | (.data l, s1) =>
      let got := ((l.drop (off % 32)).take n)
      s1.windowInput (off + got.length) fuel (n - got.length) (acc ++ got)
    | (a, s1) => (acc, a, s1)

/-- The input bytes of a job. -/
def State.jobInput (s : State) (j : CipJob) : List Byte × FlashAns × State :=
  if j.op = 8 then ((j.held.flatMap (fun k => k.key)), .data [], s)
  else if inWindow j.src ∧ 0 < j.len then s.windowInput (winOff j.src) (j.len / 32 + 2) j.len []
  else (s.sramBytes j.src j.len, .data [], s)

/-- The bytes at DST and at TAG that a job gives, and whether its tag matches. -/
structure JobOut where
  dst  : List Byte
  tag  : List Byte
  auth : Bool
deriving DecidableEq, Repr

/-- What a job computes under `key` from its input (R383, R391, R393). -/
def CipJob.run (j : CipJob) (key iv aad tag input : List Byte) : JobOut :=
  if j.op = 1 then { dst := aesCtr key iv input, tag := [], auth := false }
  else if j.isCmac then
    let t := (cmac key input).take j.tagLen
    { dst := [], tag := t, auth := t == tag }
  else if j.op = 4 then { dst := ccmCrypt key iv input, tag := ccmTag key iv aad input j.tagLen, auth := false }
  else if j.op = 5 then
    let p := ccmCrypt key iv input
    { dst := p, tag := [], auth := ccmTag key iv aad p j.tagLen == tag }
  else if j.op = 6 then
    let c := gcmCrypt key iv input
    { dst := c, tag := gcmTag key iv aad c j.tagLen, auth := false }
  else if j.op = 7 then { dst := gcmCrypt key iv input, tag := [], auth := gcmTag key iv aad input j.tagLen == tag }
  else { dst := wrapKey key iv input, tag := [], auth := false }

/-- The job at the head is over with `status`: its result is written, JOBDONE fires, and the next job latches its key. -/
def State.endJob (s : State) (j : CipJob) (status : Nat) (auth : Bool) : State :=
  let s1 : State := { s with regs := cipRes s.regs j.owner j.op status auth, cip := { s.cip with jobs := s.cip.jobs.drop 1 } }
  (s1.fire 32).latchJob

/-- The keys that an unwrap gives, by slot (R393). -/
def unwrapSlots (target : Nat) (pair : Bool) (pol : Nat) (p : List Byte) : List (Nat × KeySlot) :=
  if pair then [(target, .load 0 pol (p.take 16)), (target + 1, .load 0 pol (p.drop 16))]
  else [(target, .load (if p.length = 16 then 0 else 2) pol p)]

/-- A policy word with its reserved bits zero, in the layout of CIP_KPOL (R393, R408). -/
def policyWord (v : Nat) : Nat := v % 2 ^ 13 + v / 2 ^ 22 % 2 ^ 10 * 2 ^ 22

/-- An unwrap of `w` under `key` with header `h` into slot `target` (R393): the state and the status. The policy word and the target are
checked as a commit is (R386). -/
def State.unwrapInto (s : State) (owner : Nat) (key h w : List Byte) (target : Nat) (pair : Bool) (pol : Nat) : State × Nat :=
  match unwrapKey key h w with
  | none => (s.cipRefuse owner stDenied (some target), stDenied)
  | some p =>
    let locked := (unwrapSlots target pair pol p).any (fun x => (s.slot x.1).has CIP_KPOL_LOCK)
    if policyBad (if pair ∨ p.length = 16 then 0 else 2) pol ∨ locked then (s.cipRefuse owner stMismatch (some target), stMismatch)
    else ((unwrapSlots target pair pol p).foldl (fun t x => t.putSlot x.1 x.2) s, stOK)

/-- The head job runs to its end without disagreement. -/
def State.runJob (s : State) (j : CipJob) (k : KeySlot) : State :=
  match s.jobInput j with
  | (_, .waits, _) => s
  | (input, .err st, s1) =>
    let part := (j.run k.key (s.sramBytes j.iv j.ivLen) (s.sramBytes j.aad j.aadLen) [] input).dst
    (s1.sramWrite j.dst (if j.isCmac ∨ j.isWrap then [] else part.take (input.length / 16 * 16))).endJob j st false
  | (input, .data _, s1) =>
    if j.op = 9 then
      let x := s1.unwrapInto j.owner k.key (s1.sramBytes j.iv 8) input j.target j.pair (policyWord j.tag)
      x.1.endJob j x.2 false
    else
      let tag := if j.op = 3 ∨ j.op = 5 ∨ j.op = 7 then s1.sramBytes j.tag j.tagLen else []
      let o := j.run k.key (s1.sramBytes j.iv j.ivLen) (s1.sramBytes j.aad j.aadLen) tag input
      let checks := j.op == 3 || j.op == 5 || j.op == 7
      if checks ∧ !o.auth then
        ((s1.sramWrite j.dst (List.replicate j.outLen 0)).inc CIP_CNT0_AUTHFAIL).endJob j stDenied false
      else
        let s2 := s1.sramWrite j.dst o.dst
        (if checks then s2 else s2.sramWrite j.tag o.tag).endJob j stOK checks

/-- The head job stops at its first disagreement after `n` blocks (R397), or at the reseed that fails in FAIL (R398). -/
def State.stopJob (s : State) (j : CipJob) (k : KeySlot) (n : Nat) : State :=
  let x := s.jobInput j
  let part := (j.run k.key (s.sramBytes j.iv j.ivLen) (s.sramBytes j.aad j.aadLen) [] x.1).dst
  let keep := if j.isCmac ∨ j.isWrap then [] else part.take (16 * n)
  let s1 := (x.2.2.sramWrite j.dst keep).endJob j stFault false
  if s.cip.trng = 2 then s1 else s1.cipDisagree 0

/-- The keys that a WRAP has latched may not be wrapped (R388, R391): the status. -/
def CipJob.heldStatus (j : CipJob) : Nat :=
  if j.op ≠ 8 then stOK
  else firstStatus [(j.keysLong j.held, stBadLength), (j.held.any (fun w => w.loaded && !w.has CIP_KPOL_EXPORT), stDenied),
                    (j.held.any (fun w => !w.loaded), stBadState)]

/-- JOB_DONE (R392, R397): the job at the head ends; `stop` gives the blocks written before a disagreement. It cannot end before a Seal or
an Accept (R401). -/
def execJobDone (stop : Option Nat) (s : State) : Host.Outcome State Fault Refusal :=
  if !s.tclkOn || s.sealing || s.accepting then .next s
  else match s.cip.jobs with
  | [] => .next s
  | j :: _ =>
    let k := j.key.getD .empty
    if !k.loaded then .next (s.endJob j stBadState false)
    else if !j.allowed k ∨ j.heldStatus = stDenied then .next ((s.cipRefuse j.owner stDenied (some j.slot)).endJob j stDenied false)
    else if j.heldStatus ≠ stOK then .next (s.endJob j j.heldStatus false)
    else match stop with
      | some n => .next (s.stopJob j k n)
      | none => .next (s.runJob j k)

/-! ### Job commands (R391) -/

/-- CTR. -/
def execCtr (m : Master) (desc : BitVec 19) (s : State) : Host.Outcome State Fault Refusal := .next (s.writes m 7 (s.jobOf m desc 1))

/-- CMAC_GENERATE. -/
def execCmacGenerate (m : Master) (desc : BitVec 19) (s : State) : Host.Outcome State Fault Refusal := .next (s.writes m 7 (s.jobOf m desc 2))

/-- CMAC_VERIFY. -/
def execCmacVerify (m : Master) (desc : BitVec 19) (s : State) : Host.Outcome State Fault Refusal := .next (s.writes m 7 (s.jobOf m desc 3))

/-- CCM_ENCRYPT. -/
def execCcmEncrypt (m : Master) (desc : BitVec 19) (s : State) : Host.Outcome State Fault Refusal := .next (s.writes m 7 (s.jobOf m desc 4))

/-- CCM_DECRYPT. -/
def execCcmDecrypt (m : Master) (desc : BitVec 19) (s : State) : Host.Outcome State Fault Refusal := .next (s.writes m 7 (s.jobOf m desc 5))

/-- GCM_ENCRYPT. -/
def execGcmEncrypt (m : Master) (desc : BitVec 19) (s : State) : Host.Outcome State Fault Refusal := .next (s.writes m 7 (s.jobOf m desc 6))

/-- GCM_DECRYPT. -/
def execGcmDecrypt (m : Master) (desc : BitVec 19) (s : State) : Host.Outcome State Fault Refusal := .next (s.writes m 7 (s.jobOf m desc 7))

/-- WRAP (R393, R395). -/
def execWrap (m : Master) (desc : BitVec 19) (s : State) : Host.Outcome State Fault Refusal := .next (s.writes m 7 (s.jobOf m desc 8))

/-- UNWRAP (R393, R395). -/
def execUnwrap (m : Master) (desc : BitVec 19) (s : State) : Host.Outcome State Fault Refusal := .next (s.writes m 7 (s.jobOf m desc 9))

/-- KEY_WORD_WRITE (R386). -/
def execKeyWordWrite (m : Master) (n : Fin 8) (v : Word) (s : State) : Host.Outcome State Fault Refusal :=
  .next (s.writes m 7 (s.keyWord m n.val v))

/-- KCMD_ERASE (R387). -/
def execKcmdErase (m : Master) (k : Fin 16) (s : State) : Host.Outcome State Fault Refusal := .next (s.writes m 7 (s.keyErase m k.val))

/-! ### TRNG (R398, R399) -/

/-- TRNG_TEST_DONE: the start-up test passes. -/
def execTrngTestDone (s : State) : Host.Outcome State Fault Refusal :=
  .next (if s.cip.trng = 0 ∧ s.tclkOn then { s with cip := { s.cip with trng := 1 } } else s)

/-- TRNG_FAIL: a health test fails; FLT logs it (R465). -/
def execTrngFail (s : State) : Host.Outcome State Fault Refusal :=
  if s.cip.trng = 2 ∨ !s.tclkOn then .next s
  else .next (({ s with cip := { s.cip with trng := 2 } } : State).fault { code := 8, region := 12, tier := 1 })

/-- A write of RESTART to CIP_RNGSTAT. -/
def State.trngRestart (s : State) (m : Master) : State :=
  if isE2 m ∧ s.cip.trng = 2 then { s with cip := { s.cip with trng := 0 } } else s

/-- TRNG_RESTART. -/
def execTrngRestart (m : Master) (s : State) : Host.Outcome State Fault Refusal := .next (s.writes m 7 (s.trngRestart m))

/-- TRNG_RESEED: the mask generator is reseeded, and `left` further words of entropy are ready in CIP_RNG (R399). -/
def execTrngReseed (left : Nat) (s : State) : Host.Outcome State Fault Refusal :=
  .next (if s.cip.trng = 1 ∧ s.tclkOn then s.wr CIP_RNGSTAT_AVAIL (min 16 (s.rd CIP_RNGSTAT_AVAIL + left)) else s)

/-- A read of CIP_RNG: a fresh word, or 0 and an underrun. -/
def State.rngRead (s : State) : State :=
  let n := s.rd CIP_RNGSTAT_AVAIL
  if n = 0 then { (s.inc CIP_RNGSTAT_UNDERRUN) with busData := 0 }
  else { ((s.wr CIP_RNGSTAT_AVAIL (n - 1)).took) with busData := BitVec.ofNat 32 (s.freeBelow (2 ^ 32)) }

/-- RNG_READ (R399). -/
def execRngRead (s : State) : Host.Outcome State Fault Refusal := .next s.rngRead

end Sys2Proof.Machine
end

