-- ==== Sys2Proof/Machine/LinkTest.lean ====
section
/-!
DEFINITION. The production and field link test TST (21_link_test.md): patterns (R525), start and end of a run (R526, R527), the
links (R528 to R532) and what meets them (R533).
-/
namespace Sys2Proof.Machine

/-! ### Patterns (R525) -/

/-- One step of a pattern register: the bit that leaves and the register after it. The generator has the form of R121 (log entry
28). -/
def prbsStep (pat r : Nat) : Nat × Nat :=
  let n := if pat = 0 then 7 else if pat = 1 then 15 else 31
  let k := if pat = 0 then 6 else if pat = 1 then 14 else 28
  let o := (r / 2 ^ (n - 1) + r / 2 ^ (k - 1)) % 2
  (o, (r * 2 + o) % 2 ^ n)

/-- The next byte of a pattern register, its bits carried most significant first (`msb`) or least significant first. -/
def prbsByte (pat : Nat) (msb : Bool) (r : Nat) : Nat × Nat :=
  (List.range 8).foldl (fun x i =>
    let y := prbsStep pat x.2
    (x.1 + y.1 * 2 ^ (if msb then 7 - i else i), y.2)) (0, r)

/-- The pattern register at the start of a run: every bit 1; the FIXED pattern counts its bytes. -/
def patStart (pat : Nat) : Nat := if pat = 0 then 0x7F else if pat = 1 then 0x7FFF else if pat = 2 then 0x7FFFFFFF else 0

/-- The next byte of pattern `pat`. -/
def patByte (pat word : Nat) (msb : Bool) (r : Nat) : Nat × Nat :=
  if pat = 3 then (word / 256 ^ (r % 4) % 256, (r + 1) % 4) else prbsByte pat msb r

/-- The next `n` bytes of a pattern. -/
def patBytes (pat word : Nat) (msb : Bool) : Nat → Nat → List Nat × Nat
  | 0, r => ([], r)
  | n + 1, r =>
    let x := patByte pat word msb r
    let y := patBytes pat word msb n x.2
    (x.1 :: y.1, y.2)

/-- Bits in which two bytes differ. -/
def bitErrs (a b : Nat) : Nat := ((List.range 8).filter (fun i => a / 2 ^ i % 2 ≠ b / 2 ^ i % 2)).length

/-- Bit errors of received bytes against the expected ones; a byte that has not come counts as eight. -/
def byteErrs : List Nat → List Byte → Nat
  | [], _ => 0
  | _ :: r, [] => 8 + byteErrs r []
  | a :: r, b :: t => bitErrs a b.toNat + byteErrs r t

/-! ### Start (R526) -/

/-- The band of RXLOOP. -/
def State.testBand (s : State) : Band := if s.rd TST_CFG_BAND = 0 then .sg else .g24

/-- Status of a START by `m` (R526). -/
def State.testStatus (s : State) (m : Master) : Nat :=
  let link := s.rd TST_CFG_LINK
  let ch := s.rd TST_ARG_CH
  let task := s.rd TST_ARG_TASK
  let run := s.tst.run.isSome
  let host := match m with
    | .hif => true
    | .eng _ => false
  let denied := (link == 0 && !host) || (link == 4 && !s.chanAllowed m ch false (s.rd (EVF_CH_CFG_OWNER ch)))
  let b := s.testBand
  let state := !run && ((link == 0 && s.rd HIF_STAT_IF == 0) || (link == 1 && !s.rdB FLC_STAT_SCANDONE) ||
    (link == 2 && ((s.rfcB b).st != .ready || s.macOn b)) || (link == 3 && (!s.tst.testEn || s.rd HIF_STAT_IF == 2)))
  let len := s.rd TST_LEN_LEN
  let bad := decide (4 < link) || (link == 2 && (len == 0 || decide (2047 < len))) ||
    (link == 4 && (decide (s.rd TST_ARG_PERIOD < 64) || decide ((116 ≤ task ∧ task ≤ 119) ∨ 122 ≤ task) ||
      decide (s.rd (EVF_CH_CFG_SRC ch) < 160)))
  firstStatus [(denied, stDenied), (state, stBadState), (bad, stBadParam), (run, stBusy),
    (link == 1 && s.flc.op.isSome, stBusy), (s.rd TST_COUNT_COUNT == 0, stOkEmpty)]

/-- A START that is not refused clears the results (R526). -/
def testCleared (m : List (Nat × Word)) : List (Nat × Word) :=
  let r1 := wrF (wrF (wrF m TST_UNITS_UNITS 0) TST_ERRS_ERRS 0) TST_STAT_RESULT 0
  wrF (wrF (wrF (wrF r1 TST_LOST_LATMAX 0) TST_LOST_LOST 0) TST_RXQ_MINB 0x7F) TST_RXQ_MINA 0x7F

/-- A write of TST_CTRL.START (R526). -/
def State.testStart (s : State) (m : Master) : State :=
  let st := s.testStatus m
  let link := s.rd TST_CFG_LINK
  if st = stOkEmpty then { s with regs := wrF (testCleared s.regs) TST_STAT_STATUS st }
  else if st ≠ stOK then s.wr TST_STAT_STATUS st
  else
    let p := patStart (s.rd TST_CFG_PAT)
    let r1 := wrF (wrF (testCleared s.regs) TST_STAT_STATUS stPending) TST_STAT_RUN 1
    let r2 := if link = 1 then wrF (wrF r1 FLC_STAT_BUSY 1) FLC_STAT_OWNER (s.code m) else r1
    { s with regs := r2,
             tst := { s.tst with run := some { owner := s.code m, link := link, gen := p, chk := p, sent := 0, recv := 0, stop := false,
                                               ready := link != 0, due := s.mer.tstamp } } }

/-- START (R526): 1 written to TST_CTRL.START by `m`. -/
def execStart (m : Master) (s : State) : Host.Outcome State Fault Refusal := .next (s.writes m 15 (s.testStart m))

/-- A write of TST_CTRL.STOP (R527): the run ends at the end of the unit in progress. -/
def State.testStop (s : State) : State :=
  { s with tst := { s.tst with run := s.tst.run.map (fun r => { r with stop := true }) } }

/-- STOP (R527). -/
def execStop (s : State) : Host.Outcome State Fault Refusal := .next s.testStop

/-! ### The end of a run (R527, R533) -/

/-- A commit of MDM that the run has held back is applied (R115, R533). -/
def State.releaseMdm (s : State) : State :=
  match s.tst.heldMdm with
  | none => s
  | some sh =>
    let t : State := { s with shadow := sh }
    let st := t.mdmCommitStatus
    let s1 : State := { s with tst := { s.tst with heldMdm := none } }
    let r := if st = stOK then copyShadow s.regs sh (shAddrs 0x40009000) else s.regs
    let s2 : State := { s1 with regs := wrF (wrF r MDM_COMMIT_STATUS st) MDM_COMMIT_BUSY 0 }
    if st = stOK then s2.mdmCommitted s.regs else s2

/-- The run ends with RESULT `r` (R527). -/
def State.testEnd (s : State) (r : Nat) : State :=
  match s.tst.run with
  | none => s
  | some x =>
    let r1 := wrF (wrF (wrF s.regs TST_STAT_STATUS stOK) TST_STAT_RUN 0) TST_STAT_RESULT r
    let r2 := if x.link = 1 then wrF (wrF r1 FLC_STAT_BUSY 0) FLC_STAT_OWNER 15 else r1
    ({ s with regs := r2, tst := { s.tst with run := none } } : State).releaseMdm

/-- Whether the run ends after a unit: at COUNT, by STOP, or because MAC has come to serve the band (R527, R533). -/
def State.testCheck (s : State) : State :=
  match s.tst.run with
  | none => s
  | some x =>
    if s.rd TST_COUNT_COUNT ≤ s.rd TST_UNITS_UNITS then
      s.testEnd (if s.rd TST_ERRS_ERRS ≤ s.rd TST_ERRMAX_MAX ∧ s.rd TST_LOST_LOST = 0 then 1 else 2)
    else if x.stop ∨ (x.link = 2 ∧ s.macOn s.testBand) then s.testEnd 3
    else s

/-! ### Units (R528 to R532) -/

/-- The run replaced. -/
def State.putRun (s : State) (x : TestRun) : State := { s with tst := { s.tst with run := some x } }

/-- The next `n` bytes that the checker expects are compared with `rx`. -/
def State.testBytes (s : State) (x : TestRun) (msb : Bool) (n : Nat) (rx : List Byte) : State :=
  let e := patBytes (s.rd TST_CFG_PAT) (s.rd TST_FIXED_WORD) msb n x.chk
  (s.putRun { x with chk := e.2, gen := e.2 }).inc TST_ERRS_ERRS (byteErrs e.1 rx)

/-- One more unit. -/
def State.unitDone (s : State) : State := (s.inc TST_UNITS_UNITS).testCheck

/-- A byte received: eight errors without a valid stop bit on the UART link (R531). -/
def State.testByte (s : State) (x : TestRun) (rx : Byte) (stopOk : Bool) : State :=
  let msb := x.link == 0 && s.rd HIF_STAT_IF == 1
  if x.link = 3 ∧ !stopOk then
    let e := patBytes (s.rd TST_CFG_PAT) (s.rd TST_FIXED_WORD) msb 1 x.chk
    (s.putRun { x with chk := e.2, gen := e.2 }).inc TST_ERRS_ERRS 8
  else s.testBytes x msb 1 [rx]

/-- HOST over UART: a direction has carried one more byte; a unit is complete when both have (R528). -/
def State.testPair (s : State) (x : TestRun) : State :=
  let s1 := s.putRun x
  if s.rd TST_UNITS_UNITS < min x.sent x.recv then s1.unitDone
  else if x.stop then s1.testCheck else s1

/-- The lower of two signed metrics (R530). -/
def minMetric (old new : Nat) : Nat := if sInt 8 new < sInt 8 old then new else old

/-- A frame of RXLOOP (R530). -/
def State.testFrame (s : State) (x : TestRun) (rx : Option (List Byte)) (a b : Byte) : State :=
  let len := s.rd TST_LEN_LEN
  match rx with
  | none =>
    let e := patBytes (s.rd TST_CFG_PAT) (s.rd TST_FIXED_WORD) false len x.chk
    ((s.putRun { x with chk := e.2, gen := e.2 }).inc TST_LOST_LOST).unitDone
  | some bs =>
    let s1 := s.testBytes x false len bs
    ((s1.wr TST_RXQ_MINA (minMetric (s.rd TST_RXQ_MINA) a.toNat)).wr TST_RXQ_MINB (minMetric (s.rd TST_RXQ_MINB) b.toNat)).unitDone

/-- A fire of channel CH and what the tap sees (R532, R533): one pulse for TASK exactly the fabric time of R342 later. -/
def State.testFire (s : State) (x : TestRun) (software : Bool) : State :=
  let s0 := s.advanceTo x.due
  let s1 := s0.putRun { x with due := s0.mer.tstamp + s.rd TST_ARG_PERIOD }
  let ch := s.rd TST_ARG_CH
  let task := s.rd TST_ARG_TASK
  let on := chanOn s1.regs ch
  let pulse := on && (chanTasks s1.regs ch).contains task
  let s2 := if software then (if on then s1.inc (EVF_CH_CNT_MERGED ch) else s1) else if on then s1.fireChans s1.regs [ch] 0xFF else s1
  let s3 := if pulse then s2.wr TST_LOST_LATMAX (max (s.rd TST_LOST_LATMAX) (if task < 64 then 1 else 2)) else s2
  (if pulse && !software then s3 else s3.inc TST_ERRS_ERRS).unitDone

/-- TEST_UNIT (R524, R528 to R532): a unit, or a part of one, of the run's link; HIF receives the bytes of a HOST run (R437). -/
def execTestUnit (p : TestPart) (s : State) : Host.Outcome State Fault Refusal :=
  match s.tst.run with
  | none => .next s
  | some x =>
    if !s.tclkOn ∨ !x.ready then .next s
    else match x.link, p with
      | 0, .byte rx ok =>
        let s0 := s.hifByte
        if s.rd HIF_STAT_IF = 1 then .next (s0.testByte x rx true).unitDone
        else
          let s1 := s0.testByte x rx ok
          .next (s1.testPair { (s1.tst.run.getD x) with recv := x.recv + 1 })
      | 0, .sent => if s.rd HIF_STAT_IF = 2 then .next (s.testPair { x with sent := x.sent + 1 }) else .next s
      | 3, .byte rx ok => .next (s.testByte x rx ok).unitDone
      | 1, .burst rx => .next (s.testBytes x false 32 rx).unitDone
      | 2, .frame rx a b => .next (s.testFrame x rx a b)
      | 4, .fire sw => .next (s.testFire x sw)
      | _, _ => .next s

/-- TEST_GAP_TIMEOUT (R528): more than HIF_CFG.GAP ms (10 ms for 0) without a byte from the host end a HOST run. -/
def execTestGapTimeout (s : State) : Host.Outcome State Fault Refusal :=
  match s.tst.run with
  | none => .next s
  | some x => .next (if x.link = 0 ∧ x.ready then s.testEnd 3 else s)

/-- A write of `v` to TST_CTRL (R526, R527): START is taken before STOP. -/
def State.writeTstCtrl (s : State) (m : Master) (v : Word) : State :=
  let s1 := if TST_CTRL_START.of v = 1 then s.testStart m else s
  if TST_CTRL_STOP.of v = 1 then s1.testStop else s1

/-- A write to a configuration register of TST: ignored during a run (R535). -/
def State.writeTstCfg (s : State) (a : Nat) (v : Word) : State := if s.tst.run.isSome then s else s.plainWrite a v

end Sys2Proof.Machine
end

