-- ==== Sys2Proof/Machine/Luminaire.lean ====
section
/-!
DEFINITION. Luminaire inputs and dimming outputs (09_luminaire_io.md): photodiodes, the PIR input, PWM periods and edges, general
pins, and what SNS does at a commit, at a step of Meridian and around a stop of TCLK.
-/
namespace Sys2Proof.Machine

/-! ### Photodiodes (R277 to R279) -/

/-- LEVEL of photodiode `k` follows DATA bits 31:16 (R279). -/
def State.pdLevel (s : State) (k : Nat) : State :=
  let d := s.rd (SNS_PD_DATA_DATA k) / 65536
  let hi := 2 * s.rd (SNS_PD_THR_HI k) + 1
  let lo := s.rd (SNS_PD_THR_LO k)
  let l := s.rd (SNS_PD_CFG_LEVEL k)
  let l' := if hi ≤ lo then l else if hi ≤ d then 1 else if d ≤ lo then 0 else l
  if l' = l then s else (s.wr (SNS_PD_CFG_LEVEL k) l').fire (144 + k)

/-- A quotient whose rounding the spec leaves open: the floor, or one more when the division leaves a rest (`up`). -/
def looseDiv (a : Int) (b : Nat) (up : Nat) : Int := a / b + (if a % b = 0 then 0 else (up % 2 : Nat))

/-- A conversion of photodiode `k`: the charge, in 1/16 pA × TCLK cycles, is divided by the `len` TCLK cycles of the integration, the
mean goes to DATA, and UNDER and OVER compare it (R278). The rounding of the quotient, which the spec does not give, is free. SVR takes
DATA (R509). -/
def State.pdTake (s : State) (k charge len : Nat) : State :=
  let tooMuch := decide (1600000000 * len < charge)
  let d := if tooMuch then 1600000000 else (looseDiv charge len (s.freeBelow 2)).toNat
  ((((s.took.wr (SNS_PD_DATA_DATA k) d).wr (SNS_PD_CFG_OVER k) (b2n tooMuch)).wr
    (SNS_PD_THR_UNDER k) (b2n (decide (charge < 1600 * len)))).svrSample 3 k (d : Nat)).pdLevel k

/-- The converter of photodiode `k`. -/
def State.pd (s : State) (k : Nat) : Pd := s.sns.pds.getD k { start := none, cycles := 0, ended := [] }
def State.putPd (s : State) (k : Nat) (v : Pd) : State :=
  { s with sns := { s.sns with pds := modifyNth (fun _ => v) k s.sns.pds } }

/-- PD_CONVERSION (R277, R278): an integration of photodiode `k` has ended, and `charge` is what it gathered, in 1/16 pA × TCLK cycles.
Integrations over Meridian cycles end at their MER_CYCLE event, the one of 1 ms when its time is up; one shorter than 1 ms is
discarded. -/
def execPdConversion (k : Fin 2) (charge : Nat) (s : State) : Host.Outcome State Fault Refusal :=
  let p := s.pd k.val
  if !s.tclkOn then .next s
  else
    match p.ended with
    | len :: r =>
      let s1 := s.putPd k.val { p with ended := r }
      .next (if len < 400000 then s1 else s1.pdTake k.val charge len)
    | [] =>
      match p.start with
      | some t =>
        if s.rd (SNS_PD_CFG_INT k.val) = 3 then
          .next (((s.tick (t + 400000 - s.tclk)).putPd k.val { p with start := some (t + 400000) }).pdTake k.val charge 400000)
        else .next s
      | none => .next s

/-- A MER_CYCLE event: an integration over Meridian cycles that waits for one begins, one that has lasted its number of cycles ends
and the next begins (R277). -/
def State.pdCycle (s : State) : State :=
  (List.range 2).foldl (fun t k =>
    let p := t.pd k
    let int := t.rd (SNS_PD_CFG_INT k)
    if int ≠ 1 ∧ int ≠ 2 then t
    else match p.start with
      | none => t.putPd k { p with start := some t.tclk, cycles := 0 }
      | some b =>
        if p.cycles + 1 < (if int = 1 then 1 else 4) then t.putPd k { p with cycles := p.cycles + 1 }
        else t.putPd k { start := some t.tclk, cycles := 0, ended := p.ended ++ [t.tclk - b] }) s

/-- A write to SNS_PDk_CFG: a changed INT drops the integration in progress; 1 ms begins at once, whole cycles at the next MER_CYCLE
event (R277; log entry 58). -/
def State.writePdCfg (s : State) (k : Nat) (v : Word) : State :=
  let s1 := s.plainWrite (SNS_PD_CFG_INT k).addr v
  if s1.rd (SNS_PD_CFG_INT k) = s.rd (SNS_PD_CFG_INT k) then s1
  else s1.putPd k { s.pd k with start := if s1.rd (SNS_PD_CFG_INT k) = 3 then some s.tclk else none, cycles := 0 }

/-! ### PIR (R280, R281) -/

/-- The motion detector takes |y| (R281). -/
def State.pirDetect (s : State) (mag : Nat) : State :=
  let cnt := s.rd SNS_PIR_CFG_CNT
  let loud := decide (s.rd SNS_PIR_CFG_THR * 16 < mag)
  let armed := s.rdB SNS_PIR_DATA_ARMED
  let n := s.sns
  if 0 < n.silent then { s with sns := { n with silent := n.silent - 1 } }
  else
    let a := if loud then n.above + 1 else 0
    let b := if loud then 0 else n.below + 1
    let s1 : State := { s with sns := { n with above := min a 255, below := min b 255 } }
    if cnt = 0 then s1
    else if armed ∧ cnt ≤ a then (s1.wr SNS_PIR_DATA_ARMED 0).fire 146
    else if !armed ∧ cnt ≤ b then s1.wr SNS_PIR_DATA_ARMED 1
    else s1

/-- A sample `x` passes the filter; the first one after EN sets m (R280). The filter keeps m in 1/65,536, and the rounding of its
quotients, which the spec does not give, is free. -/
def State.pirFilter (s : State) (x : Int) : State :=
  let hpf := s.rd SNS_PIR_CFG_HPF
  let m := match s.sns.pirM with
    | some m => m + looseDiv (x * 65536 - m) (2 ^ hpf) (s.freeBelow 2)
    | none => x * 65536
  let s0 := s.took
  let y := looseDiv (x * 65536 - m) 65536 (s0.freeBelow 2)
  let s1 := s0.took
  let shown := if -32768 ≤ y ∧ y ≤ 32767 then intBits 16 y else s1.freeBelow 65536
  let silent := if s.sns.pirM = none then 4 * 2 ^ hpf else s.sns.silent
  let s2 : State := { s1.took with sns := { s.sns with pirM := some m, silent := silent } }
  ((s2.wr SNS_PIR_DATA_Y shown).fire 147).pirDetect y.natAbs

/-- PIR_SAMPLE (R280): a sample `x` every 400,000 TCLK cycles. -/
def execPirSample (x : BitVec 16) (s : State) : Host.Outcome State Fault Refusal :=
  if !s.tclkOn || !s.rdB SNS_PIR_CFG_EN then .next s
  else
    let at_ := match s.sns.pirAt with
      | some t => t + 400000
      | none => s.tclk
    let s1 := s.tick (at_ - s.tclk)
    .next (({ s1 with sns := { s1.sns with pirAt := some at_ } } : State).pirFilter x.toInt)

/-- A write to SNS_PIR_CFG: HPF is held to 4 to 12, and a rise of EN begins the filter anew (R280, R292). -/
def State.writePirCfg (s : State) (v : Word) : State :=
  let h := (SNS_PIR_CFG_HPF).of v
  let s1 := s.plainWrite SNS_PIR_CFG_EN.addr (SNS_PIR_CFG_HPF.put v (min 12 (max 4 h)))
  if SNS_PIR_CFG_EN.of v = 1 ∧ !s.rdB SNS_PIR_CFG_EN then
    { s1 with sns := { s1.sns with pirAt := none, pirM := none, silent := 0, above := 0, below := 0 } }
  else s1

/-! ### Dimming outputs (R282 to R287) -/

/-- Fields of the configuration in effect. -/
def Pwm.mode (p : Pwm) : Nat := (SNS_PWM_CFG_MODE 0).of p.cfg
def Pwm.idle (p : Pwm) : Bool := (SNS_PWM_CFG_IDLE 0).of p.cfg == 1
def Pwm.inv (p : Pwm) : Bool := (SNS_PWM_CFG_INV 0).of p.cfg == 1
def Pwm.phofs (p : Pwm) : Nat := (SNS_PWM_PER_PHOFS 0).of p.per

/-- The period: T in TCLK cycles (FREE) or P in phase units (ALIGNED). -/
def Pwm.span (p : Pwm) : Nat :=
  if p.mode = 1 then (SNS_PWM_PER_PERIOD 0).of p.per * 2 ^ (SNS_PWM_CFG_PRESC 0).of p.cfg
  else 65536 / 2 ^ (SNS_PWM_CFG_DIV 0).of p.cfg

/-- The pin at the active level (`on`), or at the inactive one. -/
def Pwm.level (p : Pwm) (on : Bool) : Bool := on != p.inv

/-- The last ALIGNED period start at or before Meridian time `t`. -/
def Pwm.alignedAt (p : Pwm) (t : Nat) : Nat := (t + 2 ^ 48 - (t + 2 ^ 48 - p.phofs) % max p.span 1) % 2 ^ 48

/-- Output `n` takes the committed set. -/
def State.pwmAdopt (s : State) (n : Nat) (p : Pwm) : Pwm :=
  { p with cfg := regGet s.regs (SNS_PWM_CFG_MODE n).addr, per := regGet s.regs (SNS_PWM_PER_PERIOD n).addr }

/-- DUTY as the core sees it at a period start in the present TCLK cycle: what it was before this cycle (R284). -/
def State.dutySeen (s : State) (n : Nat) (p : Pwm) : Nat :=
  match p.was with
  | some w => if w.1 = s.tclk then w.2 else s.rd (SNS_PWM_DUTY_DUTY n)
  | none => s.rd (SNS_PWM_DUTY_DUTY n)

/-- A period of output `n` begins, with start `t` in the unit of its mode (R283, R284); PWMPER is the start of PWM0. -/
def State.pwmBegin (s : State) (n : Nat) (p : Pwm) (t : Nat) : State :=
  let d := s.dutySeen n p
  let s1 := s.putPwm n { p with duty := d, start := some t, pin := p.level (d != 0) }
  if n = 0 then s1.fire 148 else s1

/-- Output `n` stands in OFF: its pin is at IDLE (R282). -/
def State.pwmOff (s : State) (n : Nat) (p : Pwm) : State := s.putPwm n { p with start := none, pin := p.idle }

/-- Output `n` in ALIGNED waits, inactive, for the first period start after the present time (R282, R285). -/
def State.pwmWait (s : State) (n : Nat) (p : Pwm) : State :=
  s.putPwm n { p with duty := 0, start := some (p.alignedAt s.mer.now), pin := p.level false }

/-- Output `n` takes its new set at a period start: the period begins in the new mode, and ALIGNED waits for its next start unless
one falls in this TCLK cycle (R46). -/
def State.pwmStartNow (s : State) (n : Nat) (p : Pwm) : State :=
  if p.mode = 1 then s.pwmBegin n p s.tclk
  else if p.mode = 2 then
    let a := p.alignedAt s.mer.now
    if s.passed a then s.pwmWait n p else s.pwmBegin n p a
  else s.pwmOff n p

/-- TCLK cycles until the next period of an output in FREE or ALIGNED begins. -/
def State.pwmDue (s : State) (p : Pwm) : Nat :=
  match p.start with
  | some t => if p.mode = 1 then t + p.span - s.tclk else s.cyclesTo ((t + p.span) % 2 ^ 48 * 2 ^ 32)
  | none => 0

/-- PWM_PERIOD_START (R283 to R285): output `n` begins its next period, with the set committed since. -/
def execPwmPeriodStart (n : Fin 4) (s : State) : Host.Outcome State Fault Refusal :=
  let p := s.pwm n.val
  if !s.tclkOn || p.mode == 0 then .next s
  else
    let s1 := s.tick (s.pwmDue p)
    let q := s1.pwmAdopt n.val p
    if p.mode = 1 ∧ q.mode = 1 then
      .next (s1.pwmBegin n.val q (match p.start with | some t => max s1.tclk (t + p.span) | none => s1.tclk))
    else if q = p then .next (s1.pwmBegin n.val q (q.alignedAt s1.mer.now))
    else .next (s1.pwmStartNow n.val q)

/-- TCLK cycles until the inactive edge of the period in progress (R283). -/
def State.pwmEdgeDue (s : State) (p : Pwm) (t : Nat) : Nat :=
  if p.mode = 1 then t + p.duty * p.span / 65536 - s.tclk
  else s.cyclesTo ((t * 2 ^ 32 + p.duty * p.span * 65536) % 2 ^ 80)

/-- PWM_INACTIVE_EDGE (R283). -/
def execPwmInactiveEdge (n : Fin 4) (s : State) : Host.Outcome State Fault Refusal :=
  let p := s.pwm n.val
  match p.start with
  | none => .next s
  | some t =>
    if !s.tclkOn || p.mode == 0 || p.duty == 0 || p.duty == 0xFFFF || p.pin != p.level true then .next s
    else
      let s1 := s.tick (s.pwmEdgeDue p t)
      .next (s1.putPwm n.val { p with pin := p.level false })

/-- The status of SNS_COMMIT on the shadow set (R284). -/
def State.snsCommitStatus (s : State) : Nat :=
  let mode := fun n => s.sh (SNS_PWM_CFG_MODE n)
  let bad := fun n => mode n == 3 || decide (10 < s.sh (SNS_PWM_CFG_DIV n)) ||
    (mode n == 1 && s.sh (SNS_PWM_PER_PERIOD n) == 0)
  let mis := fun n => mode n == 2 && decide (65536 / 2 ^ s.sh (SNS_PWM_CFG_DIV n) ≤ s.sh (SNS_PWM_PER_PHOFS n))
  firstStatus [((List.range 4).any bad, stBadParam), ((List.range 4).any mis, stMismatch)]

/-- Outputs that stand in OFF take an accepted commit at once (R284). -/
def State.snsCommitted (s : State) : State :=
  (List.range 4).foldl (fun t n =>
    let p := t.pwm n
    if p.mode = 0 then t.pwmStartNow n (t.pwmAdopt n p) else t) s

/-- Meridian has been stepped (R285): an ALIGNED period whose end was stepped over lasts until the next period start, and an inactive
edge that was stepped over falls now; a backward step only lengthens the period. -/
def State.pwmStepped (s : State) : State :=
  (List.range 4).foldl (fun u n =>
    let p := u.pwm n
    match p.start with
    | none => u
    | some t =>
      if p.mode ≠ 2 ∨ merAfter t u.mer.now then u
      else
        let late := u.pwmEdgeDue p t == 0 && p.duty != 0 && p.duty != 0xFFFF
        let a := p.alignedAt u.mer.now
        u.putPwm n { p with start := some (if merAfter (merAdd t p.span) u.mer.now then t else a),
                            pin := if late then p.level false else p.pin }) s

/-- The new time lies in the period that began at `t`, before its inactive edge. -/
def State.pwmWithin (s : State) (p : Pwm) (t : Nat) : Bool :=
  !merAfter t s.mer.now && merAfter (merAdd t p.span) s.mer.now && s.pwmEdgeDue p t != 0

/-- Meridian has taken the step of R64, which an ALIGNED output treats as a forward step that ends its period: an inactive edge stepped
over falls now, one still to come keeps its place (R285), and the next period begins at the first period start after the new time. -/
def State.pwmSet (s : State) : State :=
  (List.range 4).foldl (fun u n =>
    let p := u.pwm n
    if p.mode ≠ 2 ∨ p.start = none ∨ p.start.any (u.pwmWithin p) then u
    else
      let done := p.duty != 0 && p.duty != 0xFFFF
      u.putPwm n { p with start := some (p.alignedAt u.mer.now), duty := if done then 0 else p.duty,
                          pin := if done then p.level false else p.pin }) s

/-- Every output drives IDLE before TCLK stops, and no edge of the period in progress falls any more (R286). -/
def State.pwmStop (s : State) : State :=
  { s with sns := { s.sns with pwms := s.sns.pwms.map (fun p => { p with duty := 0, pin := p.idle }) } }

/-- When TCLK returns, an ALIGNED output resumes at its next period start (R286). -/
def State.pwmResume (s : State) : State :=
  { s with sns := { s.sns with pwms := s.sns.pwms.map (fun p =>
      if p.mode = 2 ∧ p.start.isSome then { p with start := some (p.alignedAt s.mer.now) } else p) } }

/-- A write to SNS_PWMn_DUTY: ignored while a zone drives the output (R287). -/
def State.writeDuty (s : State) (n : Nat) (v : Word) : State :=
  if s.rdB (SNS_PWM_ZCFG_ZEN n) then s else s.setDuty n ((SNS_PWM_DUTY_DUTY n).of v)

/-! ### General pins (R288) -/

/-- The bits of `v` are set in SNS_GPIO_OUT. -/
def State.gpioSet (s : State) (v : Word) : State := s.wr SNS_GPIO_OUT_PINS (s.rd SNS_GPIO_OUT_PINS ||| v.toNat % 2 ^ 24)

/-- The bits of `v` are cleared in SNS_GPIO_OUT. -/
def State.gpioClr (s : State) (v : Word) : State :=
  s.wr SNS_GPIO_OUT_PINS (s.rd SNS_GPIO_OUT_PINS &&& (2 ^ 24 - 1 - v.toNat % 2 ^ 24))

/-- GPIO_SET (R288). -/
def execGpioSet (v : Word) (s : State) : Host.Outcome State Fault Refusal := .next (s.gpioSet v)

/-- GPIO_CLR (R288). -/
def execGpioClr (v : Word) (s : State) : Host.Outcome State Fault Refusal := .next (s.gpioClr v)

/-- The levels that SNS_GPIO_IN returns: what OUT drives on the outputs, what stands outside on the inputs. -/
def State.gpioIn (s : State) : Word :=
  let dir := BitVec.ofNat 32 (s.rd SNS_GPIO_DIR_PINS)
  (BitVec.ofNat 32 (s.rd SNS_GPIO_OUT_PINS) &&& dir) ||| (BitVec.ofNat 32 (s.rd SNS_GPIO_IN_PINS) &&& ~~~dir)

/-- The pin and the edges of detector `k`. -/
def gpioPin (k : Nat) : Field := if k = 0 then SNS_GPIO_EV_PIN0 else SNS_GPIO_EV_PIN1
def gpioEdge (k : Nat) : Field := if k = 0 then SNS_GPIO_EV_EDGE0 else SNS_GPIO_EV_EDGE1

/-- Detector `k` watches pin `i` for edges. -/
def State.gpioWatches (s : State) (k i : Nat) : Bool := s.rd (gpioPin k) == i && s.rd (gpioEdge k) != 0

/-- The synchroniser samples the pins. Nothing tells the block the outside level of a pin that no detector watches: it is free (log
entry 58). -/
def State.gpioSample (s : State) : State :=
  let old := s.rd SNS_GPIO_IN_PINS
  let bits := (List.range 24).map (fun i =>
    if s.gpioWatches 0 i || s.gpioWatches 1 i then old / 2 ^ i % 2 else Config.freeValue s.free / 2 ^ i % 2)
  s.took.wr SNS_GPIO_IN_PINS ((List.range 24).map (fun i => bits.getD i 0 * 2 ^ i)).sum

/-- SNS_GPIO_IN holds level `up` of a pin that a detector watches. -/
def State.gpioHold (s : State) (pin : Nat) (up : Bool) : State :=
  let i := s.rd SNS_GPIO_IN_PINS
  if 24 ≤ pin ∨ i / 2 ^ pin % 2 = b2n up then s else s.wr SNS_GPIO_IN_PINS (if up then i + 2 ^ pin else i - 2 ^ pin)

/-- A write to SNS_GPIO_EV (R288): a detector that begins to watch a pin takes the level that stands there. -/
def State.writeGpioEv (s : State) (v : Word) : State :=
  let s1 := s.gpioSample.plainWrite SNS_GPIO_EV_PIN0.addr v
  let lvl := fun k : Nat =>
    if s1.rd (gpioPin k) = s.rd (gpioPin k) ∧ s.rd (gpioEdge k) ≠ 0 then s.sns.levels.getD k false
    else s1.gpioIn.getLsbD (s1.rd (gpioPin k))
  let s2 := (s1.gpioHold (s1.rd (gpioPin 0)) (lvl 0)).gpioHold (s1.rd (gpioPin 1)) (lvl 1)
  { s2 with sns := { s2.sns with levels := [lvl 0, lvl 1] } }

/-- GPIO_EDGE (R288): the pin that detector `k` watches has held its new level for 4 TCLK cycles. It is an edge when the level has
changed, which on an output is only what OUT drives. -/
def execGpioEdge (k : Fin 2) (rising : Bool) (s : State) : Host.Outcome State Fault Refusal :=
  let pin := s.rd (gpioPin k.val)
  let out := s.rd SNS_GPIO_DIR_PINS / 2 ^ pin % 2 == 1
  if !s.tclkOn || decide (24 ≤ pin) || s.sns.levels.getD k.val false == rising ||
      (out && s.rd SNS_GPIO_OUT_PINS / 2 ^ pin % 2 != b2n rising) then .next s
  else
    let s1 := s.gpioHold pin rising
    let s2 : State := { s1 with sns := { s1.sns with levels := modifyNth (fun _ => rising) k.val s1.sns.levels } }
    let e := s.rd (gpioEdge k.val)
    .next (if e / (if rising then 1 else 2) % 2 = 1 then s2.fire (150 + k.val) else s2)

/-- A write to SNS_GPIO_PULL0 or 1: 0b11 is stored as 0b00. -/
def pullWord (v : Word) : Word :=
  let both := v &&& (v >>> 1) &&& 0x55555555
  v &&& ~~~(both ||| (both <<< 1))

end Sys2Proof.Machine
end

