-- ==== Sys2Proof/Machine/SchedBase.lean ====
section
/-!
DEFINITION. The windows and shares of the Chart: receive windows (R206, R207), the count of an exchange (R209), and the choice of
a frame for a share (R202, R203).
-/
namespace Sys2Proof.Machine

/-! ### Receive windows (R206, R207) -/

/-- A window of an occurrence: its neighbour, slot, flags, expected instant, guard, opening and end. -/
structure WinPlan where
  nb      : Nat
  slot    : Nat
  ack     : Bool
  contact : Bool
  te      : Nat
  guard   : Nat
  opens   : Nat
  stop    : Nat
deriving DecidableEq, Repr

/-- The total claimed on the occurrence that starts at `t`. -/
def BandShp.claimedAt (h : BandShp) (t : Nat) : Nat := (h.claimed.lookup t).getD 0

/-- The later of two Meridian times (R44). -/
def merMax (a b : Nat) : Nat := if merAfter a b then a else b

/-- The window of occurrence `o`, with `before` the occurrence that precedes it (R207). -/
def State.winPlan (s : State) (b : Band) (before o : Place) : WinPlan :=
  let h := s.shpB b
  let w := h.chart.wins.getD (entWinIdx (h.chart.word o.entry)) (0, 0)
  let nb := w.2.toNat % 256
  let te := merAdd o.start (w.1.toNat % 65536)
  let g := s.linkGuard nb te
  let early := (te + 2 ^ 48 - g) % 2 ^ 48
  let claims := h.claimedAt before.start
  { nb := nb, slot := w.1.toNat / 2 ^ 24 % 8, ack := w.1.getLsbD 31, contact := w.1.getLsbD 30, te := te, guard := g,
    opens := if claims = 0 then early else merMax early (merAdd before.start claims), stop := o.stop }

/-- The windows of the occurrences of a list, each paired with the one before it. -/
def State.winPlans (s : State) (b : Band) : Place → List Place → List WinPlan
  | _, [] => []
  | p, o :: r =>
    if entWin ((s.shpB b).chart.word o.entry) then s.winPlan b p o :: s.winPlans b o r else s.winPlans b o r

/-- The windows from the present occurrence on, over one Chart period: the one of the present occurrence first. -/
def State.nextWindows (s : State) (b : Band) : List WinPlan :=
  let c := (s.shpB b).chart
  let o := s.here b
  let prev := c.at_ (if o.start = 0 then 2 ^ 48 - 1 else o.start - 1)
  s.winPlans b prev (o :: c.within o)

/-- The windows of the next Chart period that have not closed. -/
def State.windowsLeft (s : State) (b : Band) : List WinPlan := (s.nextWindows b).filter (fun w => merAfter w.stop s.mer.now)

/-- The window of a list that opens first; of several at one instant, the first of the list (R207). -/
def earliest : List WinPlan → Option WinPlan
  | [] => none
  | w :: r => match earliest r with
    | some x => some (if merAfter w.opens x.opens then x else w)
    | none => some w

/-- The earliest opening of a window that has not closed, if one opens within a Chart period: no unclaimed share begins from it on
(R202, R207). -/
def State.nextOpening (s : State) (b : Band) : Option Nat := (earliest (s.windowsLeft b)).map (·.opens)

/-- The window that opens next: the earliest of those that are neither open nor closed. -/
def State.nextWindow (s : State) (b : Band) : Option WinPlan :=
  earliest ((s.windowsLeft b).filter (fun w => !(s.shpB b).wins.any (fun x => x.stop == w.stop)))

/-! ### Counting an exchange (R209) -/

/-- A profile in service: OVH, ACKT and PERBYTE. -/
def BandShp.prof (h : BandShp) (p : Nat) : Nat × Nat × Nat :=
  let w := h.chart.profs.getD p (0, 0)
  (w.1.toNat % 65536, w.1.toNat / 65536, w.2.toNat % 65536)

/-- OVH + ⌈B × PERBYTE / 256⌉, in µs. -/
def BandShp.frameUs (h : BandShp) (d : Desc) : Nat :=
  let p := h.prof d.profile
  p.1 + ceilDiv (d.psduLen * p.2.2) 256

/-- The count n of a frame in phase units (R209). -/
def State.count (s : State) (b : Band) (d : Desc) : Nat :=
  let h := s.shpB b
  let p := h.prof d.profile
  s.convUs (2 * h.chart.lead + h.frameUs d + (if d.broadcast then 0 else p.2.1))

/-- LEAD of the Chart in service in phase units. -/
def State.leadUnits (s : State) (b : Band) : Nat := s.convUs (s.shpB b).chart.lead

/-! ### The order of service (R202, R203) -/

/-- The frames of queue `q`, in enqueue order. -/
def BandShp.queue (h : BandShp) (q : Nat) : List Frame := h.frames.filter (fun f => f.queue == q)

/-- The heads of the queues of a list that are in no exchange and that MAC has not taken at the gate that opened at `gate`, in the
list's order (R168, R202). -/
def BandShp.heads (h : BandShp) (qs : List Nat) (gate : Option Nat) : List Frame :=
  qs.filterMap (fun q => match h.queue q with
    | f :: _ => if f.busy ∨ (gate.isSome ∧ f.tried = gate) then none else some f
    | [] => none)

/-- The frames that may take a share of the occurrence, in the order of R203: the claimed ones, then the others. -/
def BandShp.candidates (h : BandShp) (word : Word) (start : Nat) : List Frame × List Frame :=
  let gate := fun q : Nat => (entGate word / 2 ^ q % 2 == 1)
  if entWin word then ([], [])
  else
    (if entAres word then [] else
      h.frames.filter (fun f => timedQueue f.queue && !f.busy && gate f.queue && f.claims.contains start),
     h.heads ([0, 1, 5, 6, 7].filter gate) (some start))

/-- The frame of the next share at offset `pos` of the occurrence `o` (R202, R203): a claimed frame must end by the end of the
occurrence, another also by the opening of a window. -/
def State.chooseFrame (s : State) (b : Band) (o : Occ) : Option Frame :=
  let h := s.shpB b
  let c := h.candidates (h.chart.word o.entry) o.start
  let limit := match s.nextOpening b with
    | some t => if merAfter t (merAdd o.start o.len) then o.len else (merDiff t o.start).toNat
    | none => o.len
  let free := if h.wins.isEmpty then c.2 else []
  match c.1.find? (fun f => decide (o.pos + f.n ≤ o.len)) with
  | some f => some f
  | none => free.find? (fun f => decide (o.pos + f.n ≤ min o.len limit))

/-- The frame of the next share while Meridian is OFF or in ACQUIRE (R204). -/
def State.chooseOpen (s : State) (b : Band) : Option Frame := ((s.shpB b).heads [5, 6, 7] none).head?

/-! ### Claims -/

/-- The claim of the frame with descriptor `a` on the occurrence that starts at `o` is spent (R216). -/
def BandShp.spend (h : BandShp) (a o : Nat) : BandShp :=
  { h with frames := h.frames.map (fun f => if f.desc = a then { f with claims := f.claims.filter (· ≠ o) } else f) }

/-- The claims on occurrences that start before `t` are spent (R205, R216). -/
def BandShp.spendBefore (h : BandShp) (t : Nat) : BandShp :=
  { h with frames := h.frames.map (fun f => { f with claims := f.claims.filter (fun o => !merAfter t o) }),
           claimed := h.claimed.filter (fun p => !merAfter t p.1) }

/-- The share under way ends: the claim of its frame on this occurrence is spent (R216). -/
def BandShp.endShare (h : BandShp) : BandShp :=
  match h.share, h.occ with
  | some x, some o => { (h.spend x.desc o.start) with share := none }
  | _, _ => { h with share := none }

/-- Timed frames whose last claimed occurrence has ended and that are in no exchange complete (R215). -/
def State.completeSpent (s : State) (b : Band) : State :=
  s.completeWhere b (fun f => timedQueue f.queue && f.admitted && f.claims.isEmpty && !f.busy) Frame.lateStatus

/-! ### The start of an occurrence (R200, R202, R205) -/

/-- The band walks: SHP serves it, Meridian runs (R204), and it has passed the first slot boundary after a stop (R205). -/
def State.walking (s : State) (b : Band) : Bool := s.merWalks && s.shpOn b && !(s.shpB b).resume

/-- CHPOS shows the entry in service and the cycle within the period. -/
def State.showPos (s : State) (b : Band) (o : Place) : State :=
  (s.wr (SHP_CHPOS_ENTRY b) o.entry).wr (SHP_CHPOS_CYCIDX b) (merCycle o.start % (s.shpB b).chart.cycles)

/-- CHPOS shows cycle `c`, which has begun, while an occurrence of the band is in service. -/
def State.showCycle (s : State) (b : Band) (c : Nat) : State :=
  if (s.shpB b).occ.isSome then s.wr (SHP_CHPOS_CYCIDX b) (c % (s.shpB b).chart.cycles) else s

/-- Occurrence `o` enters service: earlier claims are spent, frames without claims complete, and reception follows. Its shares
are laid from its start, or from the present time when that is later. -/
def State.beginOcc (s : State) (b : Band) (o : Place) : State :=
  let late := merDiff s.mer.now o.start
  let h := ((s.shpB b).endShare).spendBefore o.start
  let occ : Occ := { start := o.start, entry := o.entry, len := o.len, pos := min late.toNat o.len }
  let s1 := s.setShp b { h with occ := some occ, begun := o.start }
  ((s1.completeSpent b).showPos b o).updateRx b

/-- ENTRY_START (R200, R205): the next occurrence that has not begun, or the one that contains the present time. -/
def execEntryStart (b : Band) (s : State) : Host.Outcome State Fault Refusal :=
  if !s.walking b ∨ !s.tclkOn then .next s
  else
    match (s.shpB b).occ with
    | none => .next (s.beginOcc b (s.here b))
    | some o =>
      let s0 := s.advanceMer (merAdd o.start o.len)
      let p := s0.here b
      if merAfter p.start o.start then .next (s0.beginOcc b p) else .next s0

end Sys2Proof.Machine
end

