-- ==== Sys2Proof/Machine/LinkTx.lean ====
section
/-!
DEFINITION. Transmission: the share and the checks at Gate (R202, R167), Seal (R156, R157, R402, R403), the turn, the ramps and
the end of a transmission (R91 to R93), detect-and-avoid (R192), the wait for an acknowledgement (R173), receive windows (R207)
and contacts (R185, R186).
-/
namespace Sys2Proof.Machine

/-! ### The frame to be sent -/

/-- A frame as it lies in its buffer: parsed in the descriptor's family, before CTR, MIC and FCS (R166). -/
structure TxFrame where
  beacon : Bool
  /-- Header without CTR, where the CTR goes, payload, and security level. -/
  hdr    : List Byte
  ctrAt  : Nat
  body   : List Byte
  level  : Nat
  enh    : Bool
  stamp  : Bool
deriving DecidableEq, Repr

/-- A byte list with the bytes from place `i` on replaced. -/
def patch (bs : List Byte) (i : Nat) (v : List Byte) : List Byte := bs.take i ++ v ++ bs.drop (i + v.length)

/-- The native frame of the buffer bytes: ACKREQ follows the addressing, a beacon carries STAMP (R156). -/
def nativeFrame (bs : List Byte) (broadcast sec : Bool) : TxFrame :=
  let f0 := fctlOf (leNat (bs.take 2))
  let f := { f0 with ackReq := !broadcast, stamp := f0.stamp || f0.typ == 0 }
  let h := natHdrLen f false
  { beacon := f.typ == 0, hdr := patch (bs.take h) 0 (natLE 2 f.word), ctrAt := h, body := bs.drop h,
    level := if sec then nativeLevel f else 0, enh := false, stamp := f.stamp }

/-- The standard frame of the buffer bytes (R163); bytes that are no frame of the standard go out as they stand. -/
def standardFrame (bs : List Byte) : TxFrame :=
  match (parseStandard bs false).filter (fun p => !p.other) with
  | some p => { beacon := p.typ == 0, hdr := p.hdr, ctrAt := p.ctrAt, body := p.body, level := p.level, enh := p.v2,
                stamp := false }
  | none => { beacon := false, hdr := bs, ctrAt := bs.length, body := [], level := 0, enh := false, stamp := false }

/-- The frame that a descriptor names. -/
def State.txFrame (s : State) (d : Desc) : TxFrame :=
  let bs := s.sramBytes d.buf d.len
  if d.own then nativeFrame bs d.broadcast d.sec else standardFrame bs

/-- PSDU length of the frame as it goes out. -/
def TxFrame.psduLen (x : TxFrame) (len : Nat) (sec : Bool) : Nat := if sec then len + 4 + micLen x.level + 2 else len + 2

/-! ### Times of an attempt -/

/-- The times of an attempt in TCLK cycles: S, the reference instant, E, and the end of the exchange (R167, R92, R117). -/
structure TxTimes where
  start : Nat
  ref   : Nat
  stop  : Nat
  done  : Nat
  air   : Nat
deriving DecidableEq, Repr

/-- The neighbour that a frame goes to; none for broadcast. -/
def Desc.to (d : Desc) : Option Nat := if d.broadcast then none else some d.nb

/-- The times of an attempt whose turn begins at TSTAMP `start`. -/
def State.txTimes (s : State) (b : Band) (d : Desc) (x : TxFrame) (start : Nat) : TxTimes :=
  let map := s.frameMap b d.mapsel d.to
  let air := airCycles b d.mode d.param d.short (x.psduLen d.len d.sec) d.rate map
  let full := start + 40 * usTclk + s.rampUs b * usTclk
  let e := full + air
  let ack := ackAir b d.mode d.param d.short d.own d.sec x.enh
  let done := if d.broadcast then e
    else if d.own then e + 40 * usTclk + s.rampUs b * usTclk + ack else e + aifsUs d.mode * usTclk + ack
  { start := start, ref := full + preCycles b d.mode d.param d.short, stop := e, done := done, air := air }

/-! ### The checks at Gate (R167) -/

/-- What a check at Gate gives: the frame completes, stays (with a duty-cycle refusal or not), or goes on. -/
inductive GateRes where
  | complete (st : Nat)
  | stay (duty dwell : Bool)
  | go
deriving DecidableEq, Repr

/-- The frame's deadline has been reached, or the attempt would end after it (row 1). -/
def State.pastDue (s : State) (d : Desc) (done : Nat) : Bool :=
  let due := d.due
  !merAfter due s.mer.now || merAfter (s.merAt done) due

/-- What the check of R188 finds of a frame's attempt. -/
def State.frameDuty (s : State) (b : Band) (d : Desc) (x : TxFrame) (t : TxTimes) (entry : Nat) : Duty :=
  s.dutyFor b (s.txWord b entry (if x.beacon then none else d.to)) (chanWidth b d.mode d.param) (s.rampUs b * usTclk) t.air

/-- Rows 1 to 7 of R167, with `entry` the calibration entry and `f` the queued frame. -/
def State.gateCheck (s : State) (b : Band) (f : Frame) (d : Desc) (x : TxFrame) (t : TxTimes) (entry : Nat) : GateRes :=
  let n := s.nbr d.nb
  let mdm := s.txCheck { b := b, mode := d.mode, param := d.param, psdu := x.psduLen d.len d.sec, len := d.len, short := d.short,
                         mapsel := d.mapsel, nb := d.to, word := (s.rfc.cal b entry).freq, white := Config.stdWhitening d.param,
                         octets := 4 + Config.stdPreambleOctets d.param % 997, fcs32 := false,
                         mcs := (ofdmMcs d.param).1 + Config.stdMcs d.param d.rate % ((ofdmMcs d.param).2 - (ofdmMcs d.param).1 + 1) }
  let u := s.frameDuty b d x t entry
  if s.pastDue d t.done then .complete f.lateStatus
  else if !d.broadcast ∧ n.link = .lost then .complete stPartnerLost
  else if !d.broadcast ∧ !n.valid then .complete stBadState
  else if mdm ≠ stOK then .complete mdm
  else if s.calInvalid b entry then (if s.hopOn b then .stay false false else .complete stCalInvalid)
  else if d.sec ∧ s.rd MAC_TXCTR_CTR = 0xFFFFFFFF then .complete stDenied
  else if s.dutyRefuses b u.accs u.units x.beacon then .stay true false
  else if s.dwellRefuses b t.start u.us then .stay false true
  else .go

/-! ### Seal (R156, R157, R402) -/

/-- The sequence number of a frame: its own once taken, else the next of the neighbour's or the band's counter (R167). -/
def State.takeSeq (s : State) (b : Band) (f : Frame) (d : Desc) : State × Nat :=
  match f.seq with
  | some q => (s, q)
  | none =>
    if d.broadcast then
      let m := s.macB b
      (s.setMac b { m with seq := (m.seq + 1) % 256 }, m.seq)
    else
      let n := s.nbr d.nb
      (s.putNbr d.nb { n with txSeq := (n.txSeq + 1) % 256 }, n.txSeq)

/-- The Meridian time that MAC stamps for the reference instant, within one phase unit (R184). -/
def State.stampFor (s : State) (ref : Nat) : Nat := (s.merAt ref + 2 ^ 48 + s.freeBelow 3 - 1) % 2 ^ 48

/-- Header and payload of a native frame with SEQ, stamp and, in a beacon, CYCLE and INC filled in (R156, R158). -/
def fillNative (x : TxFrame) (seq stamp inc : Nat) : List Byte × List Byte :=
  let h1 := patch x.hdr 2 [BitVec.ofNat 8 seq]
  let h2 := if x.stamp then patch h1 9 ([BitVec.ofNat 8 (merCycle stamp)] ++ natLE 2 (merPhase stamp)) else h1
  (h2, if x.beacon then patch x.body 0 (natLE 4 (merCycle stamp) ++ natLE 4 inc) else x.body)

/-- The bytes of a frame once sealed, with its FCS. -/
def sealedPsdu (key : List Byte) (secured : Bool) (ctr level : Nat) (hdr body : List Byte) : List Byte :=
  withFcs (hdr ++ (if secured then sealBytes key ownEui ctr level hdr body else body))

/-- The frame `f` in the queue replaced. -/
def State.putFrame (s : State) (b : Band) (f : Frame) : State := s.setShp b ((s.shpB b).putFrame f)

/-- The loaded map that MDM fetches for a frame (R138). -/
def State.sendMap (s : State) (b : Band) (d : Desc) : Option (Nat × List Nat) :=
  if d.mode = 3 ∧ d.mapsel then (match d.to with | some n => (s.txMap n b).1 | none => none) else none

/-- A Seal begins (R157, R402, R403): SEQ and CTR are taken, the key is latched, and the attempt stands. -/
def State.beginSeal (s : State) (b : Band) (f : Frame) (d : Desc) (x : TxFrame) (t : TxTimes) (entry : Nat) : State :=
  let q := s.takeSeq b f d
  let f1 := { f with seq := some q.2, busy := true, duty := false }
  let s1 := q.1.putFrame b f1
  let ctr := s1.rd MAC_TXCTR_CTR
  let stamp := s1.stampFor t.ref
  let s2 := (if d.sec then s1.takeCtr else s1).took
  let hb := if d.own then fillNative x q.2 stamp (s1.rd MER_INC_INC)
    else (patch x.hdr 2 (if bytesAt x.hdr 0 2 / 256 % 2 = 1 ∧ x.enh then [] else [BitVec.ofNat 8 q.2]), x.body)
  let hdr := if d.sec then hb.1.take x.ctrAt ++ natLE 4 ctr ++ hb.1.drop x.ctrAt else hb.1
  let key := s2.linkKey d.keyslot true
  let late := fun st : Nat => s2.completeFrame b { f1 with busy := false } st
  if d.sec ∧ key.isNone then (late stDenied).sealKeyError d.keyslot
  else if d.sec ∧ s2.cip.trng = 0 then late stBadState
  else if d.sec ∧ s2.cip.trng ≠ 1 then late stFault
  else
    let a : Attempt :=
      { desc := f.desc, unicast := !d.broadcast, beacon := x.beacon, nb := d.nb, seq := q.2, secured := d.sec,
        key := key.getD [], kid := d.kid, ctr := ctr, own := d.own, short := d.short, rate := d.rate, mode := d.mode, param := d.param,
        power := d.power, entry := entry, air := t.air, pre := t.ref - t.start - 40 * usTclk - s.rampUs b * usTclk,
        tail := t.done - t.stop, start := t.start, sealNo := s2.cip.seals, sealed := !d.sec, spoilt := false, waitEx := false, turned := false,
        radiated := false, waiting := false, seen := false, endTs := t.stop, refTs := t.ref, hdr := hdr, body := hb.2,
        level := x.level, psdu := if d.sec then [] else sealedPsdu [] false 0 0 hdr hb.2, map := s2.sendMap b d,
        duty := s.frameDuty b d x t entry }
    { s2.setMac b { s2.macB b with att := some a } with cip := { s2.cip with seals := s2.cip.seals + 1 } }

/-- SHP hands frame `f` to MAC with the turn due at TSTAMP `start` (R167, R202). -/
def State.gate (s : State) (b : Band) (f : Frame) (start : Nat) : State :=
  let d := s.desc f.desc
  let x := s.txFrame d
  let t := s.txTimes b d x start
  let entry := s.sendEntry b d.entry (s.merAt start)
  let s0 := if d.mode = 3 ∧ d.mapsel then (match d.to with | some n => s.mapErrs (s.txMap n b).2 | none => s) else s
  match s.gateCheck b f d x t entry with
  | .complete st => s0.completeFrame b f st
  | .stay duty dwell =>
    let s1 := s0.putFrame b { f with duty := duty }
    if duty then (s1.inc (MAC_CNT2_DUTYREF b)).fire 85
    else if dwell then s1.inc (MAC_CNT2_DUTYREF b)
    else s1
  | .go => s0.beginSeal b f d x t entry

/-- TSTAMP at which Meridian reaches `t`. -/
def State.tsOf (s : State) (t : Nat) : Nat := s.mer.tstamp + s.cyclesTo (t * 2 ^ 32)

/-- A share begins at the present time with frame `f`: MAC takes it, and the turn is due LEAD later. -/
def State.beginShare (s : State) (b : Band) (f : Frame) : State :=
  let now := s.mer.now
  let h := s.shpB b
  let g := { f with tried := h.occ.map (·.start) }
  let h1 := { h.putFrame g with share := some { desc := f.desc, start := now, stop := merAdd now f.n },
                                occ := h.occ.map (fun o => { o with pos := (merDiff now o.start).toNat + f.n }) }
  (s.setShp b h1).gate b g (s.tsOf (merAdd now (s.leadUnits b)))

/-- SHARE_START (R202 to R204). While the exchange of the share before it is still under way, no share begins. -/
def execShareStart (b : Band) (s : State) : Host.Outcome State Fault Refusal :=
  let h := s.shpB b
  if !s.tclkOn ∨ !s.shpOn b ∨ !s.macOn b ∨ h.resume ∨ (s.macB b).att.isSome then .next s
  else if s.merWalks then
    match h.occ with
    | none => .next s
    | some o =>
      if o.len ≤ o.pos then .next s
      else
        let s0 := s.advanceMer (merAdd o.start o.pos)
        let now := s0.mer.now
        if merAfter now (merAdd o.start o.len) then .next s0
        else
          let s1 := s0.setShp b (s0.shpB b).endShare
          let o1 := { o with pos := max o.pos (merDiff now o.start).toNat }
          match s1.chooseFrame b o1 with
          | some f => .next (s1.beginShare b f)
          | none => .next (s1.setShp b { s1.shpB b with occ := some { o1 with pos := o.len } })
  else
    let s0 := match h.share with | some x => s.advanceMer x.stop | none => s
    let s1 := s0.setShp b (s0.shpB b).endShare
    match s1.chooseOpen b with
    | some f => .next (s1.beginShare b f)
    | none => .next s1

/-- A Seal that the other band began earlier is still in progress: CIP serves it first (R401). -/
def State.sealBefore (s : State) (b : Band) (a : Attempt) : Bool :=
  (s.macB (match b with | .sg => .g24 | .g24 => .sg)).att.any (fun x => x.sealing && decide (x.sealNo < a.sealNo))

/-- SEAL_DONE (R402, R37, R398): CIP completes the computation, its passes agreeing or not. With the TRNG no longer in OK the frame
completes with BAD_STATE or FAULT. -/
def execSealDone (b : Band) (disagree : Bool) (s : State) : Host.Outcome State Fault Refusal :=
  let m := s.macB b
  match m.att with
  | none => .next s
  | some a =>
    let end_ := fun t : State => if a.turned then t.setMac b { t.macB b with att := some { a with spoilt := true } }
      else t.endAttempt b
    if a.sealed ∨ a.spoilt ∨ s.sealBefore b a then .next s
    else
      match s.frameAt b a.desc with
      | none => .next s
      | some f =>
        if s.cip.trng ≠ 1 then
          .next ((end_ s).completeFrame b { f with busy := false } (if s.cip.trng = 0 then stBadState else stFault))
        else if !disagree then
          let done := { a with sealed := true, psdu := sealedPsdu a.key true a.ctr a.level a.hdr a.body }
          .next ((s.putFrame b { f with disagree := false }).setMac b { m with att := some done })
        else
          let s1 := s.cipDisagree (if f.disagree then 1 else 0)
          match s1.frameAt b a.desc with
          | none => .next s1
          | some g =>
            if f.disagree then .next ((end_ s1).completeFrame b { g with busy := false } stFault)
            else .next (end_ (s1.putFrame b { g with disagree := true }))

/-- The transmission that the band's radio carries begins its ramp down at TSTAMP `t` (R403). -/
def State.cutTx (s : State) (b : Band) (t : Nat) : State :=
  let r := s.rfcB b
  s.setRfc b { r with tx := r.tx.map (fun j => { j with down := true, symEnd := t }) }

/-- SEAL_LATE (R403, R37): at the reference instant the bytes are not there, and the transmission ends after the preamble. -/
def execSealLate (b : Band) (s : State) : Host.Outcome State Fault Refusal :=
  let m := s.macB b
  match (s.rfcB b).tx with
  | none => .next s
  | some j =>
    if (s.rfcB b).st ≠ .tx ∨ j.down then .next s
    else
      match j.kind, m.att, m.exch with
      | .frame, some a, _ =>
        if a.sealed ∧ !a.spoilt then .next s
        else
          let s0 := s.advanceTo a.refTs
          let s1 := if a.spoilt then s0 else s0.inc CIP_CNT1_SEALLATE
          .next ((s1.cutTx b s1.mer.tstamp).dropAttempt b)
      | .ack, _, some e =>
        if e.ackst.isNone ∨ e.psdu ≠ [] then .next s
        else
          let ref := j.start + 40 * usTclk + j.ramp + preCycles b e.mode e.param e.short
          let s0 := s.advanceTo ref
          .next (s0.cutTx b s0.mer.tstamp)
      | _, _, _ => .next s

/-! ### Detect-and-avoid (R192) -/

/-- The attempt in the band must be assessed before its turn. -/
def State.daaWanted (s : State) (b : Band) : Bool := b == .g24 && s.rdB MAC_DAA_EN

/-- DAA_LISTEN_START (R192): 44 µs before S. -/
def execDaaListenStart (b : Band) (s : State) : Host.Outcome State Fault Refusal :=
  match (s.macB b).att with
  | none => .next s
  | some a =>
    if !s.daaWanted b ∨ a.turned ∨ (s.macB b).daa.isSome then .next s
    else
      let s0 := s.advanceTo (a.start - 44 * usTclk)
      let st := (s0.rfcB b).st
      let blocked := st == .turnTx || st == .tx || st == .turnRx
      let s1 := if blocked then s0 else s0.preempt b
      let s2 := s1.setMac b { s1.macB b with daa := some (st == .ready, blocked) }
      .next (if blocked then s2 else s2.updateRx b)

/-- The band has turned or transmitted within the 44 µs before the present instant (R192). -/
def State.turnedLately (s : State) (b : Band) : Bool :=
  let r := s.rfcB b
  r.turns || (match r.turnEnd with | some t => decide (s.mer.tstamp < t + 44 * usTclk) | none => false)

/-- The channel counts as busy: the band turned or transmitted within the 44 µs before S, or the energy exceeds THR. The energy
is in thousandths of a dBm. -/
def State.daaBusy (s : State) (b : Band) (energy : Int) : Bool :=
  s.turnedLately b || (match (s.macB b).daa with | some (_, blocked) => blocked | none => false) ||
    decide (sInt 8 (s.rd MAC_DAA_THR) * 1000 < energy)

/-! ### The turn (R92) -/

/-- The radio is in a state from which a transmission starts (R91). -/
def BandRadio.canTurn (r : BandRadio) : Bool := r.st == .rx || r.st == .ready || r.st == .hop || r.st == .cal

/-- The turn of an acknowledgement exchange begins (R169, R175). -/
def State.turnAck (s : State) (b : Band) (e : AckExch) : State :=
  let fine := e.own || (match (s.macB b).rxs.find? (fun r => r.chan == e.chan && r.er == e.er) with
    | some r => decide (r.verdict.getD 3 ≤ 1) && !r.waiting
    | none => false)
  if !fine ∨ s.calInvalid b e.entry then s.endExch b
  else
    let p := sInt 8 (s.nbr e.nb).ackPwr
    let ramp := s.rampUs b * usTclk
    let s1 := (s.inc (RFC_PASTAT_CLAMPS b) (s.clampCount b p)).setMac b { s.macB b with exch := some { e with turned := true } }
    s1.beginTurn b
      { kind := .ack, start := s.mer.tstamp, entry := e.entry, word := s.txWord b e.entry (some e.nb),
        aerialB := s.txAerial b (some e.nb), power := s.clampPower b p, ramp := ramp,
        symEnd := s.mer.tstamp + 40 * usTclk + ramp + e.air, onAir := false, down := false }

/-- The turn of an attempt begins, unless detect-and-avoid or an INVALID entry prevents it (R92, R93, R192). -/
def State.turnFrame (s : State) (b : Band) (a : Attempt) (energy : Int) : State :=
  if s.calInvalid b a.entry then s.endAttempt b
  else if s.daaWanted b ∧ s.daaBusy b energy then (s.inc (MAC_CNT1_DAABUSY b)).endAttempt b
  else
    let nb := if a.unicast then some a.nb else none
    let ramp := s.rampUs b * usTclk
    let s1 := (s.inc (RFC_PASTAT_CLAMPS b) (s.clampCount b a.power)).setMac b
      { s.macB b with att := some { a with turned := true }, daa := none }
    s1.beginTurn b
      { kind := .frame, start := s.mer.tstamp, entry := a.entry, word := s.txWord b a.entry (if a.beacon then none else nb), aerialB := s.txAerial b nb,
        power := s.clampPower b a.power, ramp := ramp, symEnd := s.mer.tstamp + 40 * usTclk + ramp + a.air, onAir := false,
        down := false }

/-- The gate time that remains covers the whole exchange of frame `f` when its turn begins now (R172): the exchange of R210, from
the turn to transmit to the turn back after the acknowledgement. -/
def State.stillFits (s : State) (b : Band) (f : Frame) : Bool :=
  match (s.shpB b).occ with
  | none => true
  | some o =>
    let d := s.desc f.desc
    let t := s.txTimes b d (s.txFrame d) s.mer.tstamp
    !merAfter (s.merAt (t.done + s.rampUs b * usTclk + 24 * usTclk)) (merAdd o.start o.len)

/-- An attempt that an exchange held back, or that comes late, begins now: the frame is sealed again for the new instant when
the gate time still covers it, else it stays (R172). -/
def State.turnLate (s : State) (b : Band) (a : Attempt) (energy : Int) : State :=
  let s1 := s.dropAttempt b
  match s1.frameAt b a.desc with
  | none => s1
  | some f =>
    if !s1.stillFits b f then s1.updateRx b
    else
      let h := s1.shpB b
      let first := (s1.mer.now + 2 ^ 48 - s1.leadUnits b) % 2 ^ 48
      let s2 := s1.setShp b { h with
        share := h.share.map (fun x => { x with start := first, stop := merAdd first f.n }),
        occ := h.occ.map (fun o => { o with pos := max o.pos ((merDiff first o.start).toNat + f.n) }) }
      let s3 := s2.gate b f s2.mer.tstamp
      match (s3.macB b).att with
      | some a' => s3.turnFrame b a' energy
      | none => s3

/-- TX_TURN_START (R92, R169, R172, R192): at S; `energy` is what detect-and-avoid measured, in thousandths of a dBm. -/
def execTxTurnStart (b : Band) (energy : Int) (s : State) : Host.Outcome State Fault Refusal :=
  let m := s.macB b
  match m.exch, m.att with
  | some e, att =>
    if !e.turned then
      let s0 := s.advanceTo e.start
      if (s0.rfcB b).st = .off then .next (s0.endExch b)
      else if (s0.rfcB b).canTurn then .next (s0.turnAck b e)
      else .next s0
    else
      match att with
      | some a => if a.turned then .next s else .next (s.setMac b { m with att := some { a with waitEx := true } })
      | none => .next s
  | none, some a =>
    if a.turned then .next s
    else
      let s0 := s.advanceTo a.start
      if (s0.rfcB b).st = .off then .next (s0.endAttempt b)
      else if !(s0.rfcB b).canTurn then .next s0
      else if a.waitEx ∨ a.start < s.mer.tstamp then .next (s0.turnLate b a energy)
      else .next (s0.turnFrame b a energy)
  | none, none => .next s

/-! ### On the air (R92, R188) -/

/-- The charge at the start of the ramp up (R188, R191, R216): what the check of R188 found of the transmission, and its frame. -/
def State.chargeTx (s : State) (b : Band) (u : Duty) (f : Option Frame) : State :=
  let s1 := s.dutyCharge b u.accs u.units
  let m := s1.macB b
  let n := s1.slotAtTs s1.mer.tstamp
  let s2 := if s1.hopOn b then s1.setMac b { m with dwell := m.dwellOf n + u.us, dwellSlot := n } else s1
  match f with
  | some g =>
    if g.held = 0 then s2
    else
      let h := s2.shpB b
      s2.setShp b { (h.putFrame { g with held := g.held - 1 }) with dpend := dropPend g.accs g.u h.dpend }
  | none => s2

/-- The fabric source of the band's transmit-start or transmit-end event. -/
def txSource (b : Band) (stop : Bool) : Nat := 48 + 2 * b.idx + b2n stop

/-- TX_RAMP_UP (R92, R188): 40 µs after S, with the lock confirmed. -/
def execTxRampUp (b : Band) (s : State) : Host.Outcome State Fault Refusal :=
  let r := s.rfcB b
  match r.tx with
  | none => .next s
  | some j =>
    if r.st ≠ .turnTx ∨ !r.lockOk then .next s
    else
      let s0 := s.advanceTo (j.start + 40 * usTclk)
      let m := s0.macB b
      let s1 := s0.radio b { r with st := .tx, locked := j.entry, tx := some { j with onAir := true } }
      match j.kind, m.att, m.exch with
      | .frame, some a, _ =>
        let s2 := s1.chargeTx b a.duty (s1.frameAt b a.desc)
        .next ((s2.setMac b { s2.macB b with att := some { a with radiated := true } }).fire (txSource b false))
      | .ack, _, some e =>
        let s2 := s1.chargeTx b e.duty none
        .next ((s2.setMac b { s2.macB b with exch := some { e with radiated := true } }).fire (txSource b false))
      | _, _, _ => .next (s1.fire (txSource b false))

/-- What MDM modulates for a MODE_SL frame (R128, R130 to R133): the symbols sent, and the next SCRSEED. -/
def State.modulate (s : State) (b : Band) (psdu : List Byte) (short : Bool) (rate mapsel mapid : Nat) (map : List Nat) : State :=
  { s with mdm := { s.mdm with seed := (s.mdm.seed + 1) % 128,
                               sent := s.mdm.sent.set b (frameSymbols psdu short rate mapsel mapid s.mdm.seed map) } }

/-- MDM sends the frame of the attempt. -/
def State.sendFrame (s : State) (b : Band) (a : Attempt) : State :=
  if a.mode ≠ 3 then s
  else
    s.modulate b a.psdu a.short a.rate (b2n a.map.isSome) (match a.map with | some x => x.1 | none => 0)
      (match a.map with | some x => x.2 | none => uniformMap)

/-- The acknowledgement of the exchange has gone out: the reception that it answers notes ACCEPTED (R181). -/
def State.ackSent (s : State) (b : Band) (e : AckExch) : State :=
  let m := s.macB b
  s.setMac b { m with rxs := m.rxs.map (fun r =>
    if r.chan = e.chan ∧ r.er = e.er then { r with acked := e.ackst == some 0 } else r) }

/-- TX_SYMBOLS_END (R92, R117, R168): the last modulated symbol has ended. -/
def execTxSymbolsEnd (b : Band) (s : State) : Host.Outcome State Fault Refusal :=
  let r := s.rfcB b
  match r.tx with
  | none => .next s
  | some j =>
    if r.st ≠ .tx ∨ j.down then .next s
    else
      let m := s.macB b
      match j.kind, m.att, m.exch with
      | .frame, some a, _ =>
        if !a.sealed ∨ a.spoilt then .next s
        else
          let s0 := s.advanceTo j.symEnd
          let s1 := (s0.setRfc b { r with tx := some { j with down := true } }).sendFrame b a
          let s2 := match s1.frameAt b a.desc with
            | some f => s1.putFrame b { f with attempts := f.attempts + 1, txTs := a.refTs % 2 ^ 32 }
            | none => s1
          if a.unicast then .next (s2.setMac b { m with att := some { a with waiting := true, endTs := s0.mer.tstamp } })
          else .next (s2.finishAttempt b a stOK)
      | .ack, _, some e =>
        if e.ackst.isNone ∨ e.psdu = [] then .next s
        else
          let s0 := s.advanceTo j.symEnd
          let s1 := (s0.setRfc b { r with tx := some { j with down := true } }).ackSent b e
          .next (if e.mode = 3 then s1.modulate b e.psdu e.short 2 0 0 uniformMap else s1)
      | _, _, _ =>
        let s0 := s.advanceTo j.symEnd
        .next (s0.setRfc b { r with tx := some { j with down := true } })

/-- The exchange whose turn back begins or ends is over once its acknowledgement has gone out (R171). -/
def State.exchOver (s : State) (b : Band) : State :=
  match (s.macB b).exch with
  | some e => if e.turned then s.endExch b else s
  | none => s

/-- TX_RAMP_DOWN_END (R91, R92): the transmit-end event fires; the band turns back, turns to a transmission that is due at once,
or goes OFF. -/
def execTxRampDownEnd (b : Band) (s : State) : Host.Outcome State Fault Refusal :=
  let r := s.rfcB b
  match r.tx with
  | none => .next s
  | some j =>
    if r.st ≠ .tx ∨ !j.down then .next s
    else
      let s0 := (s.advanceTo (j.symEnd + j.ramp)).fire (txSource b true)
      if r.offAfter then
        let cut := match (s0.macB b).att with | some a => !a.waiting | none => false
        let s1 := s0.setRfc b { r with tx := if cut then r.tx else none }
        .next ((s1.exchOver b).bandOff b)
      else
        let back := (s0.setRfc b { r with tx := none }).turnBack b
        match (s0.macB b).exch, (s0.macB b).att with
        | some e, _ =>
          if !e.turned ∧ e.start ≤ s0.mer.tstamp then .next (back.turnAck b e)
          else .next back
        | none, some a =>
          if !a.turned ∧ a.start ≤ s0.mer.tstamp then
            .next (if s0.daaWanted b then (back.inc (MAC_CNT1_DAABUSY b)).dropAttempt b else back.turnLate b a 0)
          else .next back
        | none, none => .next back

/-- A parent link in RECOVERY whose guard reaches 4,096 begins to listen in every band that MAC and SHP both serve (R185,
R186). -/
def State.beginListen (s : State) (nb : Nat) : State :=
  let n := s.nbr nb
  if n.link ≠ .recovery ∨ !n.parent then s
  else
    let now := s.mer.now
    let go := fun (t : State) (b : Band) => if t.macOn b && t.shpOn b then
      t.setMac b { t.macB b with listen := some (now, merAdd now (t.shpB b).chart.period) } else t
    let s1 := go (go (s.putNbr nb { n with link := .listen }) .sg) .g24
    s1.updateRxs

/-- TURN_RX_DONE (R91, R92): 24 µs after the ramp down the band is in RX or READY. -/
def execTurnRxDone (b : Band) (s : State) : Host.Outcome State Fault Refusal :=
  let r := s.rfcB b
  if r.st ≠ .turnRx then .next s
  else
    let s0 := (s.advanceTo (r.since + 24 * usTclk)).exchOver b
    let s1 := s0.radio b { r with st := if s0.wantRx b then .rx else .ready, locked := r.hopTo, lockOk := false, opening := false }
    let s2 := match (s1.macB b).att with
      | some a => if a.waiting ∧ s1.wideGuard a.nb then s1.beginListen a.nb else s1
      | none => s1
    .next (s2.settle b)

/-! ### Receive windows (R207) -/

/-- RX_WINDOW_OPEN (R207, R102, R88, R186): the window that opens next, an earlier one may still be open. -/
def execRxWindowOpen (b : Band) (s : State) : Host.Outcome State Fault Refusal :=
  if !s.walking b ∨ !s.tclkOn then .next s
  else
    match s.nextWindow b with
    | none => .next s
    | some w =>
      let s0 := (s.advanceMer w.opens).preemptCal b
      let open_ : OpenWin := { nb := w.nb, slot := w.slot, ack := w.ack, contact := w.contact, te := w.te, guard := w.guard,
                               stop := w.stop, seen := false, judged := false }
      let s1 := s0.setShp b { s0.shpB b with wins := (s0.shpB b).wins ++ [open_] }
      let s2 := s1.setChan b w.slot { s1.chan b w.slot with derot := (s1.offset w.nb).ofs }
      let s3 := if w.contact ∧ 4096 ≤ w.guard then s2.beginListen w.nb else s2
      .next (s3.updateRx b)

/-- RX_CHAIN_READY (R91, R85): the receive chains stream 24 µs after the window opened from READY, or after a calibration;
a calibration of RFC_CALCMD that was pre-empted goes on (R88). -/
def execRxChainReady (b : Band) (s : State) : Host.Outcome State Fault Refusal :=
  let r := s.rfcB b
  if !r.opening then .next s
  else
    let s0 := s.advanceTo (r.since + 24 * usTclk)
    .next ((s0.radio b { r with st := .rx, opening := false }).tryCal b)

/-- The scheduled contact of a window is missed (R186, R207). -/
def State.missWindow (s : State) (b : Band) (w : OpenWin) : State :=
  let h := s.shpB b
  let s1 := s.setShp b { h with wins := h.wins.map (fun x => if x.stop = w.stop then { x with judged := true } else x) }
  s1.missContact w.nb (decide (4096 ≤ w.guard))

/-- A contact with the window's neighbour has come since its opening. -/
def State.heard (s : State) (w : OpenWin) : Bool :=
  !merAfter ((w.te + 2 ^ 48 - w.guard) % 2 ^ 48) (s.nbr w.nb).last

/-- The open window of a list with the least Meridian time `f` (R44). -/
def firstBy (f : OpenWin → Nat) : List OpenWin → Option OpenWin
  | [] => none
  | w :: r => match firstBy f r with
    | some x => some (if merAfter (f w) (f x) then x else w)
    | none => some w

/-- RX_WINDOW_CLOSE (R207, R186): of the window whose entry ends first, at the end of the entry, or of an exchange then under way; a contact not heard by then is
missed. -/
def execRxWindowClose (b : Band) (s : State) : Host.Outcome State Fault Refusal :=
  match firstBy (·.stop) (s.shpB b).wins with
  | none => .next s
  | some w =>
    let s0 := s.advanceMer w.stop
    if (s0.macB b).exch.isSome then .next s0
    else
      let s1 := if w.contact ∧ !w.judged ∧ !s0.heard w then s0.missWindow b w else s0
      .next ((s1.setShp b { s1.shpB b with wins := (s1.shpB b).wins.filter (fun x => x.stop != w.stop) }).updateRx b)

/-- CONTACT_MISS (R207): no preamble by T_e + g, or what followed the one heard was no contact. -/
def execContactMiss (b : Band) (s : State) : Host.Outcome State Fault Refusal :=
  let due := (s.shpB b).wins.filter (fun w => w.contact && !w.seen && !w.judged && !s.heard w)
  match firstBy (fun w => merAdd w.te w.guard) due with
  | none => .next s
  | some w => .next ((s.advanceMer (merAdd w.te w.guard)).missWindow b w)

/-- ACK_TIMEOUT (R173): no preamble by the deadline, or the one detected has led to no acknowledgement. -/
def execAckTimeout (b : Band) (s : State) : Host.Outcome State Fault Refusal :=
  match (s.macB b).att with
  | none => .next s
  | some a =>
    if !a.waiting then .next s
    else if a.seen then
      if (s.mdm.chans.get b).any Chan.active then .next s else .next (s.ackMissed b a)
    else
      let gap := if a.own then 40 else aifsUs a.mode
      let s0 := s.advanceTo (a.endTs + (gap + s.rd MAC_ACKCFG_ACKWAIT) * usTclk)
      .next (s0.ackMissed b a)

/-- The neighbour in LISTEN: the parent. -/
def State.listening (s : State) : Option Nat := (s.mac.nbrs.find? (fun p => p.2.link == .listen)).map (·.1)

/-- LISTEN_TIMEOUT (R186): the listening that ends next ends; with none left the link is LOST, and the worker rejoins (R251). -/
def execListenTimeout (s : State) : Host.Outcome State Fault Refusal :=
  let a := (s.macB .sg).listen
  let c := (s.macB .g24).listen
  match s.listening with
  | none => .next s
  | some nb =>
    match a, c with
    | none, none => .next (s.loseParent nb)
    | some x, none =>
      let s0 := s.advanceMer x.2
      .next ((s0.setMac .sg { s0.macB .sg with listen := none }).loseParent nb)
    | none, some y =>
      let s0 := s.advanceMer y.2
      .next ((s0.setMac .g24 { s0.macB .g24 with listen := none }).loseParent nb)
    | some x, some y =>
      let b : Band := if merAfter x.2 y.2 then .g24 else .sg
      let s0 := s.advanceMer (if merAfter x.2 y.2 then y.2 else x.2)
      .next ((s0.setMac b { s0.macB b with listen := none }).updateRx b)

end Sys2Proof.Machine
end

