-- ==== Sys2Proof/Machine/Sched.lean ====
section
/-!
DEFINITION. SHP (06_chart_scheduler.md): enqueue (R211 to R213), admission (R214), policers (R220, R221), the commit and the
swap of Charts (R201, R217, R224), the sweep of deadlines (R218), and disabled bands (R222).
-/
namespace Sys2Proof.Machine

/-! ### Charts from registers (R199, R201, R224) -/

/-- The Chart that a register set holds for a band. -/
def chartOf (m : List (Nat × Word)) (b : Band) : Chart :=
  let len := rdF m (SHP_CHCFG_LEN b)
  { cycles := rdF m (SHP_CHCFG_CYCLES b), len := len, lead := rdF m (SHP_LEAD_LEAD b),
    entries := (List.range (min len 256)).map (fun i => regGet m (SHP_CHE_DUR b i).addr),
    wins := (List.range 32).map (fun w => (regGet m (SHP_WIN_A_ACK b w).addr, regGet m ((SHP_WIN_A_ACK b w).addr + 4))),
    profs := (List.range 8).map (fun p => (regGet m (SHP_PROF_A_OVH b p).addr, regGet m (SHP_PROF_B_PERBYTE b p).addr)) }

/-- The Chart has a value out of range (R224, BAD_PARAM). -/
def Chart.badParam (c : Chart) : Bool :=
  c.len == 0 || decide (256 < c.len) || c.cycles == 0 || decide (64 < c.cycles) || decide (1000 < c.lead) ||
    c.entries.any (fun w => entDur w == 0)

/-- Entry `w` disagrees with itself or its window (R224, MISMATCH). -/
def Chart.badEntry (c : Chart) (w : Word) : Bool :=
  let gate := entGate w
  let exp := (c.wins.getD (entWinIdx w) (0, 0)).1.toNat % 65536
  if entWin w then gate != 0 || decide (entDur w ≤ exp) || entAres w && gate % 4 == 0
  else (entAres w && gate % 4 == 0) || entWinIdx w % 16 != 0 ||
    (w.getLsbD 28 && (w.getLsbD 29 || gate / 4 % 8 != 0))

/-- The entries do not fill the period, or one of them is inconsistent (R224, MISMATCH). -/
def Chart.mismatch (c : Chart) : Bool :=
  (c.entries.map entDur).sum != c.cycles * 65536 || c.entries.any c.badEntry

/-- The status of a commit of SHP (R224). -/
def State.shpCommitStatus (s : State) : Nat :=
  let x := chartOf s.shadow .sg
  let y := chartOf s.shadow .g24
  firstStatus [(x.badParam || y.badParam, stBadParam), (x.mismatch || y.mismatch, stMismatch)]

/-- The pending flag of a band in SHP_STAT. -/
def pendField : Band → Field
  | .sg => SHP_STAT_SGPEND
  | .g24 => SHP_STAT_G24PEND

/-- The registers of a Chart group (R224): every entry, those at or above LEN included. -/
def chartGroup (m : List (Nat × Word)) (b : Band) : List Word :=
  ([(SHP_CHCFG_LEN b).addr, (SHP_LEAD_LEAD b).addr] ++ (List.range 256).map (fun i => (SHP_CHE_DUR b i).addr) ++
    (List.range 32).map (fun w => (SHP_WIN_A_ACK b w).addr) ++ (List.range 32).map (fun w => (SHP_WIN_A_ACK b w).addr + 4) ++
    (List.range 8).map (fun p => (SHP_PROF_A_OVH b p).addr) ++
    (List.range 8).map (fun p => (SHP_PROF_B_PERBYTE b p).addr)).map (regGet m)

/-- The groups that an accepted commit changed become pending (R201, R224); `old` is the register set before it. -/
def State.shpCommitted (s : State) (old : List (Nat × Word)) : State :=
  let go := fun (t : State) (b : Band) =>
    if chartGroup old b = chartGroup s.regs b then t
    else (t.setShp b { t.shpB b with pend := true, pendAt := t.tclk }).wr (pendField b) 1
  go (go s .sg) .g24

/-- A commit of SHP (R8 to R10, R224): accepted or refused whole. -/
def State.commitShp (s : State) : State :=
  let as := shAddrs 0x4000B000
  let st := if shadowEq s.regs s.shadow as then stOK else s.shpCommitStatus
  if st = stOK then
    (({ s with regs := copyShadow s.regs s.shadow as } : State).shpCommitted s.regs).wr SHP_COMMIT_STATUS stOK
  else s.wr SHP_COMMIT_STATUS st

/-! ### Admission (R214) -/

/-- The accumulators that a Timed frame overlaps: around the word of its ENTRY, or of any unmasked hop entry (R214). -/
def State.admitAccs (s : State) (b : Band) (d : Desc) : List Nat :=
  let w := chanWidth b d.mode d.param
  if s.hopOn b then
    (List.range 8).filter (fun n => s.hopList.any (fun e => (s.accsOf b (s.rfc.cal b e).freq w).contains n))
  else s.accsOf b (s.rfc.cal b d.entry).freq w

/-- The duty-cycle part of the admission refuses `need` attempts of `u` units (R214). -/
def State.admitDuty (s : State) (b : Band) (accs : List Nat) (need u : Nat) : Bool :=
  accs.any (fun n => decide (s.dutyCap b n false <
    binSum ((s.macB b).bins.getD n []) + (s.shpB b).dpend.getD n 0 + need * u))

/-- Occurrence `o` can carry `n` more units of queue `q` by the deadline (R214). -/
def BandShp.usable (h : BandShp) (q n due : Nat) (o : Place) : Bool :=
  let w := h.chart.word o.entry
  let c := h.claimedAt o.start
  (entGate w / 2 ^ q % 2 == 1) && !entAres w && !entWin w && decide (c + n ≤ o.len) &&
    !merAfter (merAdd o.start (c + n)) due

/-- The starts of the first `need` usable occurrences within one Chart period, if there are so many (R214). -/
def State.findClaims (s : State) (b : Band) (q n need due : Nat) : Option (List Nat) :=
  let h := s.shpB b
  let now := s.mer.now
  let os := (h.chart.within (s.here b)).filter (fun o =>
    merAfter o.start now && decide (merDiff o.start now < h.chart.period) && h.usable q n due o)
  if need ≤ os.length then some ((os.take need).map (·.start)) else none

/-- Adds `n` to the claimed total of the occurrence that starts at `o`. -/
def addClaim (n : Nat) (m : List (Nat × Nat)) (o : Nat) : List (Nat × Nat) :=
  match m.lookup o with
  | some _ => m.map (fun p => if p.1 = o then (o, p.2 + n) else p)
  | none => m ++ [(o, n)]

/-- The procedure of R214: the claims of a frame and its accumulators and units, or none when it is not admitted. -/
def State.admission (s : State) (b : Band) (d : Desc) (q n need : Nat) : Option (List Nat × List Nat × Nat) :=
  let accs := s.admitAccs b d
  let u := ceilDiv ((s.shpB b).frameUs d) 16
  if s.admitDuty b accs need u then none
  else (s.findClaims b q n need d.due).map (fun os => (os, accs, u))

/-- The claims and the pending on-time of an admitted frame are recorded (R214). -/
def BandShp.record (h : BandShp) (os accs : List Nat) (n need u : Nat) : BandShp :=
  { h with claimed := os.foldl (addClaim n) h.claimed,
           dpend := accs.foldl (fun l a => modifyNth (fun x => x + need * u) a l) h.dpend }

/-! ### Enqueue (R211 to R213) -/

/-- The descriptor address of an enqueue value (R211). -/
def enqDesc (v : Word) : Nat := 0x10000000 + v.toNat / 4 % 2 ^ 19 * 4

/-- The profile of a frame is unset (R209). -/
def BandShp.unset (h : BandShp) (d : Desc) : Bool := (h.prof d.profile).2.2 == 0

/-- The policer refuses a frame of `size` bytes (R220). -/
def State.policerRefuses (s : State) (p size : Nat) : Bool := s.rdB (SHP_POL_CFG_EN p) && decide (s.rd (SHP_POL_TOK_TOKENS p) < size)

/-- Count n exceeds the DUR of every entry in service that opens the queue (R212); the open entry of R204 has no end. -/
def State.tooLong (s : State) (b : Band) (q n : Nat) : Bool :=
  let es := (s.shpB b).chart.entries.filter (fun w => entGate w / 2 ^ q % 2 == 1)
  (s.merWalks || decide (q ≤ 4)) && es.all (fun w => decide (entDur w < n))

/-- What an enqueue finds: its status, and the admission of a Timed frame (R212). -/
def State.enqStatus (s : State) (b : Band) (q : Nat) (v : Word) : Nat × Option (List Nat × List Nat × Nat) :=
  let h := s.shpB b
  let d := s.desc (enqDesc v)
  let n := s.count b d
  let adm := if timedQueue q && s.merWalks && s.shpOn b && !h.unset d then s.admission b d q n (1 + d.retry) else none
  (firstStatus
    [(decide (2047 < d.len) || s.tooLong b q n, stBadLength),
     (v.getLsbD 31 && s.policerRefuses (v.toNat / 2 ^ 24 % 64) d.psduLen, stDenied),
     (!s.shpOn b || h.unset d || (!s.merWalks && decide (q ≤ 4)), stBadState),
     (timedQueue q && adm.isNone, stNotAdmitted),
     (decide (s.rd (SHP_QDEPTH b q) ≤ (h.queue q).length), stBusy),
     (d.len == 0, stOkEmpty)], adm)

/-- The frame is queued (R198): PENDING in STATUS, the queue linked through NEXT, whose last value is open. -/
def State.putQueue (s : State) (b : Band) (q : Nat) (v : Word) (adm : Option (List Nat × List Nat × Nat)) : State :=
  let a := enqDesc v
  let d := s.desc a
  let n := s.count b d
  let need := 1 + d.retry
  let x := adm.getD ([], [], 0)
  let h := s.shpB b
  let f : Frame := { desc := a, queue := q, n := n, u := x.2.2, claims := x.1, admitted := adm.isSome, accs := x.2.1,
                     held := if adm.isSome then need else 0, order := s.shp.orders, attempts := 0, seq := none, duty := false,
                     disagree := false, busy := false, txTs := 0, tried := none }
  let h1 := if adm.isSome then h.record x.1 x.2.1 n need x.2.2 else h
  let h2 := { h1 with frames := h1.frames ++ [f] }
  let s1 : State := { s with shp := { s.shp with bands := s.shp.bands.set b h2, orders := s.shp.orders + 1 } }
  let s2 := ((s1.sramWrite (a + 24) [BitVec.ofNat 8 stPending]).sramWrite (a + 20) (natLE 4 (Config.freeValue s.free))).took
  s2.relink (h2.queue q)

/-- ENQRES of owner `m` records a result (R213, R225). -/
def State.setEnqres (s : State) (m : Nat) (b : Band) (q st : Nat) (claims : Option Nat) : State :=
  let s1 := ((s.wr (SHP_ENQRES_STATUS m) st).wr (SHP_ENQRES_QUEUE m) q).wr (SHP_ENQRES_BAND m) b.idx
  match claims with
  | some c => s1.wr (SHP_ENQRES_CLAIMS m) (min c 255)
  | none => s1

/-- An enqueue write of value `v` by owner `m` to queue `q` of band `b` (R212): whole. -/
def State.enqueue (s : State) (m : Nat) (b : Band) (q : Nat) (v : Word) : State :=
  let x := s.enqStatus b q v
  let p := v.toNat / 2 ^ 24 % 64
  let d := s.desc (enqDesc v)
  let claims := if timedQueue q then some (if x.1 = stOK then (x.2.getD ([], [], 0)).1.length else 0) else none
  if x.1 = stOK then
    let s1 := if v.getLsbD 31 && s.rdB (SHP_POL_CFG_EN p) then
      s.wr (SHP_POL_TOK_TOKENS p) (s.rd (SHP_POL_TOK_TOKENS p) - d.psduLen) else s
    (s1.putQueue b q v x.2).setEnqres m b q stOK claims
  else
    let s1 := s.sramWrite (enqDesc v + 24) [BitVec.ofNat 8 x.1]
    let s2 := if x.1 = stDenied then (s1.inc (SHP_POL_DROP_DROPS p)).fire 100
      else if x.1 = stNotAdmitted then (s1.inc (SHP_CNT_NOTADM b)).fire 98
      else s1
    s2.setEnqres m b q x.1 claims

/-- ENQUEUE (R212). -/
def execEnqueue (m : Master) (b : Band) (q : Fin 8) (v : Word) (s : State) : Host.Outcome State Fault Refusal :=
  .next (s.writes m 11 (s.enqueue (s.code m) b q v))

/-- ENQRES_READ (R213): the result of the owner's last enqueue, which stands by then. -/
def execEnqresRead (k : Fin 16) (s : State) : Host.Outcome State Fault Refusal :=
  .next { s with busData := regGet s.regs (SHP_ENQRES_STATUS k.val).addr }

/-! ### Policers (R220, R221) -/

/-- Tokens of policer `p` after a cycle boundary (R220). -/
def State.refilled (s : State) (p : Nat) : Nat :=
  min (s.rd (SHP_POL_BURST_BURST p)) (s.rd (SHP_POL_TOK_TOKENS p) + s.rd (SHP_POL_CFG_RATE p))

/-- POLICER_REFILL (R220): `k` cycle boundaries pass. -/
def State.refill (s : State) (k : Nat) : State :=
  (List.range 64).foldl (fun t p => if t.rdB (SHP_POL_CFG_EN p) then
    t.wr (SHP_POL_TOK_TOKENS p) (min (t.rd (SHP_POL_BURST_BURST p)) (t.rd (SHP_POL_TOK_TOKENS p) + k * t.rd (SHP_POL_CFG_RATE p)))
    else t) s

/-- A write to a policer's CFG (R221): EN from 0 to 1 sets the tokens to BURST. -/
def State.writePolCfg (s : State) (p : Nat) (v : Word) : State :=
  let s1 := s.plainWrite (SHP_POL_CFG_EN p).addr v
  if !s.rdB (SHP_POL_CFG_EN p) ∧ v.getLsbD 31 then s1.wr (SHP_POL_TOK_TOKENS p) (s.rd (SHP_POL_BURST_BURST p)) else s1

/-- A write to a policer's BURST (R221): the tokens do not stay above it. -/
def State.writePolBurst (s : State) (p : Nat) (v : Word) : State :=
  let s1 := s.plainWrite (SHP_POL_BURST_BURST p).addr v
  s1.wr (SHP_POL_TOK_TOKENS p) (min (s.rd (SHP_POL_TOK_TOKENS p)) (s1.rd (SHP_POL_BURST_BURST p)))

/-- POLICER_CFG_WRITE (R221): a write of `v` to CFG, or to BURST. -/
def execPolicerCfgWrite (p : Fin 64) (burst : Bool) (v : Word) (s : State) : Host.Outcome State Fault Refusal :=
  .next (if burst then s.writePolBurst p v else s.writePolCfg p v)

/-! ### The swap (R201, R217) -/

/-- A queued Timed frame is admitted again under the new Chart, or completes with DEADLINE (R217). -/
def State.readmit (s : State) (b : Band) (f : Frame) : State :=
  match s.frameAt b f.desc with
  | none => s
  | some g =>
    let d := s.desc g.desc
    let need := g.claims.length
    let n := s.count b d
    let h := s.shpB b
    let s1 := s.setShp b ({ h with dpend := dropPend g.accs (g.held * g.u) h.dpend }.putFrame
      { g with claims := [], held := 0, n := n })
    let adm := if (s1.shpB b).unset d then none else s1.admission b d g.queue n need
    match adm with
    | some x =>
      s1.setShp b (((s1.shpB b).record x.1 x.2.1 n need x.2.2).putFrame
        { g with claims := x.1, accs := x.2.1, u := x.2.2, held := need, n := n })
    | none =>
      match s1.frameAt b g.desc with
      | some k => s1.completeFrame b k stDeadline
      | none => s1

/-- What has ended by the present time ends (R205, R215, R216): the share, and with the occurrence the claims up to it. -/
def State.closeOcc (s : State) (b : Band) : State :=
  let h := s.shpB b
  let ended := match h.share with | some x => !merAfter x.stop s.mer.now | none => false
  let past := match h.occ with | some o => merAfter (s.here b).start o.start | none => true
  let h1 := if ended || past then h.endShare else h
  if past then (s.setShp b (h1.spendBefore (s.here b).start)).completeSpent b else s.setShp b h1

/-- CHART_SWAP (R201, R217): the pending Chart of the band enters service, and the entries of the old one end. -/
def State.swapChart (s0 : State) (b : Band) : State :=
  let s := s0.closeOcc b
  let h := s.shpB b
  let now := s.mer.now
  let s1 := (s.setShp b { h with chart := chartOf s.regs b, pend := false, claimed := [], occ := none, share := none,
                                 wins := h.wins.map (fun w => if merAfter w.stop now then { w with stop := now } else w) }).wr
    (pendField b) 0
  let s2 := s1.fire (match b with | .sg => 96 | .g24 => 97)
  (h.frames.filter (fun f => timedQueue f.queue)).foldl (fun t f => t.readmit b f) s2

/-- The band's pending Chart qualifies at the boundary of cycle `c`, in a TCLK cycle after that of its commit (R201). -/
def State.swapDue (s : State) (b : Band) (c : Nat) : Bool :=
  (s.shpB b).pend && decide ((s.shpB b).pendAt < s.tclk) && c % s.rd (SHP_CHCFG_CYCLES b) == 0

/-- The swaps of both bands that are due at the boundary of cycle `c`. -/
def State.swapCharts (s : State) (c : Nat) : State :=
  let s1 := if s.swapDue .sg c then s.swapChart .sg else s
  if s1.swapDue .g24 c then s1.swapChart .g24 else s1

/-! ### Deadlines and disabled bands (R218, R222) -/

/-- DEADLINE_SWEEP (R218): every frame whose deadline has passed and that is in no exchange completes. -/
def State.sweep (s : State) : State :=
  let p := fun (t : State) (f : Frame) => !f.busy && !merAfter (t.desc f.desc).due t.mer.now
  let s1 := s.completeWhere .sg (p s) Frame.lateStatus
  s1.completeWhere .g24 (p s1) Frame.lateStatus

/-- The enable bit of the band in SHP_CFG. -/
def shpEn : Band → Field
  | .sg => SHP_CFG_SGEN
  | .g24 => SHP_CFG_G24EN

/-- SHP no longer serves the band (R222). -/
def State.shpDisable (s : State) (b : Band) : State :=
  let s0 := s.wr (shpEn b) 0
  let s1 := s0.setMac b { s0.macB b with att := none, daa := none }
  let s2 := s1.completeWhere b (fun _ => true) (fun _ => stBadState)
  let s3 := s2.setShp b ((s2.shpB b).stopWalk)
  let s4 := ({ s3 with regs := walkBits s3.regs } : State).updateRx b
  if (s.macB b).daa.isSome then s4.tryCal b else s4

/-- SHP_BAND_DISABLE (R222). -/
def execShpBandDisable (b : Band) (s : State) : Host.Outcome State Fault Refusal := .next (s.shpDisable b)

end Sys2Proof.Machine
end

