-- ==== Sys2Proof/Machine/Power.lean ====
section
/-!
DEFINITION. PWR and CLK (16_power_states.md, 17_clocks_and_straits.md): level changes, the idle timers, SLEEP, STANDBY and
BACKUP-ONLY with their wakes, retention, and the loss and return of LFCLK.
-/
namespace Sys2Proof.Machine

/-! ### Performance levels (R431 to R435) -/

/-- ECLK of a FENG code in MHz. -/
def eclkMHz (f : Nat) : Nat := [32, 96, 160, 250].getD f 250

/-- `n` ECLK cycles at the active level in TCLK cycles. -/
def State.eclkTicks (s : State) (n : Nat) : Nat := ceilDiv (n * 400) (eclkMHz (s.rd PWR_STAT_FENG))

/-- The memory assist of a VCORE code: read and write, read, off. -/
def assistOf (v : Nat) : Nat := min v 2

/-- Step `k` of R433 changes something between two levels, given as (VCORE, FENG). -/
def levelStepDue (c : LevelChange) (k : Nat) : Bool :=
  if k = 2 then c.vFrom != c.vTo
  else if k = 3 then assistOf c.vFrom != assistOf c.vTo || (c.fFrom == 3) != (c.fTo == 3)
  else if k = 4 then c.fFrom != c.fTo
  else true

/-- The steps of a change in the order in which they are carried out. -/
def LevelChange.steps (c : LevelChange) : List Nat :=
  (if c.rising then [1, 2, 3, 4] else [4, 3, 2, 1]).filter (levelStepDue c)

/-- A change from the level in effect to (`v`, `f`) begins; none when nothing differs. -/
def State.levelBegin (s : State) (v f : Nat) : State :=
  let v0 := s.rd PWR_STAT_VCORE
  let f0 := s.rd PWR_STAT_FENG
  if v0 = v ∧ f0 = f then { s with regs := wrF s.regs PWR_STAT_CHG 0, pwr := { s.pwr with change := none } }
  else
    { s with regs := wrF s.regs PWR_STAT_CHG 1,
             pwr := { s.pwr with change := some { done := 0, rising := decide (f0 < f ∨ (f0 = f ∧ v0 < v)), vFrom := v0, vTo := v,
                                                  fFrom := f0, fTo := f } } }

/-- The status of a commit of the level group (R432). -/
def State.levelCommitStatus (s : State) : Nat := if s.sh PWR_LEVEL_VCORE < s.sh PWR_LEVEL_FENG then stMismatch else stOK

/-- An accepted commit of the level group (R433, R434). -/
def State.levelCommitted (s : State) : State :=
  let v := s.rd PWR_LEVEL_VCORE
  let f := s.rd PWR_LEVEL_FENG
  match s.pwr.change with
  | some _ => { s with pwr := { s.pwr with nextLevel := some (v, f) } }
  | none => s.levelBegin v f

/-- The next step of a level change completes: the rail stands at the new VCORE, or ECLK at the new frequency (R433, R456); after
the last step the next target follows (R434). -/
def State.levelStep (s : State) : State :=
  match s.pwr.change with
  | none => s
  | some c =>
    let k := c.steps.getD c.done 1
    let s1 := if k = 2 then s.wr PWR_STAT_VCORE c.vTo else if k = 4 then s.wr PWR_STAT_FENG c.fTo else s
    if c.done + 1 < c.steps.length then { s1 with pwr := { s1.pwr with change := some { c with done := c.done + 1 } } }
    else
      let s2 : State := { s1 with regs := wrF s1.regs PWR_STAT_CHG 0, pwr := { s1.pwr with change := none, nextLevel := none } }
      match s.pwr.nextLevel with
      | some (v, f) => s2.levelBegin v f
      | none => s2

/-! ### The conditions of R439 -/

/-- CIP works on a job, a Seal or an Accept (R407). -/
def State.cipBusy (s : State) : Bool := !s.cip.jobs.isEmpty || s.sealing || s.accepting

/-- A band rests: OFF or READY, no window open, no acknowledgement awaited. -/
def State.bandRests (s : State) (b : Band) : Bool :=
  ((s.rfcB b).st == .off || ((s.rfcB b).st == .ready && !(s.rfcB b).opening)) && (s.shpB b).wins.isEmpty &&
  (match (s.macB b).att with | some a => !a.waiting | none => true)

/-- The TCM of engine `e` is retained in SLEEP (R444). -/
def State.tcmKept (s : State) (e : Nat) : Bool := decide (e < 3) || s.rd PWR_RETCFG_TCM / 2 ^ (e - 3) % 2 == 1

/-- The band's next occurrence with a window, or with an open gate on a non-empty queue (R205). -/
def State.bandActivity (s : State) (b : Band) : Option Nat :=
  let h := s.shpB b
  let c := h.chart
  let want := fun o : Place => entWin (c.word o.entry) ||
    (List.range 8).any (fun q => entGate (c.word o.entry) / 2 ^ q % 2 == 1 && !(h.queue q).isEmpty)
  if s.merWalks ∧ s.shpOn b then ((c.within (s.here b)).find? want).map (·.start) else none

/-- The next activity of either band. -/
def State.nextActivity (s : State) : Option Nat :=
  match s.bandActivity .sg, s.bandActivity .g24 with
  | some x, some y => some (if merAfter x y then y else x)
  | some x, none => some x
  | none, y => y

/-- W of R441 for the next activity `a`, as a tick distance from the next LFCLK edge; negative when it has passed. -/
def State.wakeLead (s : State) (a : Nat) : Int :=
  let b := (a + 2 ^ 48 - 4096) % 2 ^ 48 / 8192 * 8192
  let d := merDiff b s.mer.now
  let per := s.rd MER_INC_INC * s.rd MER_LFRATIO_RATIO
  let lead : Int := (if s.rd PWR_CFG_XOTYPE = 1 then 9 else 19) + Config.wakeMarg
  if d < 0 ∨ per = 0 then -1 else ((d.toNat * 2 ^ 48 / per : Nat) : Int) - lead

/-- The tick of PWR_TIMER. -/
def State.timerTick (s : State) : Nat := s.rd PWR_TIMER_HI_TICK % 65536 * 2 ^ 32 + s.rd PWR_TIMER_LO_TICK

/-- The next LFCLK edge. -/
def State.nextTick (s : State) : Nat := (s.rtc.tick + 1) % 2 ^ 48

/-- HOLD bit 3 (R439, R441): the wake instant lies far enough away, or none is due. With AUTOTMR = 0 it is judged against the timer. -/
def State.wakeFar (s : State) : Bool :=
  if s.rdB PWR_CFG_AUTOTMR then
    match s.nextActivity with
    | some a => decide (64 ≤ s.wakeLead a)
    | none => true
  else decide (64 ≤ merDiff s.timerTick s.nextTick)

/-- The bits of PWR_STAT.HOLD: conditions of R439 that fail. -/
def State.holdBits (s : State) : Nat :=
  let ok := [s.flc.op.isNone, !s.cipBusy, s.bandRests .sg && s.bandRests .g24, s.wakeFar,
             s.hif.exec.isNone && s.hif.out.isNone,
             !(s.evf.fly ++ s.evf.held).any (fun p => decide (p.task < 96)),
             (List.range 12).all (fun e => s.tcmKept e || (s.eng (s.leader e)).st == .reset),
             s.pwr.change.isNone && s.tst.run.isNone]
  (ok.zipIdx.map (fun p => if p.1 then 0 else 2 ^ p.2)).sum

/-- STANDBY is entered in place of SLEEP (R440). -/
def State.standbyMet (s : State) : Bool :=
  s.rd PWR_CFG_DEEP == 2 && (match s.nextActivity with
    | some a => decide (((s.convUs (1000 * s.rd PWR_STBYMIN_MS) : Nat) : Int) ≤ merDiff a s.mer.now)
    | none => true)

/-! ### Entering SLEEP and STANDBY (R442) -/

/-- PWR sets the wake timer (R441). -/
def State.setWakeTimer (s : State) : State :=
  if s.rdB PWR_CFG_AUTOTMR then
    match s.nextActivity with
    | some a =>
      let w := ((s.nextTick : Int) + s.wakeLead a).toNat % 2 ^ 48
      { s with regs := wrF (wrF s.regs PWR_TIMER_LO_TICK w) PWR_TIMER_HI_TICK (w / 2 ^ 32),
               pwr := { s.pwr with noTimer := false } }
    | none => { s with pwr := { s.pwr with noTimer := true } }
  else { s with pwr := { s.pwr with noTimer := false } }

/-- Steps 1 and 2 of R442. -/
def State.beginEntry (s : State) : State :=
  let stby := s.standbyMet
  let s1 := s.setWakeTimer
  let en := (s1.rdB (rfcEn .sg), s1.rdB (rfcEn .g24))
  let s2 := (s1.disableBand .sg).disableBand .g24
  { s2 with pwr := { s2.pwr with entering := true, toStandby := stby, bands := en, flashOn := false, wakeReq := 0, failed := false } }

/-- The bands that were enabled at step 2 of R442 start again, with VDD_PA at `mv` millivolts. -/
def State.restoreBands (s : State) (mv : Nat) : State :=
  let s1 := if s.pwr.bands.1 then s.enableBand .sg mv else s
  let s2 := if s.pwr.bands.2 then s1.enableBand .g24 mv else s1
  { s2 with pwr := { s2.pwr with bands := (false, false) } }

/-- The entry is abandoned (R442). -/
def State.abandonEntry (s : State) (mv : Nat) : State :=
  let s1 := s.restoreBands mv
  { s1 with regs := incF s1.regs PWR_CNT_ABANDON,
            pwr := { s1.pwr with entering := false, failed := false, flashOn := true, wakeReq := 0 } }

/-- A band's scheduler when TCLK stops: walking resumes at the first slot boundary after it returns (R205). -/
def BandShp.stopped (h : BandShp) : BandShp := { h.endShare with occ := none, wins := [], resume := true }

/-- TCLK stops for SLEEP (R442 step 3, R67, R286, R445); MER's record is on its way into the Atoll domain (R69, R460). -/
def State.sleepNow (s : State) : State :=
  let s1 := s.pwmStop.inc PWR_CNT_SLEEPS
  let bank := s1.rd PWR_RETCFG_BANK
  let s2 := s1.loseBanks (fun n => bank / 2 ^ n % 2 == 0)
  { s2 with shp := { s2.shp with bands := { sg := s2.shp.bands.sg.stopped, g24 := s2.shp.bands.g24.stopped } },
            pwr := { s2.pwr with st := .sleep, entering := false, tickAt := s2.rtc.tick } }

/-- The core rail is switched off for STANDBY, with MER's record stored (R437, R446). -/
def State.standbyNow (s : State) : State :=
  let s1 := s.pwmStop
  { s1 with pwr := { s1.pwr with st := .standby, entering := false } }

/-! ### Wakes (R446 to R449) -/

/-- The lowest bit of a number below 256. -/
def lowestBit (v : Nat) : Nat := ((List.range 8).find? (fun k => v / 2 ^ k % 2 == 1)).getD 0

/-- PWR_WAKESRC at a wake from the state with code `src` (R449). -/
def State.wakeRecord (s : State) (src : Nat) : State :=
  let q := s.pwr.wakeReq
  { s with regs := wrF (wrF (wrF s.regs PWR_WAKESRC_SRC (s.rd PWR_WAKESRC_SRC ||| q)) PWR_WAKESRC_FIRST (lowestBit q))
             PWR_WAKESRC_FROM src,
           pwr := { s.pwr with wakeReq := 0 } }

/-- The device takes its wake sources at the LFCLK edge (R443, R446, R449). -/
def State.takeWake (s : State) : State :=
  if !s.wakeDue then s
  else match s.pwr.st with
    | .sleep => let s1 := s.wakeRecord 1; { s1 with pwr := { s1.pwr with waking := true } }
    | .standby => (s.wakeRecord 2).deviceReset 3 false false
    | _ => (s.wakeRecord 3).deviceReset 4 false false

/-- MER advances by the ticks counted while TCLK was stopped (R67), and the policers take the cycles passed (R220). DESIGN CHOICE (log entry
104): the reference of the mains edges stays, so that the edges of the stop count as missing at the first edge after it (R55). -/
def State.merResume (s : State) : State :=
  let n := (s.rtc.tick + 2 ^ 48 - s.pwr.tickAt) % 2 ^ 48 * s.rd MER_LFRATIO_RATIO + s.mer.frac
  let t := (s.mer.time + n / 65536 * s.rd MER_INC_INC) % 2 ^ 80
  ({ s with flt := { s.flt with slept := s.flt.slept + s.asleep },
            mer := { s.mer with time := t, tstamp := (s.mer.tstamp + n / 65536) % 2 ^ 64, frac := n % 65536, slot := t / 2 ^ 45,
                                cyc := t / 2 ^ 48, lfTick := s.rtc.tick, lfTclk := s.tclk } } : State).refill
    ((t / 2 ^ 48 + 2 ^ 32 - s.mer.cyc) % 2 ^ 32)

/-- The engines whose TCM a SLEEP has not retained are cleared (R445). -/
def State.clearLost (s : State) : State :=
  let es := (List.range 12).filter (fun e => !s.tcmKept e)
  { s with engs := es.foldl (fun v e => Machine.setEng v e (s.eng e).cleared) s.engs, pwr := { s.pwr with clearing := es } }

/-- The Sounding baselines are EMPTY when the bank of the state area was not retained (R276). -/
def State.sndWake (s : State) : State :=
  let bank := (s.snd.cfg.stateBase - sramBase) / 0x40000
  if s.rd PWR_RETCFG_BANK / 2 ^ bank % 2 = 1 then s
  else { s with snd := { s.snd with links := s.snd.links.map (fun l => { l with a := .fresh, b := .fresh }) } }

/-- Step 4 of R443: all clocks start, with VDD_PA at `mv` millivolts for the bands that follow. -/
def State.wakeClocks (s : State) (mv : Nat) : State :=
  let s1 := s.merResume.clearLost.sndWake
  let s2 : State := { s1 with regs := if s1.rtc.lf then wrF s1.regs CLK_STAT_LFOK 1 else s1.regs,
                              pwr := { s1.pwr with st := .doze, waking := false, dozeFrom := s1.tclk, noTimer := false } }
  s2.pwmResume.restoreBands mv

/-! ### BACKUP-ONLY (R447) -/

/-- PWR_CTRL.OFF takes effect once HOLD bits 0, 1 and 7 are 0, and MER's record is written: with LFCLK stopped it waits (R460). -/
def State.tryOff (s : State) : State :=
  if s.pwr.offWanted ∧ s.tclkOn ∧ s.holdBits % 4 = 0 ∧ s.holdBits / 128 = 0 ∧ (s.lfOn ∨ !s.rtc.powered) then
    let s1 := s.writeRecord.pwmStop
    { s1 with pwr := { s1.pwr with st := .backupCmd, offWanted := false, entering := false, wakeReq := 0, noTimer := false } }
  else s

/-- A write of 1 to PWR_CTRL.OFF (R447): only E2's counts. -/
def State.powerOff (s : State) (m : Master) : State :=
  if isE2 m ∧ s.tclkOn then
    let s1 := (s.disableBand .sg).disableBand .g24
    ({ s1 with pwr := { s1.pwr with offWanted := true } } : State).tryOff
  else s

/-! ### Commands -/

/-- LEVEL_CHANGE_STEP (R433). -/
def execLevelChangeStep (s : State) : Host.Outcome State Fault Refusal := .next (if s.tclkOn then s.levelStep.tryOff else s)

/-- ENGINE_IDLE (R437, R438): engine `e` has rested for PWR_ENGIDLE cycles. -/
def execEngineIdle (e : Fin 12) (s : State) : Host.Outcome State Fault Refusal :=
  let n := s.leader e.val
  let g := s.eng n
  if s.tclkOn ∧ g.st.restful ∧ !g.idle then
    let s1 := s.tick (g.idleFrom + s.eclkTicks (s.rd PWR_ENGIDLE_CYC) - s.tclk)
    .next (s1.setEng n { s1.eng n with idle := true }).checkDoze
  else .next s

/-- DEVICE_IDLE (R439, R440): the idle timer has reached PWR_DEVIDLE; with every condition met the entry begins. -/
def execDeviceIdle (s : State) : Host.Outcome State Fault Refusal :=
  if !s.tclkOn ∨ s.pwr.st ≠ .doze ∨ s.pwr.entering ∨ s.rd PWR_CFG_DEEP = 0 ∨ s.start ≠ .none then .next s
  else
    let s1 := s.tick (s.pwr.dozeFrom + s.rd PWR_DEVIDLE_US * 400 - s.tclk)
    .next (if s1.holdBits = 0 then s1.beginEntry else s1)

/-- SLEEP_ENTRY (R442): the LFCLK edge of step 3, at which MER takes its record (R69), or the entry is abandoned. STANDBY follows once the
record is stored (R446). -/
def execSleepEntry (mv : Nat) (s : State) : Host.Outcome State Fault Refusal :=
  if !s.pwr.entering then .next s
  else if s.pwr.wakeReq ≠ 0 ∨ s.pwr.failed ∨ s.pwr.st ≠ .doze ∨ s.holdBits ≠ 0 then .next (s.abandonEntry mv)
  else if !s.lfOn then .next s
  else
    let s1 := s.recordDue.lfEdge
    .next (if s1.pwr.toStandby then s1.drain.standbyNow else s1.sleepNow).takeWake

/-- WAKE_SOURCE (R448, R449): the device takes its wake sources; `hif` tells of a falling edge on HIF_CS_N or HIF_RXD. -/
def execWakeSource (hif : Bool) (s : State) : Host.Outcome State Fault Refusal :=
  if hif then
    let s1 := s.wakeSignal 7
    .next (if s1.wakeDue then s1.lfEdge.takeWake else s1)
  else .next s.takeWake

/-- WAKE_CLOCKS_READY (R443 step 4). -/
def execWakeClocksReady (mv : Nat) (s : State) : Host.Outcome State Fault Refusal :=
  if s.pwr.st = .sleep ∧ s.pwr.waking then .next (s.wakeClocks mv) else .next s

/-- WAKE_FLASH_READY (R443 step 5): window reads are served, and HIF shows READY (R505). -/
def execWakeFlashReady (s : State) : Host.Outcome State Fault Refusal :=
  if s.tclkOn ∧ !s.pwr.flashOn ∧ !s.pwr.entering then
    .next { s with regs := wrF s.regs HIF_EVPEND_READY 1, pwr := { s.pwr with flashOn := true } }
  else .next s

/-- TCM_CLEAR_DONE (R445). -/
def execTcmClearDone (e : Fin 12) (s : State) : Host.Outcome State Fault Refusal :=
  .next { s with pwr := { s.pwr with clearing := s.pwr.clearing.filter (· ≠ e.val) } }

/-- PWR_OFF_CMD (R447). -/
def execPwrOffCmd (m : Master) (s : State) : Host.Outcome State Fault Refusal := .next (s.writes m 1 (s.powerOff m))

/-- BROWNOUT (R447, R69): VBAT falls below the falling threshold; `stored` tells that MER's record was stored before 1.60 V. The device is
reset at once: every PWM pin drives 0 (R286), and no pulse stays in a crossing (R346). -/
def execBrownout (stored : Bool) (s : State) : Host.Outcome State Fault Refusal :=
  if s.pwr.st = .backupCmd ∨ s.pwr.st = .backupBrown ∨ s.pwr.st = .off then .next s
  else
    let s1 := (if stored ∧ s.tclkOn then s.writeRecord else s).flashInterrupt
    .next { s1 with sns := .atReset, evf := .atReset, pwr := { s1.pwr with st := .backupBrown, entering := false, waking := false, offWanted := false, wakeReq := 0 } }

/-- VBAT_RETURN (R447, R449): the device starts after a brown-out; no wake source played a part, so FIRST has no stated value. -/
def execVbatReturn (s : State) : Host.Outcome State Fault Refusal :=
  if s.pwr.st = .backupBrown then
    let s1 : State := { s with regs := wrF (wrF s.regs PWR_WAKESRC_FIRST (s.freeBelow 16)) PWR_WAKESRC_FROM 4 }
    .next (s1.took.deviceReset 1 false false)
  else .next s

/-- LFCLK_LOSS (R453): CLK misses the edges of LFCLK while TCLK runs, also those of a clock that a reset has found dead. -/
def execLfclkLoss (s : State) : Host.Outcome State Fault Refusal :=
  if s.tclkOn ∧ (s.rtc.lf ∨ s.rd CLK_STAT_LFFAIL = 0) then
    let s1 : State := { s with regs := wrF (wrF s.regs CLK_STAT_LFOK 0) CLK_STAT_LFFAIL 1, rtc := { s.rtc with lf := false } }
    .next (s1.fault { code := 0x0A, region := 14, tier := 0 })
  else .next s

/-- LFCLK_VALID (R453). -/
def execLfclkValid (s : State) : Host.Outcome State Fault Refusal :=
  if s.rtc.powered then
    .next { s with regs := if s.tclkOn then wrF s.regs CLK_STAT_LFOK 1 else s.regs, rtc := { s.rtc with lf := true } }
  else .next s

/-- A write to PWR_CFG: DEEP 0b11 is stored as 0b00 (R451). -/
def State.writePwrCfg (s : State) (v : Word) : State :=
  s.plainWrite PWR_CFG_DEEP.addr (if PWR_CFG_DEEP.of v = 3 then PWR_CFG_DEEP.put v 0 else v)

end Sys2Proof.Machine
end

