-- ==== Sys2Proof/Machine/Survey.lean ====
section
/-!
DEFINITION. The Survey recorder's areas (20_survey_recorder.md): the commit (R522), the scan (R518), the writing of waiting
sheets (R515, R517), the rolling erase (R516), the clears (R520), the reading cursors (R519), and the writes of masters to the
SVR registers.
-/
namespace Sys2Proof.Machine

/-! ### Places (R514) -/

/-- Block number of the `i`-th block of the run in effect. -/
def Svr.block_ (v : Svr) (i : Nat) : Nat := v.blocks.getD i 0

/-- Places of an area. -/
def Svr.places (v : Svr) (founding : Bool) : Nat := if founding then 256 else v.rollBlk * 128

/-- First word of place `p` of an area: a place is 16 code words. -/
def Svr.placeWord (v : Svr) (founding : Bool) (p : Nat) : Nat :=
  v.block_ (p / 128 + if founding then 0 else 2) * 2048 + p % 128 * 16

/-- Some word of place `p` reads programmed. -/
def State.placeUsed (s : State) (founding : Bool) (p : Nat) : Bool :=
  let w := s.svr.placeWord founding p
  (List.range 16).any (fun i => (codeWordAt s.flc.words (w + i)).isSome)

/-- Block number `b` is erased: no programmed word and no mark. -/
def Flc.blockErased (f : Flc) (b : Nat) : Bool := f.words.all (fun p => p.1 / 2048 != b) && !f.half.contains b

/-- The 512 bytes of a place, if its words are all programmed and readable. -/
def Flc.placeBytes (f : Flc) (w : Nat) : Nat → Option (List Byte)
  | 0 => some []
  | n + 1 =>
    match codeWordAt f.words w with
    | some c => if c.err = some true then none else (f.placeBytes (w + 1) n).map (c.data ++ ·)
    | none => none

/-- The bytes of a sheet whose CRC agrees (R507). -/
def sheetOk (bs : List Byte) : Bool :=
  bs.length == 512 && crc16 (bs.take 30 ++ bs.drop 32) == leNat ((bs.drop 30).take 2)

/-- The good sheet that place `p` holds. -/
def State.placeSheet (s : State) (founding : Bool) (p : Nat) : Option (List Byte) :=
  let w := s.svr.placeWord founding p
  if s.flc.half.contains (w / 2048) then none
  else match s.flc.placeBytes w 16 with
    | some bs => if sheetOk bs then some bs else none
    | none => none

/-- The number of a sheet (R507). -/
def sheetSeq (bs : List Byte) : Nat := leNat (bs.take 4)

/-- A sheet number and its place put into a list in rising order of numbers. -/
def seqInsert (x : Nat × Nat) : List (Nat × Nat) → List (Nat × Nat)
  | [] => [x]
  | y :: r => if x.1 < y.1 then x :: y :: r else y :: seqInsert x r

/-- The sheets an area holds, oldest first. -/
def State.heldIn (s : State) (founding : Bool) : List (Nat × Nat) :=
  (List.range (s.svr.places founding)).foldl (fun l p =>
    match s.placeSheet founding p with
    | some bs => seqInsert (sheetSeq bs, p) l
    | none => l) []

/-! ### The scan (R518) -/

/-- A read of the 16 words at word `w` through the die: the bytes, unless a word fails. -/
def State.readPlace (s : State) (w : Nat) : Nat → Option (List Byte) × State
  | 0 => (some [], s)
  | n + 1 =>
    match s.dieRead (w * 32) with
    | (.data l, s1) =>
      let x := s1.readPlace (w + 1) n
      (x.1.map (l ++ ·), x.2)
    | (_, s1) => (none, s1)

/-- A bad place is counted (R518, R523). -/
def State.badPlace (s : State) : State := s.inc SVR_CNT_BAD

/-- The header of place `p` is read: a bad place is counted. -/
def State.scanPlace (s : State) (founding : Bool) (p : Nat) : State :=
  match s.readPlace (s.svr.placeWord founding p) 16 with
  | (some bs, s1) => if sheetOk bs then s1 else s1.badPlace
  | (none, s1) => s1.badPlace

/-- Step 1 of the scan for the places `p` to `p + 127`: the first and the last header that is written. -/
def State.scanBlock (s : State) (founding : Bool) (p : Nat) : State :=
  let used := ((List.range 128).map (p + ·)).filter (s.placeUsed founding)
  match used.head?, used.getLast? with
  | some a, some b =>
    let s1 := s.scanPlace founding a
    if a = b then s1 else s1.scanPlace founding b
  | _, _ => s

/-- The place after `p` on which the next sheet is written: the first that is wholly erased, within `n` places of the ring. -/
def State.nextPlace (s : State) (p : Nat) : Nat → Nat
  | 0 => p
  | n + 1 => if s.placeUsed false p then s.nextPlace ((p + 1) % s.svr.places false) n else p

/-- The VALUE field of slot `k` in a sheet. -/
def sheetValue (bs : List Byte) (k : Nat) : Nat := bcdVal 16 (leNat ((bs.drop (32 + 20 * k)).take 8))

/-- The places of all held sheets, newest first, as area and place. -/
def Svr.newestFirst (v : Svr) : List (Bool × Nat) :=
  ((v.fheld.map (fun x => (x.1, true, x.2)) ++ v.rheld.map (fun x => (x.1, false, x.2))).foldl
    (fun (l : List (Nat × Bool × Nat)) x => l.filter (fun y => x.1 < y.1) ++ [x] ++ l.filter (fun y => !decide (x.1 < y.1))) []).map
    (fun x => x.2)

/-- The counter that slot `k` continues (R518, step 2): that of the newest sheet whose slot had the same SRC and PARAM. -/
def State.counterFrom (s : State) (k : Nat) : Nat :=
  let want := s.svrSrcs.getD k 0
  match s.svr.newestFirst.find? (fun x =>
      ((s.flc.srcs.find? (fun y => y.1 == s.svr.placeWord x.1 x.2)).map (fun y => y.2.getD k 0)) == some want) with
  | some x => sheetValue ((s.placeSheet x.1 x.2).getD []) k
  | none => 0

/-- The newest sheet held in an area. -/
def newestSeq (l : List (Nat × Nat)) : Option Nat := l.getLast?.map Prod.fst

/-- The number after the newest of two. -/
def nextSeq (a b : Option Nat) : Nat :=
  match a, b with
  | none, none => 0
  | some x, none => (x + 1) % 2 ^ 32
  | none, some y => (y + 1) % 2 ^ 32
  | some x, some y => (max x y + 1) % 2 ^ 32

/-- The rolling block whose erase the scan finds open: that of the next place when it is half-erased, else the one after it when it
is not erased (R516, R518). -/
def State.scanErase (s : State) (next : Nat) : Option Nat :=
  let j := next / 128
  let j' := (j + 1) % s.svr.rollBlk
  if s.flc.half.contains (s.svr.block_ (j + 2)) ∨ s.placeUsed false next then some j
  else if next % 128 ≠ 0 ∧ !s.flc.blockErased (s.svr.block_ (j' + 2)) then some j'
  else none

/-- The places found by the scan, and the number that follows (R518, steps 2 and 3). -/
def State.scanFound (s : State) : State :=
  let fh := s.heldIn true
  let rh := s.heldIn false
  let fn := ((List.range 256).filter (s.placeUsed true)).foldl (fun _ p => p + 1) 0
  let from_ := match rh.getLast? with
    | some x => (x.2 + 1) % s.svr.places false
    | none => 0
  let rn := s.nextPlace from_ (s.svr.places false)
  { s with svr := { s.svr with fheld := fh, rheld := rh, fnext := fn, rnext := rn, eraseWant := s.scanErase rn, eraseStuck := false },
           regs := wrF s.regs SVR_SEQ_SEQ (nextSeq (newestSeq fh) (newestSeq rh)) }

/-- The scan of R518, and the sheet that opens after it. -/
def State.svrScan (s : State) : State :=
  let s1 := (List.range 2).foldl (fun t b => t.scanBlock true (128 * b)) s
  let s2 := (List.range s.svr.rollBlk).foldl (fun t b => t.scanBlock false (128 * b)) s1
  let s3 := s2.scanFound
  { s3 with regs := wrF s3.regs SVR_STAT_SCANNED 1,
            svr := { s3.svr with sheet := some (s3.rtc.cal, !s3.svr.started), started := true, found := false,
                                 slots := (List.range 24).map (fun k => { SvrSlot.empty with value := s3.counterFrom k }) } }

/-- FLC can serve SVR now: scanned, powered and idle (R375, R381, R517). -/
def State.dieFree (s : State) : Bool := s.rdB FLC_STAT_SCANDONE && s.pwr.flashOn && s.flc.op.isNone && !s.rdB FLC_STAT_BUSY

/-- SVR_CFG.EN becomes 1 (R518, R522): the placement takes effect and the area is scanned, once the die can be read. -/
def State.svrEnable (s : State) : State :=
  if s.svr.sheet.isSome then s
  else
    let r := wrF s.regs SVR_CFG_EN 1
    if s.dieFree then
      ({ s with regs := wrF r SVR_STAT_SCANNED 0,
                svr := { s.svr with bank := s.rd SVR_PLACE_BANK, block := s.rd SVR_PLACE_BLOCK,
                                    rollBlk := s.rd SVR_PLACE_ROLLBLK } } : State).svrScan
    else { s with regs := r }

/-- An enable that waited for the die has its scan (R518). -/
def State.svrLate (s : State) : State := if s.rdB SVR_CFG_EN && s.svr.sheet.isNone && s.dieFree then s.svrEnable else s

/-- SVR_ENABLE (R518): E2 sets SVR_CFG.EN. -/
def execSvrEnable (m : Master) (s : State) : Host.Outcome State Fault Refusal := .next (s.writes m 6 (if isE2 m then s.svrEnable else s))

/-! ### Close and destination (R512, R515) -/

/-- CLOSE (R512): E2 writes 1 to SVR_CMD.CLOSE. -/
def execClose (m : Master) (s : State) : Host.Outcome State Fault Refusal :=
  .next (s.writes m 6 (if isE2 m then s.svrClose s.rtc.cal s.rtc.cal {} else s))

/-- FOUND (R515): E2 writes 1 to SVR_CMD.FOUND. -/
def execFound (m : Master) (s : State) : Host.Outcome State Fault Refusal :=
  .next (s.writes m 6 (if isE2 m then { s with svr := { s.svr with found := true } } else s))

/-- A write of `v` to SVR_CFG (R512, R523): E2 only; a write that clears EN closes the open sheet. -/
def State.writeSvrCfg (s : State) (m : Master) (v : Word) : State :=
  if !isE2 m then s
  else
    let on := SVR_CFG_EN.of v = 1
    let s1 := s.plainWrite SVR_CFG_EN.addr v
    if on then s1.svrEnable
    else
      let s2 := if s.rdB SVR_CFG_EN then s.svrClose s.rtc.cal s.rtc.cal {} else s
      let s3 := s2.plainWrite SVR_CFG_EN.addr v
      { s3 with svr := { s3.svr with sheet := none, late := none } }

/-! ### Erases (R516, R520) -/

/-- The rolling block held at index `j` is erased now: its sheets leave the area, and a rolling cursor on one of them moves to the
oldest sheet held (R519). -/
def State.dropRolling (s : State) (j : Nat) : State :=
  let l := s.svr.rheld.filter (fun x => x.2 / 128 ≠ j)
  let oldest := (l.map Prod.fst).headD (s.rd SVR_SEQ_SEQ)
  if ((s.svr.rheld.find? (fun x => decide (s.svr.rcur ≤ x.1))).map (fun x => x.2 / 128)) = some j then
    { s with regs := wrF s.regs SVR_STAT_CURLOST 1, svr := { s.svr with rheld := l, rcur := oldest } }
  else { s with svr := { s.svr with rheld := l } }

/-- SVR asks FLC to erase block number `b`. -/
def State.svrErase (s : State) (b : Nat) : State := s.flashIssue 13 none 2 0 (0x20000000 + b * 0x10000) 0

/-- SVR starts the erase that is next: of a clear, else the rolling one (R516, R520). -/
def State.svrKick (s : State) : State :=
  if !s.dieFree || s.rdB SVR_STAT_RDLOCK then s
  else match s.svr.clear with
    | (founding, b :: _) :: _ =>
      let v := s.svr
      let gone := fun (l : List (Nat × Nat)) => l.filter (fun x => v.placeWord founding x.2 / 2048 ≠ b)
      ({ s with svr := if founding then { v with fheld := gone v.fheld } else { v with rheld := gone v.rheld } } : State).svrErase b
    | _ =>
      match s.svr.eraseWant with
      | some j => if s.svr.eraseStuck then s else (s.dropRolling j).svrErase (s.svr.block_ (j + 2))
      | none => s

/-- ROLLING_ERASE (R516): SVR starts the next erase that it wants, when FLC is free and RDLOCK is 0. -/
def execRollingErase (s : State) : Host.Outcome State Fault Refusal := .next s.svrKick

/-- Blocks of an area. -/
def Svr.areaBlocks (v : Svr) (founding : Bool) : List Nat := if founding then v.blocks.take 2 else v.blocks.drop 2

/-- A clear is taken (R520). -/
def State.svrClear (s : State) (founding : Bool) : State :=
  ({ s with regs := wrF s.regs SVR_STAT_CLEAR 1,
            svr := { s.svr with clear := s.svr.clear ++ [(founding, s.svr.areaBlocks founding)] } } : State).svrKick

/-- CLRROLL (R520): E2 writes 1 to SVR_CMD.CLRROLL. -/
def execClrroll (m : Master) (s : State) : Host.Outcome State Fault Refusal := .next (s.writes m 6 (if isE2 m then s.svrClear false else s))

/-- CLRFOUND (R520): E2 writes 1 to SVR_CMD.CLRFOUND. -/
def execClrfound (m : Master) (s : State) : Host.Outcome State Fault Refusal := .next (s.writes m 6 (if isE2 m then s.svrClear true else s))

/-- A write of `v` to SVR_CMD (R520, R523): E2 only. -/
def State.writeSvrCmd (s : State) (m : Master) (v : Word) : State :=
  if !isE2 m then s
  else
    let s1 := if SVR_CMD_CLOSE.of v = 1 then s.svrClose s.rtc.cal s.rtc.cal {} else s
    let s2 : State := if SVR_CMD_FOUND.of v = 1 then { s1 with svr := { s1.svr with found := true } } else s1
    let s3 := if SVR_CMD_CLRROLL.of v = 1 then s2.svrClear false else s2
    if SVR_CMD_CLRFOUND.of v = 1 then s3.svrClear true else s3

/-- What the end of a clear leaves (R520). -/
def State.clearEnd (s : State) (founding : Bool) : State :=
  let v := s.svr
  if founding then
    { s with regs := wrF s.regs SVR_SEQ_SEQ 0, svr := { v with fheld := [], fnext := 0, fcur := 0, rcur := 0 } }
  else { s with svr := { v with rheld := [], rnext := 0, rcur := 0, eraseWant := none } }

/-- SVR's ERASE of block number `b` has succeeded. -/
def State.svrErased (s : State) (b : Nat) : State :=
  match s.svr.clear with
  | (founding, c :: rest) :: more =>
    if c ≠ b then s
    else if rest ≠ [] then ({ s with svr := { s.svr with clear := (founding, rest) :: more } } : State).svrKick
    else
      let s1 := s.clearEnd founding
      ({ s1 with regs := wrF s1.regs SVR_STAT_CLEAR (b2n (decide (more ≠ []))),
                 svr := { s1.svr with clear := more } } : State).svrKick
  | _ => { s with svr := { s.svr with eraseWant := none, eraseStuck := false } }

/-! ### Writing sheets (R515 to R517) -/

/-- The place a waiting sheet goes to: its area and place. -/
def Svr.dest (v : Svr) (x : Sheet) : Bool × Nat :=
  if x.founding && decide (v.fnext < 256) then (true, v.fnext) else (false, v.rnext % v.places false)

/-- SHEET_WRITE (R517): the oldest waiting sheet is programmed into its place when FLC, the die and the block are free. -/
def execSheetWrite (s : State) : Host.Outcome State Fault Refusal :=
  match s.svr.waiting with
  | [] => .next s
  | x :: _ =>
    let d := s.svr.dest x
    let w := s.svr.placeWord d.1 d.2
    let want := s.svr.eraseWant.map (fun j => s.svr.block_ (j + 2))
    if !s.dieFree || s.flc.half.contains (w / 2048) || want == some (w / 2048) ||
        s.svr.clear.any (fun c => c.2.contains (w / 2048)) then .next s
    else
      let s1 : State := { s with svr := { s.svr with writing := some (d.1, d.2, x.seq) } }
      .next (s1.flashStart 13 1 (0x20000000 + w * 32) x.bytes)

/-- The place that has been tried is behind the next one. -/
def Svr.passed (v : Svr) (founding : Bool) (p : Nat) : Svr :=
  if founding then { v with fnext := p + 1 } else { v with rnext := (p + 1) % v.places false }

/-- A PROGRAM of SVR has ended: the place holds the sheet only when its last word has been programmed and read back (R517); a failed
place is bad, and the sheet waits for the next (log entry 26). Writing the first place of a rolling block wants the next block
erased (R516). -/
def State.svrWrote (s : State) (ok : Bool) : State :=
  match s.svr.writing with
  | none => s
  | some (founding, p, seq) =>
    let v : Svr := { s.svr with writing := none }
    let v1 := v.passed founding p
    let j := (p / 128 + 1) % v.rollBlk
    let want := !founding && p % 128 == 0 && !s.flc.blockErased (v.block_ (j + 2))
    let v2 : Svr := if want then { v1 with eraseWant := some j, eraseStuck := false } else v1
    if ok then
      let src := ((v.waiting.find? (fun x => x.seq == seq)).map (·.srcs)).getD []
      let wait := v.waiting.filter (fun x => x.seq ≠ seq)
      let v3 : Svr := if founding then { v2 with fheld := v2.fheld ++ [(seq, p)], waiting := wait }
        else { v2 with rheld := v2.rheld ++ [(seq, p)], waiting := wait }
      { s with regs := wrF s.regs SVR_STAT_WAITING wait.length, svr := v3,
               flc := { s.flc with srcs := s.flc.srcs ++ [(v.placeWord founding p, src)] } }
    else ({ s with svr := v2 } : State).badPlace

/-- SVR takes the end of its own operation `o` (R368, R516, R517, R520). -/
def State.svrFlashDone (s : State) (o : FlashOp) (status : Nat) : State :=
  if o.owner ≠ 13 then s
  else if o.op = 1 then s.svrWrote (status == stOK)
  else if status = stOK then s.svrErased (blockOf o.dst)
  else { s with svr := { s.svr with eraseStuck := s.svr.clear.isEmpty } }

/-- FLASH_OP_DONE (R367): the running operation ends; `bad` names the word whose read-back disagrees, or that fails at
margin, and whether it is uncorrectable. -/
def execFlashOpDone (bad : Option (Fin 2048 × Bool)) (s : State) : Host.Outcome State Fault Refusal :=
  match s.flc.op with
  | none => .next s
  | some o =>
    if s.rd FLC_ERSTAT_SUSP = 1 then .next s
    else
      let x := s.flashFinish o (bad.map (fun p => (p.1.val, p.2)))
      .next ((x.1.svrFlashDone o x.2.2).svrLate)

/-! ### Cursors (R519) -/

/-- The position of a cursor: the sheets held before it. -/
def cursorPos (held : List (Nat × Nat)) (cur : Nat) : Nat := (held.filter (fun x => decide (x.1 < cur))).length

/-- The cursor at position `p`; past the newest sheet it stands at the next number. -/
def cursorAt (held : List (Nat × Nat)) (next p : Nat) : Nat := ((held.map Prod.fst)[p]?).getD next

/-- A write of `v` to SVR_CUR (R519, R523): E2 only. -/
def State.writeSvrCur (s : State) (m : Master) (v : Word) : State :=
  if !isE2 m then s
  else
    let n := s.rd SVR_SEQ_SEQ
    { s with svr := { s.svr with rcur := cursorAt s.svr.rheld n (SVR_CUR_ROLL.of v), fcur := cursorAt s.svr.fheld n (SVR_CUR_FOUND.of v) } }

/-- A write of `v` to SVR_STAT (R516, R523): RDLOCK from E2 only; an erase that waits starts when it returns to 0. -/
def State.writeSvrStat (s : State) (m : Master) (v : Word) : State :=
  let s1 := s.plainWrite SVR_STAT_RDLOCK.addr v
  if isE2 m then (if s.rdB SVR_STAT_RDLOCK && !s1.rdB SVR_STAT_RDLOCK then s1.svrKick else s1)
  else s1.wr SVR_STAT_RDLOCK (s.rd SVR_STAT_RDLOCK)

/-! ### Metrics from firmware (R509 to R511) -/

/-- METRIC_SAMPLE (R509, R510): a write to SVR_MkSAMPLE by any master. -/
def State.metricSample (s : State) (k v : Nat) : State :=
  if s.svrSlotOn k 1 then s.svrTake k (if s.rd (SVR_M_CFG_SGN k) = 1 then sInt 16 v else (v : Nat)) else s

def execMetricSample (k : Fin 24) (v : Word) (s : State) : Host.Outcome State Fault Refusal :=
  .next (s.metricSample k.val ((SVR_M_SAMPLE_VALUE k.val).of v))

/-- METRIC_ADD (R509, R511): a write to SVR_MkADD by any master. -/
def State.metricAdd (s : State) (k : Nat) (v : Word) : State :=
  if !s.svrSlotOn k 8 then s
  else if bcdOk 8 v.toNat then s.setSlot k (fun x => x.count (bcdVal 8 v.toNat))
  else s.wr SVR_STAT_BCDERR 1

def execMetricAdd (k : Fin 24) (v : Word) (s : State) : Host.Outcome State Fault Refusal := .next (s.metricAdd k.val v)

/-! ### The commit (R522) -/

/-- Registers of the survey configuration group. -/
def svrGroup : List Nat := shAddrs 0x40006000

/-- SRC and PARAM of slot `k` are legal in themselves, and STEP is not 0 in an enabled SAMPLE slot. -/
def slotBad (en src par step : Nat) : Bool :=
  src == 6 || src == 7 || decide (11 ≤ src) || (src == 3 && decide (1 < par)) || ((src == 5 || src == 10) && decide (3 < par)) ||
  (en == 1 && decide (1 ≤ src ∧ src ≤ 5) && step == 0)

/-- The status of SVR_COMMIT for a set that differs from the active one (R522). -/
def State.svrCommitStatus (s : State) : Nat :=
  let iv := s.sh SVR_CFG_INTERVAL
  let rb := s.sh SVR_PLACE_ROLLBLK
  let first := s.sh SVR_PLACE_BANK * 128 + s.sh SVR_PLACE_BLOCK
  let run := runBlocks first 1100 (2 + rb)
  let bad := iv == 0 || decide (1440 < iv) || 1440 % iv != 0 || decide (rb < 2) || decide (704 < rb) ||
    (List.range 24).any (fun k => slotBad (s.sh (SVR_M_CFG_EN k)) (s.sh (SVR_M_CFG_SRC k)) (s.sh (SVR_M_CFG_PARAM k))
      (s.sh (SVR_M_BIN_STEP k)))
  let moves := s.sh SVR_PLACE_BANK != s.rd SVR_PLACE_BANK || s.sh SVR_PLACE_BLOCK != s.rd SVR_PLACE_BLOCK || rb != s.rd SVR_PLACE_ROLLBLK
  firstStatus [(bad, stBadParam),
    ((s.rdB SVR_CFG_EN && moves) || run.any (fun b => decide (7 * 128 + 126 < b) || decide (b < 32)) || run.length != 2 + rb, stMismatch)]

/-- The state with the survey configuration taken from the shadow copies: a changed INTERVAL or metric field closes the open sheet
under the old ones (R512); a slot whose source changes begins its counter at 0 (log entry 27). -/
def State.svrCommitted (s : State) : State :=
  let others := svrGroup.filter (· ≠ SVR_PLACE_BANK.addr)
  let s1 := if shadowEq s.regs s.shadow others then s else s.svrClose s.rtc.cal s.rtc.cal { cfg := true }
  let old := s1.svrSrcs
  let s2 : State := { s1 with regs := copyShadow s1.regs s1.shadow svrGroup, svr := { s1.svr with cfgId := (s1.svr.cfgId + 1) % 256 } }
  let new := s2.svrSrcs
  (List.range 24).foldl (fun t k => if old.getD k 0 = new.getD k 0 then t else t.setSlot k (fun x => { x with value := 0 })) s2

end Sys2Proof.Machine
end

