-- ==== Sys2Proof/Machine/Commit.lean ====
section
/-!
DEFINITION. COMMIT: the commit registers of every block with an SH group (R7 to R12), with the checks and effects of MAC (R195) and
MER (R71, R75) and those of the other blocks.
-/
namespace Sys2Proof.Machine

/-- The blocks that have a commit register (R7). -/
inductive Blk where
  | pwr | svr | cip | rfc | mdm | mac | shp | mer | sns
deriving DecidableEq, Repr

/-- Base address of a block (R18). -/
def Blk.base : Blk → Nat
  | .pwr => 0x40001000
  | .svr => 0x40006000
  | .cip => 0x40007000
  | .rfc => 0x40008000
  | .mdm => 0x40009000
  | .mac => 0x4000A000
  | .shp => 0x4000B000
  | .mer => 0x4000C000
  | .sns => 0x40011000

/-- STATUS of the block's commit register. -/
def Blk.status : Blk → Field
  | .pwr => PWR_COMMIT_STATUS
  | .svr => SVR_COMMIT_STATUS
  | .cip => CIP_COMMIT_STATUS
  | .rfc => RFC_COMMIT_STATUS
  | .mdm => MDM_COMMIT_STATUS
  | .mac => MAC_COMMIT_STATUS
  | .shp => SHP_COMMIT_STATUS
  | .mer => MER_COMMIT_STATUS
  | .sns => SNS_COMMIT_STATUS

/-- The block whose commit register stands at address `a`. -/
def commitBlk (a : Nat) : Option Blk :=
  [Blk.pwr, .svr, .cip, .rfc, .mdm, .mac, .shp, .mer, .sns].find? (fun b => b.status.addr == a)

/-! ### MAC (R195) -/

/-- A sub-band of the shadow set is illegal in itself. -/
def State.dcBad (s : State) (b : Band) (n : Nat) : Bool :=
  s.sh (MAC_DCLIM_EN b n) == 1 &&
    (decide (s.sh (MAC_DCSUB_HI b n) ≤ s.sh (MAC_DCSUB_LO b n)) || decide (1000000 < s.sh (MAC_DCLIM_LIMIT b n)))

/-- The status of a commit of MAC (R195). -/
def State.macCommitStatus (s : State) : Nat :=
  let base := s.sh MAC_RXBASE_BASE * 64
  let size := s.sh MAC_RXCFG_COUNT * [256, 512, 1024, 2112].getD (s.sh MAC_RXCFG_SLOTSZ) 2112
  let ring := decide (base < 0x10000000 ∨ 0x10200000 < base + size)
  let hop := s.sh MAC_HOP_EN == 1 && decide ((hopEntries (s.sh MAC_HOPMASK0_MASK) (s.sh MAC_HOPMASK1_MASK)).length < 50)
  let dc := (List.range 8).any (fun n => s.dcBad .sg n || s.dcBad .g24 n)
  firstStatus [(dc || decide (100 < s.sh MAC_DCCFG_PRELOAD), stBadParam), (ring || hop, stMismatch)]

/-- An accepted commit of MAC that changes the ring empties it; `old` is the register set before it (R195). -/
def State.macCommitted (s : State) (old : List (Nat × Word)) : State :=
  if rdF old MAC_RXBASE_BASE = s.rd MAC_RXBASE_BASE ∧ rdF old MAC_RXCFG_COUNT = s.rd MAC_RXCFG_COUNT ∧
      rdF old MAC_RXCFG_SLOTSZ = s.rd MAC_RXCFG_SLOTSZ then s
  else (s.wr MAC_RXWR_WR 0).wr MAC_RXRD_RD 0

/-! ### MER (R47, R50, R71, R75) -/

/-- The source is one that the device's role allows (R50). -/
def State.sourceAllowed (s : State) (src : Nat) : Bool := src == 0 || (s.isManager == (src != 3))

/-- The status of a commit of MER (R50, R71, R75). -/
def State.merCommitStatus (s : State) : Nat :=
  let g := (List.range 4).map (fun c => s.sh (MER_GUARD c))
  let bad := s.sh MER_DRIFTPPM_DRIFT == 0 || s.sh MER_SLEW_SLEW == 0 || s.sh MER_PULL_PULL == 0 ||
    decide (1000 < s.sh MER_SLEW_SLEW ∨ 2000 < s.sh MER_PULL_PULL) || g.any (fun v => decide (v < 40 ∨ 1000 < v)) || !s.sourceAllowed (s.sh MER_CFG_SOURCE)
  let wide := g.any (fun v => decide (4096 < ({ s with regs := wrF s.regs MER_CFG_NOMFREQ (s.sh MER_CFG_NOMFREQ) } : State).convUs v))
  let freq := s.sh MER_CFG_NOMFREQ != s.rd MER_CFG_NOMFREQ && s.rd MER_CFG_SOURCE != 0 && s.sh MER_CFG_SOURCE != 0
  firstStatus [(bad, stBadParam), (wide || freq, stMismatch)]

/-- An accepted commit of MER: the rate stays inside the range of NOMFREQ, and a new SOURCE changes the state (R47, R52, R75). -/
def State.merCommitted (s : State) (old : List (Nat × Word)) : State :=
  let s1 := if rdF old MER_CFG_NOMFREQ = s.rd MER_CFG_NOMFREQ then s
    else s.wr MER_INC_INC (s.clampInc (s.rd MER_INC_INC : Nat))
  (s1.sourceChange (rdF old MER_CFG_SOURCE) (s.rd MER_CFG_SOURCE)).followWalk s.merWalks

/-! ### Every block -/

/-- The status of a commit that differs from the active set, for the blocks of the plain form (R9). -/
def State.blkStatus (s : State) : Blk → Nat
  | .pwr => s.levelCommitStatus
  | .svr => s.svrCommitStatus
  | .cip => s.cipCommitStatus
  | .rfc => s.rfcCommitStatus
  | .mdm => s.mdmCommitStatus
  | .mac => s.macCommitStatus
  | .shp => s.shpCommitStatus
  | .mer => s.merCommitStatus
  | .sns => s.snsCommitStatus

/-- What an accepted commit does after the copy; `old` is the state before it. -/
def State.blkAccepted (s old : State) : Blk → State
  | .pwr => s.levelCommitted
  | .rfc => s.rfcCommitted (old.rxwin .sg) (old.rxwin .g24)
  | .mdm => s.mdmCommitted old.regs
  | .mac => s.macCommitted old.regs
  | .mer => s.merCommitted old.regs
  | .sns => s.snsCommitted
  | .shp | .svr | .cip => s

/-- An RXLOOP run takes channel slot 0 of its band over, and the commit of MDM changes it (R533). -/
def State.mdmHeld (s : State) : Bool :=
  match s.tst.run with
  | some x =>
    let b := s.testBand
    let a := (MDM_CH_CFG_EN b 0).addr
    let f := (MDM_CH_FREQ_OFFSET b 0).addr
    x.link == 2 && decide (regGet s.regs a &&& shMask a ≠ regGet s.shadow a &&& shMask a ∨
      regGet s.regs f &&& shMask f ≠ regGet s.shadow f &&& shMask f)
  | none => false

/-- A commit of a block of the plain form (R9, R10): refused with a status, or the whole set becomes active. -/
def State.plainCommit (s : State) (b : Blk) : State :=
  let as := shAddrs b.base
  if shadowEq s.regs s.shadow as then s.wr b.status stOK
  else
    let st := s.blkStatus b
    if st = stOK then
      (({ s with regs := copyShadow s.regs s.shadow as } : State).blkAccepted s b).wr b.status stOK
    else s.wr b.status st

/-- A commit of RFC (R10, R107): an equal set changes nothing, though RFC_CALDEF or RFC_CALFREQ has been written. -/
def State.rfcCommit (s : State) : State :=
  if shadowEq s.regs s.shadow (shAddrs Blk.rfc.base) then
    { s with regs := wrF s.regs RFC_COMMIT_STATUS stOK, rfc := { s.rfc with defSet := false } }
  else s.plainCommit .rfc

/-- A commit of SVR (R512, R522); an equal set is accepted and counted in CFGID. -/
def State.svrCommit (s : State) : State :=
  let st := if shadowEq s.regs s.shadow svrGroup then stOK else s.svrCommitStatus
  if st = stOK then s.svrCommitted.wr SVR_COMMIT_STATUS stOK else s.wr SVR_COMMIT_STATUS st

/-- A commit of MDM: one that changes channel slot 0 waits for the end of an RXLOOP run (R533); GO is ignored meanwhile (R11). -/
def State.mdmCommit (s : State) : State :=
  if s.rdB MDM_COMMIT_BUSY then s
  else if s.mdmHeld then
    { s with regs := wrF s.regs MDM_COMMIT_BUSY 1, tst := { s.tst with heldMdm := some s.shadow } }
  else s.plainCommit .mdm

/-- 1 written to GO of block `b` by `m` (R9, R10). -/
def State.commit (s : State) (m : Master) (b : Blk) : State :=
  match b with
  | .cip => if isE2 m then s.cipCommit else s.cipRefuse (s.code m) stDenied none
  | .rfc => s.rfcCommit
  | .shp => s.commitShp
  | .svr => s.svrCommit
  | .mdm => s.mdmCommit
  | .pwr | .mac | .mer | .sns => s.plainCommit b

end Sys2Proof.Machine
end

