-- ==== Sys2Proof/Machine/EngineCmd.lean ====
section
/-!
DEFINITION. ENG (10_gosor_engines.md): the commands of R300 to R302, doorbells (R306), the read buffers (R295) and mismatches of a
lockstepped pair (R310); and the actions of the event fabric's tasks and its bus writes (12_event_fabric.md).
-/
namespace Sys2Proof.Machine

/-! ### Pairs (R307, R308) -/

/-- Bytes written to the TCM of engine `e` alone. -/
def State.tcmPut (s : State) (e a : Nat) (bs : List Byte) : State :=
  let g := (s.eng e).store e a bs
  s.setEng e { g with tcmErr := g.tcmErr.filter (fun x => decide (x.1 * 4 + 4 ≤ a ∨ a + bs.length ≤ x.1 * 4)) }

/-- Bytes written to the TCM of engine `e`, and of its partner in a lockstepped pair (R302, R308). -/
def State.tcmStore (s : State) (e a : Nat) (bs : List Byte) : State :=
  if s.paired e then (s.tcmPut e a bs).tcmPut (e + 1) a bs else s.tcmPut e a bs

/-- Engine `e`, standing for its pair, starts at P = 0 (R298, R299). -/
def State.engRelease (s : State) (e : Nat) : State :=
  let g := s.eng e
  let g1 : Engine := { g with g := .atRelease, load := none, flushed := [], access := none, entering := none, haltWant := false, undo := [], ckpt := .atRelease,
                              ckLoad := none, mmSince := false, mmVec := false }
  (s.setEng e g1).engTo e .run

/-! ### Commands (R300 to R302) -/

/-- The operations of R300, by OP. -/
inductive EngOp where
  | load | release | halt | resume | reset | pair
deriving DecidableEq, Repr

/-- The target is permitted for the issuer: owner code 2 or 12 (R300). -/
def EngOp.permits (o : EngOp) (owner t : Nat) : Bool :=
  match o with
  | .load | .release => decide (3 ≤ t ∧ t ≤ 11) || (owner == 2 && t == 0)
  | .halt | .resume | .reset => decide (3 ≤ t ∧ t ≤ 11)
  | .pair => t == 4 || t == 6 || t == 8 || t == 10

/-- The target is in the required state (R300, R307): PAIR with ARG = 1 wants two engines in RESET, with ARG = 0 a pair in RESET. An engine
whose TCM is still being cleared stays in RESET, so it is not ready for RELEASE (R445, log entry 101). -/
def State.engReady (s : State) (o : EngOp) (t : Nat) (arg : Bool) : Bool :=
  let st := (s.eng t).st
  match o with
  | .load => st == .reset || st == .halt
  | .release => st == .reset && !s.clearing t
  | .halt => st == .run || st == .wait || st == .restart
  | .resume => st == .halt
  | .reset => true
  | .pair => st == .reset && (s.eng (t + 1)).st == (if arg then EngState.reset else .paired)

/-- The bytes of a LOAD descriptor: source, TCM offset and length (R302). -/
def State.loadDesc (s : State) (desc : Nat) : Nat × Nat × Nat :=
  let a := sramBase + 4 * desc
  (s.sramNat a 4, s.sramNat (a + 4) 2, s.sramNat (a + 6) 2)

/-- The LOAD descriptor breaks R302. -/
def badLoad (src dst len : Nat) : Bool :=
  let last := src + len - 1
  let mapped := (inSram src && (len == 0 || inSram last)) || (inWindow src && (len == 0 || inWindow last))
  src % 4 != 0 || dst % 4 != 0 || len % 4 != 0 || decide (65536 < dst + len) || !mapped

/-- The writer may issue engine commands at all (R301). -/
def State.mayCommand (s : State) (m : Master) : Bool := s.e2OrExpert m

/-- Status of a command (R301). -/
def State.engCmdStatus (s : State) (m : Master) (o : EngOp) (t desc : Nat) (arg : Bool) : Nat :=
  let owner := s.code m
  let d := s.loadDesc desc
  if !s.mayCommand m then stDenied
  else
    firstStatus [(!o.permits owner t, stDenied), (!s.engReady o t arg, stBadState),
      (s.isOdd t || (o == .load && badLoad d.1 d.2.1 d.2.2), stBadParam),
      (s.engJobs.any (fun j => j.1 == owner), stBusy),
      (o == .load && d.2.2 == 0, stOkEmpty)]

/-- The pair with even engine `t` becomes lockstepped or two single engines (R307). -/
def State.setPair (s : State) (t : Nat) (lock : Bool) : State :=
  let k := t / 2 - 1
  let p := s.rd ENG_LSCFG_PAIRED
  let on := p / 2 ^ k % 2 = 1
  if lock then
    if on then s
    else
      let s1 := s.setEng (t + 1) { (s.eng (t + 1)) with st := .paired }
      { s1 with regs := regsReset (0x40010200 + (t + 1) * 0x20) (0x40010220 + (t + 1) * 0x20) (wrF s1.regs ENG_LSCFG_PAIRED (p + 2 ^ k)) }
  else if on then (s.wr ENG_LSCFG_PAIRED (p - 2 ^ k)).engTo (t + 1) .reset
  else s

/-- An accepted command is carried out (R298, R301, R307). -/
def State.engDo (s : State) (owner : Nat) (o : EngOp) (t : Nat) (arg : Bool) (desc : Nat) : State :=
  match o with
  | .load =>
    let d := s.loadDesc desc
    ({ s with engJobs := s.engJobs ++ [(owner, .load t d.1 d.2.1 d.2.2)] } : State).cmdResult owner t stPending
  | .halt =>
    ({ s.setEng t { (s.eng t) with haltWant := true } with engJobs := s.engJobs ++ [(owner, .halt t)] } : State).cmdResult owner t stPending
  | .release => (s.cmdResult owner t stOK).engRelease t
  | .resume =>
    let s1 := (s.cmdResult owner t stOK).engTo t (s.eng t).left
    let g := wakeEngine s1.regs t (s1.eng t)
    { s1 with engs := Machine.setEng s1.engs t g, pwr := pwrWithEngine s1.pwr g }
  | .reset => (s.cmdResult owner t stOK).engReset t
  | .pair => (s.cmdResult owner t stOK).setPair t arg

/-- A write of ENG_CMD with a defined OP by `m` (R300, R301). -/
def State.engCmd (s : State) (m : Master) (o : EngOp) (t : Nat) (arg : Bool) (desc : Nat) : State :=
  let st := s.engCmdStatus m o t desc arg
  if st = stOK then s.engDo (s.code m) o t arg desc
  else s.cmdResult (s.code m) t st

/-- OP of ENG_CMD. -/
def engOpOf (n : Nat) : Option EngOp :=
  if n = 1 then some .load else if n = 2 then some .release else if n = 3 then some .halt else if n = 4 then some .resume
  else if n = 5 then some .reset else if n = 6 then some .pair else none

/-- A write of `v` to ENG_CMD: an OP absent from R300 is BAD_PARAM for a permitted issuer (R301). -/
def State.writeEngCmd (s : State) (m : Master) (v : Word) : State :=
  let t := ENG_CMD_TARGET.of v
  match engOpOf (ENG_CMD_OP.of v) with
  | some o => s.engCmd m o t (ENG_CMD_ARG.of v == 1) (ENG_CMD_DESC.of v)
  | none => s.cmdResult (s.code m) t (if s.mayCommand m then stBadParam else stDenied)

/-- LOAD (R302). -/
def execLoad (m : Master) (t : Fin 16) (desc : BitVec 19) (s : State) : Host.Outcome State Fault Refusal :=
  .next (s.writes m 16 (s.engCmd m .load t.val false desc.toNat))

/-- RELEASE (R298). -/
def execRelease (m : Master) (t : Fin 16) (s : State) : Host.Outcome State Fault Refusal :=
  .next (s.writes m 16 (s.engCmd m .release t.val false 0))

/-- HALT (R298). -/
def execHalt (m : Master) (t : Fin 16) (s : State) : Host.Outcome State Fault Refusal := .next (s.writes m 16 (s.engCmd m .halt t.val false 0))

/-- RESUME (R298). -/
def execResume (m : Master) (t : Fin 16) (s : State) : Host.Outcome State Fault Refusal :=
  .next (s.writes m 16 (s.engCmd m .resume t.val false 0))

/-- ENGINE_RESET (R300): ENG_CMD RESET. -/
def execEngineReset (m : Master) (t : Fin 16) (s : State) : Host.Outcome State Fault Refusal :=
  .next (s.writes m 16 (s.engCmd m .reset t.val false 0))

/-- PAIR (R307). -/
def execPair (m : Master) (t : Fin 16) (lock : Bool) (s : State) : Host.Outcome State Fault Refusal :=
  .next (s.writes m 16 (s.engCmd m .pair t.val lock 0))

/-- Copies `n` words of a LOAD: the bytes read before a flash word fails, or `none` while a read must wait. -/
def State.loadCopy (s : State) (e src dst : Nat) : Nat → Option (Nat × State)
  | 0 => some (stOK, s)
  | n + 1 =>
    if inSram src then (s.tcmStore e dst (s.sramBytes src 4)).loadCopy e (src + 4) (dst + 4) n
    else
      match s.dieRead (winOff src / 32 * 32) with
      | (.data l, s1) => (s1.tcmStore e dst (lineBytes l (winOff src % 32) 4)).loadCopy e (src + 4) (dst + 4) n
      | (.err st, s1) => some (st, s1)
      | (.waits, _) => none

/-- LOAD_DONE (R301, R302): the outstanding LOAD of owner `m` has copied, up to a flash word that fails. -/
def execLoadDone (m : Master) (s : State) : Host.Outcome State Fault Refusal :=
  let owner := s.code m
  match s.engJobs.find? (fun j => j.1 == owner && (match j.2 with | .load .. => true | .halt _ => false)) with
  | some (_, .load t src dst len) =>
    if !s.tclkOn ∨ s.clearing t then .next s
    else match s.loadCopy t src dst (len / 4) with
      | none => .next s
      | some (st, s1) =>
        .next (({ s1 with engJobs := s1.engJobs.filter (fun j => j.1 != owner) } : State).cmdResult owner t st)
  | _ => .next s

/-- Engine `e` stands at an instruction boundary outside a load's slot (R298, R329). -/
def Engine.atBoundary (g : Engine) : Bool := (g.st == .run || g.st == .wait) && g.load.isNone

/-- No write of engine `e`, or of its pair, is held in a Strait. -/
def State.noneHeld (s : State) (e : Nat) : Bool := !s.rtc.held.any (s.heldBy e)

/-- HALT_DONE (R298, R301): engine `e` is in HALT at its next instruction boundary, once no access of it is held in a Strait, and the HALTs
that name it are OK. -/
def execHaltDone (e : Fin 12) (s : State) : Host.Outcome State Fault Refusal :=
  let g := s.eng e.val
  if g.haltWant ∧ g.atBoundary ∧ g.access.isNone ∧ g.entering.isNone ∧ s.noneHeld e.val then
    let s1 := s.setEng e.val { g with haltWant := false, left := g.st }
    .next ((s1.engTo e.val .halt).endHalts e.val stOK)
  else .next s

/-! ### Doorbells and read buffers -/

/-- ENG_DBELL (R306): the bits written to ENG_DBELLe by any master. -/
def execEngDbell (e : Fin 12) (bits : Byte) (s : State) : Host.Outcome State Fault Refusal := .next (s.doorbell e.val bits.toNat)

/-- A write of 1 to ENG_RBINV.ALL through the self window of `m`: its own read buffer is empty (R295). -/
def State.rbinv (s : State) (m : Master) : State :=
  match m with
  | .eng e => let t := s.leader e.val; s.setEng t { (s.eng t) with rbuf := [] }
  | .hif => s

/-- READ_BUFFER_INVALIDATE (R295). -/
def execReadBufferInvalidate (m : Master) (s : State) : Host.Outcome State Fault Refusal := .next (s.writes m 16 (s.rbinv m))

/-! ### Lockstep (R310) -/

/-- A mismatch of the pair with even engine `e`. -/
def State.mismatch (s : State) (e : Nat) : State :=
  let k := (pairOf e).getD 0
  let g := s.eng e
  let s1 := ({ s with regs := incF s.regs (ENG_LSCNT_MISMATCH k) } : State).fire 128
  let region := s.regionOf (.eng (Fin.ofNat 12 e))
  if g.mmSince then
    let s2 := ({ s1 with regs := incF s1.regs (ENG_LSCNT_STOPS k) } : State).engStop e
    s2.fault { code := 6, region := region, tier := 1, owner := e, addr := g.g.p.toNat }
  else
    let s2 := (s1.setEng e { (s1.eng e) with mmSince := true, mmVec := s.rd ENG_LSCFG_MMVEC / 2 ^ k % 2 == 1 }).engTo e .restart
    s2.fault { code := 6, region := region, tier := 0, owner := e, addr := g.g.p.toNat }

/-- The pair with even engine `e` stalls on a transfer that a Strait holds (R25). -/
def Engine.stalled (g : Engine) : Bool :=
  g.entering.isSome || (match g.access with
    | some (.held _) => true
    | some (.failed _ _) | none => false)

/-- LOCKSTEP_MISMATCH (R310): the comparator of a lockstepped pair finds a mismatch; `e` is its even engine. A pair that stalls on a stopped
clock shows none (R25). -/
def execLockstepMismatch (e : Fin 12) (s : State) : Host.Outcome State Fault Refusal :=
  let st := (s.eng e.val).st
  if s.paired e.val ∧ e.val % 2 = 0 ∧ (st = .run ∨ st = .wait ∨ st = .halt) ∧ !(s.eng e.val).stalled then .next (s.mismatch e.val)
  else .next s

/-! ### Tasks of the event fabric (R341) -/

/-- The action of task `t` for the pulse `p`. -/
def State.taskAct (s : State) (t : Nat) (p : Pulse) (off : Bool) : State :=
  if t < 96 then s.eventIn (t / 8) (t % 8)
  else if t < 104 then if off then s else s.groupTask (t - 96) false
  else if t < 112 then s.groupTask (t - 104) true
  else if t < 116 then
    { s with evf := { s.evf with caps := modifyNth (fun c => captureInto c p) (t - 112) s.evf.caps } }
  else if t = 120 then s.stamp
  else if t = 121 then s.wr HIF_EVPEND_FABRIC 1
  else s

/-- Time passes until the pulse `p` has left the fabric: 1 TCLK cycle after its entry for tasks 0 to 63, 2 for the others
(R342). The exit to another domain has no time of its own. -/
def State.leaveFabric (s : State) (p : Pulse) : State :=
  s.advanceTo (p.ts + (if p.task < 64 then 1 else 2))

/-- A pulse pending at the crossing of task `t` is in flight, once the acknowledge of the one before is back (R345). -/
def State.awaitAck (s : State) (t : Nat) : State :=
  if (flyOf s.evf t).isSome || !s.evf.held.any (fun p => p.task == t) then s
  else
    let ack := (s.evf.acks.lookup t).getD 0
    let s1 := s.advanceTo ack
    { s1 with evf := s1.evf.launch t (max ack s1.mer.tstamp) }

/-- EVENT_TASK_DELIVER (R341, R342, R345, R346): the pulse on its way to task `t` acts, while TCLK and the clock of the task's domain run;
the acknowledge is back 1 or 2 TCLK cycles on. A pulse to an engine makes an entry to SLEEP fail (R439, R442). -/
def execEventTaskDeliver (t : Fin 128) (s : State) : Host.Outcome State Fault Refusal :=
  if !s.tclkOn || (t.val == 120 && !s.lfOn) then .next s
  else
    let s0 := s.awaitAck t.val
    match flyOf s0.evf t.val with
    | none => .next s0
    | some p =>
      let s1 := s0.leaveFabric p
      let failed := s1.pwr.failed || (s1.pwr.entering && decide (t.val < 96))
      let s2 : State := { s1.took with evf := afterDeliver s1.evf t.val (s1.mer.tstamp + 1 + s1.freeBelow 2), pwr := { s1.pwr with failed := failed } }
      .next (s2.taskAct t.val p (grpdisTogether s1.evf (t.val - 96) p))

/-! ### Writes and reads of EVF -/

/-- SWFIRE (R349): a write of `v` to EVF_SWFIRE0 or, with `hi`, to EVF_SWFIRE1. -/
def execSwfire (m : Master) (hi : Bool) (v : Word) (s : State) : Host.Outcome State Fault Refusal :=
  .next (s.writes m 4 (s.swFire m (if hi then 32 else 0) v))

/-- CHANNEL_CFG_WRITE (R350 to R352). -/
def execChannelCfgWrite (m : Master) (n : Fin 64) (v : Word) (s : State) : Host.Outcome State Fault Refusal :=
  .next (s.writes m 4 (s.writeChanCfg m n.val v))

/-- CHANNEL_TASK_WRITE (R350 to R352). -/
def execChannelTaskWrite (m : Master) (n : Fin 64) (v : Word) (s : State) : Host.Outcome State Fault Refusal :=
  .next (s.writes m 4 (s.writeChanTask m n.val v))

/-- GRPEN_WRITE (R348). -/
def execGrpenWrite (m : Master) (v : Byte) (s : State) : Host.Outcome State Fault Refusal :=
  .next (s.writes m 4 (s.writeGrpen m (v.zeroExtend 32)))

/-- CLAIM_TAKE (R355). -/
def execClaimTake (m : Master) (k : Fin 16) (s : State) : Host.Outcome State Fault Refusal := .next (s.writes m 4 (s.claimTake m k.val))

/-- CLAIM_FREE (R355). -/
def execClaimFree (m : Master) (k : Fin 16) (s : State) : Host.Outcome State Fault Refusal := .next (s.writes m 4 (s.claimFree m k.val))

/-- CAP_PHASE_READ (R344). -/
def execCapPhaseRead (k : Fin 4) (s : State) : Host.Outcome State Fault Refusal := .next (s.capRead k.val)

end Sys2Proof.Machine
end

