-- ==== Sys2Proof/Machine/Mesh.lean ====
section
/-!
DEFINITION. The mesh firmware on E2 and the link-sequencing firmware on E0/E1 (07_mesh_roles_and_startup.md, R40, R140): beacons,
the join exchange, FWD, Chart sets, reports, LEAVE, map updates and Assured requests.
-/
namespace Sys2Proof.Machine

/-! ### Frames of the firmware -/

/-- The key slot of the join key (R229). -/
def joinSlot : Nat := Config.joinSlotPick % 15

/-- The places of two neighbouring slots that leave the join key's alone. -/
def meshSlots : List Nat := (List.range 14).filter (fun m => joinSlot != m && joinSlot != m + 1)

/-- The first of the two slots of the mesh keys: KID = 0, then KID = 1 (R242, R394). Neither is the join key's. -/
def meshSlot : Nat := meshSlots.getD (Config.meshSlotPick % meshSlots.length) 0

/-- What a frame of the firmware is: addressing, security and the destination's index. -/
structure FwFrame where
  broadcast : Bool
  sec       : Bool
  nb        : Nat
  keyslot   : Nat
  bytes     : List Byte
deriving DecidableEq, Repr

/-- The descriptor of a firmware frame in profile 6: MODE_SL, full preamble, uniform map, rate 1/2 (R235, R166). -/
def fwDesc (f : FwFrame) (buf : Nat) (tx : FwTx) : List Byte :=
  natLE 4 buf ++ natLE 2 f.bytes.length ++ [BitVec.ofNat 8 f.nb, BitVec.ofNat 8 (b2n f.broadcast + 2 * b2n f.sec + 128), 3, 0,
    BitVec.ofNat 8 (intBits 8 tx.power), BitVec.ofNat 8 tx.retry] ++ natLE 4 (merCycle tx.due) ++ natLE 2 (merPhase tx.due) ++
    [BitVec.ofNat 8 f.keyslot, BitVec.ofNat 8 tx.entry.val] ++ List.replicate 12 0

/-- Firmware of owner `m` writes a frame and its descriptor to shared SRAM and enqueues it (R35, R211). -/
def State.fwSend (s : State) (m : Nat) (b : Band) (q : Nat) (f : FwFrame) (tx : FwTx) : State :=
  let buf := sramBase + tx.buf % 0x1F0000
  let desc := sramBase + tx.desc % 0x1F0000 / 4 * 4
  ((s.sramWrite buf f.bytes).sramWrite desc (fwDesc f buf tx)).enqueue m b q (BitVec.ofNat 32 (desc - sramBase))

/-- A native header without CTR (R154, R155): `typ`, SEC and STAMP, to `dst` from this device. -/
def State.fwHeader (s : State) (typ dst : Nat) (sec stamp : Bool) : List Byte :=
  let f : Fctl := { typ := typ, sec := sec, ackReq := false, stamp := stamp, kid := 0, pend := false, ver := 1 }
  natLE 2 f.word ++ [0] ++ natLE 2 (s.rd MAC_ADDR_MESHID) ++ natLE 2 dst ++ natLE 2 (s.rd MAC_ADDR_SHORT) ++
    (if stamp then [0, 0, 0] else [])

/-! ### Beacons (R232 to R234) -/

/-- H(a) of R237: CRC-16 of the EUI-64, most significant byte first, and the byte `a`. -/
def joinHash (a : Nat) : Nat := crc16 (natBE 8 ownEui ++ [BitVec.ofNat 8 a])

/-- Rank of this device (R230). -/
def State.ownRank (s : State) : Nat := if s.isManager then 0 else s.mesh.rank

/-- JOINOPEN (R233). -/
def State.joinOpen (s : State) : Bool := !s.isDetached && decide (s.ownRank < 16 ∧ s.mesh.children.length < 64)

/-- The beacon body; MAC fills CYCLE and INC (R158, R232). -/
def State.beaconBody (s : State) : List Byte :=
  List.replicate 8 0 ++ [BitVec.ofNat 8 (min s.ownRank 16),
    BitVec.ofNat 8 (b2n s.joinOpen + 2 * b2n s.mesh.startup + 4 * b2n (s.isDetached && !s.isManager)),
    BitVec.ofNat 8 s.mesh.children.length, BitVec.ofNat 8 s.mesh.bper] ++ natLE 4 s.mesh.swapCyc

/-- The device beacons: a manager whose Meridian runs, a router from its step on, and a router that rejoins, with HOLD (R230, R234,
R251). -/
def State.mayBeacon (s : State) : Bool :=
  let m := s.mesh
  if s.isManager then s.merWalks
  else !s.isLeaf && (m.phase == .operational || (m.phase == .joined && m.stepped) ||
    (m.rejoin && m.phase != .none && m.phase != .joined))

/-- The beacon entry b of the start-up Chart, from `joinHash 0xFF` (R235): its number is below 16. -/
def beaconEntry (h : Nat) : Nat := h % 16

/-- Offset of the first entry of a Chart in service that opens Q5. -/
def q5Offset : List Word → Nat
  | [] => 0
  | w :: r => if entGate w / 32 % 2 = 1 then 0 else entDur w + q5Offset r

/-- The place of the beacon in the period that contains Meridian time `t` (R234): entry `e` of the start-up Chart, or the entry of the
band's Chart in service that opens Q5. -/
def State.beaconPlace (s : State) (b : Band) (e t : Nat) : Nat :=
  let n := if s.mesh.bper = 0 then 1 else s.mesh.bper
  let start := (merCycle t - merCycle t % n) * 65536
  if s.mesh.startup then merAdd start (e * 16384) else merAdd start (q5Offset (s.shpB b).chart.entries)

/-- The place of the next beacon (R234). The first one of a router stands in slot e mod 8 of the cycle after its step, a manager begins in
the cycle after LOCKED or SYNTH; every later one in the next period that has had none. -/
def State.nextBeacon (s : State) (b : Band) (e : Nat) : Nat :=
  let n := (if s.mesh.bper = 0 then 1 else s.mesh.bper) * 65536
  let now := s.mer.now
  let here := s.beaconPlace b e now
  let due := if merAfter now (merAdd here 16384) then s.beaconPlace b e (merAdd now n) else here
  match s.mesh.lastBeacon with
  | some p => if merAfter due p ∧ due / n ≠ p / n then due else s.beaconPlace b e (merAdd p n)
  | none =>
    if s.isManager then
      let from_ := (s.mer.sinceCyc + 1) % 2 ^ 32 * 65536
      let x := s.beaconPlace b e from_
      if !merAfter from_ due then due else if merAfter from_ x then s.beaconPlace b e (merAdd from_ n) else x
    else
      let first := merAdd ((s.mesh.stepCyc + 1) % 2 ^ 32 * 65536) (e % 8 * 8192)
      if merAfter now first then due else first

/-- BEACON_SEND (R234): at the place of the next beacon it goes to Q5; a router's first one makes it operational (R243), and a report
is due from then on (R249). While SHP serves a Chart, the beacon is queued before its entry opens. -/
def execBeaconSend (b : Band) (tx : FwTx) (s : State) : Host.Outcome State Fault Refusal :=
  if !s.mayBeacon ∨ !s.tclkOn ∨ (s.mesh.startup ∧ b = .g24) then .next s
  else
    let p := s.nextBeacon b (beaconEntry (joinHash 0xFF))
    let s0 := if s.merWalks ∧ s.mesh.beaconed then s else s.advanceMer p
    let f : FwFrame := { broadcast := true, sec := true, nb := 0, keyslot := meshSlot,
                         bytes := s0.fwHeader 0 0xFFFF true true ++ s0.beaconBody }
    let m := s0.mesh
    let s1 : State := { s0 with mesh := { m with beaconed := true, lastBeacon := some p,
                                                 phase := if m.phase = .joined then .operational else m.phase,
                                                 reportDue := m.reportDue || m.phase == .joined } }
    .next (s1.fwSend 2 b 5 f tx)

/-! ### The joiner (R236, R237, R243, R244) -/

/-- TAG of a join message under a join key (R239). -/
def joinTag (key bs : List Byte) : List Byte := (cmac key bs).take 8

/-- The join key that this worker holds. -/
def State.ownJoinKey (s : State) : List Byte := (s.cip.slots.getD joinSlot .empty).key

/-- A candidate qualifies for attempt `a` (R236, R251): open, not held, mean SNR at least 10 dB, not tried, and in the first two
attempts of a rejoin no deeper than the old rank. -/
def Mesh.qualifies (m : Mesh) (c : Cand) : Bool :=
  c.flags % 2 == 1 && c.flags / 4 % 2 == 0 && decide (0 < c.count ∧ 40 * c.count ≤ c.snr) && !m.tried.contains c.short &&
    (match m.named with | some a => c.short == a | none => true) &&
    (!(m.rejoin && decide (m.fails < 2)) || decide (c.rank ≤ m.oldRank))

/-- Candidate `x` comes before `y` (R236): lower rank, then higher mean SNR, then lower short address. -/
def Cand.before (x y : Cand) : Bool :=
  if x.rank ≠ y.rank then decide (x.rank < y.rank)
  else if x.snr * y.count ≠ y.snr * x.count then decide (y.snr * x.count < x.snr * y.count)
  else decide (x.short < y.short)

/-- The first of a list in the order of R236. -/
def bestCand : List Cand → Option Cand
  | [] => none
  | c :: r => match bestCand r with
    | none => some c
    | some d => if d.before c then some d else some c

/-- TSTAMP of the join position of attempt `a` at candidate `c`, in the window that begins with the next cycle boundary of its
Meridian after TSTAMP `now` (R237). -/
def joinInstant (c : Cand) (a now : Nat) : Nat :=
  let here := (c.mer * 2 ^ 32 + (now - c.ts) * c.inc) / 2 ^ 32
  let p := joinHash a % 1024
  let target := (here / 65536 + 1 + p / 8) * 65536 + p % 8 * 8192
  c.ts + ceilDiv ((target - c.mer) * 2 ^ 32) c.inc

/-- The next attempt: the best qualifying candidate and its position, or a new scan when none remains (R237, R244). -/
def State.nextAttempt (s : State) : State :=
  let m := s.mesh
  match bestCand (m.cands.filter m.qualifies) with
  | some c => { s with mesh := { m with phase := .position, chosen := some c.short,
                                        joinAt := joinInstant c m.attempt s.mer.tstamp } }
  | none => { s with mesh := { m with phase := .listen, cands := [], tried := [], chosen := none } }

/-- JOIN_SCAN_END (R236): 16 cycles after the first open beacon. -/
def execJoinScanEnd (s : State) : Host.Outcome State Fault Refusal :=
  if s.mesh.phase ≠ .scan ∨ !s.tclkOn then .next s
  else .next (s.advanceMer ((s.mesh.since + 16) % 2 ^ 32 * 65536)).nextAttempt

/-- The JOIN_REQ of attempt a to the chosen candidate (R239). -/
def State.joinReq (s : State) : List Byte :=
  let m := s.mesh
  let p := [0x10] ++ natLE 8 ownEui ++ natLE 2 (m.chosen.getD 0) ++ [BitVec.ofNat 8 (b2n s.isLeaf + 128 * b2n m.rejoin),
    BitVec.ofNat 8 m.attempt] ++ natLE 2 m.oldShort
  p ++ joinTag s.ownJoinKey p

/-- JOIN_REQ_SEND (R237): at the join position. -/
def execJoinReqSend (b : Band) (tx : FwTx) (s : State) : Host.Outcome State Fault Refusal :=
  if s.mesh.phase ≠ .position ∨ !s.tclkOn then .next s
  else
    let s0 := s.advanceTo s.mesh.joinAt
    let f : FwFrame := { broadcast := true, sec := false, nb := 0, keyslot := 0, bytes := s0.fwHeader 3 0xFFFF false false ++ s0.joinReq }
    let s1 : State := { s0 with mesh := { s0.mesh with phase := .waiting, rspDone := false, since := merCycle s0.mer.now } }
    .next (s1.fwSend 2 b 6 f tx)

/-- The attempt has failed (R244, R252): `drop` takes its candidate out of the scan. A leaf that rejoins returns to its search
after three failures. -/
def State.joinFailed (s : State) (drop : Bool) : State :=
  let m := s.mesh
  let m1 : Mesh := { m with attempt := (m.attempt + 1) % 256, fails := m.fails + 1,
                            tried := if drop then (match m.chosen with | some c => c :: m.tried | none => m.tried) else m.tried }
  if s.isLeaf ∧ m.rejoin ∧ m1.fails = 3 then
    ({ s with mesh := { m1 with phase := .asleep, cands := [], tried := [], chosen := none } } : State).searchAlarm
  else ({ s with mesh := m1 } : State).nextAttempt

/-- JOIN_ATTEMPT_TIMEOUT (R244): 40 cycles without a JOIN_RSP. -/
def execJoinAttemptTimeout (s : State) : Host.Outcome State Fault Refusal :=
  if s.mesh.phase ≠ .waiting ∨ !s.tclkOn then .next s
  else .next ((s.advanceMer ((s.mesh.since + 40) % 2 ^ 32 * 65536)).joinFailed false)

/-- JOIN_RESCAN_TIMEOUT (R244): 65,536 cycles after DENIED. -/
def execJoinRescanTimeout (s : State) : Host.Outcome State Fault Refusal :=
  if s.mesh.phase ≠ .denied ∨ !s.tclkOn then .next s
  else
    let s0 := s.advanceMer ((s.mesh.since + 65536) % 2 ^ 32 * 65536)
    .next { s0 with mesh := { s0.mesh with phase := .listen, cands := [], tried := [], chosen := none } }

/-- The policy of the mesh keys: LINK, and both directions (R394). -/
def meshPolicy : Nat := 2 ^ CIP_KPOL_LINK.lsb + 2 ^ CIP_KPOL_ENC.lsb + 2 ^ CIP_KPOL_DEC.lsb

/-- Vendor firmware keeps the two mesh keys that have been loaded (R389). -/
def State.keepMeshKeys (s : State) (p : List Byte) : State :=
  let kept := s.fw.keys.filter (fun k => k.slot ≠ meshSlot ∧ k.slot ≠ meshSlot + 1)
  { s with fw := { s.fw with keys := kept ++ [{ slot := meshSlot, klen := 0, pol := meshPolicy, key := p.take 16 },
                                              { slot := meshSlot + 1, klen := 0, pol := meshPolicy, key := (p.drop 16).take 16 }] } }

/-- The joiner unwraps the mesh keys of a JOIN_RSP with PAIR = 1 into their two slots (R393, R394), under the key slot of the join key,
which R384 must allow: the state, the status and the keys. -/
def State.joinUnwrap (s : State) (rsp : List Byte) : State × Nat × List Byte :=
  let k := s.slot joinSlot
  let h := natBE 8 ownEui
  let w := (rsp.drop 23).take 40
  if !k.loaded then (s, stBadState, [])
  else if !(k.has CIP_KPOL_KEK && k.has CIP_KPOL_DEC && CIP_KPOL_USERS.of (BitVec.ofNat 32 k.pol) / 4 % 2 == 1) then
    (s.cipRefuse 2 stDenied (some joinSlot), stDenied, [])
  else
    let x := s.unwrapInto 2 k.key h w meshSlot true meshPolicy
    (x.1, x.2, (unwrapKey k.key h w).getD [])

/-- A neighbour entry is written as MAC_NBEUI and MAC_NBCFG write it (R165). -/
def State.writeNbr (s : State) (i eui : Nat) (cfg : Word) : State :=
  let s1 := s.putNbr i { s.nbr i with euiNew := eui }
  s1.nbWrite i cfg

/-- The MAC_NBCFG word of an entry with the mesh keys. -/
def meshNbcfg (parent leaf : Bool) (short : Nat) : Word :=
  BitVec.ofNat 32 (2 ^ 31 + b2n parent * 2 ^ 30 + b2n leaf * 2 ^ 28 + (meshSlot + 1) * 2 ^ 24 + meshSlot * 2 ^ 20 + short % 65536)

/-- A field of the shadow set is written. -/
def State.putShadow (s : State) (f : Field) (v : Nat) : State := { s with shadow := wrF s.shadow f v }

/-- Profile 6 of the start-up frames, in the shadow set of SHP (R235): every joiner sends in it, a leaf too. -/
def State.startupProfile (s : State) : State :=
  (((s.putShadow (SHP_LEAD_LEAD .sg) 40).putShadow (SHP_PROF_A_OVH .sg 6) 1296).putShadow (SHP_PROF_A_ACKT .sg 6) 1136).putShadow
    (SHP_PROF_B_PERBYTE .sg 6) 2560

/-- The start-up Chart in the shadow set of SHP (R235). -/
def State.startupShadow (s : State) : State :=
  let b := beaconEntry (joinHash 0xFF)
  let s1 := (s.putShadow (SHP_CHCFG_CYCLES .sg) 4).putShadow (SHP_CHCFG_LEN .sg) 16
  let word := fun i : Nat => BitVec.ofNat 32 (16384 + (if i = b then 0x20 * 65536 else 0xC0 * 65536 + 2 ^ 28))
  ((List.range 16).foldl (fun t i => { t with shadow := regSet t.shadow (SHP_CHE_DUR .sg i).addr (word i) }) s1).startupProfile

/-- The start-up Chart is written and committed (R235, R243). -/
def State.startupChart (s : State) : State :=
  let s1 := s.startupShadow.commitShp
  { s1 with mesh := { s1.mesh with startup := true, bper := 4, swapCyc := 0, opPend := false } }

/-- A parent entry of another index is given up. -/
def State.dropParents (s : State) (i : Nat) : State :=
  { s with mac := { s.mac with nbrs := s.mac.nbrs.map (fun p =>
      if p.1 ≠ i ∧ p.2.parent then (p.1, { p.2 with valid := false, parent := false }) else p) } }

/-- The mesh firmware looks at CORR of entry `i` again at the next MER_CYCLE event (R103). -/
def State.recheck (s : State) (i : Nat) : State := { s with mesh := { s.mesh with newNbrs := i :: s.mesh.newNbrs } }

/-- CORR of the entry of a link (R103): set towards the parent, and towards a peer in the node with the higher EUI-64. -/
def State.corrSide (s : State) (i : Nat) : State :=
  let n := s.nbr i
  let child := s.mesh.children.any (fun c => c.2 == i)
  if n.valid then s.putOffset i { s.offset i with corr := n.parent || (!child && decide (n.eui < ownEui)) } else s

/-- The mesh firmware sets CORR of the links that are new, or have become those of children, since the last MER_CYCLE event (R103). -/
def State.corrSides (s : State) : State :=
  let s1 := s.mesh.newNbrs.foldl (fun t i => t.corrSide i) s
  { s1 with mesh := { s1.mesh with newNbrs := [] } }

/-- The joiner takes its place in the mesh (R243): keys, address, and the parent entry, towards which it pre-corrects (R103). What the
rule puts after the step of MER waits for it. -/
def State.joinAccepted (s : State) (rsp : List Byte) (nb : Nat) (keys : List Byte) : State :=
  let short := bytesAt rsp 10 2
  let s1 := (s.keepMeshKeys keys).wr MAC_ADDR_SHORT short
  let s2 := ((s1.dropParents nb).writeNbr nb (bytesAt rsp 15 8) (meshNbcfg true s.isLeaf (bytesAt rsp 13 2))).corrSide nb
  let rank := bytesAt rsp 12 1
  { s2 with
    mesh := { s2.mesh with phase := .joined, rank := rank, parentHold := false, fails := 0, rejoin := false, beaconed := false,
                           lastBeacon := none, stepped := false, rspDone := true },
    fw := { s2.fw with short := short, rank := rank, parent := some (nb, s2.nbr nb) } }

/-- What the step of MER to the parent's time brings a worker that has joined (R243): a router commits the start-up Chart, and a leaf
sets OPEN = 0 and is operational, so that its report is due (R249). DEDUCED (log entry 114): where Meridian still walks, as after R252, the
first sync point applied is that step. -/
def State.joinStepped (s : State) : State :=
  let s1 : State := { s with mesh := { s.mesh with stepCyc := merCycle s.mer.now, stepped := true } }
  if s.mesh.phase ≠ .joined then s1
  else if s.isLeaf then
    ({ s1 with mesh := { s1.mesh with phase := .operational, reportDue := true } } : State).wr MAC_CFG_OPEN 0
  else s1.startupChart

/-- The mesh firmware has acted on a message of the hand-over ring (R228). -/
def State.acted (s : State) (msg : List Byte) : State := { s with mesh := { s.mesh with inbox := s.mesh.inbox.erase msg } }

/-- A joiner reports the refusal to its host (R244). DESIGN CHOICE (log entry 94): by HIF_EVPEND.FABRIC, which firmware can raise
through the HIF_IRQ task. -/
def State.reportDenied (s : State) : State :=
  ({ s with mesh := { s.mesh with phase := .denied, since := merCycle s.mer.now, refused := true } } : State).wr HIF_EVPEND_FABRIC 1

/-- JOIN_RSP (R243, R244): a JOIN_RSP reaches the joiner, which writes its parent entry at index `nb`; one that follows another which it has
acted on is ignored. -/
def execJoinRsp (rsp : List Byte) (nb : Fin 256) (s0 : State) : Host.Outcome State Fault Refusal :=
  let s := s0.acted rsp
  let key := s.ownJoinKey
  if (s.mesh.phase ≠ .waiting ∧ (s.mesh.phase ≠ .position ∨ s.mesh.rspDone)) ∨ rsp.length ≠ 71 ∨ bytesAt rsp 0 1 ≠ 0x11 ∨
      bytesAt rsp 1 8 ≠ ownEui ∨ joinTag key (rsp.take 63) ≠ rsp.drop 63 then .next s
  else
    let res := bytesAt rsp 9 1
    if res = stOK then
      let x := s.joinUnwrap rsp
      .next (if x.2.1 = stOK then x.1.joinAccepted rsp nb x.2.2 else x.1)
    else if res = stDenied then .next s.reportDenied
    else if res = stBusy ∨ res = stBadState then .next (({ s with mesh := { s.mesh with rspDone := true } } : State).joinFailed true)
    else .next s

/-- LEAF_SEARCH_LISTEN_END (R246, R252): 200 ms without a beacon end a leaf's search until the next alarm. A leaf that rejoins listens
without pause until three attempts have failed. -/
def execLeafSearchListenEnd (s : State) : Host.Outcome State Fault Refusal :=
  if s.isLeaf ∧ s.mesh.phase = .listen ∧ !s.mesh.heard ∧ !(s.mesh.rejoin ∧ s.mesh.fails < 3) ∧ s.tclkOn then
    let s0 := s.tick (s.mesh.searchEnd - s.tclk)
    .next ({ s0 with mesh := { s0.mesh with phase := .asleep } } : State).searchKeep
  else .next s

/-! ### The manager (R241) -/

/-- The children that the manager counts for a parent, besides the joiner. -/
def Mesh.childrenOf (m : Mesh) (parent eui : Nat) : Nat := (m.members.filter (fun x => x.parent == parent && x.eui != eui)).length

/-- The lowest free short address from `a` on (R230, R241). -/
def freeShort (ms : List Member) : Nat → Nat → Nat
  | 0, a => a
  | n + 1, a => if ms.any (fun m => m.short == a) then freeShort ms n (a + 1) else a

/-- The RESULT of a JOIN_REQ that names `parent` (R241, rows 3 to 6). -/
def Mesh.joinResult (m : Mesh) (eui parent : Nat) : Nat :=
  let known := m.members.any (fun x => x.eui == eui)
  let p := m.members.find? (fun x => x.short == parent)
  let fit := parent == 0 || (match p with | some x => !x.leaf && !x.detached && decide (x.rank < 16) | none => false)
  if !known ∧ 2048 ≤ m.members.length then stDenied
  else if !fit then stBadState
  else if 64 ≤ m.childrenOf parent eui then stBusy
  else stOK

/-- EUI-64 of a member, or of the manager itself (PEUI of R239). -/
def Mesh.euiOf (m : Mesh) (short : Nat) : Nat :=
  if short = 0 then ownEui else match m.members.find? (fun x => x.short == short) with | some x => x.eui | none => 0

/-- The mesh keys that the manager wraps: KID = 0, then KID = 1 (R391, R394); none where a slot is EMPTY, holds no key of 128 bits or has
EXPORT = 0. -/
def State.meshKeys (s : State) : Option (List Byte) :=
  let a := s.slot meshSlot
  let b := s.slot (meshSlot + 1)
  let ok := fun k : KeySlot => k.loaded && k.klen == 0 && k.has CIP_KPOL_EXPORT
  if ok a && ok b then some (a.key ++ b.key) else none

/-- The WRAP of the mesh keys is refused (R391): DENIED fires KEYERR. DESIGN CHOICE (log entry 116): the manager then answers nothing. -/
def State.wrapRefused (s : State) : State :=
  let no := fun k : Nat => (s.slot k).loaded && !(s.slot k).has CIP_KPOL_EXPORT
  if no meshSlot || no (meshSlot + 1) then s.cipRefuse 2 stDenied (some meshSlot) else s

/-- The JOIN_RSP with its TAG (R239); when RESULT is not OK, bytes 10 to 62 are 0. -/
def joinRsp (key : List Byte) (eui res short rank parent peui : Nat) (keys : List Byte) : List Byte :=
  let head := [0x11] ++ natLE 8 eui ++ [BitVec.ofNat 8 res]
  let p := if res = stOK then
      head ++ natLE 2 short ++ [BitVec.ofNat 8 rank] ++ natLE 2 parent ++ natLE 8 peui ++ wrapKey key (natBE 8 eui) keys
    else head ++ List.replicate 53 0
  p ++ joinTag key p

/-- A LEAVE for the worker with EUI-64 `eui` (R249): a parent invalidates the child's entry. -/
def State.childLeaves (s : State) (eui : Nat) : State :=
  match s.nbrOf (eui, true) with
  | none => s
  | some i =>
    if s.mesh.children.any (fun c => c.2 == i) then
      let s1 := (s.putNbr i { s.nbr i with valid := false }).recheck i
      { s1 with mesh := { s1.mesh with children := s1.mesh.children.filter (fun c => c.2 ≠ i) } }
    else s

/-- The manager's records after an OK (R241): a member keeps its address; the old parent is owed a LEAVE, which the manager itself takes
at once when it is that parent. -/
def State.admitMember (s : State) (req : List Byte) : State × Member :=
  let m := s.mesh
  let eui := bytesAt req 1 8
  let parent := bytesAt req 9 2
  let old := m.members.find? (fun x => x.eui == eui)
  let short := match old with | some x => x.short | none => freeShort m.members 2048 1
  let prank := if parent = 0 then 0 else match m.members.find? (fun x => x.short == parent) with | some x => x.rank | none => 0
  let new : Member := { eui := eui, short := short, parent := parent, rank := prank + 1, leaf := bytesAt req 11 1 % 2 == 1,
                        detached := false }
  let members := m.members.filter (fun x => x.eui ≠ eui) ++ [new]
  let owed := match old with
    | some x => if x.parent ≠ parent ∧ x.parent ≠ 0 then m.owed ++ [(x.parent, leaveBytes eui s.freeStatus)] else m.owed
    | none => m.owed
  let s1 := match old with
    | some x => if x.parent = 0 ∧ parent ≠ 0 then s.childLeaves eui else s
    | none => s
  (({ s1 with mesh := { s1.mesh with members := members, owed := owed }, fw := { s1.fw with members := members } } : State).took, new)

/-- An FWD payload (R239). -/
def fwdBytes (dir : Nat) (path : List Nat) (cmd : List Byte) : List Byte :=
  [0x12, BitVec.ofNat 8 dir, BitVec.ofNat 8 path.length] ++ path.flatMap (natLE 2) ++ cmd

/-- An FWD goes to the valid neighbour with short address `to_`, in Q6; to no one when there is none (R240). -/
def State.sendFwd (s : State) (b : Band) (to_ dir : Nat) (path : List Nat) (cmd : List Byte) (tx : FwTx) : State :=
  match s.nbrOf (to_, false) with
  | none => s
  | some i =>
    let f : FwFrame := { broadcast := false, sec := true, nb := i, keyslot := (s.nbr i).key0,
                         bytes := s.fwHeader 3 to_ true true ++ fwdBytes dir path cmd }
    s.fwSend 2 b 6 f tx

/-- A JOIN_RSP is broadcast in Q6 (R238, R242). -/
def State.sendRsp (s : State) (b : Band) (rsp : List Byte) (tx : FwTx) : State :=
  s.fwSend 2 b 6 { broadcast := true, sec := false, nb := 0, keyslot := 0, bytes := s.fwHeader 3 0xFFFF false true ++ rsp } tx

/-- The manager's answer: broadcast to a joiner that it heard itself, else down the copied PATH (R240, R241). -/
def State.answer (s : State) (b : Band) (path : List Nat) (rsp : List Byte) (tx : FwTx) : State :=
  match path.getLast? with
  | none => s.sendRsp b rsp tx
  | some hop => s.sendFwd b hop 1 path rsp tx

/-- The child's neighbour entry at index `nb` (R242). -/
def State.putChild (s : State) (nb eui short : Nat) (leaf : Bool) : State :=
  let s1 := (s.writeNbr nb eui (meshNbcfg false leaf short)).recheck nb
  { s1 with mesh := { s1.mesh with children := s1.mesh.children.filter (fun c => c.1 ≠ short) ++ [(short, nb)] } }

/-- JOIN_REQ (R241): the manager decides the request `req` that came with the upward PATH `path`; `nb` is the index of a joiner
that becomes its own child. -/
def execJoinReq (b : Band) (req : List Byte) (path : List (BitVec 16)) (nb : Fin 256) (tx : FwTx) (s0 : State) :
    Host.Outcome State Fault Refusal :=
  let s := s0.acted req
  if !s.isManager then .next s
  else
    let m := s.mesh
    let eui := bytesAt req 1 8
    let att := bytesAt req 12 1
    let ps := path.map (·.toNat)
    match m.joinKeys.lookup eui with
    | none => .next { s with mesh := { m with discarded := m.discarded + 1 } }
    | some key =>
      if req.length ≠ 23 ∨ joinTag key (req.take 15) ≠ req.drop 15 then
        .next { s with mesh := { m with discarded := m.discarded + 1 } }
      else
        let now := merCycle s.mer.now
        match m.answered.find? (fun x => x.1 == eui && x.2.1 == att && decide ((now + 2 ^ 32 - x.2.2.1) % 2 ^ 32 ≤ 256)) with
        | some x => .next (s.answer b ps x.2.2.2 tx)
        | none =>
          let parent := bytesAt req 9 2
          let res := m.joinResult eui parent
          if res = stOK ∧ s.meshKeys.isNone then .next s.wrapRefused
          else
          let x := if res = stOK then s.admitMember req
            else (s, { eui := eui, short := 0, parent := parent, rank := 0, leaf := false, detached := false })
          let rsp := joinRsp key eui res x.2.short x.2.rank parent (m.euiOf parent) (s.meshKeys.getD [])
          let s1 := x.1
          let fresh := fun a : Nat × Nat × Nat × List Byte => decide ((now + 2 ^ 32 - a.2.2.1) % 2 ^ 32 ≤ 256)
          let known := s1.mesh.answered.filter (fun a => fresh a && !(a.1 == eui && a.2.1 == att)) ++ [(eui, att, now, rsp)]
          let s2 : State := { s1 with mesh := { s1.mesh with answered := known } }
          let s3 := if res = stOK ∧ parent = 0 then s2.putChild nb eui x.2.short x.2.leaf else s2
          .next (s3.answer b ps rsp tx)

/-- JOIN_RSP_RELAY (R242): the parent consumes a JOIN_RSP of its joiner, a leaf or not, whose entry stands at index `nb`. -/
def execJoinRspRelay (b : Band) (rsp : List Byte) (leaf : Bool) (nb : Fin 256) (tx : FwTx) (s0 : State) :
    Host.Outcome State Fault Refusal :=
  let s := s0.acted rsp
  if rsp.length ≠ 71 ∨ bytesAt rsp 0 1 ≠ 0x11 then .next s
  else
    let s1 := if bytesAt rsp 9 1 = stOK then s.putChild nb (bytesAt rsp 1 8) (bytesAt rsp 10 2) leaf else s
    .next (s1.sendRsp b rsp tx)

/-! ### Chart sets (R247, R248) -/

/-- Nodes or flows added to a list, each once. -/
def addNeeds (l new : List Nat) : List Nat := new.foldl (fun a n => if a.contains n then a else a ++ [n]) l

/-- The band of a CTL byte. -/
def ctlBand (ctl : Nat) : Band := if ctl % 2 = 0 then .sg else .g24

/-- Word `k` of the items. -/
def itemWord (p : List Byte) (k : Nat) : Word := BitVec.ofNat 32 (bytesAt p (8 + 4 * k) 4)

/-- The SH registers that a CHART_SET payload writes, with their words (R247). -/
def chartItems (p : List Byte) : List (Nat × Word) :=
  let ctl := bytesAt p 1 1
  let b := ctlBand ctl
  let first := bytesAt p 2 1
  let n := bytesAt p 3 1
  match ctl / 2 % 4 with
  | 0 => (List.range (min n 15)).map (fun k => ((SHP_CHE_DUR b (first + k)).addr, itemWord p k))
  | 1 => (List.range (min n 7)).flatMap (fun k =>
      let a := (SHP_WIN_A_ACK b (first + k)).addr
      if first + k < 32 then [(a, itemWord p (2 * k)), (a + 4, itemWord p (2 * k + 1))] else [])
  | 2 => (List.range (min n 7)).flatMap (fun k =>
      if first + k < 8 then [((SHP_PROF_A_OVH b (first + k)).addr, itemWord p (2 * k)),
                             ((SHP_PROF_B_PERBYTE b (first + k)).addr, itemWord p (2 * k + 1))] else [])
  | _ => if n = 0 then [] else [((SHP_CHCFG_LEN b).addr, itemWord p 0), ((SHP_LEAD_LEAD b).addr, itemWord p 1)]

/-- The set of fragments of a band after one more (R248); a fragment with another SWAPCYC begins a new set. -/
def ChartSet.with (c : ChartSet) (p : List Byte) : ChartSet :=
  let swap := bytesAt p 4 4
  let old := if c.swap = some swap then c else { ChartSet.none with swap := some swap }
  let kind := bytesAt p 1 1 / 2 % 4
  { old with last := old.last || bytesAt p 1 1 / 8 % 2 == 1,
             got := old.got ++ (List.range (bytesAt p 3 1)).map (fun k => (kind, bytesAt p 2 1 + k)) }

/-- The items of the fragment `p` go to the shadow set, without a commit (R248). -/
def State.takeChartSet (s : State) (p : List Byte) : State :=
  if p.length < 8 ∨ bytesAt p 0 1 ≠ 0x15 ∨ 256 < bytesAt p 2 1 + bytesAt p 3 1 then s
  else
    let b := ctlBand (bytesAt p 1 1)
    let s1 := (chartItems p).foldl (fun t w => t.plainWrite w.1 w.2) s
    let set := (s1.mesh.sets.get b).with p
    { s1 with mesh := { s1.mesh with sets := s1.mesh.sets.set b set, swapCyc := bytesAt p 4 4 } }

/-- CHART_SET (R248). -/
def execChartSet (p : List Byte) (s : State) : Host.Outcome State Fault Refusal := .next (s.takeChartSet p)

/-- The items of one kind that a set has brought leave no gap among them. -/
def ChartSet.noGap (c : ChartSet) (kind : Nat) : Bool :=
  let l := (c.got.filter (fun x => x.1 == kind)).map (·.2)
  l.all (fun i => l.contains (i + 1) || i == l.foldl max 0)

/-- No fragment of the band's set shows as missing (R248): the last one is there, no kind has a gap, and where the set brings a length,
every entry below it and every window that one of them names is there. DESIGN CHOICE (log entry 94): the fragments carry no number, so
how else a node knows of a missing one is open. -/
def State.setWhole (s : State) (b : Band) : Bool :=
  let c := s.mesh.sets.get b
  let wins := c.got.any (fun x => x.1 == 1)
  c.last && (List.range 4).all c.noGap && (!c.got.contains (3, 0) ||
    (List.range (s.sh (SHP_CHCFG_LEN b))).all (fun i => c.got.contains (0, i) &&
      (let w := regGet s.shadow (SHP_CHE_DUR b i).addr
       !wins || !entWin w || c.got.contains (1, entWinIdx w))))

/-- The bands whose set is due at the event of cycle `c` (R248). -/
def State.setsDue (s : State) (c : Nat) : List Band :=
  [Band.sg, Band.g24].filter (fun b => (s.mesh.sets.get b).swap == some ((c + 1) % 2 ^ 32))

/-- CHART_SET_COMMIT (R248): at the MER_CYCLE event of cycle SWAPCYC − 1. Whether a fragment is missing that the items do not show is
free (log entry 94). A manager whose own set fails takes it again. -/
def execChartSetCommit (s : State) : Host.Outcome State Fault Refusal :=
  let due := s.setsDue (s.mer.cyc % 2 ^ 32)
  if due = [] then .next s
  else
    let gone := fun t : State => ({ t with mesh := { t.mesh with
      sets := due.foldl (fun x b => x.set b ChartSet.none) t.mesh.sets } } : State)
    let failed := fun t : State => ({ t with mesh := { t.mesh with
      swapFail := true, swapCyc := 0, again := if t.isManager then addNeeds t.mesh.again [0] else t.mesh.again } } : State)
    if due.all s.setWhole ∧ s.freeBelow 2 = 0 then
      let s1 := s.took.commitShp
      if s1.rd SHP_COMMIT_STATUS = stOK then
        .next (gone { s1 with fw := { s1.fw with chartRegs := (shAddrs 0x4000B000).map (fun a => (a, regGet s1.shadow a)) },
                              mesh := { s1.mesh with opPend := s1.mesh.opPend || due.contains .sg } })
      else .next (gone (failed s1))
    else .next (gone (failed s.took))

/-! ### Paths (R250) -/

/-- The reports show the link from `a` to `b` in NORMAL with a mean SNR of at least 10 dB (R249, R250). -/
def Mesh.linkGood (m : Mesh) (a b : Nat) : Bool :=
  let reported := fun x y : Nat => match m.reports.lookup x with
    | some l => l.any (fun r => r.short == y && r.flags / 4 % 2 == 1 && decide (40 ≤ r.snr))
    | none => false
  reported a b || reported b a

/-- Every hop of a path is good. -/
def Mesh.pathGood (m : Mesh) : List Nat → Bool
  | a :: b :: r => m.linkGood a b && m.pathGood (b :: r)
  | _ => true

/-- The paths from the head of `seen` to `dst` over good links, each node once; `seen` is the path so far, latest node first. -/
def Mesh.paths (m : Mesh) (nodes : List Nat) (dst : Nat) : Nat → List Nat → List (List Nat)
  | 0, _ => []
  | n + 1, seen =>
    let here := seen.headD 0
    if here = dst then [seen.reverse]
    else (nodes.filter (fun x => !seen.contains x && m.linkGood here x)).flatMap (fun x => m.paths nodes dst n (x :: seen))

/-- Two paths between the same ends share no other node, and are not one path. -/
def disjoint (a b : List Nat) : Bool :=
  a != b && ((a.drop 1).dropLast).all (fun x => !((b.drop 1).dropLast).contains x)

/-- No node of a path is detached, and every hop is good (R250). -/
def Mesh.pathAlive (m : Mesh) (p : List Nat) : Bool :=
  m.pathGood p && !p.any (fun a => m.members.any (fun x => x.short == a && x.detached))

/-- The pairs of paths that qualify for a flow (R250). -/
def Mesh.pairs (m : Mesh) (src dst : Nat) : List (List Nat × List Nat) :=
  let nodes := 0 :: m.members.map (·.short)
  let ps := m.paths nodes dst (nodes.length + 1) [src]
  (ps.flatMap (fun a => ps.map (fun b => (a, b)))).filter (fun x => disjoint x.1 x.2)

/-! ### The Charts that the manager distributes (R247, R248, R250) -/

/-- The two next hops of a flow from this device, as E0/E1 takes them (R250). -/
def State.flowHops (s : State) (f : Flow) : Option AssuredSrc :=
  let hop := fun p : List Nat => s.nbrOf ((p.drop 1).headD 0, false)
  match hop f.pathA, hop f.pathB with
  | some a, some b => some { id := f.id, seq := 0, hopA := a, hopB := b }
  | _, _ => none

/-- A replacement for the lost paths of flow `id` (R250): the pairs that keep the path that still runs, one of which is free; with none
the flow stays on that path. Every node of the new paths is owed a set of CHART_SETs. -/
def State.replanFlow (s : State) (id : Nat) : State :=
  let m := s.mesh
  let done := m.replan.filter (· ≠ id)
  match m.flows.find? (fun f => f.id == id) with
  | none => { s with mesh := { m with replan := done } }
  | some f =>
    let fits := fun p : List Nat × List Nat => (!m.pathAlive f.pathA || p.1 == f.pathA) && (!m.pathAlive f.pathB || p.2 == f.pathB) &&
      m.pathAlive p.1 && m.pathAlive p.2
    let all := (m.pairs f.src f.dst).filter fits
    match all[s.freeBelow all.length]? with
    | none => s
    | some p =>
      let g : Flow := { f with pathA := p.1, pathB := p.2 }
      let src := fun x : AssuredSrc => if x.id = id then
        (match s.flowHops g with | some y => { y with seq := x.seq } | none => x) else x
      ({ s with mesh := { m with replan := done, flows := m.flows.map (fun x => if x.id = id then g else x),
                                 srcs := m.srcs.map src, needs := addNeeds m.needs (p.1 ++ p.2) } } : State).took

/-- CYCLES and LEN that round `r` plans: CYCLES is one for all nodes of a band, and no longer than the deadline of any flow, so that the
time reserved for a frame comes before its deadline (R479). -/
def Mesh.planCycles (m : Mesh) (r : Nat) (b : Band) : Nat :=
  let most := m.flows.foldl (fun k f => min k (max 1 f.deadline)) 64
  1 + (Config.planned r 0 (SHP_CHCFG_LEN b).addr).toNat / 65536 % most
def planLen (r short : Nat) (b : Band) : Nat := 1 + (Config.planned r short (SHP_CHCFG_LEN b).addr).toNat % 256

/-- The band and the entry that round `r` reserves at a node for copy `c` (0 for A, 1 for B) of a flow: the manager's choice (R250). -/
def aresPlace (r short id c : Nat) : Band × Nat :=
  let x := Config.planned r short (2 ^ 32 + 2 * id + c)
  let b : Band := if x.getLsbD 31 then .g24 else .sg
  (b, x.toNat % planLen r short b)

/-- The copies that a node carries: flow and copy. -/
def Mesh.copiesAt (m : Mesh) (short : Nat) : List (Nat × Nat) :=
  m.flows.flatMap (fun f => (if f.pathA.contains short then [(f.id, 0)] else []) ++ (if f.pathB.contains short then [(f.id, 1)] else []))

/-- DUR of an entry reserved for a flow: 6 exchanges of each frame that falls into a Chart period (R479). How long an exchange of the flow's
frames is stays free. -/
def Mesh.aresDur (m : Mesh) (r : Nat) (b : Band) (id : Nat) : Nat :=
  match m.flows.find? (fun f => f.id == id) with
  | some f => 6 * (1 + Config.assuredCount id) * ceilDiv (m.planCycles r b) (max 1 f.period)
  | none => 0

/-- Entry `i` that round `r` plans for a node: an entry reserved for copies has ARES = 1, opens their queues, and lasts for all their
exchanges, as far as DUR goes (R199, R250, R479). -/
def Mesh.planEntry (m : Mesh) (r short : Nat) (b : Band) (i : Nat) : Word :=
  let w := Config.planned r short (SHP_CHE_DUR b i).addr
  let here := (m.copiesAt short).filter (fun x => aresPlace r short x.1 x.2 == (b, i))
  if here = [] then w
  else
    let dur := min 65535 (here.map (fun x => m.aresDur r b x.1)).sum
    here.foldl (fun v x => v ||| BitVec.ofNat 32 (2 ^ (16 + x.2))) ((w &&& 0x20FF0000) ||| 0x40000000 ||| BitVec.ofNat 32 dur)

/-- A fragment of a CHART_SET (R247). -/
def fragment (b : Band) (kind first count swap : Nat) (last : Bool) (items : List Word) : List Byte :=
  [0x15, BitVec.ofNat 8 (b.idx + 2 * kind + 8 * b2n last), BitVec.ofNat 8 first, BitVec.ofNat 8 count] ++ natLE 4 swap ++
    items.flatMap (fun w => natLE 4 w.toNat)

/-- The fragments of `n` items of one kind, `k` at a time. -/
def fragments (b : Band) (kind n k swap : Nat) (item : Nat → List Word) : List (List Byte) :=
  (List.range (ceilDiv n k)).map (fun j =>
    let is := (List.range (min k (n - j * k))).map (· + j * k)
    fragment b kind (j * k) is.length swap false (is.flatMap item))

/-- The set that round `r` plans for a node in a band (R247): entries, windows, profiles, and the configuration as the last. -/
def Mesh.planSet (m : Mesh) (r short swap : Nat) (b : Band) : List (List Byte) :=
  let word := fun a : Nat => Config.planned r short a
  let len := planLen r short b
  fragments b 0 len 15 swap (fun i => [m.planEntry r short b i]) ++
  fragments b 1 32 7 swap (fun i => [word (SHP_WIN_A_ACK b i).addr, word ((SHP_WIN_A_ACK b i).addr + 4)]) ++
  fragments b 2 8 7 swap (fun i => [word (SHP_PROF_A_OVH b i).addr, word (SHP_PROF_B_PERBYTE b i).addr]) ++
  [fragment b 3 0 1 swap true [BitVec.ofNat 32 (m.planCycles r b * 65536 + len), word (SHP_LEAD_LEAD b).addr]]

/-- SWAPCYC of round `r` planned in cycle `now` (R248): the first multiple of the CYCLES of both bands at least 512 cycles on. -/
def Mesh.planSwap (m : Mesh) (r now : Nat) : Nat :=
  let c := m.planCycles r .sg * m.planCycles r .g24
  ceilDiv (now + 512) c * c % 2 ^ 32

/-- The last SWAPCYC of a node has passed (R248). -/
def Mesh.swapPassed (m : Mesh) (now short : Nat) : Bool :=
  match m.swaps.lookup short with
  | some c => decide ((now + 2 ^ 32 - c) % 2 ^ 32 < 2 ^ 31)
  | none => true

/-- A fragment with another SWAPCYC. -/
def withSwap (swap : Nat) (p : List Byte) : List Byte := p.take 4 ++ natLE 4 swap ++ p.drop 8

/-- CYCLES of a set of fragments in a band, by its configuration items; 1 without one. -/
def setCycles (frs : List (List Byte)) (b : Band) : Nat :=
  match frs.find? (fun p => ctlBand (bytesAt p 1 1) == b && bytesAt p 1 1 / 2 % 4 == 3) with
  | some p => max 1 (bytesAt p 10 2 % 128)
  | none => 1

/-- The sets that go out: to the node, with the round, SWAPCYC and the fragments. A node of `nodes` gets a new one, and one of `back` gets its
last again with a later SWAPCYC (R248). -/
def Mesh.roundSets (m : Mesh) (now : Nat) (nodes back : List Nat) : List (Nat × Nat × Nat × List (List Byte)) :=
  let swap := m.planSwap m.plans now
  nodes.map (fun n => (n, m.plans, swap, m.planSet m.plans n swap .sg ++ m.planSet m.plans n swap .g24)) ++
  back.filterMap (fun n => (m.sent.lookup n).map (fun x =>
    let c := setCycles x.2 .sg * setCycles x.2 .g24
    let later := ceilDiv (now + 512) c * c % 2 ^ 32
    (n, x.1, later, x.2.map (withSwap later))))

/-- The manager plans a round for the nodes that are owed a set and whose last SWAPCYC has passed (R247, R248): its own set it takes at
once, the others it owes as CHART_SETs. What it plans is free but for the reserved entries; a set whose swap failed goes out again. -/
def State.planRound (s : State) : State :=
  let m := s.mesh
  let now := merCycle s.mer.now
  let nodes := m.needs.filter (m.swapPassed now)
  let back := m.again.filter (fun n => m.swapPassed now n && !nodes.contains n)
  if nodes = [] ∧ back = [] then s
  else
    let out := m.roundSets now nodes back
    let to_ := out.map (·.1)
    let m1 : Mesh := { m with
      owed := m.owed ++ (out.filter (fun x => x.1 != 0)).flatMap (fun x => x.2.2.2.map (fun p => (x.1, p))),
      needs := m.needs.filter (fun n => !nodes.contains n), again := m.again.filter (fun n => !nodes.contains n && !back.contains n),
      plans := m.plans + 1,
      sent := out.map (fun x => (x.1, x.2.1, x.2.2.2)) ++ m.sent.filter (fun p => !to_.contains p.1),
      swaps := out.map (fun x => (x.1, x.2.2.1)) ++ m.swaps.filter (fun p => !to_.contains p.1) }
    ((out.filter (fun x => x.1 == 0)).flatMap (fun x => x.2.2.2)).foldl State.takeChartSet { s with mesh := m1 }

/-- The manager at a MER_CYCLE event: it looks for replacement paths (R250). -/
def State.replanFlows (s : State) : State := if s.isManager then s.mesh.replan.foldl State.replanFlow s else s

/-! ### The hand-over ring (R228) -/

def ringW : Nat := 0x101FF000
def ringR : Nat := 0x101FF004

/-- The place after place `k`. -/
def ringNext (k : Nat) : Nat := if k = 31 then 1 else k + 1

/-- A word that names a record place. -/
def ringPlace (k : Nat) : Bool := decide (1 ≤ k ∧ k ≤ 31)

/-- The relay firmware hands a frame to the mesh firmware: LEN, NB and RFLAGS of its ring slot, then the first 124 bytes of FRAME (R181,
R227, R228). A full ring drops it. -/
def State.handOver (s : State) (nb : Nat) (flags : Byte) (frame : List Byte) : State :=
  let w := s.sramNat ringW 4
  let r := s.sramNat ringR 4
  if !ringPlace w ∨ !ringPlace r ∨ ringNext w = r then s
  else
    let rec_ := natLE 2 frame.length ++ [BitVec.ofNat 8 nb, flags] ++ frame.take 124
    (s.sramWrite (ringW + w * 128) rec_).sramWrite ringW (natLE 4 (ringNext w))

/-! ### FWD (R240) -/

/-- PATH of an FWD payload. -/
def fwdPath (p : List Byte) : List Nat := (List.range (bytesAt p 2 1)).map (fun k => bytesAt p (3 + 2 * k) 2)

/-- The embedded command of an FWD payload. -/
def fwdCmd (p : List Byte) : List Byte := p.drop (3 + 2 * bytesAt p 2 1)

/-- The flows with a node on one of their paths. -/
def Mesh.flowsOver (m : Mesh) (short : Nat) : List Nat :=
  (m.flows.filter (fun f => f.pathA.contains short || f.pathB.contains short)).map (·.id)

/-- The records of an NBR_REPORT (R249). -/
def reportRecs (cmd : List Byte) : List NbrRec :=
  (List.range (min (bytesAt cmd 1 1) 16)).map (fun k =>
    { short := bytesAt cmd (2 + 4 * k) 2, snr := bytesAt cmd (4 + 4 * k) 1, flags := bytesAt cmd (5 + 4 * k) 1 })

/-- The manager takes a report or a LEAVE that an FWD brings from the member `src` (R248 to R250): the first report of a member makes
a set of CHART_SETs due, one of a failed swap the same set again, and the flows over a lost node a replacement path. -/
def State.managerTakes (s : State) (src : Nat) (cmd : List Byte) : State :=
  let m := s.mesh
  if bytesAt cmd 0 1 = 0x14 then
    let recs := reportRecs cmd
    let off := recs.any (fun r => r.flags % 2 == 1 && r.flags / 4 % 2 == 0)
    let fresh := (m.reports.lookup src).isNone
    let failed := recs.any (fun r => r.flags / 8 % 2 == 1)
    let m1 : Mesh := { m with reports := (src, recs) :: m.reports.filter (fun p => p.1 ≠ src),
                              members := m.members.map (fun x => if x.short = src then { x with detached := off } else x),
                              needs := if fresh then addNeeds m.needs [0, src] else m.needs,
                              again := if failed then addNeeds m.again [src] else m.again }
    let cut := (m1.flows.filter (fun f => !m1.pathAlive f.pathA || !m1.pathAlive f.pathB)).map (·.id)
    { s with mesh := { m1 with replan := addNeeds m1.replan cut } }
  else if bytesAt cmd 0 1 = 0x13 then
    let eui := bytesAt cmd 1 8
    match m.members.find? (fun x => x.eui == eui) with
    | some x => { s with mesh := { m with members := m.members.map (fun y => if y.eui = eui then { y with detached := true } else y),
                                          replan := addNeeds m.replan (m.flowsOver x.short) } }
    | none => s
  else s

/-- A record of the hand-over ring with FRAME `frame` (R228, R240): a JOIN_REQ or JOIN_RSP, and one that an FWD brings, waits for the
command that acts on it; what else an FWD brings acts at once, reports and LEAVEs at the manager, CHART_SETs and LEAVEs at the node at
PATH[0]. The reserved identities have no effect (R238). -/
def State.takeRecord (s : State) (frame : List Byte) : State :=
  let p := frame.drop (natHdrLen (fctlOf (bytesAt frame 0 2)) false)
  let wait := fun (t : State) (msg : List Byte) => ({ t with mesh := { t.mesh with inbox := t.mesh.inbox ++ [msg] } } : State)
  let id := bytesAt p 0 1
  if id = 0x10 ∨ id = 0x11 then wait s p
  else if id = 0x12 then
    let cmd := fwdCmd p
    let sub := bytesAt cmd 0 1
    if sub = 0x10 ∨ sub = 0x11 then wait s cmd
    else if bytesAt p 1 1 = 0 then s.managerTakes ((fwdPath p).headD 0) cmd
    else if sub = 0x13 then s.childLeaves (bytesAt cmd 1 8)
    else s.takeChartSet cmd
  else s

/-- FRAME of record `k` of the hand-over ring. -/
def State.ringFrame (s : State) (k : Nat) : List Byte := s.sramBytes (ringW + k * 128 + 4) (min 124 (s.sramNat (ringW + k * 128) 2))

/-- The mesh firmware takes the records from place `r` up to place `w`, `n` at most. -/
def State.takeRecords (s : State) (w : Nat) : Nat → Nat → State
  | 0, _ => s
  | n + 1, r => if r = w then s else (s.takeRecord (s.ringFrame r)).takeRecords w n (ringNext r)

/-- HANDOVER_RING_READ (R228): the mesh firmware takes every record; an index out of range makes the ring empty. -/
def State.readRing (s : State) : State :=
  let w := s.sramNat ringW 4
  let r := s.sramNat ringR 4
  if !ringPlace w ∨ !ringPlace r then (s.sramWrite ringW (natLE 4 1)).sramWrite ringR (natLE 4 1)
  else if w = r then s
  else (s.takeRecords w 31 r).sramWrite ringR (natLE 4 w)

/-- An upward FWD at a relay: discarded, or sent on to the parent with the own address appended (R240). -/
def State.fwdUp (s : State) (b : Band) (path : List Nat) (cmd : List Byte) (tx : FwTx) : State :=
  let own := s.rd MAC_ADDR_SHORT
  if 16 ≤ path.length ∨ path.contains own ∨ s.isDetached then s
  else
    match s.parentIdx with
    | some p => s.sendFwd b (s.nbr p).short 0 (path ++ [own]) cmd tx
    | none => s

/-- Place of an address in a PATH. -/
def pathIdx (a : Nat) : List Nat → Nat → Option Nat
  | [], _ => none
  | x :: r, k => if x = a then some k else pathIdx a r (k + 1)

/-- An FWD with payload `p` and FRAME `frame` from neighbour `nb` at a node (R240): relayed, handed to the mesh firmware by the node that
consumes it, or discarded. -/
def State.takeFwd (s : State) (b : Band) (nb : Nat) (flags : Byte) (frame p : List Byte) (tx : FwTx) : State :=
  let path := fwdPath p
  let cmd := fwdCmd p
  if bytesAt p 1 1 = 0 then
    if s.isManager then s.handOver nb flags frame else s.fwdUp b path cmd tx
  else
    match pathIdx (s.rd MAC_ADDR_SHORT) path 0 with
    | none => s
    | some 0 => s.handOver nb flags frame
    | some (k + 1) => s.sendFwd b (path.getD k 0) 1 path cmd tx

/-- The path of short addresses from the manager's child down to a member, by the records, nearest the member first. -/
def downPath (ms : List Member) : Nat → Nat → List Nat
  | 0, _ => []
  | n + 1, a =>
    match ms.find? (fun m => m.short == a) with
    | some m => if m.parent = 0 then [a] else a :: downPath ms n m.parent
    | none => []

/-- The oldest command that the mesh firmware owes goes out in an FWD (R241, R247, R249, R252); a manager that owes none plans a round. -/
def State.sendOwed (s0 : State) (b : Band) (tx : FwTx) : State :=
  let s := if s0.isManager ∧ s0.mesh.owed = [] then s0.planRound else s0
  match s.mesh.owed with
  | [] => s
  | (dst, cmd) :: r =>
    let s1 : State := { s with mesh := { s.mesh with owed := r } }
    if s.isManager then
      let path := downPath s.mesh.members 16 dst
      match path.getLast? with
      | some hop => s1.sendFwd b hop 1 path cmd tx
      | none => s1
    else s1.fwdUp b [] cmd tx

/-- FWD (R227, R238, R240): the relay firmware takes the frame `f` of a ring slot. An FWD is relayed,
consumed or discarded; a JOIN_REQ that names this router as PARENT goes up; every other frame with an identity from 0x10 to 0x3F goes to
the hand-over ring. With no frame the mesh firmware sends the oldest command it owes. -/
def execFwd (b : Band) (nb : Fin 256) (f : RingFrame) (tx : FwTx) (s : State) : Host.Outcome State Fault Refusal :=
  let frame := f.bytes
  let p := frame.drop (natHdrLen (fctlOf (bytesAt frame 0 2)) false)
  let id := bytesAt p 0 1
  if frame = [] then .next (s.sendOwed b tx)
  else if id = 0x12 then .next (s.takeFwd b nb f.flags frame p tx)
  else if id = 0x10 ∧ bytesAt p 9 2 = s.rd MAC_ADDR_SHORT ∧ !s.isManager ∧ !s.isLeaf then .next (s.fwdUp b [] p tx)
  else if 0x10 ≤ id ∧ id ≤ 0x3F then .next (s.handOver nb f.flags frame)
  else .next s

/-! ### Reports, LEAVE (R249) -/

/-- The mean SNR of the receive reports from neighbour `i`, in 0.25 dB (R249); 0 without one. -/
def State.meanSnr (s : State) (i : Nat) : Nat :=
  match s.mesh.snrs.lookup i with
  | some (sum, n) => if n = 0 then 0 else sum / n
  | none => 0

/-- The record of neighbour `i` in a report (R249): short address, mean SNR, and the flags of parent, child, NORMAL and a failed swap. -/
def State.reportRec (s : State) (i : Nat) : List Byte :=
  let n := s.nbr i
  natLE 2 n.short ++ [BitVec.ofNat 8 (s.meanSnr i),
    BitVec.ofNat 8 (b2n n.parent + 2 * b2n (s.mesh.children.any (fun c => c.2 == i)) + 4 * b2n (n.link == .normal) +
      8 * b2n s.mesh.swapFail)]

/-- An NBR_REPORT about the neighbours of a list (R249): the valid ones, 16 at most. -/
def State.reportBytesOf (s : State) (which : List (Fin 256)) : List Byte :=
  let is := (which.map (·.val)).filter (fun i => (s.nbr i).valid) |>.take 16
  [0x14, BitVec.ofNat 8 is.length] ++ is.flatMap s.reportRec

/-- NBR_REPORT (R249): a report that is due goes upward, no sooner than 256 cycles after the last one. Which neighbours it names is the
firmware's choice. One that SHP does not take, or that a detached node cannot send, stays due, and a failed swap is told by a record only. -/
def execNbrReport (b : Band) (which : List (Fin 256)) (tx : FwTx) (s : State) : Host.Outcome State Fault Refusal :=
  if s.isManager ∨ s.mesh.phase ≠ .operational ∨ !s.mesh.reportDue ∨ !s.tclkOn then .next s
  else
    let s0 := match s.mesh.reported with
      | some c => if (merCycle s.mer.now + 2 ^ 32 - c) % 2 ^ 32 < 256 then s.advanceMer ((c + 256) % 2 ^ 32 * 65536) else s
      | none => s
    if s0.isDetached ∨ s0.parentIdx.isNone then .next s0
    else
      let bytes := s0.reportBytesOf which
      let s1 := s0.fwdUp b [] bytes tx
      if s1.rd (SHP_ENQRES_STATUS 2) ≠ stOK then .next s1
      else
        .next { s1 with mesh := { s1.mesh with reported := some (merCycle s0.mer.now), reportDue := false,
                                               swapFail := s1.mesh.swapFail && bytesAt bytes 1 1 == 0 } }

/-- LEAVE (R249): the parent that takes it invalidates the child's entry. -/
def execLeave (cmd : List Byte) (s : State) : Host.Outcome State Fault Refusal :=
  .next (if bytesAt cmd 0 1 = 0x13 then s.childLeaves (bytesAt cmd 1 8) else s)

/-! ### Map updates (R139, R140) -/

/-- The least SNR for `n` bits, in 0.25 dB, without the margin (R139). -/
def State.slThr (s : State) (n : Nat) : Nat :=
  match n with
  | 0 => 0
  | 1 => s.rd MDM_SLTHR0_THR1
  | 2 => s.rd MDM_SLTHR0_THR2
  | 3 => s.rd MDM_SLTHR0_THR3
  | 4 => s.rd MDM_SLTHR0_THR4
  | 5 => s.rd MDM_SLTHR1_THR5
  | _ => s.rd MDM_SLTHR1_THR6

/-- Bits of a tone whose mean is `a`: the largest n that its mean carries (R139). -/
def State.toneBits (s : State) (a : Nat) : Nat :=
  ((List.range 7).filter (fun n => n == 0 || decide (s.slThr n + s.rd MDM_SLTHR1_MARGIN ≤ a))).foldl max 0

/-- The RX map that the means of a link give. -/
def State.newMap (s : State) (nb : Nat) (b : Band) : Option (List Nat) :=
  (s.mdm.means.lookup (nb * 2 + b.idx)).map (fun as => (List.range 96).map (fun d => s.toneBits (as.getD d 0)))

/-- No update of the link is under way, and HOLD cycles have passed since the last (R140). -/
def State.mayUpdate (s : State) (nb : Nat) (b : Band) : Bool :=
  match s.mdm.updates.lookup (nb * 2 + b.idx) with
  | some (c, w) => w.isNone && decide (s.rd MDM_SLHOLD_HOLD ≤ (merCycle s.mer.now + 2 ^ 32 - c) % 2 ^ 32)
  | none => true

/-- MAP_UPDATE_START (R140, R141): B writes the new RX map for the neighbour and sends it the payload, from E0, through queue
`q` of the band `via`. -/
def execMapUpdateStart (nb : Fin 256) (b via : Band) (q : Fin 8) (tx : FwTx) (s : State) : Host.Outcome State Fault Refusal :=
  match s.newMap nb b with
  | none => .next s
  | some m =>
    if !s.mayUpdate nb b ∨ !mapValid m then .next s
    else
      let x := (s.fetchSlot (s.mapSlot nb b 1 0)).1
      let y := (s.fetchSlot (s.mapSlot nb b 1 1)).1
      let k := olderSlot x y
      let newest := if k = 0 then y else x
      let id := match newest with | some p => (p.1 + 1) % 16 | none => s.freeBelow 16
      let s0 := if newest.isNone then s.took else s
      let s1 := s0.writeSlot (s.mapSlot nb b 1 k) id (packMap m)
      let key := nb.val * 2 + b.idx
      let ups := (key, (merCycle s.mer.now, some id)) :: s1.mdm.updates.filter (fun p => p.1 ≠ key)
      let s2 : State := { s1 with mdm := { s1.mdm with updates := ups } }
      let n := s.nbr nb
      let f : FwFrame := { broadcast := false, sec := true, nb := nb, keyslot := n.key0,
                           bytes := s.fwHeader 3 n.short true true ++ [0x01, BitVec.ofNat 8 (id + 16 * b.idx)] ++ packMap m }
      .next (s2.fwSend 0 via q f tx)

/-! ### Assured flows (R39, R40) -/

/-- ASSURED_REQUEST (R39, R40): E0/E1 numbers the frame of flow `id` and enqueues copy A in Q0 of band `ba` towards the first next
hop and copy B in Q1 of band `bb` towards the second, each with RETRY = 5 (R479). The hops of the copies are those that went to E0/E1 at a
source which is not the manager (R250), the present ones at each frame; in the manager they count for a flow that it does not know. DESIGN CHOICE (log entry 95): the
sequence number has 16 bits. -/
def execAssuredRequest (id : Nat) (ba bb : Band) (fa fb : FlowCopy) (ta tb : FwTx) (s : State) :
    Host.Outcome State Fault Refusal :=
  let y : AssuredSrc := (s.mesh.srcs.find? (fun x => x.id == id)).getD { id := id, seq := 0, hopA := fa.hop, hopB := fb.hop }
  let x : AssuredSrc := if s.isManager then y else { y with hopA := fa.hop, hopB := fb.hop }
  let srcs := s.mesh.srcs.filter (fun y => y.id ≠ id) ++ [{ x with seq := (x.seq + 1) % 65536 }]
  let s1 : State := { s with mesh := { s.mesh with srcs := srcs } }
  let copy := fun (hop : Nat) (bs : List Byte) =>
    ({ broadcast := false, sec := true, nb := hop, keyslot := (s.nbr hop).key0, bytes := bs } : FwFrame)
  .next ((s1.fwSend 0 ba 0 (copy x.hopA fa.bytes) { ta with retry := 5 }).fwSend 0 bb 1 (copy x.hopB fb.bytes) { tb with retry := 5 })

end Sys2Proof.Machine
end

