-- ==== Sys2Proof/Machine/Start.lean ====
section
/-!
DEFINITION. Resets from outside, the clocks and the start of R477, what vendor firmware does in it (R17, R26, R69, R89, R142, R193,
R228, R254, R275, R276, R353, R356, R389), and the end of an action at BLOCK_RESTART (R464, R466) with the other FLT writes.
-/
namespace Sys2Proof.Machine

/-! ### Resets -/

/-- POWER_ON (R476): the main domain powers on; `testEn` is the level of TEST_EN (R533). -/
def execPowerOn (testEn : Bool) (s : State) : Host.Outcome State Fault Refusal :=
  let s1 := s.deviceReset 0 false false
  .next { s1 with tst := { s1.tst with testEn := testEn } }

/-- RESET_N (R544, R446): the pin resets the main domain; from STANDBY the domain powers up with it. -/
def execResetN (s : State) : Host.Outcome State Fault Refusal :=
  match s.pwr.st with
  | .off | .backupCmd | .backupBrown => .next s
  | .standby =>
    let s1 := s.deviceReset 3 false false
    .next { s1 with regs := wrF (wrF s1.regs SYS_RSTCAUSE_HIST 4) SYS_RSTCAUSE_CAUSE 2 }
  | .run | .doze | .sleep => .next (s.plainReset 2)

/-- CLOCK_MONITOR_RESET (R457, R465): the device resets with cause CLOCK, and the fault is logged after the reset. -/
def execClockMonitorReset (s : State) : Host.Outcome State Fault Refusal :=
  if !s.tclkOn then .next s
  else
    let f : FaultIn := { code := 0x0B, region := 14, tier := 2 }
    let t := s.faultTier f
    let colds := if t = 3 then (s.rtc.tick :: s.flt.colds).take 3 else s.flt.colds
    let s1 := s.deviceReset 5 (t == 3 || s.coldKept 5) (s.safeKept 5 || (t == 3 && thirdCold colds))
    let log := s1.flt.log.map (fun e => if e.state = 1 ∨ e.state = 2 then { e with state := 3 } else e)
    let fl := ({ s1.flt with log := log, colds := colds, queue := [], active := none } : Flt).escalate 14 s.fltNow (s.rd FLT_CFG_WIN)
    let s2 : State := { s1 with
      flt := { fl with episodes := modifyNth (fun _ => some { tier := t, last := s.fltNow }) 14 fl.episodes } }
    let x := s2.logEntry f t 2
    let s3 := x.1
    .next ({ s3 with regs := incF (wrF s3.regs HIF_EVPEND_FAULT 1) (if t = 3 then FLT_CNT_COLD else FLT_CNT_WARM),
                     flt := { s3.flt with active := some { region := 14, tier := t, entry := x.2 },
                                          activeAt := s.tclk } } : State).fltSync

/-- A write of SYS_RESET with its key (R480, R69): taken from E2 and from HIF under the expert unlock. A SAFE start is left only by
E2's reset that asks for a cold start (R476). -/
def State.softReset (s : State) (m : Master) (cold : Bool) : State :=
  if s.e2OrExpert m ∧ s.tclkOn then
    (s.writeRecord.deviceReset 8 (cold || s.coldKept 8) (s.safeKept 8 && !(cold && isE2 m))).fltSync
  else s

/-- SOFT_RESET (R480). -/
def execSoftReset (m : Master) (s : State) : Host.Outcome State Fault Refusal := .next (s.writes m 0 (s.softReset m false))

/-- SOFT_RESET_COLD (R480). -/
def execSoftResetCold (m : Master) (s : State) : Host.Outcome State Fault Refusal := .next (s.writes m 0 (s.softReset m true))

/-! ### The clocks (steps 1 and 2 of R477) -/

/-- CLOCKS_LOCKED (R455, R294): XO40 is good and both PLLs are locked, the domain clocks start, and the TCMs are cleared. -/
def execClocksLocked (s : State) : Host.Outcome State Fault Refusal :=
  if s.start ≠ .clocks then .next s
  else
    let r := wrF (wrF (wrF (wrF s.regs CLK_STAT_XOOK 1) CLK_STAT_PLLMLOCK 1) CLK_STAT_PLLELOCK 1) CLK_STAT_LFOK (b2n s.rtc.lf)
    .next { s with regs := wrF r SYS_BOOT_STEP 1, start := .scan, engs := s.engs.map Engine.cleared,
                   mer := { s.mer with lfTick := s.rtc.tick, lfTclk := s.tclk } }

/-! ### What E2 does in a start -/

/-- Step 4: the role, the reasons for the path, and the commissioned CTRIM (R452, R476, R480). -/
def State.startPath (s : State) : State :=
  let s1 := (s.wr SYS_ROLE_ROLE s.fw.role).wr CLK_XOTRIM_CTRIM Config.ctrim.toNat
  let warm := s.path == .warm
  let why := b2n (!s.rdB RTC_STAT_SIGOK) + 2 * b2n s.fw.cals.isNone + 4 * b2n (s.fw.role != 0 && s.fw.parent.isNone) +
    8 * s.rd SYS_BOOT_FORCECOLD + 16 * s.rd RTC_STAT_TLOST
  (s1.wr SYS_BOOT_WARM (b2n warm)).wr SYS_BOOT_COLDWHY (if warm then 0 else why)

/-- The stored register words are written as E2 writes them. -/
def State.putConfig (s : State) : List (Nat × Word) → State
  | [] => s
  | (a, v) :: r => (s.plainWrite a v).putConfig r

/-- Channels 56 to 63 and claims 0 to 7 (R353, R356): the OWNER is 0 or 2 and SEC is 1; vendor firmware chooses the rest. -/
def State.startFabric (s : State) : State :=
  let chan := fun (t : State) (n : Nat) =>
    let v := Config.vendorChan n
    { t with regs := wrF (wrF (regSet t.regs (EVF_CH_CFG_EN n).addr (plainActive (EVF_CH_CFG_EN n).addr v.1 0))
               (EVF_CH_CFG_SEC n) 1) (EVF_CH_CFG_OWNER n) (if v.1.getLsbD 24 then 0 else 2) }
  let fork := fun (t : State) (n : Nat) => t.plainWrite ((EVF_CH_CFG_EN n).addr + 4) (Config.vendorChan n).2
  let ns := (List.range 8).map (· + 56)
  let s1 := ns.foldl fork (ns.foldl chan s)
  (List.range 8).foldl (fun t k => t.wr (EVF_CLAIM_OWNER k) 2) s1

/-- Step 5: the keys that vendor firmware keeps (R389, R498). -/
def State.startKeys (s : State) : State :=
  (s.fw.keys.foldl (fun t k => t.putSlot k.slot (KeySlot.load k.klen k.pol k.key)) s).wr HIF_EXPERT_KEYSET
    (b2n s.fw.expertKey.isSome)

/-- The frequency that entry `e` holds before a start calibrates it: the commissioned plan's, else the reset plan's (R83, R89). -/
def State.startFreq (s : State) (b : Band) (e : Nat) : Nat :=
  match s.fw.cals with
  | some c => (spGet (calDefault b) (c.get b) e).freq
  | none => (s.rfc.cal b e).freq

/-- A full calibration of band `b` (R89); `bad` lists the entries that fail to lock. The tuning codes are free values. -/
def State.calibrateBand (s : State) (b : Band) (bad : List Nat) : State :=
  let go := fun (t : State) (e : Nat) =>
    let c : CalEntry := { state := if bad.contains e then 0 else 1, freq := s.startFreq b e, tcal := s.temp,
                          codes := Config.freeValue t.free }
    ({ t with rfc := t.rfc.putCal b e c } : State).took
  (List.range 128).foldl go s

/-- The stored tables fit the start: no entry is INVALID (R478), and every one was calibrated within DTEMP of the die temperature (R89). -/
def State.tablesFit (s : State) (c : PerBand (List (Nat × CalEntry))) : Bool :=
  let fits := fun (b : Band) (l : List (Nat × CalEntry)) => (List.range 128).all (fun k =>
    let x := spGet (calDefault b) l k
    x.state != 0 && !s.stale s.temp { x with state := 1 })
  fits .sg c.sg && fits .g24 c.g24

/-- Step 6 of a cold start. An entry that fails leaves STATUS CAL_INVALID (R478) and counts in FAILS (R87, R108). -/
def State.coldCal (s : State) (badSg bad24 : List Nat) : State :=
  let s1 := (s.calibrateBand .sg badSg).calibrateBand .g24 bad24
  let fails := fun bad : List Nat => ((List.range 128).filter (fun e => bad.contains e)).length
  let s2 : State := { s1 with fw := { s1.fw with cals := some s1.rfc.cals },
                              regs := incF s1.regs RFC_CALSTAT_FAILS (fails badSg + fails bad24) }
  if badSg.isEmpty ∧ bad24.isEmpty then s2 else s2.wr SYS_BOOT_STATUS stCalInvalid

/-- Step 6 (R89, R478): a warm start loads the stored tables, or goes on cold. -/
def State.startCal (s : State) (badSg bad24 : List Nat) : State :=
  match s.path, s.fw.cals with
  | .warm, some c =>
    if s.tablesFit c then { s with rfc := { s.rfc with cals := c } }
    else
      let s1 := ({ s with path := .cold } : State).coldCal badSg bad24
      (((s1.wr SYS_BOOT_STATUS stCalInvalid).wr SYS_BOOT_WARM 0).wr SYS_BOOT_COLDWHY 2)
  | _, _ => s.coldCal badSg bad24

/-- The status of a step of R477 that fails, where the spec names none: one of the error codes of R13 (R478, log entry 3). -/
def State.failedStep (s : State) : State := (s.wr SYS_BOOT_STATUS (statusCodes.getD (3 + s.freeBelow 20) stInternal)).took

/-- One user image is loaded into its engine, checked and released (R26): whether its contents are valid is vendor firmware's rule; a
missing or invalid one leaves RESET, and SYS_BOOT.STATUS tells of it (R478). -/
def State.loadImage (s : State) (im : Nat × Nat × Nat) : State :=
  let e := s.leader im.1
  if (s.eng e).st = .reset ∧ im.2.2 ≤ 65536 then
    match s.loadCopy e im.2.1 0 (im.2.2 / 4) with
    | some (st, s1) =>
      let kept : State := { s1 with engs := s.engs }
      if st ≠ stOK then kept.wr SYS_BOOT_STATUS st
      else if Config.imageValid ((s1.eng e).bytes e 0 im.2.2) then s1.engRelease e
      else kept.failedStep
    | none => s
  else s.failedStep

/-- E2 releases E0/E1 with vendor firmware (R23, R26). -/
def State.startVendor (s : State) : State :=
  let vend := fun (t : State) (e : Nat) => t.setEng e { t.eng e with vendor := true }
  (vend (vend s 0) 1).engRelease 0

/-- Step 7: E0/E1, then the user images (R23, R26). -/
def State.startEngines (s : State) : State :=
  let s1 := s.startVendor
  s1.fw.images.foldl (fun t im => t.loadImage im) s1

/-- The Sounding ring of a stored configuration (R275): the library reads by reader 0 while it is started, and vendor firmware enables
reader 1, which E0/E1 reads by (R148). -/
def State.sndRing (s : State) (d : Snd) : State :=
  let put := fun (m : List (Nat × Word)) (f : Field) (v : Nat) => wrF m f v
  { s with shadow := put (put s.shadow MDM_SBUF_BASE_BASE (d.cfg.ringBase / 512)) MDM_SBUF_SIZE_SIZE d.cfg.ringSize,
           regs := put (if d.started then put s.regs MDM_SBUF_RD0_EN 1 else s.regs) MDM_SBUF_RD1_EN 1 }

/-- The Sounding library of the start (R275, R276): the stored configuration, and every baseline EMPTY. -/
def State.startSnd (s : State) : State :=
  let d := s.fw.snd
  { s.sndRing d with snd := { d with links := d.links.map (fun l => { l with a := .fresh, b := .fresh, index := none }),
                                     unused := 0, late := 0, skip := 0, restarts := 0, relearns := 0, closed := none } }

/-- SOURCE that a commissioned device runs with when its stored configuration names none: MAINS for a manager, BEACON for a
worker (R50, R236); OFF before commissioning. -/
def State.startSource (s : State) : State :=
  let named := s.fw.config.any (fun p => p.1 == MER_CFG_SOURCE.addr)
  if named ∨ !s.fw.commissioned then s
  else { s with shadow := wrF s.shadow MER_CFG_SOURCE (if s.isManager then 1 else 3) }

/-- The mesh identity of a commissioned device (R229, R230, R243). -/
def State.startAddress (s : State) : State :=
  if !s.fw.commissioned then s
  else
    let short := if s.isManager then 0 else if s.path = .warm then s.fw.short else s.rd MAC_ADDR_SHORT
    ((((s.wr MAC_ADDR_MESHID s.fw.meshid).wr MAC_ADDR_SHORT short).wr MAC_CFG_SGEN 1).wr MAC_CFG_G24EN 1)

/-- The bands start, and SHP serves them in a commissioned device. -/
def State.startBands (s : State) (mv : Nat) : State :=
  let s1 := (((s.enableBand .sg mv).enableBand .g24 mv).bandReady .sg).bandReady .g24
  if s.fw.commissioned then (s1.wr SHP_CFG_SGEN 1).wr SHP_CFG_G24EN 1 else s1

/-- The hand-over ring is empty (R228). -/
def State.startRing (s : State) : State := (s.sramWrite ringW (natLE 4 1)).sramWrite ringR (natLE 4 1)

/-- The stored parent entry is written again, with the pre-correction towards it (R103, R254, R464). -/
def State.putParent (s : State) : State :=
  match s.fw.parent with
  | none => s
  | some (i, n) =>
    let cfg := BitVec.ofNat 32 (2 ^ 31 + 2 ^ 30 + n.cls % 4 * 2 ^ 28 + n.key1 % 16 * 2 ^ 24 + n.key0 % 16 * 2 ^ 20 + n.short % 65536)
    (s.writeNbr i n.eui cfg).corrSide i

/-- A warm worker writes the stored parent entry; its link enters RECOVERY with the last contact of the record, and LINKREC fires (R193,
R194). -/
def State.startParent (s : State) : State :=
  match s.fw.parent with
  | none => s
  | some (i, _) =>
    let s1 := s.putParent
    let r := s.rtc.record
    (s1.putNbr i { s1.nbr i with link := .recovery, missed := 3, last := r.cyc * 65536 + r.ph }).fire 83

/-- The stored operational Chart stands in the shadow values (R254). -/
def State.putChart (s : State) : State := { s with shadow := s.fw.chartRegs.foldl (fun m p => regSet m p.1 p.2) s.shadow }

/-- The mesh firmware of a cold start: a manager that knows its members, a worker that begins to join (R231, R236, R246). -/
def State.coldMesh (s : State) : State :=
  let m0 := s.mesh
  if !s.fw.commissioned then s
  else if s.isManager then
    ({ s with mesh := { m0 with members := s.fw.members, joinKeys := s.fw.joinKeys } } : State).startupChart
  else
    let s1 := ({ s with mesh := { m0 with phase := .listen, searchEnd := s.tclk + 80000000 } } : State).wr MAC_CFG_OPEN 1
    if s.isLeaf then s1.startupProfile.commitShp.searchAlarm else s1.startupChart

/-- The mesh firmware of a warm start, with Meridian projected from the record (R69, R193, R254). -/
def State.warmMesh (s : State) : State :=
  let s1 := s.projectRecord
  let s3c := if s1.fw.chartRegs = [] then (if s1.isLeaf then s1.startupProfile.commitShp else s1.startupChart) else s1.putChart.commitShp
  let s3 : State := { s3c with mesh := { s3c.mesh with bper := s3c.rd (SHP_CHCFG_CYCLES .sg) } }
  if s3.isManager then
    { s3 with mesh := { s3.mesh with members := s3.fw.members, joinKeys := s3.fw.joinKeys } }
  else
    let s4 := s3.startParent
    { s4 with mesh := { s4.mesh with phase := .operational, rank := s4.fw.rank, reportDue := true } }

/-- MER at a start that is not cold: HOLDOVER, or SYNTH in a manager with SOURCE = SYNTH (R69). -/
def State.warmMer (s : State) : State :=
  let src := s.rd MER_CFG_SOURCE
  if src = 0 then s else if s.isManager ∧ src = 2 then s.setMer 4 else s.setMer 3

/-- MAC_TXCTR moves to 2²⁰ above the value that vendor firmware last stored (R178). When it stores one is open: the value is free
among those no more than 2²⁰ below the counter's last value, since no value is taken twice (R157). -/
def State.startCounter (s : State) : State :=
  let top := s.fw.ctrTop
  let stored := top - s.freeBelow (min top (2 ^ 20) + 1)
  (s.wr MAC_TXCTR_CTR (min (stored + 2 ^ 20) 0xFFFFFFFF)).took

/-- Step 8: the configurations are committed by E2 (R477). -/
def State.startCommits (s : State) : State :=
  let m : Master := .eng 2
  ((((s.commit m .rfc).commit m .mdm).commit m .mac).commit m .mer).commit m .shp

/-- The survey configuration of the records: committed, and the scan runs when it has EN (R518). -/
def State.startSurvey (s : State) : State :=
  match s.fw.config.find? (fun p => p.1 == SVR_CFG_EN.addr) with
  | none => s
  | some p =>
    let s1 := (s.wr SVR_CFG_EN 0).commit (.eng 2) .svr
    if SVR_CFG_EN.of p.2 = 1 then s1.svrEnable else s1

/-- Steps 4 to 8 of a start that is not SAFE. -/
def State.startSteps (s : State) (mv : Nat) (badSg bad24 : List Nat) : State :=
  let s1 := (s.startPath.putConfig s.fw.config).startFabric.startKeys
  let s2 := ((s1.startBands mv).startCal badSg bad24).startRing.startEngines
  let s3 := s2.startSnd.startSource.startCommits.startSurvey.clearMaps.preloadDuty.startAddress.startCounter
  let s4 := if s3.path = .warm then s3.warmMesh.warmMer else s3.coldMesh
  { s4 with regs := wrF (wrF s4.regs SYS_BOOT_STEP 8) HIF_STAT_READY 1, start := .meridian }

/-- A start in SAFE (R476, R478): a cold start in which no band is enabled and no user engine is released. What needs a band is left
out: the calibration and the mesh. -/
def State.startSafe (s : State) : State :=
  let s1 := ((({ s with path := .safe } : State).startPath.putConfig s.fw.config).startFabric.startKeys).startRing.startVendor
  let s2 := s1.startSnd.startCommits.startSurvey.clearMaps.startCounter
  { s2 with regs := wrF (wrF (wrF (wrF s2.regs SYS_BOOT_SAFE 1) SYS_BOOT_WARM 0) SYS_BOOT_STEP 5) HIF_STAT_READY 1, start := .none }

/-- SCAN_DONE (R375, R477): the scan completes, and in a start E2 is released and carries out steps 3 to 8. `erased` tells of the
margin read of step 4 of the scan, `verified` of the signature of step 3, `mv` is VDD_PA, `t` the die temperature, and `badSg`
and `bad24` are the entries that fail to lock. -/
def execScanDone (erased verified : Bool) (mv : Nat) (t : BitVec 12) (badSg bad24 : List Nat) (s : State) :
    Host.Outcome State Fault Refusal :=
  if s.start ≠ .scan then
    .next (if s.tclkOn ∧ !s.rdB FLC_STAT_SCANDONE then s.flashScan erased else s)
  else
    let s1 := (s.flashScan erased).wr RFC_TEMP_TEMP t.toNat
    let s2 := s1.setEng 2 { s1.eng 2 with vendor := true }
    let s3 := (s2.engRelease 2).wr SYS_BOOT_STEP 2
    if s3.path ≠ .warm ∧ !verified then .next s3.failedStep.startSafe
    else if s3.path = .safe then .next (s3.wr SYS_BOOT_STEP 3).startSafe
    else .next (s3.startSteps mv badSg bad24)

/-! ### FLT registers (R466, R474, R475, R481) -/

/-- What E2 has done by the time it writes FLT_ACTDONE for region `r` (R464). -/
def State.recover (s : State) (r mv : Nat) : State :=
  if r = 0 then
    let s1 := s.setEng 0 { s.eng 0 with vendor := true }
    let s2 := s1.setEng 1 { s1.eng 1 with vendor := true }
    if (s2.eng 0).st = .reset then s2.engRelease 0 else s2
  else if 2 ≤ r ∧ r ≤ 10 then
    (s.fw.images.filter (fun im => s.leader im.1 == s.leader (engineOf r))).foldl (fun t im => t.loadImage im) s
  else if r = 11 then
    let s1 : State := match s.fw.cals with
      | some c => { s with rfc := { s.rfc with cals := c } }
      | none => s
    let s2 := ((s1.putConfig s.fw.config).putChart.sndRing s1.snd).startSource
    ((s2.startBands mv).startCommits).startAddress.startCounter.putParent
  else if r = 12 then s.startKeys
  else if r = 15 then s.wr HIF_STAT_READY 1
  else s

/-- A write of FLT_ACTDONE: the active BLOCK_RESTART of the region ends, and the next queued action begins (R466, R469). -/
def State.actDone (s : State) (m : Master) (r mv : Nat) : State :=
  match s.flt.active with
  | some a =>
    if isE2 m ∧ a.region = r ∧ a.tier = 1 then
      let s1 := s.recover r mv
      (({ s1 with flt := { (s1.flt.mark a.entry 3) with active := none } } : State).takeQueued).fltSync
    else s
  | none => s

/-- ACTDONE (R464, R466): `mv` is VDD_PA should bands start again. -/
def execActdone (m : Master) (r : Fin 16) (mv : Nat) (s : State) : Host.Outcome State Fault Refusal := .next (s.writes m 14 (s.actDone m r mv))

/-- A write of FLT_REPORT (R475). -/
def State.report (s : State) (m : Master) (v : Word) : State :=
  if s.e2OrExpert m then
    s.fault { code := 0x0D, region := FLT_REPORT_REGION.of v, tier := FLT_REPORT_TIER.of v, owner := s.code m,
              addr := FLT_REPORT_DATA.of v }
  else s

/-- FLT_REPORT (R475). -/
def execFltReport (m : Master) (v : Word) (s : State) : Host.Outcome State Fault Refusal := .next (s.writes m 14 (s.report m v))

/-- The watchdog count of region `r` begins again. -/
def State.kick (s : State) (r : Nat) : State := { s with flt := { s.flt with wdg := modifyNth (fun _ => 0) r s.flt.wdg } }

/-- A write to FLT_KICK by an engine master (R474). -/
def State.writeKick (s : State) (m : Master) : State :=
  match m with
  | .eng _ => s.kick (s.regionOf m)
  | .hif => s

/-- FLT_KICK (R474). -/
def execFltKick (m : Master) (s : State) : Host.Outcome State Fault Refusal := .next (s.writes m 14 (s.writeKick m))

/-- A write to FLT_WDGr (R474, R481). -/
def State.writeWdg (s : State) (m : Master) (r : Nat) (v : Word) : State :=
  if isE2 m ∨ (m = .hif ∧ s.expert ∧ 2 ≤ r) then
    let w := if (FLT_WDG_PERIOD r).of v = 0 then (FLT_WDG_PERIOD r).put v 1 else v
    let s1 := s.plainWrite (FLT_WDG_EN r).addr w
    if (FLT_WDG_EN r).of v = 1 then s1.kick r else s1
  else s

/-- A write to FLT_CFG (R481). -/
def State.writeFltCfg (s : State) (m : Master) (v : Word) : State :=
  if isE2 m then (s.plainWrite FLT_CFG_RTMO.addr (if FLT_CFG_RTMO.of v = 0 then FLT_CFG_RTMO.put v 1 else v)).fltSync else s

/-- WATCHDOG_EXPIRY (R474): the count of region `r` reaches PERIOD. -/
def execWatchdogExpiry (r : Fin 11) (s : State) : Host.Outcome State Fault Refusal :=
  if s.tclkOn ∧ s.wdgRuns r then
    let s1 := (s.tick (s.rd (FLT_WDG_PERIOD r) * 400000 - s.flt.wdg.getD r 0)).kick r
    .next (s1.fault { code := 0x0C, region := r, tier := 1, owner := engineOf r, addr := (s1.eng (engineOf r)).g.p.toNat })
  else .next s

/-- RECOVERY_TIMEOUT (R465): the BLOCK_RESTART has not ended within RTMO. -/
def execRecoveryTimeout (s : State) : Host.Outcome State Fault Refusal :=
  match s.flt.active with
  | some a =>
    if a.tier = 1 ∧ s.tclkOn then
      let s1 := s.tick (s.flt.activeAt + s.rd FLT_CFG_RTMO * 400000 - s.tclk)
      .next (s1.fault { code := 0x0E, region := a.region, tier := a.tier + 1 })
    else .next s
  | none => .next s

/-- EPISODE_CLOSE (R467). -/
def execEpisodeClose (r : Fin 16) (s : State) : Host.Outcome State Fault Refusal :=
  match s.flt.episodes.getD r none with
  | some ep =>
    if s.flt.hasAction r ∨ !s.tclkOn then .next s
    else
      let s1 := s.tick (ep.last + s.rd FLT_CFG_WIN * 400000 - s.fltNow)
      .next ({ s1 with flt := { s1.flt with episodes := modifyNth (fun _ => none) r s1.flt.episodes } } : State).fltSync
  | none => .next s

end Sys2Proof.Machine
end

