-- ==== Sys2Proof/Machine/Views.lean ====
section
/-!
DEFINITION. What a read of a register shows where the register's word follows other state: status, indexed and counting registers of
R108, R152, R196, R225, R312, R382, R408, R430, R451, R463, R480, R481, R523 and R535. A read that changes state is in Bus.lean.
-/
namespace Sys2Proof.Machine

/-- SYS (R480): the EUI-64 from fuses; step 9 shows once a cold start has heard its time. -/
def State.viewSys (s : State) (a : Nat) (w : Word) : Word :=
  if a = 0x40000004 then Config.eui64.extractLsb' 0 32
  else if a = 0x40000008 then Config.eui64.extractLsb' 32 32
  else if a = 0x40000010 ∧ s.start = .meridian ∧ s.path = .cold ∧
      (s.mer.stepped ∨ s.mer.pendSet.isSome ∨ 2 ≤ s.rd MER_STAT_STATE) then SYS_BOOT_STEP.put w 9
  else w

/-- PWR (R451): DOZE, and the conditions of R439 that fail. -/
def State.viewPwr (s : State) (a : Nat) (w : Word) : Word :=
  if a = 0x40001004 then PWR_STAT_DOZE.put (PWR_STAT_HOLD.put w s.holdBits) (b2n (s.pwr.st == .doze)) else w

/-- CLK (R463): XOTYPE is a copy. -/
def State.viewClk (s : State) (a : Nat) (w : Word) : Word :=
  if a = 0x40002000 then CLK_STAT_XOTYPE.put w (s.rd PWR_CFG_XOTYPE) else w

/-- FLC (R382): the block of FLC_BLKIDX. -/
def State.blkInfo (s : State) (b k : Nat) : Word :=
  let n := b * 128 + k
  BitVec.ofNat 32 (b2n (s.flc.half.contains n) * 2 ^ 31 + b2n (k == 127) * 2 ^ 30 + b2n (decide (n < 32)) * 2 ^ 29 +
    s.flc.count b k % 2 ^ 24)

def State.viewFlc (s : State) (a : Nat) (w : Word) : Word :=
  if a = 0x40003004 then FLC_STAT_ROLL.put w (b2n s.rolling)
  else if a = 0x40003018 then s.blkInfo (s.rd FLC_BLKIDX_BANK) (s.rd FLC_BLKIDX_BLOCK) else w

/-- RTC (R430): words 0 to 15 of the backup RAM. -/
def State.viewRtc (s : State) (a : Nat) (w : Word) : Word :=
  if 0x40005080 ≤ a ∧ a < 0x400050C0 then
    BitVec.ofNat 32 (leNat ((s.rtc.bkup.drop (a - 0x40005080)).take 4))
  else w

/-- SVR (R519, R523): sheets held and the positions of the cursors. -/
def State.viewSvr (s : State) (a : Nat) (w : Word) : Word :=
  let v := s.svr
  if a = 0x40006018 then BitVec.ofNat 32 (v.rheld.length * 2 ^ 14 + v.fheld.length)
  else if a = 0x4000601C then BitVec.ofNat 32 (cursorPos v.rheld v.rcur * 2 ^ 14 + cursorPos v.fheld v.fcur)
  else w

/-- A frame is in PAYLOAD, whose Accept may be in progress (R404). -/
def State.inPayload (s : State) : Bool :=
  let on := fun l : List Chan => l.any (fun c => c.st == .payload)
  on s.mdm.chans.sg || on s.mdm.chans.g24

/-- CIP_STAT (R408). While a frame is received and no Accept is past its end, the value of ACC is free: its bytes are not told before its
end (log entry 115). -/
def State.cipStat (s : State) : Word :=
  let acc := if s.accepting then 1 else if s.inPayload then s.freeBelow 2 else 0
  let own := match s.cip.jobs with
    | j :: _ => j.owner
    | [] => 15
  BitVec.ofNat 32 (own % 16 * 2 ^ 12 + s.cip.trng % 4 * 2 ^ 8 + acc * 4 + b2n s.sealing * 2 + b2n (!s.cip.jobs.isEmpty))

/-- CIP_KINFO of slot `k` (R408). -/
def State.kinfo (s : State) (k : Nat) : Word :=
  let x := s.slot k
  BitVec.ofNat 32 (x.kcv % 65536 * 65536 + b2n x.loaded * 2 ^ 14 + x.klen % 4 * 2 ^ 12)

/-- CIP_KSTAT (R408): LOCK and LOADED of the sixteen slots. -/
def State.kstat (s : State) : Word :=
  let bits := fun p : KeySlot → Bool => ((List.range 16).map (fun k => b2n (p (s.slot k)) * 2 ^ k)).sum
  BitVec.ofNat 32 (bits (fun k => k.has CIP_KPOL_LOCK) * 65536 + bits (fun k => k.loaded))

def State.viewCip (s : State) (a : Nat) (w : Word) : Word :=
  if a = 0x40007000 then s.cipStat
  else if a = 0x40007040 then s.kinfo (s.rd CIP_KIDX_SLOT)
  else if a = 0x40007044 then BitVec.ofNat 32 (s.slot (s.rd CIP_KIDX_SLOT)).pol
  else if a = 0x40007048 then s.kstat
  else w

/-- Code of a radio state (R90). -/
def BandState.code : BandState → Nat
  | .off => 0 | .ready => 1 | .rx => 2 | .hop => 3 | .cal => 4 | .turnTx => 5 | .tx => 6 | .turnRx => 7

/-- The synthesiser of the band is locked. -/
def BandRadio.isLocked (r : BandRadio) : Bool :=
  match r.st with
  | .ready | .rx | .tx => true
  | .turnTx | .turnRx => r.lockOk
  | .off | .hop | .cal => false

/-- RFC (R108): states and locks, and the entries that the index registers name. TCAL shows the quarter degrees of the calibration
rounded down to whole degrees (DESIGN CHOICE, log entry 93: the spec names no rounding). -/
def State.viewRfc (s : State) (a : Nat) (w : Word) : Word :=
  let x := s.rfc.bands.sg
  let y := s.rfc.bands.g24
  let b : Band := if s.rd RFC_CALIDX_BAND = 0 then .sg else .g24
  let e := s.rfc.cal b (s.rd RFC_CALIDX_ENTRY)
  if a = 0x40008004 then
    BitVec.ofNat 32 (b2n y.isLocked * 2 ^ 9 + b2n x.isLocked * 2 ^ 8 + y.st.code * 16 + x.st.code)
  else if a = 0x40008024 then BitVec.ofNat 32 (e.state % 4 * 2 ^ 28 + e.freq % 2 ^ 28)
  else if a = 0x40008028 then BitVec.ofNat 32 (intBits 8 (e.tcal / 4))
  else if a = 0x40008030 then (s.offset (s.rd RFC_FOIDX_INDEX)).word
  else w

/-- Code of a channel state (R114). -/
def ChanState.code : ChanState → Nat
  | .disabled => 0 | .search => 1 | .select => 2 | .sync => 3 | .header => 4 | .payload => 5 | .blanked => 6

/-- MDM (R152): channels at work and their states. -/
def State.viewMdm (s : State) (a : Nat) (w : Word) : Word :=
  let act := fun b : Band => ((List.range 8).map (fun n => b2n (s.chan b n).active * 2 ^ n)).sum
  if a = 0x40009000 then BitVec.ofNat 32 (act .g24 * 256 + act .sg)
  else if 0x40009100 ≤ a ∧ a < 0x40009200 ∧ a % 16 = 0 then
    let b : Band := if a < 0x40009180 then .sg else .g24
    let n := a / 16 % 8
    (MDM_CH_CFG_STATE b n).put w (s.chan b n).st.code
  else w

/-- MAC (R196): the neighbour entry of MAC_NBIDX. -/
def State.viewMac (s : State) (a : Nat) (w : Word) : Word :=
  let n := s.nbr (s.rd MAC_NBIDX_INDEX)
  if a = 0x4000A024 then BitVec.ofNat 32 n.euiNew
  else if a = 0x4000A028 then BitVec.ofNat 32 (n.euiNew / 2 ^ 32)
  else if a = 0x4000A02C then
    BitVec.ofNat 32 (b2n n.valid * 2 ^ 31 + b2n n.parent * 2 ^ 30 + n.cls % 4 * 2 ^ 28 + n.key1 % 16 * 2 ^ 24 +
      n.key0 % 16 * 2 ^ 20 + n.short % 65536)
  else if a = 0x4000A030 then BitVec.ofNat 32 (n.ackPwr % 256)
  else if a = 0x4000A034 then
    BitVec.ofNat 32 (min n.dups 65535 * 65536 + min n.missed 255 * 256 + n.link.code)
  else if a = 0x4000A038 then BitVec.ofNat 32 (merCycle n.last)
  else if a = 0x4000A03C then BitVec.ofNat 32 (merPhase n.last * 65536 + n.err % 65536)
  else w

/-- Frames queued in the four queues from `q` on, one byte each (R225). -/
def State.qcount (s : State) (b : Band) (q : Nat) : Word :=
  BitVec.ofNat 32 (((List.range 4).map (fun k => min ((s.shpB b).queue (q + k)).length 255 * 256 ^ k)).sum)

/-- SHP (R225). -/
def State.viewShp (s : State) (a : Nat) (w : Word) : Word :=
  if a = 0x4000B0B8 then s.qcount .sg 0
  else if a = 0x4000B0BC then s.qcount .sg 4
  else if a = 0x4000B0F8 then s.qcount .g24 0
  else if a = 0x4000B0FC then s.qcount .g24 4
  else w

/-- FLT_LOG0 of an entry (R481). -/
def LogEntry.word (e : LogEntry) : Word :=
  BitVec.ofNat 32 (e.status % 256 * 2 ^ 24 + e.code % 256 * 2 ^ 16 + e.region % 16 * 2 ^ 12 + b2n e.conseq * 2 ^ 11 +
    e.state % 8 * 2 ^ 8 + e.tier % 4 * 2 ^ 4 + e.owner % 16)

/-- FLT (R481): the entry of FLT_LOGIDX. -/
def State.viewFlt (s : State) (a : Nat) (w : Word) : Word :=
  let e := s.flt.log.getD (s.rd FLT_LOGIDX_INDEX) .empty
  if a = 0x4000E00C then e.word
  else if a = 0x4000E010 then BitVec.ofNat 32 e.addr
  else if a = 0x4000E014 then BitVec.ofNat 32 e.cycle
  else w

/-- TST (R535): the level of TEST_EN. -/
def State.viewTst (s : State) (a : Nat) (w : Word) : Word :=
  if a = 0x4000F01C then TST_STAT_TESTEN.put w (b2n s.tst.testEn) else w

/-- Code of an engine state (R297). -/
def EngState.code : EngState → Nat
  | .reset => 0 | .run => 1 | .wait => 2 | .halt => 3 | .restart => 4 | .stopped => 5 | .paired => 6

/-- ENG (R312, R307): the states; the odd engine of a lockstepped pair reads 0 in its own registers. -/
def State.viewEng (s : State) (a : Nat) (w : Word) : Word :=
  let states := fun k n : Nat => BitVec.ofNat 32 (((List.range n).map (fun i => (s.eng (k + i)).st.code * 16 ^ i)).sum)
  if a = 0x40010004 then states 0 8
  else if a = 0x40010008 then states 8 4
  else if 0x40010200 ≤ a ∧ a < 0x40010380 ∧ s.isOdd ((a - 0x40010200) / 32) then 0
  else w

/-- SNS (R292): the pin levels. -/
def State.viewSns (s : State) (a : Nat) (w : Word) : Word := if a = 0x40011210 then s.gpioIn else w

/-- The word that a read of the register at `a` shows, the read's own effects apart. -/
def State.view (s : State) (a : Nat) : Word :=
  let w := s.plainRead a
  match a / 0x1000 - 0x40000 with
  | 0 => s.viewSys a w
  | 1 => s.viewPwr a w
  | 2 => s.viewClk a w
  | 3 => s.viewFlc a w
  | 5 => s.viewRtc a w
  | 6 => s.viewSvr a w
  | 7 => s.viewCip a w
  | 8 => s.viewRfc a w
  | 9 => s.viewMdm a w
  | 10 => s.viewMac a w
  | 11 => s.viewShp a w
  | 14 => s.viewFlt a w
  | 15 => s.viewTst a w
  | 16 => s.viewEng a w
  | 17 => s.viewSns a w
  | _ => w

end Sys2Proof.Machine
end

