-- ==== Sys2Proof/Machine/RegWrite.lean ====
section
/-!
DEFINITION. Reads and writes of the register blocks as the bus carries them (R4, R5, R32, R33), with what each register adds: the
masters that may write it, values stored as others, and the effects that have commands of their own.
-/
namespace Sys2Proof.Machine

/-! ### Reads -/

/-- The register that address `a` names for master `m`: an engine's self window stands for its own registers (R312). -/
def State.regFor (s : State) (m : Master) (a : Nat) : Option Nat :=
  if 0x40010100 ≤ a ∧ a < 0x40010120 then
    match m with
    | .eng e => some (a + 0x100 + 32 * s.leader e.val)
    | .hif => none
  else some a

/-- A read of the register at `a` (R4, R33): the word, and the state after the read's own effects (R66, R344, R399, R418, R428). -/
def State.readReg (s : State) (m : Master) (a : Nat) : Word × State :=
  let s1 :=
    match s.regFor m a with
    | none => { s with busData := 0 }
    | some r =>
      if r = 0x4000C008 then s.phaseRead
      else if r = 0x40005004 then s.timeRead
      else if r = 0x40005048 then s.stampRead
      else if r = 0x4000704C then s.rngRead
      else if 0x40004084 ≤ r ∧ r < 0x400040C4 ∧ r % 16 = 4 then s.capRead ((r - 0x40004084) / 16)
      else if r = 0x40007000 then { s.took with busData := s.view r }
      else if r = 0x4000300C then { s.eraseGoes with busData := s.eraseGoes.view r }
      else if r / 0x1000 = 0x40003 then { s.flashGoes with busData := s.flashGoes.view r }
      else if r = 0x40011210 then { s.gpioSample with busData := s.gpioSample.view r }
      else { s with busData := s.view r }
  (s1.busData, s1)

/-! ### Writes, block by block -/

/-- SYS (R480). -/
def State.writeSys (s : State) (m : Master) (a : Nat) (v : Word) : State :=
  if a = SYS_ROLE_ROLE.addr then
    if isE2 m then s.plainWrite a (if SYS_ROLE_ROLE.of v = 3 then SYS_ROLE_ROLE.put v 1 else v) else s
  else if a = SYS_RESET_KEY.addr then
    if SYS_RESET_KEY.of v = 0xA5 then s.softReset m (SYS_RESET_COLD.of v == 1) else s
  else s.plainWrite a v

/-- PWR (R447, R451). -/
def State.writePwr (s : State) (m : Master) (a : Nat) (v : Word) : State :=
  if a = PWR_CFG_DEEP.addr then s.writePwrCfg v
  else if a = PWR_CTRL_OFF.addr then (if PWR_CTRL_OFF.of v = 1 then s.powerOff m else s)
  else s.plainWrite a v

/-- FLC (R365, R382). -/
def State.writeFlc (s : State) (m : Master) (a : Nat) (v : Word) : State :=
  if a = FLC_CFG_RESUMEMIN.addr then
    s.plainWrite a (FLC_CFG_RESUMEMIN.put v (max 20 (FLC_CFG_RESUMEMIN.of v)))
  else if a = FLC_CMD_OP.addr then s.flashCmd m (FLC_CMD_OP.of v) (FLC_CMD_DESC.of v)
  else s.plainWrite a v

/-- EVF (R348 to R356). -/
def State.writeEvf (s : State) (m : Master) (a : Nat) (v : Word) : State :=
  let n := (a - 0x40004100) / 16
  if a = 0x40004000 then s.writeGrpen m v
  else if a = 0x40004004 then s.swFire m 0 v
  else if a = 0x40004008 then s.swFire m 32 v
  else if 0x40004040 ≤ a ∧ a < 0x40004080 then s.writeClaim m ((a - 0x40004040) / 4) v
  else if 0x40004100 ≤ a ∧ a < 0x40004500 then
    if a % 16 = 0 then s.writeChanCfg m n v else if a % 16 = 4 then s.writeChanTask m n v else s
  else s.plainWrite a v

/-- SVR (R509 to R523): what is E2's alone, and the firmware's samples and increments. -/
def State.writeSvr (s : State) (m : Master) (a : Nat) (v : Word) : State :=
  let k := (a - 0x40006100) / 16
  if a = SVR_CFG_EN.addr then s.writeSvrCfg m v
  else if a = SVR_STAT_RDLOCK.addr then s.writeSvrStat m v
  else if a = SVR_CMD_CLOSE.addr then s.writeSvrCmd m v
  else if a = SVR_CUR_ROLL.addr then s.writeSvrCur m v
  else if 0x40006100 ≤ a ∧ a < 0x40006280 ∧ a % 16 = 8 then s.metricSample k ((SVR_M_SAMPLE_VALUE k).of v)
  else if 0x40006100 ≤ a ∧ a < 0x40006280 ∧ a % 16 = 12 then s.metricAdd k v
  else if isE2 m then s.plainWrite a v
  else s

/-- CIP (R385 to R399). -/
def State.writeCip (s : State) (m : Master) (a : Nat) (v : Word) : State :=
  if a = CIP_CFG_LINKDC.addr ∨ a = CIP_KSEL_SLOT.addr ∨ a = CIP_KPOL_LOCK.addr then s.cipGuarded m a v
  else if a = CIP_JOB_DESC.addr then s.cipJob m (CIP_JOB_DESC.of v)
  else if 0x40007014 ≤ a ∧ a < 0x40007034 then s.keyWord m ((a - 0x40007014) / 4) v
  else if a = CIP_KCMD_OP.addr then
    if isE2 m ∧ CIP_KCMD_OP.of v ≠ 1 then s else s.keyErase m (CIP_KCMD_SLOT.of v)
  else if a = CIP_RNGSTAT_RESTART.addr then (if CIP_RNGSTAT_RESTART.of v = 1 then s.trngRestart m else s)
  else s.plainWrite a v

/-- A write of RFC_CTRL (R91): VDD_PA at the instant is a free value. -/
def State.writeRfcCtrl (s : State) (v : Word) : State :=
  let mv := Config.freeValue s.free
  let go := fun (t : State) (b : Band) =>
    let new := (rfcEn b).of v == 1
    if new && !t.rdB (rfcEn b) then t.enableBand b mv
    else if !new && t.rdB (rfcEn b) then t.disableBand b
    else t
  go (go s.took .sg) .g24

/-- RFC (R87, R91, R104, R107). -/
def State.writeRfc (s : State) (a : Nat) (v : Word) : State :=
  if a = 0x40008000 then s.writeRfcCtrl v
  else if a = RFC_CALDEF_ENTRY.addr ∨ a = RFC_CALFREQ_FREQ.addr then
    let s1 := s.plainWrite a v
    { s1 with rfc := { s1.rfc with defSet := true } }
  else if a = RFC_CALCMD_OP.addr then
    s.writeCalcmd (if RFC_CALCMD_BAND.of v = 0 then .sg else .g24) (RFC_CALCMD_OP.of v) (RFC_CALCMD_ENTRY.of v)
  else if a = RFC_FODATA_OFS.addr then s.writeFodata v
  else s.plainWrite a v

/-- MDM (R148, R152): MU is held between 3 and 12. -/
def State.writeMdm (s : State) (a : Nat) (v : Word) : State :=
  if a = MDM_SBUF_RD0_RD.addr then s.writeSbufRd 0 v
  else if a = MDM_SBUF_RD1_RD.addr then s.writeSbufRd 1 v
  else if a = MDM_DFE_MU.addr then s.plainWrite a (MDM_DFE_MU.put v (min 12 (max 3 (MDM_DFE_MU.of v))))
  else s.plainWrite a v

/-- MAC (R165, R196). -/
def State.writeMac (s : State) (a : Nat) (v : Word) : State :=
  let i := s.rd MAC_NBIDX_INDEX
  let n := s.nbr i
  if a = MAC_RXRD_RD.addr then (if MAC_RXRD_RD.of v < s.rd MAC_RXCFG_COUNT then s.plainWrite a v else s)
  else if a = MAC_ACKCFG_ACKWAIT.addr then s.plainWrite a (MAC_ACKCFG_ACKWAIT.put v (max 48 (MAC_ACKCFG_ACKWAIT.of v)))
  else if a = MAC_NBEUI_LO_EUI.addr then s.putNbr i { n with euiNew := n.euiNew / 2 ^ 32 * 2 ^ 32 + v.toNat }
  else if a = MAC_NBEUI_HI_EUI.addr then s.putNbr i { n with euiNew := v.toNat * 2 ^ 32 + n.euiNew % 2 ^ 32 }
  else if a = MAC_NBCFG_VALID.addr then s.writeNbcfg v
  else if a = MAC_NBPWR_ACKPWR.addr then s.putNbr i { n with ackPwr := v.toNat % 256 }
  else s.plainWrite a v

/-- A write of SHP_CFG (R204, R222). -/
def State.writeShpCfg (s : State) (v : Word) : State :=
  let go := fun (t : State) (b : Band) => if t.rdB (shpEn b) && (shpEn b).of v == 0 then t.shpDisable b else t
  let s1 := ((go (go s .sg) .g24).plainWrite SHP_CFG_SGEN.addr v)
  ({ s1 with regs := walkBits s1.regs } : State).updateRxs

/-- SHP (R211, R221, R225). -/
def State.writeShp (s : State) (m : Master) (a : Nat) (v : Word) : State :=
  let p := (a - 0x4000B100) / 16
  if a = SHP_CFG_SGEN.addr then s.writeShpCfg v
  else if 0x4000B090 ≤ a ∧ a < 0x4000B0B0 then s.enqueue (s.code m) .sg ((a - 0x4000B090) / 4) v
  else if 0x4000B0D0 ≤ a ∧ a < 0x4000B0F0 then s.enqueue (s.code m) .g24 ((a - 0x4000B0D0) / 4) v
  else if 0x4000B100 ≤ a ∧ a < 0x4000B500 ∧ a % 16 = 0 then s.writePolCfg p v
  else if 0x4000B100 ≤ a ∧ a < 0x4000B500 ∧ a % 16 = 4 then s.writePolBurst p v
  else s.plainWrite a v

/-- HIF (R485, R506), but for HIF_REPLY and HIF_EREQ. -/
def State.writeHif (s : State) (m : Master) (a : Nat) (v : Word) : State :=
  if a = HIF_STAT_READY.addr ∨ a = HIF_EXPERT_TMO.addr ∨ a = HIF_BUFBASE_BASE.addr then (if isE2 m then s.plainWrite a v else s)
  else if a = HIF_DPBASE_BASE.addr then
    let b := HIF_DPBASE_BASE.of v
    if isE2 m ∧ 0x1000 ≤ b ∧ b ≤ 0x101F then s.plainWrite a v else s
  else if a = HIF_UARTDIV_DIV.addr then s.plainWrite a (HIF_UARTDIV_DIV.put v (max 2133 (HIF_UARTDIV_DIV.of v)))
  else if a = HIF_DPPTR_DBENG.addr then
    let e := HIF_DPPTR_DBENG.of v
    s.plainWrite a (HIF_DPPTR_DBENG.put v (if 3 ≤ e ∧ e ≤ 11 then e else 3))
  else s.plainWrite a v

/-- FLT (R466, R474, R475, R481). -/
def State.writeFlt (s : State) (m : Master) (a : Nat) (v : Word) : State :=
  if a = FLT_CFG_RTMO.addr then s.writeFltCfg m v
  else if a = FLT_ACTDONE_REGION.addr then s.took.actDone m (FLT_ACTDONE_REGION.of v) (Config.freeValue s.free)
  else if a = FLT_REPORT_REGION.addr then s.report m v
  else if a = 0x4000E028 then s.writeKick m
  else if 0x4000E040 ≤ a ∧ a < 0x4000E06C then s.writeWdg m ((a - 0x4000E040) / 4) v
  else s.plainWrite a v

/-- TST (R526, R527, R535). -/
def State.writeTst (s : State) (m : Master) (a : Nat) (v : Word) : State :=
  if a = TST_CTRL_START.addr then s.writeTstCtrl m v
  else if a = TST_CFG_BAND.addr ∨ a = TST_ARG_CH.addr ∨ a = TST_FIXED_WORD.addr ∨ a = TST_COUNT_COUNT.addr ∨
      a = TST_ERRMAX_MAX.addr then s.writeTstCfg a v
  else s.plainWrite a v

/-- A new mask may end WAIT at engine `e` (R303). -/
def State.rewake (s : State) (e : Nat) : State :=
  let g := wakeEngine s.regs e (s.eng e)
  { s with engs := Machine.setEng s.engs e g, pwr := pwrWithEngine s.pwr g }

/-- A register of engine `e` (R295, R306, R307, R312). -/
def State.writeOwn (s : State) (e a : Nat) (v : Word) : State :=
  if s.isOdd e then s
  else if a = (ENG_MASK_EMASK e).addr then (s.plainWrite a v).rewake e
  else if a = (ENG_RBINV_ALL e).addr then
    (if v.getLsbD 0 then s.setEng e { s.eng e with rbuf := [] } else s)
  else s.plainWrite a v

/-- ENG (R300, R306, R312). -/
def State.writeEng (s : State) (m : Master) (a : Nat) (v : Word) : State :=
  if a = ENG_CMD_OP.addr then s.writeEngCmd m v
  else if a = ENG_LSCFG_MMVEC.addr then (if isE2 m ∨ m = .hif then s.plainWrite a v else s)
  else if 0x40010080 ≤ a ∧ a < 0x400100B0 then s.doorbell ((a - 0x40010080) / 4) (v.toNat % 256)
  else if 0x40010100 ≤ a ∧ a < 0x40010120 then
    match m with
    | .eng e => let t := s.leader e.val; s.writeOwn t (a + 0x100 + 32 * t) v
    | .hif => s
  else if 0x40010200 ≤ a ∧ a < 0x40010380 then
    (if isE2 m ∨ m = .hif then s.writeOwn ((a - 0x40010200) / 32) a v else s)
  else s.plainWrite a v

/-- SNS (R270, R282, R288, R292). -/
def State.writeSns (s : State) (m : Master) (a : Nat) (v : Word) : State :=
  let z := (a - 0x40011400) / 16
  if a = 0x40011000 then s.writePdCfg 0 v
  else if a = 0x40011010 then s.writePdCfg 1 v
  else if a = 0x40011020 then s.writePirCfg v
  else if 0x40011100 ≤ a ∧ a < 0x40011180 ∧ a % 32 = 8 then s.writeDuty ((a - 0x40011100) / 32) v
  else if a = SNS_GPIO_SET_PINS.addr then s.gpioSet v
  else if a = SNS_GPIO_CLR_PINS.addr then s.gpioClr v
  else if a = 0x4001121C then s.writeGpioEv v
  else if a = 0x40011214 ∨ a = 0x40011218 then s.plainWrite a (pullWord v)
  else if 0x40011400 ≤ a ∧ a < 0x40011480 ∧ a % 16 = 0 then s.writeZoneCfg z v
  else if 0x40011400 ≤ a ∧ a < 0x40011480 ∧ a % 16 = 4 then s.writeZoneIndex m z v
  else s.plainWrite a v

/-- A 32-bit write of a register, HIF_REPLY and HIF_EREQ apart. A commit register acts on GO (R7, R9); every write of CIP_COMMIT by a
master other than E2 is recorded (R385). -/
def State.writeReg (s : State) (m : Master) (a : Nat) (v : Word) : State :=
  match commitBlk a with
  | some b =>
    if v.getLsbD 0 then s.commit m b
    else if b = .cip ∧ !isE2 m then s.cipRefuse (s.code m) stDenied none
    else s
  | none =>
    match a / 0x1000 - 0x40000 with
    | 0 => s.writeSys m a v
    | 1 => s.writePwr m a v
    | 3 => s.writeFlc m a v
    | 4 => s.writeEvf m a v
    | 5 => s.writeAtoll m a v
    | 6 => s.writeSvr m a v
    | 7 => s.writeCip m a v
    | 8 => s.writeRfc a v
    | 9 => s.writeMdm a v
    | 10 => s.writeMac a v
    | 11 => s.writeShp m a v
    | 13 => s.writeHif m a v
    | 14 => s.writeFlt m a v
    | 15 => s.writeTst m a v
    | 16 => s.writeEng m a v
    | 17 => s.writeSns m a v
    | _ => s.plainWrite a v

/-- COMMIT (R7, R9): 1 is written to GO of the commit register of block `b`. -/
def execCommit (m : Master) (b : Fin 9) (s : State) : Host.Outcome State Fault Refusal :=
  .next (s.writes m ([1, 6, 7, 8, 9, 10, 11, 12, 17].getD b 1) (s.commit m ([Blk.pwr, .svr, .cip, .rfc, .mdm, .mac, .shp, .mer, .sns].getD b .pwr)))

end Sys2Proof.Machine
end

