-- ==== Sys2Proof/Machine/HostBase.lean ====
section
/-!
DEFINITION. What the Toeth requests share (19_host_protocol.md): the request as the command interpreter sees it, packets and their CRC
(R487 to R489), the opcodes that are assigned (R500), long requests (R492), and the system opcodes (R493, R497 to R500, R502).
-/
namespace Sys2Proof.Machine

/-! ### Requests and answers -/

/-- A request of the interpreter: expert or basic, the issuer's owner code (12 for the host), an engine's buffer, SEQ, payload, and
what surrounds it. -/
structure OpIn where
  expert : Bool
  owner  : Nat
  desc   : Nat
  seq    : Byte
  p      : List Byte
  env    : ReqEnv
deriving DecidableEq, Repr

/-- The state after a request, its status and its reply data. -/
abbrev Ans := State × Nat × List Byte

/-- E2, which carries out the interpreter's register accesses (R491). -/
def e2 : Master := .eng 2

/-- What a request answers, in place of a status of R13, that waits for the die or for the Atoll domain (R375, R377, R460). -/
def stWaits : Nat := 256

/-- A reply without data that changes nothing. -/
def State.refuse (s : State) (st : Nat) : Ans := (s, st, [])

/-- A little-endian field of a payload. -/
def OpIn.at (q : OpIn) (i n : Nat) : Nat := leNat ((q.p.drop i).take n)

/-- The four bytes of the register at `a`. -/
def State.vb (s : State) (a : Nat) : List Byte := wordBytes (s.view a)

/-- The interpreter reaches the Atoll domain on E2's accesses: `f` acts on the state in which nothing is ahead of them. With LFCLK stopped
the request waits (R460), and with the domain unpowered an access ends in a bus error, for which the request answers FAULT (R461,
log entry 34). -/
def State.atoll (s : State) (f : State → Ans) : Ans :=
  let s1 := s.drain
  if !s.rtc.powered then s.refuse stFault
  else if s1.lfOn && s1.rtc.held.isEmpty then f s1
  else s.refuse stWaits

/-- E2 writes the word `v` to the register at `a`; a write to the Atoll domain arrives there in its turn (R21). -/
def State.e2Write (s : State) (a v : Nat) : State :=
  if isAtoll a then s.arrive e2 a (BitVec.ofNat 32 v) else s.writeReg e2 a (BitVec.ofNat 32 v)

/-- E2 writes words to registers in order. -/
def State.e2Writes (s : State) : List (Nat × Nat) → State
  | [] => s
  | (a, v) :: r => (s.e2Write a v).e2Writes r

/-- The opcodes of R500, without the expert bit. -/
def assignedOps : List Nat :=
  (List.range 12) ++ [0x0D, 0x0E, 0x0F, 0x10, 0x11, 0x12] ++ (List.range 7).map (0x20 + ·) ++ [0x30, 0x31, 0x32] ++
  (List.range 16).map (0x38 + ·) ++ [0x50, 0x51, 0x52] ++ (List.range 5).map (0x60 + ·) ++ (List.range 6).map (0x70 + ·) ++
  (List.range 5).map (0x78 + ·)

/-- The opcodes that HIF executes itself (R500). -/
def hifOps : List Nat := [3, 4, 5, 6]

/-- The opcodes of a SAFE start (R501). -/
def safeOps : List Nat := [0, 1, 2, 7, 0x0D, 0x0E, 0x0F, 0x20, 0x24, 0x25]

/-! ### Packets (R487 to R489) -/

/-- CRC of R489, most significant byte first. -/
def crcBytes (bs : List Byte) : List Byte := natBE 2 (crc16 bs)

/-- OPCODE to PAYLOAD of a request. -/
def reqBody (op : Nat) (seq : Byte) (p : List Byte) : List Byte := [BitVec.ofNat 8 op, seq] ++ natLE 2 p.length ++ p

/-- A reply packet (R488). -/
def replyPacket (op : Nat) (seq : Byte) (st : Nat) (d : List Byte) : List Byte :=
  let body := [BitVec.ofNat 8 op, seq, BitVec.ofNat 8 st] ++ natLE 2 d.length ++ d
  [0x5A] ++ body ++ crcBytes body

/-! ### Long requests (R492) -/

/-- A long opcode runs. -/
def State.longRuns (s : State) : Bool :=
  match s.hif.long with
  | some l => l.result.isNone
  | none => false

/-- The request `q` of opcode `op` has become the long one that runs. -/
def State.startLong (s : State) (q : OpIn) (op : Nat) (job : LongJob) : Ans :=
  let l : LongReq := { opcode := op + if q.expert then 128 else 0, seq := q.seq, owner := q.owner, desc := q.desc, job := job,
                       result := none }
  ({ s with regs := wrF s.regs HIF_STAT_LONG 1, hif := { s.hif with long := some l } }, stPending, [])

/-! ### System opcodes -/

/-- GET_INFO (R500). -/
def State.opGetInfo (s : State) (q : OpIn) : Ans :=
  if q.p.length ≠ 0 then s.refuse stBadLength
  else
    let d := s.vb 0x40000000 ++ natLE 8 Config.eui64.toNat ++ (s.vb 0x4000000C).take 1 ++ (s.vb 0x40010000).take 2 ++
      wordBytes (Config.fwVersion s.fw.updates) ++ s.vb 0x40000010 ++ s.vb 0x40000014
    let areas := (Config.recordAreas.take 300).flatMap (fun x => [x.1, x.2.1, x.2.2])
    (s, stOK, if q.expert then d ++ areas else d)

/-- ECHO (R500). -/
def State.opEcho (s : State) (q : OpIn) : Ans :=
  if (if q.expert then 1024 else 64) < q.p.length then s.refuse stBadLength
  else (s, if q.p.length = 0 then stOkEmpty else stOK, q.p)

/-- POLL (R493). -/
def State.opPoll (s : State) (q : OpIn) : Ans :=
  if q.p.length ≠ 1 then s.refuse stBadLength
  else
    match s.hif.long with
    | some l =>
      if l.owner ≠ 12 ∨ l.seq.toNat ≠ q.at 0 1 then s.refuse stBadParam
      else match l.result with
        | none => s.refuse stPending
        | some r => (s, stOK, [BitVec.ofNat 8 l.opcode, BitVec.ofNat 8 r.1] ++ r.2)
    | none => s.refuse stBadParam

/-! ### The data port's window (R502) -/

/-- The offset that a data-port request uses (R502). -/
def State.dpOff (s : State) (q : OpIn) : Nat := if q.at 0 1 % 2 = 1 then s.rd HIF_DPPTR_PTR else q.at 1 2

/-- FLAGS names a bit that R502 gives as 0, or the burst would pass the window's end. -/
def State.dpBad (s : State) (q : OpIn) (n : Nat) : Bool := decide (4 ≤ q.at 0 1 ∨ 65536 < s.dpOff q + n)

/-- AUTO: PTR advances by the bytes moved. -/
def State.dpAdvance (s : State) (q : OpIn) (n : Nat) : State :=
  if q.at 0 1 % 2 = 1 then s.wr HIF_DPPTR_PTR ((s.rd HIF_DPPTR_PTR + n) % 65536) else s

/-- RING: the doorbell that HIF_DPPTR names. -/
def State.dpRing (s : State) (q : OpIn) : State :=
  if q.at 0 1 / 2 % 2 = 1 then s.doorbell (s.rd HIF_DPPTR_DBENG) (2 ^ s.rd HIF_DPPTR_DBBIT) else s

/-- First address of the window (R30). -/
def State.dpBase (s : State) : Nat := s.rd HIF_DPBASE_BASE * 65536

/-- DP_READ in its basic form (R502, R503). -/
def State.opDpRead (s : State) (q : OpIn) : Ans :=
  let n := q.at 3 2
  if q.p.length ≠ 5 ∨ 1024 < n then s.refuse stBadLength
  else if s.dpBad q n then s.refuse stBadParam
  else if n = 0 then s.refuse stOkEmpty
  else (s.dpAdvance q n, stOK, s.sramBytes (s.dpBase + s.dpOff q) n)

/-- DP_WRITE in its basic form (R502, R503). -/
def State.opDpWrite (s : State) (q : OpIn) : Ans :=
  let d := q.p.drop 3
  if q.p.length < 3 then s.refuse stBadLength
  else if s.dpBad q d.length then s.refuse stBadParam
  else if d.length = 0 then s.refuse stOkEmpty
  else (((s.sramWrite (s.dpBase + s.dpOff q) d).dpAdvance q d.length).dpRing q, stOK, natLE 2 d.length)

/-- DBELL (R306, R500). -/
def State.opDbell (s : State) (q : OpIn) : Ans :=
  if q.p.length ≠ 2 then s.refuse stBadLength
  else if 11 < q.at 0 1 ∨ (!q.expert ∧ q.at 0 1 < 3) then s.refuse stBadParam
  else (s.doorbell (q.at 0 1) (q.at 1 1), stOK, [])

/-- EVENTS (R500). -/
def State.opEvents (s : State) (q : OpIn) : Ans :=
  if q.p.length ≠ (if q.expert then 4 else 0) then s.refuse stBadLength
  else
    let a := HIF_EVPEND_READY.addr
    let s1 : State := { s with regs := regSet s.regs a 0 }
    (if q.expert then s1.plainWrite HIF_EVEN_EN.addr (BitVec.ofNat 32 (q.at 0 4)) else s1, stOK, s.vb a)

/-! ### Reset, faults and engines -/

/-- RESET (R500): the open sheet of the Survey is closed (R512); the reset itself follows the reply. The expert form clears HIST and the FLT log. -/
def State.opReset (s : State) (q : OpIn) : Ans :=
  if q.p.length ≠ 1 then s.refuse stBadLength
  else if 1 < q.at 0 1 then s.refuse stBadParam
  else
    let s1 : State := if q.expert then
        ({ s with regs := wrF s.regs SYS_RSTCAUSE_HIST 0,
                  flt := { s.flt with log := List.replicate 16 .empty, written := 0 } } : State).fltSync
      else s
    let s2 := s1.svrCloseNow
    ({ s2 with hif := { s2.hif with after := some (.reset (q.at 0 1 == 1)) } }, stOK, [])

/-- The 16 bytes of FAULTS for log entry `e`. -/
def State.faultBytes (s : State) (e : Nat) : List Byte :=
  let x := s.flt.log.getD e .empty
  wordBytes x.word ++ natLE 4 x.addr ++ natLE 4 x.cycle ++ s.vb 0x4000E000

/-- FAULTS (R481, R500). The expert payload of 9 bytes names no entry, so the entry it returns is free (log entry 31). -/
def State.opFaults (s : State) (q : OpIn) : Ans :=
  if q.p.length ≠ (if q.expert then 9 else 1) then s.refuse stBadLength
  else if q.expert then
    if q.at 4 1 < 2 then s.refuse stDenied
    else if 10 < q.at 4 1 then s.refuse stBadParam
    else
      let s1 := (s.e2Write FLT_CFG_RTMO.addr (q.at 0 4)).e2Write (FLT_WDG_EN (q.at 4 1)).addr (q.at 5 4)
      (s1.took, stOK, s1.faultBytes (s1.freeBelow 16))
  else if 15 < q.at 0 1 then s.refuse stBadParam
  else (s, stOK, s.faultBytes (q.at 0 1))

/-- REPORT (R475, R500). -/
def State.opReport (s : State) (q : OpIn) : Ans :=
  let r := q.at 0 1
  let t := q.at 1 1
  if q.p.length ≠ 5 then s.refuse stBadLength
  else if !q.expert ∧ (r < 2 ∨ 10 < r ∨ 1 < t) then s.refuse stDenied
  else if 15 < r ∨ 3 < t then s.refuse stBadParam
  else (s.e2Write FLT_REPORT_TIER.addr (t * 2 ^ 30 + r * 2 ^ 24 + q.at 2 3), stOK, [])

/-- ENGINES (R300, R500): the expert form writes ENG_CMD with HIF as master; BUSY for a long opcode that runs comes after every error (R14,
R492). -/
def State.opEngines (s : State) (q : OpIn) : Ans :=
  if q.p.length ≠ (if q.expert then 7 else 0) then s.refuse stBadLength
  else if !q.expert then (s, stOK, s.vb 0x40010004 ++ s.vb 0x40010008 ++ s.vb 0x4001000C)
  else if 15 < q.at 0 1 ∨ 15 < q.at 1 1 ∨ 1 < q.at 2 1 ∨ 2 ^ 19 ≤ q.at 3 4 ∨ s.longRuns then
    let bad := decide (15 < q.at 0 1 ∨ 15 < q.at 1 1 ∨ 1 < q.at 2 1 ∨ 2 ^ 19 ≤ q.at 3 4)
    let st := match engOpOf (q.at 0 1) with
      | some o => s.engCmdStatus .hif o (q.at 1 1) (q.at 3 4 % 2 ^ 19) (q.at 2 1 == 1)
      | none => stBadParam
    s.refuse (firstStatus [(bad, stBadParam), (st != stOK, st), (s.longRuns, stBusy)])
  else
    let v := q.at 0 1 * 2 ^ 28 + q.at 1 1 * 2 ^ 24 + q.at 2 1 * 2 ^ 23 + q.at 3 4 * 4
    (s.writeReg .hif ENG_CMD_OP.addr (BitVec.ofNat 32 v)).startLong q 0x0A .engine

/-- DIV for the baud codes of HOST_CFG, by R485. -/
def baudDivs : List Nat := [55556, 27778, 13889, 6944, 4267, 2133]

/-- HOST_CFG (R485, R500): GAP and IRQPOL at once, the rate after the reply. -/
def State.opHostCfg (s : State) (q : OpIn) : Ans :=
  let gap := if q.expert then q.at 3 1 else q.at 1 1
  let set := fun (t : State) (div : Nat) =>
    ({ (t.wr HIF_CFG_GAP gap) with hif := { t.hif with after := some (.baud div) } } : State)
  if q.p.length ≠ (if q.expert then 4 else 2) then s.refuse stBadLength
  else if q.expert then
    if 1 < q.at 2 1 then s.refuse stBadParam
    else ((set s (max 2133 (q.at 0 2))).wr HIF_CFG_IRQPOL (q.at 2 1), stOK, [])
  else if 5 < q.at 0 1 then s.refuse stBadParam
  else (set s (baudDivs.getD (q.at 0 1) 55556), stOK, [])

/-! ### Expert level (R498, R499) -/

/-- Random bytes of the TRNG; `w` words leave those that wait. -/
def State.randomBytes (s : State) (n : Nat) : State × List Byte :=
  let w := (n + 3) / 4
  let have_ := s.rd CIP_RNGSTAT_AVAIL
  ((s.wr CIP_RNGSTAT_AVAIL (have_ - min have_ w)).took w,
   ((List.range w).flatMap (fun k => natLE 4 (Config.freeValue (s.free + k) % 2 ^ 32))).take n)

/-- UNLOCK_CHAL (R498). With fewer than four words ready, whether they come within 1 ms is a free value. -/
def State.opUnlockChal (s : State) (q : OpIn) : Ans :=
  if q.p.length ≠ 0 then s.refuse stBadLength
  else
    let s1 : State := { s with hif := { s.hif with nonce := none } }
    if s.cip.trng = 2 then s1.refuse stFault
    else if s.cip.trng = 0 then s1.refuse stBusy
    else
      let late := decide (s1.rd CIP_RNGSTAT_AVAIL < 4)
      let s2 := if late then s1.took else s1
      if late && s1.freeBelow 2 == 1 then s2.refuse stBusy
      else
        let x := s2.randomBytes 16
        ({ x.1 with hif := { x.1.hif with nonce := some (x.2, s.fltNow) } }, stOK, x.2)

/-- The unlock is set (R498). -/
def State.grant (s : State) : Ans :=
  ({ (s.wr HIF_EXPERT_UNLOCK 1) with hif := { s.hif with expertAt := s.fltNow } }, stOK, [])

/-- The tag that unlocks (R498). -/
def unlockTag (key nonce : List Byte) : List Byte := (cmac key (nonce ++ natBE 8 Config.eui64.toNat)).take 8

/-- UNLOCK (R498). -/
def State.opUnlock (s : State) (q : OpIn) : Ans :=
  let keyset := s.rdB HIF_EXPERT_KEYSET
  if q.p.length ≠ (if keyset then 8 else 0) then s.refuse stBadLength
  else if !keyset then s.grant
  else
    let s1 : State := { s with hif := { s.hif with nonce := none } }
    let barred : Bool := match s.hif.barred with | some t => decide (s.fltNow < t + 60 * 400000000) | none => false
    let fresh := match s.hif.nonce with
      | some n => if s.fltNow ≤ n.2 + 10 * 400000000 then some n.1 else none
      | none => none
    if barred then s1.refuse stDenied
    else
      match fresh with
      | none => s1.refuse stBadState
      | some nonce =>
        if unlockTag (s.fw.expertKey.getD []) nonce = q.p then
          ({ (s1.wr HIF_EXPERT_FAILS 0) with hif := { s1.hif with barred := none } } : State).grant
        else
          let n := min 255 (s.rd HIF_EXPERT_FAILS + 1)
          ({ (s1.wr HIF_EXPERT_FAILS n) with hif := { s1.hif with barred := if 3 ≤ n then some s.fltNow else none } } : State).refuse stDenied

/-- LOCK (R499). -/
def State.opLock (s : State) (q : OpIn) : Ans :=
  if q.p.length ≠ 0 then s.refuse stBadLength else (s.wr HIF_EXPERT_UNLOCK 0, stOK, [])

/-! ### Power -/

/-- PWR_STATUS (R451, R500). -/
def State.opPwrStatus (s : State) (q : OpIn) : Ans :=
  if q.p.length ≠ (if q.expert then 24 else 0) then s.refuse stBadLength
  else s.atoll (fun s =>
    let s1 := if q.expert then
        s.e2Writes [(0x40001000, q.at 0 4), (0x40001010, q.at 4 4), (0x40001014, q.at 8 4), (0x40001018, q.at 12 4),
          (0x4000101C, q.at 16 4), (0x40001040, q.at 20 4)]
      else s
    (s1, stOK, s1.vb 0x40001004 ++ s1.vb 0x40001044 ++ s1.vb 0x40001024))

/-- PWR_LEVEL (R432, R500). -/
def State.opPwrLevel (s : State) (q : OpIn) : Ans :=
  let f := q.at 0 1
  let c := q.at 1 1
  if q.p.length ≠ 2 then s.refuse stBadLength
  else if 3 < f ∨ 3 < c ∨ (!q.expert ∧ (f ≠ c ∨ f = 0)) then s.refuse stBadParam
  else
    let s1 := (s.e2Write PWR_LEVEL_FENG.addr (c * 16 + f)).commit e2 .pwr
    (s1, stOK, [BitVec.ofNat 8 (s1.rd PWR_COMMIT_STATUS)])

/-- PWR_OFF (R447, R500, R512): the open sheet closes; the wake enables now, the power after the reply. -/
def State.opPwrOff (s : State) (q : OpIn) : Ans :=
  if q.p.length ≠ (if q.expert then 7 else 1) then s.refuse stBadLength
  else s.atoll (fun s =>
    let s1 := s.e2Write PWR_WAKEEN_EN.addr (q.at 0 1)
    let s2 := if q.expert then s1.e2Writes [(PWR_TIMER_LO_TICK.addr, q.at 1 4), (PWR_TIMER_HI_TICK.addr, q.at 5 2)] else s1
    let s3 := s2.svrCloseNow
    ({ s3 with hif := { s3.hif with after := some .off } }, stOK, []))

end Sys2Proof.Machine
end

