-- ==== Sys2Proof/Machine/HostFlash.lean ====
section
/-!
DEFINITION. The flash opcodes of the command interpreter (R364 to R379, R500): reads and raw reads, PROGRAM, ERASE and MARGIN for the
host, block information, the signed update and the user images.
-/
namespace Sys2Proof.Machine

/-! ### Reads -/

/-- The code words from window offset `off` on, a multiple of 32, read by E2: their bytes, or the status of the first that fails or
waits. -/
def State.readLines (s : State) (off : Nat) : Nat → State × Nat × List Byte
  | 0 => (s, stOK, [])
  | n + 1 =>
    match s.bufRead 2 off with
    | (.data l, s1) =>
      let x := s1.readLines (off + 32) n
      (x.1, x.2.1, l ++ x.2.2)
    | (.err st, s1) => (s1, st, [])
    | (.waits, s1) => (s1, stWaits, [])

/-- The 272 bits of a code word as PROGRAM leaves them (R360, R369): data, check bits, and the six flag bits at 0. -/
def codeBits (data : List Byte) : Nat := leNat data + (Config.eccBits (leNat data)).toNat * 2 ^ 256

/-- The 34 raw bytes of a code word (R360). One bit of a corrected word is other than it was programmed, a data or a check bit, and which one is
free; of a word that cannot be corrected, every bit is free but that some flag bit reads 0. -/
def rawWord (free : Nat) (w : Option CodeWord) : List Byte :=
  match w with
  | none => List.replicate 34 0xFF
  | some c =>
    match c.err with
    | none => natLE 34 (codeBits c.data)
    | some false => natLE 34 (codeBits c.data ^^^ 2 ^ (Config.freeValue free % 266))
    | some true => natLE 34 (Config.freeValue free % 2 ^ 266 + Config.freeValue free / 2 ^ 266 % 63 * 2 ^ 266)

/-- Raw code words from window offset `off` on. -/
def State.readRaw (s : State) (off : Nat) : Nat → State × Nat × List Byte
  | 0 => (s, stOK, [])
  | n + 1 =>
    match s.bufRead 2 off with
    | (.data _, s1) =>
      let d := if s1.flc.erasing off then natLE 34 (Config.freeValue s1.free) else rawWord s1.free (s1.flc.wordSeen (off / 32))
      let x := s1.took.readRaw (off + 32) n
      (x.1, x.2.1, d ++ x.2.2)
    | (.err st, s1) => (s1, st, [])
    | (.waits, s1) => (s1, stWaits, [])

/-- FL_READ (R500). -/
def State.opFlRead (s : State) (q : OpIn) : Ans :=
  let a := q.at 0 4
  let n := q.at 4 2
  if q.p.length ≠ 6 ∨ (if q.expert then 30 else 1024) < n then s.refuse stBadLength
  else if !inWindow a ∨ (n ≠ 0 ∧ !inWindow (a + (if q.expert then 32 * n else n) - 1)) ∨ (q.expert ∧ a % 32 ≠ 0) then s.refuse stBadParam
  else if n = 0 then s.refuse stOkEmpty
  else if q.expert then
    let x := s.readRaw (winOff a) n
    (if x.2.1 = stWaits then s else x.1, x.2.1, if x.2.1 = stOK then x.2.2 else [])
  else
    let k := winOff a % 32
    let x := s.readLines (winOff a - k) ((k + n + 31) / 32)
    (if x.2.1 = stWaits then s else x.1, x.2.1, if x.2.1 = stOK then (x.2.2.drop k).take n else [])

/-! ### Operations -/

/-- Block number `blk` belongs to vendor firmware's records. -/
def inRecords (blk : Nat) : Bool :=
  Config.recordAreas.any (fun x => decide (x.1.toNat * 128 + x.2.1.toNat ≤ blk ∧ blk < x.1.toNat * 128 + x.2.1.toNat + x.2.2.toNat))

/-- The interpreter may not operate on the block at window address `a` (FL_PROGRAM of R500): blocks that R364 reserves, and for a basic
request those of vendor firmware's records. -/
def OpIn.blockDenied (q : OpIn) (a : Nat) : Bool :=
  let blk := blockOf (winOff a)
  inWindow a && (blk % 128 == 127 || decide (blk < 32) || (!q.expert && inRecords blk))

/-- Status of an operation of the interpreter on the flash (R366). -/
def State.opFlashStatus (s : State) (q : OpIn) (op dst len : Nat) : Nat :=
  if q.blockDenied dst then stDenied else s.flashStatus 2 none op (s.rd HIF_BUFBASE_BASE * 4096) dst len

/-- An operation of the interpreter runs to its end: words and status. -/
def State.flashNow (s : State) (op dst : Nat) (data : List Byte) (bad : Option (Fin 2048 × Bool)) : State × Nat × Nat :=
  let s1 := s.flashStart 2 op dst data
  match s1.flc.op with
  | some o =>
    let x := s1.flashFinish o (bad.map (fun b => (b.1.val, b.2)))
    (x.1.svrFlashDone o x.2.2, x.2)
  | none => (s1, 0, stInternal)

/-- FL_PROGRAM (R369, R500). -/
def State.opFlProgram (s : State) (q : OpIn) : Ans :=
  let d := q.p.drop 4
  if q.p.length < 36 ∨ 996 < q.p.length ∨ d.length % 32 ≠ 0 then s.refuse stBadLength
  else
    let st := s.opFlashStatus q 1 (q.at 0 4) d.length
    if st ≠ stOK then s.refuse st
    else
      let x := s.flashNow 1 (q.at 0 4) d q.env.bad
      (x.1, x.2.2, natLE 2 x.2.1)

/-- FL_ERASE (R371, R500). -/
def State.opFlErase (s : State) (q : OpIn) : Ans :=
  if q.p.length ≠ 4 then s.refuse stBadLength
  else
    let st := s.opFlashStatus q 2 (q.at 0 4) 0
    if st ≠ stOK then s.refuse st
    else if s.longRuns then s.refuse stBusy
    else (s.flashStart 2 2 (q.at 0 4) []).startLong q 0x22 .erase

/-- FL_MARGIN (R379, R500). -/
def State.opFlMargin (s : State) (q : OpIn) : Ans :=
  if q.p.length ≠ 4 then s.refuse stBadLength
  else
    let st := s.flashStatus 2 none 3 0 (q.at 0 4) 0
    if st ≠ stOK then s.refuse st
    else
      let x := s.flashNow 3 (q.at 0 4) [] q.env.bad
      (x.1, x.2.2, [])

/-- FL_BLOCK (R382, R500). -/
def State.opFlBlock (s : State) (q : OpIn) : Ans :=
  let b := q.at 0 1
  let k := q.at 1 1
  if q.p.length ≠ 2 then s.refuse stBadLength
  else if 7 < b ∨ 127 < k then s.refuse stBadParam
  else
    let t := s.eraseGoes
    let d := wordBytes (t.blkInfo b k)
    (t, stOK, if q.expert then d ++ t.vb (FLC_JRN_FREE b).addr ++ t.vb FLC_ERSTAT_SUSP.addr else d)

/-! ### The update and the images -/

/-- Puts received bytes into the image by their offsets. -/
def imagePut (m : List Host.Cell) (off : Nat) (bs : List Byte) : List Host.Cell := writeBytes (fun _ => 0) m off bs

/-- FW_UPDATE (R500): phase 0 gives the length, phase 1 bytes, phase 2 the signature. -/
def State.opFwUpdate (s : State) (q : OpIn) : Ans :=
  let ph := q.at 0 1
  let n := q.p.length
  if n = 0 ∨ (ph = 0 ∧ n ≠ 5) ∨ (ph = 1 ∧ (n < 5 ∨ 1021 < n)) ∨ (ph = 2 ∧ n ≠ 65) then s.refuse stBadLength
  else if ph = 0 then
    if 0x200000 < q.at 1 4 then s.refuse stBadParam
    else if s.longRuns then s.refuse stBusy
    else if q.at 1 4 = 0 then s.refuse stOkEmpty
    else ({ s with hif := { s.hif with update := some (q.at 1 4, []) } }, stOK, [])
  else if ph = 1 then
    match s.hif.update with
    | none => s.refuse stBadState
    | some (len, m) =>
      if len < q.at 1 4 + (n - 5) then s.refuse stBadParam
      else if s.longRuns then s.refuse stBusy
      else if n = 5 then s.refuse stOkEmpty
      else ({ s with hif := { s.hif with update := some (len, imagePut m (q.at 1 4) (q.p.drop 5)) } }, stOK, [])
  else if ph = 2 then
    if s.hif.update.isNone then s.refuse stBadState
    else if s.longRuns then s.refuse stBusy
    else s.startLong q 0x25 (.update q.expert)
  else s.refuse stBadParam

/-- The vendor firmware area is erased, block after block, and the image programmed (R364, R500). -/
def Flc.putFirmware (f : Flc) (len : Nat) (m : List Host.Cell) : Flc × List Nat :=
  let x := (List.range 32).foldl (fun (x : Flc × List Nat) k =>
    let y := x.1.eraseBegin 0 k
    (y.1.eraseEnd 0 k, x.2 ++ y.2)) (f, [])
  let n := (len + 31) / 32
  ((List.range n).foldl (fun g w =>
    { g with words := putCodeWord g.words w { data := readBytes (fun _ => 0) m (32 * w) 32, err := none } }) x.1, x.2)

/-- The verified image is in the flash, and the device cold-starts (R500); a SAFE start stays one (R476). -/
def State.updateDone (s : State) : State :=
  match s.hif.update with
  | some (len, m) =>
    let x := s.flc.putFirmware len m
    (({ s with flc := x.1, regs := rollRegs x.2 (jrnRegs x.1 s.regs), fw := { s.fw with updates := s.fw.updates + 1 } } : State).writeRecord).deviceReset
      8 true (s.safeKept 8)
  | none => s

/-- IMAGE_SET (R26, R500). -/
def State.opImageSet (s : State) (q : OpIn) : Ans :=
  let e := q.at 0 1
  let a := q.at 1 4
  let n := q.at 5 4
  if q.p.length ≠ 9 then s.refuse stBadLength
  else if e < 3 ∨ 11 < e ∨ !inWindow a ∨ a % 4 ≠ 0 ∨ n % 4 ≠ 0 ∨ 65536 < n ∨ (n ≠ 0 ∧ !inWindow (a + n - 1)) then s.refuse stBadParam
  else if n = 0 then s.refuse stOkEmpty
  else ({ s with fw := { s.fw with images := s.fw.images.filter (fun i => i.1 ≠ e) ++ [(e, a, n)] } }, stOK, [])

end Sys2Proof.Machine
end

