-- ==== Sys2Proof/Machine/HostMesh.lean ====
section
/-!
DEFINITION. The mesh and scheduling opcodes of the command interpreter (R165, R229, R231, R244, R247, R250, R500).
-/
namespace Sys2Proof.Machine

/-! ### Status and neighbours -/

/-- MESH_STATUS (R500). -/
def State.opMeshStatus (s : State) (q : OpIn) : Ans :=
  if q.p.length ≠ 0 then s.refuse stBadLength
  else
    let up := s.parentIdx.map s.nbr
    let d := [BitVec.ofNat 8 (s.rd SYS_ROLE_ROLE)] ++ natLE 2 (s.rd MAC_ADDR_MESHID) ++ natLE 2 (s.rd MAC_ADDR_SHORT) ++
      [BitVec.ofNat 8 s.ownRank] ++ natLE 2 ((up.map (·.short)).getD 0xFFFF) ++ [BitVec.ofNat 8 (s.rd MER_STAT_STATE)] ++
      natLE 2 s.mesh.children.length ++ [BitVec.ofNat 8 ((up.map (·.link.code)).getD 0)]
    (s, stOK, if q.expert then d ++ s.vb MER_SYNCERR_ERR.addr ++ s.vb MER_ZCERR_ZCERR.addr else d)

/-- The 24 bytes of NEIGHBOUR (R500, log entry 32). -/
def Nbr.bytes (n : Nbr) : List Byte :=
  natLE 8 n.eui ++ natLE 2 n.short ++ [BitVec.ofNat 8 n.cls, BitVec.ofNat 8 n.link.code] ++ natLE 2 n.missed ++
    natLE 4 (merCycle n.last) ++ natLE 2 (merPhase n.last) ++ natLE 4 (min n.dups 65535)

/-- NEIGHBOUR (R165, R500): the expert form writes MAC_NBEUI, MAC_NBCFG and MAC_NBPWR of the entry. -/
def State.opNeighbour (s : State) (q : OpIn) : Ans :=
  let i := q.at 0 1
  if q.p.length ≠ (if q.expert then 25 else 1) then s.refuse stBadLength
  else if q.expert then
    let s1 := s.writeNbr i (q.at 1 8) (BitVec.ofNat 32 (q.at 9 4))
    let s2 := s1.putNbr i { s1.nbr i with ackPwr := q.at 13 1 }
    (s2, stOK, (s2.nbr i).bytes)
  else (s, stOK, (s.nbr i).bytes)

/-! ### Commissioning and joining -/

/-- A join key that the host has wrapped under slot 15 (R389, R393). -/
def State.hostUnwrap (s : State) (w : List Byte) : Option (List Byte) :=
  unwrapKey (s.slot 15).key (natBE 8 Config.hostHeader.toNat) w

/-- An unwrap for the host has failed: DENIED, and KEYERR fires (R393, R406). The slot concerned is free where none is named. -/
def State.unwrapFailed (s : State) (slot : Option Nat) : Ans := (s.cipRefuse 2 stDenied slot).refuse stDenied

/-- The policy of the join key (R229, R384, R393, R394): CMAC, both directions, KEK and the use by E2; a link key it is not. The other bits
are vendor firmware's choice. -/
def joinPol : Nat :=
  ((Config.joinPolicy ||| BitVec.ofNat 32 (2 ^ (CIP_KPOL_MODES.lsb + 1) + 2 ^ CIP_KPOL_ENC.lsb + 2 ^ CIP_KPOL_DEC.lsb + 2 ^ CIP_KPOL_KEK.lsb +
    2 ^ (CIP_KPOL_USERS.lsb + 2))) &&& ~~~(BitVec.ofNat 32 (2 ^ CIP_KPOL_LINK.lsb))).toNat

/-- What COMMISSION leaves in vendor firmware's flash records (R2, R229). -/
def Fw.commission (f : Fw) (role meshid : Nat) (key : List Byte) : Fw :=
  { f with role := role, commissioned := true, meshid := meshid,
           keys := [{ slot := joinSlot, klen := 0, pol := joinPol, key := key }],
           parent := none, short := 0xFFFE, rank := 0, members := [], joinKeys := [], chartRegs := [] }

/-- COMMISSION (R2, R229, R415, R500, R512): the device cold-starts after the reply. -/
def State.opCommission (s : State) (q : OpIn) : Ans :=
  if q.p.length ≠ 27 then s.refuse stBadLength
  else match s.hostUnwrap (q.p.drop 3) with
    | none => s.unwrapFailed (some joinSlot)
    | some key =>
      if s.fw.commissioned ∧ !q.expert then s.refuse stBadState
      else if 2 < q.at 0 1 then s.refuse stBadParam
      else s.atoll (fun s =>
        let s1 := (s.svrCloseNow.hold e2 0x40005080 0).drain
        ({ s1 with fw := s1.fw.commission (q.at 0 1) (q.at 1 2) key,
                   hif := { s1.hif with after := some .commission } }, stOK, []))

/-- JOIN (R244, R500): a worker that has not joined scans; the expert form names the candidate. -/
def State.opJoin (s : State) (q : OpIn) : Ans :=
  if q.p.length ≠ (if q.expert then 2 else 0) then s.refuse stBadLength
  else if s.isManager ∨ !s.fw.commissioned ∨ s.mesh.phase = .operational ∨ s.mesh.phase = .joined then s.refuse stBadState
  else
    let m : Mesh := { s.mesh with phase := .listen, cands := [], tried := [], chosen := none,
                                  named := if q.expert then some (q.at 0 2) else none, heard := false, refused := false,
                                  searchEnd := s.tclk + 80000000 }
    (({ s with mesh := m } : State).wr MAC_CFG_OPEN 1, stOK, [])

/-- The join keys that the manager holds. -/
def State.putJoinKeys (s : State) (l : List (Nat × List Byte)) : State :=
  { s with mesh := { s.mesh with joinKeys := l }, fw := { s.fw with joinKeys := l } }

/-- MEMBER_KEY (R229, R500): the expert form with an empty key removes the worker. -/
def State.opMemberKey (s : State) (q : OpIn) : Ans :=
  let eui := q.at 0 8
  let rest := s.mesh.joinKeys.filter (fun k => k.1 ≠ eui)
  if q.p.length = 8 ∧ q.expert then
    if !s.isManager then s.refuse stBadState
    else
      let ms := s.mesh.members.filter (fun x => x.eui ≠ eui)
      let s1 := s.putJoinKeys rest
      ({ s1 with mesh := { s1.mesh with members := ms }, fw := { s1.fw with members := ms } }, stOK, [])
  else if q.p.length ≠ 32 then s.refuse stBadLength
  else match s.hostUnwrap (q.p.drop 8) with
    | none => s.unwrapFailed none
    | some key => if !s.isManager then s.refuse stBadState else (s.putJoinKeys (rest ++ [(eui, key)]), stOK, [])

/-- A membership record of 32 bytes (R231, log entry 32). -/
def Member.bytes (x : Member) : List Byte :=
  natLE 8 x.eui ++ natLE 2 x.short ++ natLE 2 x.parent ++ [BitVec.ofNat 8 x.rank, BitVec.ofNat 8 (b2n x.leaf + 2 * b2n x.detached)] ++
    List.replicate 18 0

/-- MEMBERS (R231, R500). -/
def State.opMembers (s : State) (q : OpIn) : Ans :=
  let n := q.at 2 1
  if q.p.length ≠ 3 then s.refuse stBadLength
  else if !s.isManager then s.refuse stBadState
  else if 31 < n then s.refuse stBadParam
  else
    let l := (s.mesh.members.drop (q.at 0 2)).take n
    (s, if l = [] then stOkEmpty else stOK, l.flatMap Member.bytes)

/-! ### Assured flows (R250) -/

/-- The lowest flow number that is free. -/
def freeFlow (l : List Flow) : Nat → Nat → Option Nat
  | 0, _ => none
  | n + 1, k => if l.any (fun f => f.id == k) then freeFlow l n (k + 1) else some k

/-- A flow is admitted over two paths (R250): every node of both is owed a set of CHART_SETs, and at the manager as source E0/E1 take
the two next hops. -/
def State.admitFlow (s : State) (f : Flow) : State :=
  let m := s.mesh
  let srcs := if f.src = s.rd MAC_ADDR_SHORT then m.srcs ++ (s.flowHops f).toList else m.srcs
  { s with mesh := { m with flows := m.flows ++ [f], needs := addNeeds m.needs (f.pathA ++ f.pathB), srcs := srcs } }

/-- The two paths that an expert ASSURED names: a count and short addresses, twice. -/
def OpIn.twoPaths (q : OpIn) : List Nat × List Nat :=
  let n := q.at 8 1
  let path := fun o k : Nat => (List.range k).map (fun i => q.at (o + 2 * i) 2)
  (path 9 n, path (10 + 2 * n) (q.at (9 + 2 * n) 1))

/-- The length of an ASSURED payload is right. -/
def OpIn.assuredLen (q : OpIn) : Bool :=
  if q.expert then
    decide (10 ≤ q.p.length) && q.p.length == 10 + 2 * q.at 8 1 + 2 * q.at (9 + 2 * q.at 8 1) 1
  else q.p.length == 8

/-- ASSURED (R250, R500). Which of several pairs the manager takes is free. -/
def State.opAssured (s : State) (q : OpIn) : Ans :=
  let src := q.at 0 2
  let dst := q.at 2 2
  let m := s.mesh
  let known := fun a : Nat => a == 0 || m.members.any (fun x => x.short == a)
  if !q.assuredLen then s.refuse stBadLength
  else if !s.isManager then s.refuse stBadState
  else if !known src ∨ !known dst ∨ src = dst ∨ q.at 4 2 = 0 then s.refuse stBadParam
  else
    let all := m.pairs src dst
    let pick := if q.expert then (if all.contains q.twoPaths then some q.twoPaths else none)
      else all[s.freeBelow all.length]?
    match pick, freeFlow m.flows 256 0 with
    | none, _ => s.refuse stNotAdmitted
    | some _, none => s.refuse stBusy
    | some p, some id =>
      ((s.admitFlow { id := id, src := src, dst := dst, period := q.at 4 2, deadline := q.at 6 2, pathA := p.1,
                      pathB := p.2 }).took, stOK, [BitVec.ofNat 8 id])

/-! ### Frames, Charts, queues -/

/-- The descriptor of SEND (R166, R500): the request's NB, FLAGS and POWER; the rest is the interpreter's. -/
def OpIn.sendDesc (q : OpIn) (buf len key : Nat) : List Byte :=
  let tx := q.env.tx
  natLE 4 buf ++ natLE 2 len ++ [BitVec.ofNat 8 (q.at 2 1), BitVec.ofNat 8 (q.at 3 1), 3, 0, BitVec.ofNat 8 (q.at 4 1),
    BitVec.ofNat 8 tx.retry] ++ (if q.expert then natLE 6 (q.at 5 6) else natLE 4 (merCycle tx.due) ++ natLE 2 (merPhase tx.due)) ++
    [BitVec.ofNat 8 key, BitVec.ofNat 8 tx.entry.val] ++ List.replicate 12 0

/-- SEND (R211, R500): the interpreter enqueues the frame as E2 and answers SHP's status; an error of its own takes its place among SHP's
by R14, and a queue beyond the table is judged as Q7. -/
def State.opSend (s : State) (q : OpIn) : Ans :=
  let k := if q.expert then 11 else 5
  let f := q.p.drop k
  if q.p.length < k ∨ 960 < f.length then s.refuse stBadLength
  else if 1 < q.at 0 1 then s.refuse stBadParam
  else
    let b : Band := if q.at 0 1 = 0 then .sg else .g24
    let buf := sramBase + q.env.tx.buf % 0x1F0000
    let desc := sramBase + q.env.tx.desc % 0x1F0000 / 4 * 4
    let s1 := (s.sramWrite buf f).sramWrite desc (q.sendDesc buf f.length (s.nbr (q.at 2 1)).key0)
    let v := BitVec.ofNat 32 (desc - sramBase)
    if 7 < q.at 1 1 ∨ (!q.expert ∧ q.at 1 1 < 5) then
      let st := (s1.enqStatus b (min (q.at 1 1) 7) v).1
      s.refuse (firstStatus [(true, stBadParam), (st != stOK, st)])
    else
    let s2 := s1.enqueue 2 b (q.at 1 1) v
    s2.refuse (s2.rd (SHP_ENQRES_STATUS 2))

/-- The length that a CHART_SET payload should have (R247). -/
def chartLen (p : List Byte) : Nat :=
  let n := bytesAt p 3 1
  match bytesAt p 1 1 / 2 % 4 with
  | 0 => 8 + 4 * n
  | 1 | 2 => 8 + 8 * n
  | _ => if n = 0 then 8 else 16

/-- A CHART_SET payload names an item beyond its table, or more than R247 allows. -/
def chartBad (p : List Byte) : Bool :=
  let n := bytesAt p 3 1
  let i := bytesAt p 2 1
  bytesAt p 0 1 != 0x15 || decide (16 ≤ bytesAt p 1 1) ||
  (match bytesAt p 1 1 / 2 % 4 with
   | 0 => decide (15 < n ∨ 256 < i + n)
   | 1 => decide (7 < n ∨ 32 < i + n)
   | 2 => decide (7 < n ∨ 8 < i + n)
   | _ => decide (1 < n))

/-- CHART_GET (R199, R247, R500): the expert form writes the items of a CHART_SET payload and commits. -/
def State.opChartGet (s : State) (q : OpIn) : Ans :=
  if q.expert then
    if q.p.length < 8 ∨ q.p.length ≠ chartLen q.p then s.refuse stBadLength
    else if !s.isManager ∧ (s.mesh.phase = .operational ∨ s.mesh.phase = .joined) then s.refuse stBadState
    else if chartBad q.p then s.refuse stBadParam
    else if q.at 3 1 = 0 then s.refuse stOkEmpty
    else
      let s1 := ((chartItems q.p).foldl (fun t w => t.plainWrite w.1 w.2) s).commitShp
      let st := s1.rd SHP_COMMIT_STATUS
      s1.refuse (if st = stPending then stOK else st)
  else
    let b : Band := if q.at 0 1 = 0 then .sg else .g24
    let n := q.at 2 1
    if q.p.length ≠ 3 then s.refuse stBadLength
    else if 1 < q.at 0 1 ∨ 128 < n ∨ 256 < q.at 1 1 + n then s.refuse stBadParam
    else if n = 0 then s.refuse stOkEmpty
    else (s, stOK, s.vb (SHP_CHCFG_LEN b).addr ++ s.vb (SHP_LEAD_LEAD b).addr ++
      (List.range n).flatMap (fun i => s.vb (SHP_CHE_DUR b (q.at 1 1 + i)).addr))

/-- QUEUES (R225, R500). -/
def State.opQueues (s : State) (q : OpIn) : Ans :=
  let a := 0x4000B080 + 0x40 * q.at 0 1
  if q.p.length ≠ (if q.expert then 9 else 1) then s.refuse stBadLength
  else if 1 < q.at 0 1 then s.refuse stBadParam
  else
    let s1 := if q.expert then s.e2Writes [(a + 0x30, q.at 1 4), (a + 0x34, q.at 5 4)] else s
    (s1, stOK, s1.vb (a + 0x38) ++ s1.vb (a + 0x3C) ++ s1.vb (a + 0x0C) ++ s1.vb (SHP_ENQRES_STATUS 12).addr)

/-- POLICER (R221, R500). -/
def State.opPolicer (s : State) (q : OpIn) : Ans :=
  let a := 0x4000B100 + 16 * q.at 0 1
  if q.p.length ≠ (if q.expert then 9 else 1) then s.refuse stBadLength
  else if 63 < q.at 0 1 then s.refuse stBadParam
  else
    let s1 := if q.expert then s.e2Writes [(a, q.at 1 4), (a + 4, q.at 5 4)] else s
    (s1, stOK, s1.vb a ++ s1.vb (a + 4) ++ s1.vb (a + 8) ++ s1.vb (a + 12))

end Sys2Proof.Machine
end

