-- ==== Sys2Proof/Machine/HostKeys.lean ====
section
/-!
DEFINITION. The security, calendar and Survey opcodes of the command interpreter (R387 to R399, R412 to R426, R500, R519 to R521).
-/
namespace Sys2Proof.Machine

/-! ### Security -/

/-- KEY_INFO (R408, R500). -/
def State.opKeyInfo (s : State) (q : OpIn) : Ans :=
  let k := q.at 0 1
  if q.p.length ≠ 1 then s.refuse stBadLength
  else if 15 < k then s.refuse stBadParam
  else
    let d := wordBytes (s.kinfo k) ++ natLE 4 (s.slot k).pol
    (s, stOK, if q.expert then d ++ s.vb CIP_LASTERR_SLOT.addr else d)

/-- The UNWRAP job that KEY_LOAD stands for, issued by E2 (R390, R395); its ranges are the interpreter's own. -/
def OpIn.unwrapJob (q : OpIn) (s : State) : CipJob :=
  let buf := s.rd HIF_BUFBASE_BASE * 4096
  { owner := 2, op := 9, slot := q.at 0 1, inv := false, tagLen := 0, nLen := q.at 1 1 + 16 * q.at 2 1, src := buf, dst := buf,
    len := q.p.length - 7, aad := buf, aadLen := 0, iv := buf, tag := q.at 3 4, key := none, held := [] }

/-- KEY_LOAD (R391, R393, R395, R500). -/
def State.opKeyLoad (s : State) (q : OpIn) : Ans :=
  if q.p.length ≠ 31 ∧ q.p.length ≠ 47 then s.refuse stBadLength
  else
    let j := q.unwrapJob s
    let st := s.jobStatus j
    if st = stDenied then s.unwrapFailed (some j.slot)
    else if statusRank st < statusRank stBadParam then s.refuse st
    else if 15 < q.at 0 1 ∨ 15 < q.at 1 1 ∨ 1 < q.at 2 1 then s.refuse stBadParam
    else if st ≠ stOK then s.refuse st
    else
      let x := s.unwrapInto 2 (s.slot j.slot).key (natBE 8 Config.hostHeader.toNat) (q.p.drop 7) j.target j.pair (policyWord j.tag)
      x.1.refuse x.2

/-- KEY_ERASE (R387, R500). -/
def State.opKeyErase (s : State) (q : OpIn) : Ans :=
  let k := q.at 0 1
  let mine := CIP_KPOL_USERS.of (BitVec.ofNat 32 (s.slot k).pol) / 2 ^ 12 % 2 = 1
  if q.p.length ≠ 1 then s.refuse stBadLength
  else if k ≤ 15 ∧ !q.expert ∧ !mine then s.refuse stDenied
  else if 15 < k then s.refuse stBadParam
  else if k = 15 ∨ (s.slot k).has CIP_KPOL_LOCK then (s.keyErase e2 k).refuse stDenied
  else (s.keyErase e2 k, stOK, [])

/-- EXPERT_KEY (R498, R500). -/
def State.opExpertKey (s : State) (q : OpIn) : Ans :=
  if q.p.length ≠ 24 ∧ q.p.length ≠ 40 then s.refuse stBadLength
  else if s.rdB HIF_EXPERT_KEYSET ∧ !q.expert then s.refuse stDenied
  else match s.hostUnwrap q.p with
    | none => s.unwrapFailed none
    | some key => ({ (s.wr HIF_EXPERT_KEYSET 1) with fw := { s.fw with expertKey := some key } }, stOK, [])

/-- RANDOM (R398, R399, R500). -/
def State.opRandom (s : State) (q : OpIn) : Ans :=
  let n := q.at 0 2
  if q.p.length ≠ 2 ∨ (if q.expert then 1024 else 64) < n then s.refuse stBadLength
  else if s.cip.trng = 2 then s.refuse stFault
  else if s.cip.trng = 0 then s.refuse stBusy
  else if n = 0 then s.refuse stOkEmpty
  else
    let x := s.randomBytes n
    (x.1, stOK, x.2)

/-! ### Calendar -/

/-- The status with which the calendar opcodes return their data (R412). -/
def State.calStatus (s : State) : Nat := if s.rdB RTC_STAT_TLOST then stTimeLost else stOK

/-- TIME_GET (R418, R500). -/
def State.opTimeGet (s : State) (q : OpIn) : Ans :=
  if q.p.length ≠ 0 then s.refuse stBadLength
  else s.atoll (fun s =>
    let s1 := s.timeRead
    (s1, s.calStatus, wordBytes s1.busData ++ s1.vb 0x40005008 ++ s1.vb 0x4000500C ++ s1.vb 0x40005000))

/-- A set through the staging registers `ws` and RTC_SETCMD with the parts `cmd`, taken at the next LFCLK edge (R420, R421). While a set
is under way it is BUSY, after the set's own refusals in the order of R14. -/
def State.calSet (s : State) (ws : List (Nat × Nat)) (cmd : Nat) : Ans :=
  s.atoll (fun s =>
    let put := fun a : Nat => ((ws.lookup a).map (BitVec.ofNat 32)).getD (regGet s.regs a)
    let p : RtcSet := { date := cmd % 2 == 1, time := cmd / 2 % 2 == 1, alarm := cmd / 4 % 2 == 1, setTime := put 0x40005018,
                        setDate := put 0x4000501C, almTime := put 0x40005020, almDate := put 0x40005024, almCfg := put 0x40005028 }
    let st := p.status (s.tlostAfter p)
    if s.rdB RTC_SETSTAT_BUSY then s.refuse (if st = stBadParam ∨ st = stDateInvalid then st else stBusy)
    else
      let s1 := (s.e2Writes (ws ++ [(RTC_SETCMD_DATE.addr, cmd)])).lfEdge
      s1.refuse (s1.rd RTC_SETSTAT_STATUS))

/-- TIME_SET (R421, R500). -/
def State.opTimeSet (s : State) (q : OpIn) : Ans :=
  if q.p.length ≠ 9 then s.refuse stBadLength
  else if 7 < q.at 0 1 then s.refuse stBadParam
  else s.calSet [(0x40005018, q.at 1 4), (0x4000501C, q.at 5 4)] (q.at 0 1)

/-- ALARM_SET (R421, R424, R500). -/
def State.opAlarmSet (s : State) (q : OpIn) : Ans :=
  if q.p.length ≠ 12 then s.refuse stBadLength
  else s.calSet [(0x40005020, q.at 0 4), (0x40005024, q.at 4 4), (0x40005028, q.at 8 4)] 4

/-- TRIM (R426, R500). -/
def State.opTrim (s : State) (q : OpIn) : Ans :=
  if q.p.length ≠ (if q.expert then 8 else 0) then s.refuse stBadLength
  else s.atoll (fun s =>
    let s1 := if q.expert then s.e2Writes [(RTC_TRIMCFG_SRC.addr, q.at 0 4), (RTC_TRIM_TRIM.addr, q.at 4 4)] else s
    (s1, s.calStatus, s1.vb RTC_TRIMCFG_SRC.addr ++ s1.vb RTC_TRIM_TRIM.addr))

/-- BKUP_READ (R413, R500). -/
def State.opBkupRead (s : State) (q : OpIn) : Ans :=
  if q.p.length ≠ 0 then s.refuse stBadLength else s.atoll (fun s => (s, s.calStatus, s.rtc.bkup))

/-- Bytes that E2 writes to the backup RAM from `k` on: the words that hold them, each read first, at the edges that take them (R413). -/
def State.bkupPut (s : State) (k : Nat) (bs : List Byte) : State :=
  let m := putBytes s.rtc.bkup k bs
  (((List.range 16).filter (fun n => decide (4 * n < k + bs.length ∧ k < 4 * n + 4))).foldl
    (fun t n => t.hold e2 (0x40005080 + 4 * n) (BitVec.ofNat 32 (leNat ((m.drop (4 * n)).take 4)))) s).drain

/-- BKUP_WRITE (R414, R415, R500). -/
def State.opBkupWrite (s : State) (q : OpIn) : Ans :=
  let k := q.at 0 1
  let d := q.p.drop 1
  if q.expert ∧ q.p.length = 1 ∧ k = 0 then s.atoll (fun s => (s.bkupPut 0 [0, 0, 0, 0], stOK, []))
  else if q.p.length < 2 ∨ 33 < q.p.length then s.refuse stBadLength
  else if k < 32 ∨ 64 < k + d.length then s.refuse stDenied
  else s.atoll (fun s => (s.bkupPut k d, stOK, []))

/-! ### Survey -/

/-- SVY_STATUS (R521). -/
def State.opSvyStatus (s : State) (q : OpIn) : Ans :=
  if q.p.length ≠ 0 then s.refuse stBadLength
  else (s, stOK, s.vb 0x40006004 ++ s.vb 0x40006014 ++ s.vb 0x40006018 ++ s.vb 0x4000601C)

/-- The sheets of an area from its cursor on, as number and place. -/
def State.svyAhead (s : State) (founding : Bool) : List (Nat × Nat) :=
  let v := s.svr
  if founding then v.fheld.filter (fun x => decide (v.fcur ≤ x.1)) else v.rheld.filter (fun x => decide (v.rcur ≤ x.1))

/-- The cursor of an area replaced. -/
def State.setCursor (s : State) (founding : Bool) (n : Nat) : State :=
  { s with svr := if founding then { s.svr with fcur := n } else { s.svr with rcur := n } }

/-- Up to `n` sheets of a list of held ones are read, bad places skipped; the cursor passes each (R519). The flag tells that a read waits. -/
def State.svyTake (s : State) (founding : Bool) : Nat → List (Nat × Nat) → State × List Byte × Bool
  | 0, _ => (s, [], false)
  | _, [] => (s, [], false)
  | n + 1, x :: r =>
    let w := s.svr.placeWord founding x.2
    let y := s.readLines (32 * w) 16
    let s1 := y.1.setCursor founding (x.1 + 1)
    if y.2.1 = stWaits then (s, [], true)
    else if y.2.1 = stOK ∧ sheetOk y.2.2 then
      let z := s1.svyTake founding n r
      (z.1, y.2.2 ++ z.2.1, z.2.2)
    else s1.svyTake founding (n + 1) r

/-- SVY_READ (R519, R521). -/
def State.opSvyRead (s : State) (q : OpIn) : Ans :=
  let founding := q.at 0 1 == 0
  if q.p.length ≠ 2 then s.refuse stBadLength
  else if 1 < q.at 0 1 ∨ 2 < q.at 1 1 then s.refuse stBadParam
  else
    let x := s.svyTake founding (q.at 1 1) (s.svyAhead founding)
    if x.2.2 then s.refuse stWaits else (x.1, if x.2.1 = [] then stOkEmpty else stOK, x.2.1)

/-- SVY_SEEK (R519, R521). -/
def State.opSvySeek (s : State) (q : OpIn) : Ans :=
  let founding := q.at 0 1 % 2 == 0
  let pos := q.at 0 1 / 2 % 4 * 65536 + q.at 1 2
  let held := if founding then s.svr.fheld else s.svr.rheld
  if q.p.length ≠ 3 then s.refuse stBadLength
  else if 8 ≤ q.at 0 1 ∨ held.length ≤ pos then s.refuse stBadParam
  else (s.setCursor founding (cursorAt held (s.rd SVR_SEQ_SEQ) pos), stOK, [])

/-- The items of SVY_CONFIG from payload byte `o` on: slot, MkCFG, MkBIN. -/
def OpIn.svyItems (q : OpIn) (o n : Nat) : List (Nat × Nat × Nat) :=
  (List.range n).map (fun i => (q.at (o + 9 * i) 1, q.at (o + 9 * i + 1) 4, q.at (o + 9 * i + 5) 4))

/-- The placement overlaps vendor firmware's record blocks (R521). -/
def placeDenied (bank block rollBlk : Nat) : Bool := (runBlocks (bank * 128 + block) 1100 (2 + rollBlk)).any inRecords

/-- Vendor firmware keeps the survey configuration in its records, with EN as it stands (R518, log entry 83). -/
def State.keepSurvey (s : State) : State :=
  let rest := s.fw.config.filter (fun p => !svrGroup.contains p.1)
  { s with fw := { s.fw with config := rest ++ svrGroup.map (fun a => (a, regGet s.regs a)) } }

/-- SVY_CONFIG (R521, R522). -/
def State.opSvyConfig (s : State) (q : OpIn) : Ans :=
  let o := if q.expert then 4 else 0
  let n := q.at (o + 3) 1
  let items := q.svyItems (o + 4) n
  if q.p.length < o + 4 ∨ 24 < n ∨ q.p.length ≠ o + 4 + 9 * n then s.refuse stBadLength
  else if q.expert ∧ placeDenied (q.at 0 1) (q.at 1 1) (q.at 2 2) then s.refuse stDenied
  else if 1 < q.at (o + 2) 1 ∨ 2047 < q.at o 2 ∨ items.any (fun i => decide (23 < i.1)) ∨
      (q.expert ∧ (7 < q.at 0 1 ∨ 127 < q.at 1 1 ∨ 1023 < q.at 2 2)) then s.refuse stBadParam
  else
    let cfg := q.at o 2 + 2 ^ 30 * q.at (o + 2) 1
    let was := s.rdB SVR_CFG_EN
    let s1 := s.e2Write SVR_CFG_EN.addr (cfg + if was ∧ !q.expert then 2 ^ 31 else 0)
    let s2 := if q.expert then s1.e2Write SVR_PLACE_BLOCK.addr (q.at 1 1 + q.at 0 1 * 256 + q.at 2 2 * 65536) else s1
    let s3 := (s2.e2Writes (items.flatMap (fun i =>
      [((SVR_M_CFG_EN i.1).addr, i.2.1), ((SVR_M_BIN_STEP i.1).addr, i.2.2)]))).commit e2 .svr
    let s4 := if q.expert then s3.e2Write SVR_CFG_EN.addr (cfg + 2 ^ 31) else s3
    let st := s4.rd SVR_COMMIT_STATUS
    (if st = stOK then s4.keepSurvey else s4).refuse st

/-- SVY_CLEAR (R520, R521): long when the area exceeds 2 blocks. -/
def State.opSvyClear (s : State) (q : OpIn) : Ans :=
  let founding := q.at 0 1 % 2 == 0
  if q.p.length ≠ 1 then s.refuse stBadLength
  else if founding ∧ !q.expert then s.refuse stDenied
  else if 1 < q.at 0 1 then s.refuse stBadParam
  else if 2 < (s.svr.areaBlocks founding).length then
    if s.longRuns then s.refuse stBusy else (s.svrClear founding).startLong q 0x7C .clear
  else (s.svrClear founding, stOK, [])

end Sys2Proof.Machine
end

