-- ==== Sys2Proof/Machine/HostRadio.lean ====
section
/-!
DEFINITION. The radio and Sounding opcodes of the command interpreter (R87, R107, R113, R273, R274, R500).
-/
namespace Sys2Proof.Machine

/-! ### Radio and modem -/

/-- RF_STATUS (R500). -/
def State.opRfStatus (s : State) (q : OpIn) : Ans :=
  if q.p.length ≠ 0 then s.refuse stBadLength
  else
    let d := s.vb 0x40008004 ++ s.vb 0x40008008 ++ s.vb 0x40008114 ++ s.vb 0x40008194 ++ s.vb 0x40009000
    (s, stOK, if q.expert then d ++ s.vb 0x40008110 ++ s.vb 0x4000810C ++ s.vb 0x40008190 ++ s.vb 0x4000818C else d)

/-- RF_CAL (R87, R107, R500): the expert form first redefines the entry. BUSY stands last in the order of R14. -/
def State.opRfCal (s : State) (q : OpIn) : Ans :=
  let b := q.at 0 1
  let op := q.at 1 1
  let e := q.at 2 1
  if q.p.length ≠ (if q.expert then 7 else 3) then s.refuse stBadLength
  else if 1 < b ∨ 3 < op ∨ 127 < e ∨ (q.expert ∧ 2 ^ 28 ≤ q.at 3 4) then s.refuse stBadParam
  else
    let s1 := if q.expert then
        (s.e2Writes [(RFC_CALDEF_ENTRY.addr, b * 256 + e), (RFC_CALFREQ_FREQ.addr, q.at 3 4)]).commit e2 .rfc
      else s
    if q.expert ∧ s1.rd RFC_COMMIT_STATUS ≠ stOK ∧ s1.rd RFC_COMMIT_STATUS ≠ stPending then s1.refuse (s1.rd RFC_COMMIT_STATUS)
    else if s.longRuns ∨ s.rdB RFC_CALSTAT_BUSY then s.refuse stBusy
    else (s1.e2Write RFC_CALCMD_OP.addr (e * 65536 + b * 256 + op)).startLong q 0x31 .cal

/-- CFG and FREQ of the eight channel slots of a band. -/
def planAddrs (b : Nat) : List Nat :=
  (List.range 8).flatMap (fun k => [0x40009100 + 0x80 * b + 16 * k, 0x40009104 + 0x80 * b + 16 * k])

/-- A commit of MDM by E2 and what it comes to (R11, R13, R14, R533): BUSY when a commit that is held makes the block ignore GO and the set has
no error of its own, PENDING when this one is held. -/
def State.mdmGo (s : State) : State × Nat :=
  if s.rdB MDM_COMMIT_BUSY then
    let st := if shadowEq s.regs s.shadow (shAddrs Blk.mdm.base) then stOK else s.mdmCommitStatus
    (s, firstStatus [(st != stOK, st), (true, stBusy)])
  else
    let s1 := s.commit e2 .mdm
    (s1, if s1.rdB MDM_COMMIT_BUSY then stPending else s1.rd MDM_COMMIT_STATUS)

/-- RF_PLAN (R113, R500). -/
def State.opRfPlan (s : State) (q : OpIn) : Ans :=
  let b := q.at 0 1
  let show_ := fun t : State => (planAddrs b).flatMap t.vb
  if q.p.length ≠ (if q.expert then 65 else 1) then s.refuse stBadLength
  else if 1 < b then s.refuse stBadParam
  else if q.expert then
    let x := (s.e2Writes ((planAddrs b).zipIdx.map (fun x => (x.1, q.at (1 + 4 * x.2) 4)))).mdmGo
    (x.1, x.2, if x.2 = stOK then show_ x.1 else [])
  else (s, stOK, show_ s)

/-! ### Sounding calls (R273, R274) -/

/-- Vendor firmware keeps the library's configuration (R276). -/
def State.putSnd (s : State) (d : Snd) : State := { s with snd := d, fw := { s.fw with snd := d } }

/-- The parameters of SND_CONFIG (R274) in the order of the table. -/
def OpIn.sndCfg (q : OpIn) : SndCfg :=
  { nlearn := q.at 0 2, bavg := q.at 2 1, k := q.at 3 1, scale := q.at 4 1, sigmin := q.at 5 1, maxlearn := q.at 6 1,
    relearn := q.at 7 2, absent := q.at 9 2, ringSize := q.at 11 2, ringBase := q.at 13 4, stateBase := q.at 17 4 }

/-- A parameter lies outside its range (R274). -/
def SndCfg.bad (c : SndCfg) : Bool :=
  decide (c.nlearn < 16 ∨ 1024 < c.nlearn ∨ c.bavg < 4 ∨ 12 < c.bavg ∨ c.k < 4 ∨ 40 < c.k ∨ c.scale < 1 ∨ c.sigmin < 1 ∨
    200 < c.sigmin ∨ c.maxlearn < 5 ∨ 200 < c.maxlearn ∨ c.ringSize < 16 ∨ 2048 < c.ringSize)

/-- The ring or the state area lies outside shared SRAM, is misaligned, or overlaps the other (R273). A record takes 512 bytes. -/
def SndCfg.mismatch (c : SndCfg) : Bool :=
  let ringEnd := c.ringBase + 512 * c.ringSize
  let areaEnd := c.stateBase + 32768
  !inSram c.ringBase || !inSram (ringEnd - 1) || !inSram c.stateBase || !inSram (areaEnd - 1) || c.ringBase % 512 != 0 ||
    c.stateBase % 32768 != 0 || decide (c.ringBase < areaEnd ∧ c.stateBase < ringEnd)

/-- SND_CONFIG without the check that the library is stopped. -/
def State.sndConfigure (s : State) (c : SndCfg) : Ans :=
  let x := (s.e2Writes [(MDM_SBUF_BASE_BASE.addr, c.ringBase), (MDM_SBUF_SIZE_SIZE.addr, c.ringSize)]).mdmGo
  if x.2 = stOK ∨ x.2 = stPending then (x.1.putSnd { x.1.snd with cfg := c }, x.2, []) else x.1.refuse x.2

/-- The library starts (R273): reader 0 is enabled. -/
def State.sndStart (s : State) : State := (s.putSnd { s.snd with started := true }).wr MDM_SBUF_RD0_EN 1

/-- The library stops (R273). -/
def State.sndStop (s : State) : State := (s.putSnd { s.snd with started := false }).wr MDM_SBUF_RD0_EN 0

/-- SND_CONFIG (R273, R274): the expert form is taken while started too, and starts again. -/
def State.opSndConfig (s : State) (q : OpIn) : Ans :=
  let c := q.sndCfg
  if q.p.length ≠ 21 then s.refuse stBadLength
  else if s.snd.started ∧ !q.expert then s.refuse stBadState
  else if c.bad then s.refuse stBadParam
  else if c.mismatch then s.refuse stMismatch
  else if s.snd.started then
    let x := s.sndStop.sndConfigure c
    (x.1.sndStart, x.2)
  else s.sndConfigure c

/-- The link of a neighbour index and band. -/
def Snd.find (d : Snd) (nb : Nat) (b : Band) : Option SndLink := d.links.find? (fun l => l.nb == nb && l.band == b)

/-- The band of a payload byte. -/
def bandOf (k : Nat) : Band := if k = 0 then .sg else .g24

/-- SND_LINK_ADD (R261, R273). -/
def State.opSndLinkAdd (s : State) (q : OpIn) : Ans :=
  let nb := q.at 0 1
  let b := bandOf (q.at 1 1)
  let slot := q.at 2 1
  let mask := q.at 3 1
  if q.p.length ≠ 4 then s.refuse stBadLength
  else if !(s.nbr nb).valid then s.refuse stBadState
  else if 1 < q.at 1 1 ∨ 7 < slot then s.refuse stBadParam
  else
    match s.snd.find nb b with
    | some l =>
      let l1 : SndLink := if l.slot = slot then { l with mask := mask }
        else { l with slot := slot, mask := mask, a := .fresh, b := .fresh }
      (s.putSnd { s.snd with links := s.snd.links.map (fun x => if x = l then l1 else x) }, stOK, [])
    | none =>
      if 64 ≤ s.snd.links.length then s.refuse stBusy
      else
        let l : SndLink := { nb := nb, band := b, slot := slot, mask := mask, a := .fresh, b := .fresh, index := none }
        (s.putSnd { s.snd with links := s.snd.links ++ [l] }, stOK, [])

/-- A request about a held link: the checks that its calls share (R273). -/
def State.withLink (s : State) (q : OpIn) (k : SndLink → Ans) : Ans :=
  if q.p.length ≠ 2 then s.refuse stBadLength
  else if 1 < q.at 1 1 then s.refuse stBadParam
  else match s.snd.find (q.at 0 1) (bandOf (q.at 1 1)) with
    | some l => k l
    | none => s.refuse stBadParam

/-- SND_LINK_REMOVE (R273). -/
def State.opSndLinkRemove (s : State) (q : OpIn) : Ans :=
  s.withLink q (fun l => (s.putSnd { s.snd with links := s.snd.links.filter (fun x => x ≠ l) }, stOK, []))

/-- SND_LINK_RESET (R261, R273). -/
def State.opSndLinkReset (s : State) (q : OpIn) : Ans :=
  s.withLink q (fun l =>
    (s.putSnd { s.snd with links := s.snd.links.map (fun x => if x = l then { x with a := .fresh, b := .fresh } else x) }, stOK, []))

/-- SND_ZONE (R268, R273). -/
def State.opSndZone (s : State) (q : OpIn) : Ans :=
  if q.p.length ≠ 2 then s.refuse stBadLength
  else if 7 < q.at 0 1 ∨ 1 < q.at 1 1 then s.refuse stBadParam
  else (s.putSnd { s.snd with zmodes := s.snd.zmodes.set (q.at 0 1) (q.at 1 1) }, stOK, [])

/-- SND_START (R265, R273). -/
def State.opSndStart (s : State) (q : OpIn) : Ans :=
  if q.p.length ≠ 0 then s.refuse stBadLength
  else if s.rd PWR_STAT_FENG = 0 ∨ s.snd.started then s.refuse stBadState
  else (s.sndStart, stOK, [])

/-- SND_STOP (R273). -/
def State.opSndStop (s : State) (q : OpIn) : Ans :=
  if q.p.length ≠ 0 then s.refuse stBadLength
  else if !s.snd.started then s.refuse stOkEmpty
  else (s.sndStop, stOK, [])

/-- Code of a baseline state (R260). -/
def BaseSt.code : BaseSt → Nat
  | .empty => 0 | .learnMean => 1 | .learnSpread => 2 | .ready => 3

/-- State and σ of an aerial, σ in 1/256 dB. -/
def Baseline.bytes (b : Baseline) : List Byte := [BitVec.ofNat 8 b.st.code] ++ natLE 2 (clampInt 0 65535 (roundDiv b.sigma 256)).toNat

/-- The 96 values of b in 0.25 dB (log entry 32). -/
def Baseline.shape (b : Baseline) : List Byte :=
  (List.range 96).map (fun d => BitVec.ofNat 8 (intBits 8 (clampInt (-128) 127 (roundDiv (b.b.getD d 0) 16384))))

/-- SND_READ (R273, R500). -/
def State.opSndRead (s : State) (q : OpIn) : Ans :=
  s.withLink q (fun l =>
    let x := l.index.getD (0, 0)
    let n := s.snd
    let d := l.a.bytes ++ l.b.bytes ++ [BitVec.ofNat 8 x.1] ++ natLE 4 x.2 ++ [BitVec.ofNat 8 l.mask] ++
      [n.unused, n.late, n.skip, n.restarts, n.relearns].flatMap (fun v => natLE 2 (min v 65535))
    (s, stOK, if q.expert then d ++ l.a.shape ++ l.b.shape else d))

end Sys2Proof.Machine
end

