-- ==== Sys2Proof/Machine/Interp.lean ====
section
/-!
DEFINITION. Handling of requests (19_host_protocol.md): the host's requests at HIF (R482, R490 to R497, R501), replies (R483, R488,
R506), the engine path (R504), and the ends of long requests (R492, R493).
-/
namespace Sys2Proof.Machine

/-! ### The interpreter -/

/-- What the interpreter does for basic opcode `op` or its expert counterpart (R500). -/
def State.interpOp (s : State) (op : Nat) (q : OpIn) : Ans :=
  match op with
  | 0x00 => s.opGetInfo q
  | 0x01 => s.opEcho q
  | 0x02 => s.opPoll q
  | 0x03 => s.opDpRead q
  | 0x04 => s.opDpWrite q
  | 0x05 => s.opDbell q
  | 0x06 => s.opEvents q
  | 0x07 => s.opReset q
  | 0x08 => s.opFaults q
  | 0x09 => s.opReport q
  | 0x0A => s.opEngines q
  | 0x0B => s.opHostCfg q
  | 0x0D => s.opUnlockChal q
  | 0x0E => s.opUnlock q
  | 0x0F => s.opLock q
  | 0x10 => s.opPwrStatus q
  | 0x11 => s.opPwrLevel q
  | 0x12 => s.opPwrOff q
  | 0x20 => s.opFlRead q
  | 0x21 => s.opFlProgram q
  | 0x22 => s.opFlErase q
  | 0x23 => s.opFlMargin q
  | 0x24 => s.opFlBlock q
  | 0x25 => s.opFwUpdate q
  | 0x26 => s.opImageSet q
  | 0x30 => s.opRfStatus q
  | 0x31 => s.opRfCal q
  | 0x32 => s.opRfPlan q
  | 0x38 => s.opSndConfig q
  | 0x39 => s.opSndLinkAdd q
  | 0x3A => s.opSndLinkRemove q
  | 0x3B => s.opSndLinkReset q
  | 0x3C => s.opSndZone q
  | 0x3D => s.opSndStart q
  | 0x3E => s.opSndStop q
  | 0x3F => s.opSndRead q
  | 0x40 => s.opMeshStatus q
  | 0x41 => s.opNeighbour q
  | 0x42 => s.opCommission q
  | 0x43 => s.opJoin q
  | 0x44 => s.opMemberKey q
  | 0x45 => s.opMembers q
  | 0x46 => s.opAssured q
  | 0x47 => s.opSend q
  | 0x50 => s.opChartGet q
  | 0x51 => s.opQueues q
  | 0x52 => s.opPolicer q
  | 0x60 => s.opKeyInfo q
  | 0x61 => s.opKeyLoad q
  | 0x62 => s.opKeyErase q
  | 0x63 => s.opExpertKey q
  | 0x64 => s.opRandom q
  | 0x70 => s.opTimeGet q
  | 0x71 => s.opTimeSet q
  | 0x72 => s.opAlarmSet q
  | 0x73 => s.opTrim q
  | 0x74 => s.opBkupRead q
  | 0x75 => s.opBkupWrite q
  | 0x78 => s.opSvyStatus q
  | 0x79 => s.opSvyRead q
  | 0x7A => s.opSvySeek q
  | 0x7B => s.opSvyConfig q
  | 0x7C => s.opSvyClear q
  | _ => s.refuse stBadOpcode

/-- In a SAFE start the interpreter answers BAD_STATE to every opcode outside R501; the conditions that R14 puts first stand. -/
def State.safeFilter (s : State) (op : Nat) (x : Ans) : Ans :=
  if s.rdB SYS_BOOT_SAFE ∧ !safeOps.contains op then
    s.refuse (if statusRank x.2.1 < statusRank stBadState then x.2.1 else stBadState)
  else x

/-! ### Replies -/

/-- Address of the request buffer, and of the reply buffer after it (R491). -/
def State.reqBuf (s : State) : Nat := s.rd HIF_BUFBASE_BASE * 4096
def State.repBuf (s : State) : Nat := s.reqBuf + 0x800

/-- What follows a reply, once it has been sent (R500). A reset is left to RESET_AFTER_REPLY. -/
def State.afterReply (s : State) : State :=
  let s1 : State := { s with hif := { s.hif with after := none } }
  match s.hif.after with
  | some .off => s1.powerOff e2
  | some .commission => s1.writeRecord.deviceReset 9 (s1.coldKept 9) (s1.safeKept 9)
  | some (.baud d) =>
    ({ s1 with hif := { s1.hif with oldBaud := some (s.rd HIF_UARTDIV_DIV, s.fltNow) } } : State).wr HIF_UARTDIV_DIV d
  | _ => s

/-- The waiting reply has been sent: REPWAIT clears, and a HOST run may begin (R486, R528). -/
def State.replySent (s : State) : State :=
  if s.hif.out.isNone then s
  else
    let s1 : State := { (s.wr HIF_STAT_REPWAIT 0) with hif := { s.hif with out := none } }
    let s2 : State := match s1.tst.run with
      | some r => if r.link = 0 then { s1 with tst := { s1.tst with run := some { r with ready := true } } } else s1
      | none => s1
    s2.afterReply

/-- A reply goes out on its interface; the UART finishes the one before it first (R483, R485, R496). -/
def State.putReply (s : State) (spi : Bool) (pkt : List Byte) : State :=
  let s1 := if !spi then s.replySent else s
  let s2 : State := { s1 with hif := { s1.hif with out := some (spi, pkt) } }
  if spi then s2.wr HIF_STAT_REPWAIT 1 else s2

/-- An unsent SPI reply is dropped when another takes its place (R496). -/
def State.dropReply (s : State) : State :=
  match s.hif.out with
  | some (true, _) => { (({ s with hif := { s.hif with out := none } } : State).wr HIF_STAT_REPWAIT 0) with
                          regs := incF (wrF s.regs HIF_STAT_REPWAIT 0) HIF_CNT2_DROPREP }
  | _ => s

/-- The reply of the executing request is complete: it is kept and sent (R491, R494). -/
def State.completeReply (s : State) (e : HostExec) (st : Nat) (d : List Byte) : State :=
  let s1 : State := { (s.wr HIF_STAT_EXEC 0) with hif := { s.hif with exec := none, kept := some (e, st, d.length) } }
  s1.putReply e.spi (replyPacket e.opcode e.seq st d)

/-! ### The engine path (R504) -/

/-- The owner served next: requests stand in owner order, starting after the owner served last. -/
def nextOwner (last : Nat) (l : List (Nat × Nat × ReqEnv)) : Option (Nat × Nat × ReqEnv) :=
  ((List.range 16).map (fun k => (last + 1 + k) % 16)).findSome? (fun o => l.find? (fun r => r.1 == o))

/-- The reply packet is written over the buffer, HIF_ERES shows the status, and the engine's IPEND bit 6 is set. -/
def State.engineReply (s : State) (owner a op : Nat) (seq : Byte) (st : Nat) (d : List Byte) : State :=
  let pkt := (replyPacket op seq st d).take (0x10200000 - a)
  let s1 := s.sramWrite a pkt
  ({ s1 with regs := wrF (wrF (wrF s1.regs (HIF_ERES_DONE owner) 1) (HIF_ERES_OPCODE owner) op) (HIF_ERES_STATUS owner) st } : State).doorbell
    owner 64

/-- The status of an engine's request before the interpreter looks at it (R500, R504). -/
def State.ereqStatus (s : State) (op len : Nat) : Nat :=
  if 128 ≤ op ∨ !assignedOps.contains op then stBadOpcode
  else if 1024 < len then stBadLength
  else if op = 2 ∨ op = 0x0B ∨ op = 0x0D ∨ op = 0x0E ∨ op = 0x0F then stBadState
  else if !s.rdB HIF_STAT_READY then stBusy
  else stOK

/-- E2 goes on once its writes that the Strait into the Atoll domain holds have been taken (R22); false while they are not. -/
def State.e2Goes (s : State) : Bool × State :=
  let s1 := if s.writesHeld e2 then s.drain else s
  (!s1.writesHeld e2, s1)

/-- One engine request is served; none while it waits for an access (R375, R377, R460). -/
def State.serveOne (s : State) (owner a : Nat) (env : ReqEnv) : Option State :=
  let op := s.sramNat (a + 1) 1
  let seq : Byte := BitVec.ofNat 8 (s.sramNat (a + 2) 1)
  let len := s.sramNat (a + 3) 2
  let g := s.e2Goes
  let st := s.ereqStatus op len
  if !g.1 then none
  else if st ≠ stOK then some (g.2.engineReply owner a op seq st [])
  else
    let q : OpIn := { expert := false, owner := owner, desc := a, seq := seq, p := s.sramBytes (a + 5) len, env := env }
    let x := g.2.safeFilter op (g.2.interpOp op q)
    if x.2.1 = stWaits then none
    else if x.2.1 = stPending then
      some { x.1 with regs := wrF (wrF x.1.regs (HIF_ERES_OPCODE owner) op) (HIF_ERES_STATUS owner) stPending }
    else
      let s1 := x.1.engineReply owner a op seq x.2.1 x.2.2
      some (match s1.hif.after with
        | some (.reset _) => s1
        | _ => s1.afterReply)

/-- The interpreter serves the engines' requests while the host has none (R504); one that waits holds the others back. -/
def State.serve (s : State) : Nat → State
  | 0 => s
  | n + 1 =>
    if s.hif.exec.isSome then s
    else match nextOwner s.hif.eLast s.hif.ereqs with
      | none => s
      | some (o, a, env) =>
        match ({ s with hif := { s.hif with ereqs := s.hif.ereqs.filter (fun r => r.1 ≠ o), eLast := o } } : State).serveOne o a env with
        | some t => t.serve n
        | none => s

/-- The owner has a request that is not answered (R504). -/
def Hif.outstanding (h : Hif) (o : Nat) : Bool :=
  h.ereqs.any (fun r => r.1 == o) || (match h.long with | some l => l.owner == o && l.result.isNone | none => false)

/-- A write of HIF_EREQ (R504): an engine's request is taken, or answered BUSY. -/
def State.engineRequest (s : State) (m : Master) (v : Word) (env : ReqEnv) : State :=
  match m with
  | .hif => s
  | .eng _ =>
    let o := s.code m
    let s1 := s.wr (HIF_ERES_DONE o) 0
    if s.hif.outstanding o then s1.wr (HIF_ERES_STATUS o) stBusy
    else ({ s1 with hif := { s1.hif with ereqs := s1.hif.ereqs ++ [(o, sramBase + 4 * HIF_EREQ_DESC.of v, env)] } } : State).serve 13

/-- ENGINE_REQUEST (R504): `m` writes HIF_EREQ. -/
def execEngineRequest (m : Master) (v : Word) (env : ReqEnv) (s : State) : Host.Outcome State Fault Refusal :=
  .next (s.writes m 13 (if s.tclkOn then s.engineRequest m v env else s))

/-! ### HIF_REPLY (R506) -/

/-- E2 takes its IPEND bit 6 back. -/
def State.interpDone (s : State) : State := s.wr (ENG_PEND_IPEND 2) (s.rd (ENG_PEND_IPEND 2) &&& 191)

/-- A write of `v` to HIF_REPLY by `m` (R506): with GO, E2's reply is framed and sent. -/
def State.writeHifReply (s : State) (m : Master) (v : Word) : State :=
  if isE2 m ∧ HIF_REPLY_GO.of v = 1 then
    match s.hif.exec with
    | some e =>
      let n := HIF_REPLY_LEN.of v
      let s1 := if 1024 < n then s.completeReply e stBadLength []
        else s.completeReply e (HIF_REPLY_STATUS.of v) (s.sramBytes s.repBuf n)
      s1.interpDone.serve 13
    | none => s
  else s

/-- HIF_REPLY_GO (R506). -/
def execHifReplyGo (m : Master) (v : Word) (s : State) : Host.Outcome State Fault Refusal :=
  .next (s.writes m 13 (if s.tclkOn then s.writeHifReply m v else s))

/-! ### The host's requests -/

/-- HIF_IRQ is active (R486): a reply waits on SPI, or an enabled bit of HIF_EVPEND is 1. -/
def State.hifIrq (s : State) : Bool := s.rdB HIF_STAT_REPWAIT || regGet s.regs HIF_EVPEND_READY.addr &&& regGet s.regs HIF_EVEN_EN.addr != 0

/-- The level of the HIF_IRQ pin (R486). -/
def State.hifIrqPin (s : State) : Bool := s.hifIrq == s.rdB HIF_CFG_IRQPOL

/-- HIF takes a packet on its interface: TCLK runs, the other interface is not locked, and no link test uses the lines (R482, R528, R531). -/
def State.hifHears (s : State) (spi : Bool) : Bool :=
  s.tclkOn && (s.rd HIF_STAT_IF == 0 || s.rd HIF_STAT_IF == (if spi then 1 else 2)) &&
    (match s.tst.run with | some r => !((r.link == 0 && r.ready) || (r.link == 3 && !spi)) | none => true)

/-- The bytes of a packet arrive: an entry to SLEEP is abandoned, and the device leaves DOZE (R437, R439, R442). -/
def State.hifBytes (s : State) : State :=
  (if s.pwr.entering then s.took.abandonEntry (Config.freeValue s.free) else s).hifByte

/-- A request has passed R490: the interface locks, a trial rate is confirmed, an entry to SLEEP is
abandoned, and the device leaves DOZE (R437, R442, R482, R500). -/
def State.hifPassed (s : State) (spi : Bool) : State :=
  let s1 := s.hifBytes
  { (s1.wr HIF_STAT_IF (if spi then 1 else 2)) with hif := { s1.hif with oldBaud := none } }

/-- A refusal by HIF itself, which is not kept (R491, R494). -/
def State.quickReply (s : State) (q : HostReq) (op st : Nat) : State := s.putReply q.spi (replyPacket op q.seq st [])

/-- The request as it is kept for R494. -/
def reqKey (q : HostReq) (op : Nat) : HostExec :=
  { opcode := op, seq := q.seq, crc := crc16 (reqBody op q.seq q.payload), spi := q.spi }

/-- The executing request is being repeated, on its interface. -/
def HostExec.same (e k : HostExec) : Bool := e.opcode == k.opcode && e.seq == k.seq && e.crc == k.crc

/-- The executing request waits for an access (R375, R377, R460). -/
def State.park (s : State) (op : Nat) (h : Bool) (q : HostReq) : State := { s with hif := { s.hif with parked := some (op, h, q) } }

/-- It waits no longer. -/
def State.unpark (s : State) : State := { s with hif := { s.hif with parked := none, dp := none } }

/-- The host's request as its opcode reads it. -/
def reqIn (q : HostReq) : OpIn :=
  { expert := q.expert, owner := 12, desc := 0, seq := q.seq, p := q.payload, env := q.env }

/-- HIF works on the executing request `e` (R491, R494). The reply data goes to the reply buffer; a request that ends in a reset of HIF gets
no reply (R505). -/
def State.runHif (s : State) (e : HostExec) (op : Nat) (run : State → OpIn → Ans) (q : HostReq) : State :=
  let x := run s (reqIn q)
  if x.2.1 = stWaits then x.1.park op true q
  else if x.1.hif.exec.isNone then x.1
  else (x.1.unpark.sramWrite x.1.repBuf x.2.2).completeReply e x.2.1 x.2.2

/-- The interpreter works on the executing request (R491, R494, R501). -/
def State.runInterp (s : State) (op : Nat) (run : State → OpIn → Ans) (q : HostReq) : State :=
  let g := s.e2Goes
  let x := g.2.safeFilter op (run g.2 (reqIn q))
  if !g.1 then g.2.park op false q
  else if x.2.1 = stWaits then x.1.park op false q
  else
    let s1 := x.1.unpark.sramWrite x.1.repBuf x.2.2
    if q.hold then s1 else s1.writeHifReply e2 (BitVec.ofNat 32 (2 ^ 31 + x.2.2.length * 65536 + x.2.1))

/-- The request is executed, by HIF (`h`) or by the interpreter (R491, R494). The payload goes to the request buffer. -/
def State.execute (s : State) (op : Nat) (h : Bool) (run : State → OpIn → Ans) (q : HostReq) : State :=
  let e := reqKey q (op + if q.expert then 128 else 0)
  let s1 : State := if q.expert then { s with hif := { s.hif with expertAt := s.fltNow } } else s
  let s2 : State := { (s1.wr HIF_STAT_EXEC 1) with hif := { s1.hif with exec := some e } }
  if h then s2.runHif e op run q else (s2.doorbell 2 64).runInterp op run q

/-- A request that is neither a repeat nor stopped by SEQ: stored, then refused or executed (R491, R497, R500, R501). -/
def State.takeRequest (s : State) (op : Nat) (h : Bool) (run : State → OpIn → Ans) (q : HostReq) : State :=
  let code := op + if q.expert then 128 else 0
  let r := wrF (wrF (wrF s.regs HIF_REQINFO_LEN q.payload.length) HIF_REQINFO_SEQ q.seq.toNat) HIF_REQINFO_OPCODE code
  let s1 := ({ s with regs := r } : State).sramWrite s.reqBuf q.payload
  if !assignedOps.contains op ∨ (q.expert ∧ !s.expert) then s1.quickReply q code stBadOpcode
  else if !h ∧ !s.rdB HIF_STAT_READY then s1.quickReply q code stBusy
  else s1.execute op h run q

/-- A request of the host for opcode `op`, basic or expert (R482, R491, R494, R496). -/
def State.hostRequest (s : State) (op : Nat) (h : Bool) (run : State → OpIn → Ans) (q : HostReq) : State :=
  let code := op + if q.expert then 128 else 0
  let k := reqKey q code
  let bad := !assignedOps.contains op || (q.expert && !s.expert)
  if !s.hifHears q.spi ∨ 1024 < q.payload.length then s
  else
    let s1 := s.hifPassed q.spi
    match s1.hif.exec with
    | some e =>
      if e.same k then s1
      else if q.expert ∧ !s.expert then s1.dropReply.quickReply q code stBadOpcode
      else ((s1.dropReply).inc HIF_CNT2_BUSYREP).quickReply q code stBusy
    | none =>
      let s2 := s1.dropReply
      match s1.hif.kept with
      | some (e, st, n) =>
        if e.same k then
          (s2.inc HIF_CNT1_REPEAT).putReply q.spi (replyPacket e.opcode e.seq st (s2.sramBytes s2.repBuf n))
        else if e.seq = q.seq then s2.quickReply q code (if bad then stBadOpcode else stBadState)
        else s2.takeRequest op h run q
      | none => s2.takeRequest op h run q

/-! ### The ends of long requests (R492, R493) -/

/-- The final status and data of a long request whose work has ended; none while it goes on. -/
def State.longResult (s : State) (l : LongReq) (ok : Bool) : Option (Nat × List Byte) :=
  match l.job with
  | .erase =>
    let st := s.rd (FLC_RES_STATUS 2)
    if st = stPending then none else some (st, [])
  | .cal => if s.rdB RFC_CALSTAT_BUSY then none else some (s.rd RFC_CALSTAT_STATUS, s.vb RFC_CALSTAT_STATUS.addr)
  | .engine =>
    let st := s.rd (ENG_CMDRES_STATUS 12)
    if st = stPending then none else some (st, s.vb (ENG_CMDRES_STATUS 12).addr)
  | .update _ => some (if ok then stOK else stDenied, [])
  | .clear => if s.rdB SVR_STAT_CLEAR then none else some (stOK, [])

/-- The long request ends with a status and data. -/
def State.endLong (s : State) (l : LongReq) (r : Nat × List Byte) : State :=
  let s1 : State := { s with regs := wrF (wrF s.regs HIF_STAT_LONG 0) HIF_EVPEND_LONGDONE 1,
                             hif := { s.hif with long := some { l with result := some r } } }
  if l.owner = 12 then s1 else s1.engineReply l.owner l.desc l.opcode l.seq r.1 r.2

/-- LONG_DONE (R492): the long opcode that runs ends; `ok` tells of the signature of a FW_UPDATE. A verified basic update ends in a cold
start without a final reply. -/
def execLongDone (ok : Bool) (s : State) : Host.Outcome State Fault Refusal :=
  match s.hif.long with
  | some l =>
    if l.result.isSome ∨ !s.tclkOn then .next s
    else match s.longResult l ok with
      | none => .next s
      | some r => .next (if l.job = .update false ∧ ok then s.updateDone else s.endLong l r)
  | none => .next s

end Sys2Proof.Machine
end

