-- ==== Sys2Proof/Machine/Bus.lean ====
section
/-!
DEFINITION. The memory map as a bus master sees it (R27 to R33): reads and writes of a TCM (R293, R294, R308), shared SRAM and its
window, the flash read window (R295) and the register blocks, with what ends in a bus error (R32).
-/
namespace Sys2Proof.Machine

/-- Why an access fails, by its code in ENG_CAUSE (R312): a bus error, FLASH_ECC, FLASH_HALF_ERASED or TCM_ECC. -/
inductive BusErr where
  | bus | flashEcc | flashHalf | tcmEcc
deriving DecidableEq, Repr

/-- ENG_CAUSE.CODE of a failure (R312). -/
def BusErr.code : BusErr → Nat
  | .bus => 1
  | .flashEcc => 2
  | .flashHalf => 3
  | .tcmEcc => 4

/-- The status of a reply or a log entry that reports the failure (R32). -/
def BusErr.status : BusErr → Nat
  | .flashEcc => stFlashEcc
  | .flashHalf => stFlashHalfErased
  | .bus | .tcmEcc => stFault

/-- What an access gives. A read's value is extended with zeros; a write answers 0. -/
inductive BusAns where
  | ok (v : Word)
  | err (e : BusErr)
  /-- The access waits: for the flash die (R377) or for a stopped clock (R460). -/
  | waits
deriving DecidableEq, Repr

/-- Where an address lies for a master (R27). -/
inductive BusPlace where
  | tcm (off : Nat)
  | sram (a : Nat)
  | flash (off : Nat)
  | reg
  | none
deriving DecidableEq, Repr

/-- The place of address `a` for master `m`: HIF sees neither a TCM nor the data-port window (R27, R30). -/
def State.place (s : State) (m : Master) (a : Nat) : BusPlace :=
  if a < 0x10000 then (match m with | .eng _ => .tcm a | .hif => .none)
  else if inWindow a then .flash (winOff a)
  else if 0x40000000 ≤ a ∧ a < 0x40012000 then .reg
  else if m = .hif ∧ !inSram a then .none
  else match s.sramAddr a with
    | some t => .sram t
    | none => .none

/-- The engine whose TCM and read buffer a master uses (R24). -/
def State.owned (s : State) (m : Master) : Nat :=
  match m with
  | .eng e => s.leader e.val
  | .hif => 0

/-! ### TCM (R294) -/

/-- A read of TCM word `w` (an offset in words) of engine `e`: `false` at a double-bit error; a single-bit error is corrected and
counted. -/
def State.tcmCheck (s : State) (e w : Nat) : Bool × State :=
  let g := s.eng e
  match g.tcmErr.find? (fun x => x.1 == w) with
  | none => (true, s)
  | some (_, true) => (false, s)
  | some (_, false) =>
    (true, { s.setEng e { g with tcmErr := g.tcmErr.filter (fun x => x.1 != w) } with regs := incF s.regs (ENG_CNT_ECCCOR e) })

/-- Bytes written by engine `e` to its TCM; each engine of a pair records the old word of its own (R308). -/
def State.tcmWrite (s : State) (e a : Nat) (bs : List Byte) : State :=
  let g := s.eng e
  let w := a / 4
  let old := fun k : Nat => (BitVec.ofNat 32 (leNat ((s.eng k).bytes k (4 * w) 4)) : Word)
  let s1 := if s.paired e then s.setEng e { g with undo := (w, old e, old (e + 1)) :: g.undo } else s
  s1.tcmStore e a bs

/-! ### Accesses -/

/-- The access is misaligned, or narrow in a register block (R32). -/
def badAccess (p : BusPlace) (a n : Nat) : Bool := a % n != 0 || (p == .reg && n != 4)

/-- The TCM word `w` of engine `e` and, in a lockstepped pair, of its partner, which reads its own (R294, R308): `false` at a double-bit
error of either. -/
def State.tcmPair (s : State) (e w : Nat) : Bool × State :=
  let c := s.tcmCheck e w
  if s.paired e then
    let d := c.2.tcmCheck (e + 1) w
    (c.1 && d.1, d.2)
  else c

/-- A read of the register at `a` by `m`: one in the Atoll domain waits for the clock there and for what its Strait holds, and with the
domain unpowered it ends in a bus error, counted in CLK_FLUSH (R21, R460, R461). -/
def State.regRead (s : State) (m : Master) (a : Nat) : BusAns × State :=
  if isAtoll a && !s.rtc.powered then (.err .bus, s.inc CLK_FLUSH_FLUSHES)
  else if isAtoll a && (!s.lfOn || !s.rtc.held.isEmpty) then (.waits, s)
  else
    let x := s.readReg m a
    (.ok x.1, x.2)

/-- A read of `n` bytes, 1, 2 or 4, at address `a` by master `m`. -/
def State.busRead (s : State) (m : Master) (a n : Nat) : BusAns × State :=
  let p := s.place m a
  if badAccess p a n then (.err .bus, s)
  else match p with
    | .none => (.err .bus, s)
    | .tcm off =>
      let e := s.owned m
      let c := s.tcmPair e (off / 4)
      if c.1 then (.ok (BitVec.ofNat 32 (leNat ((c.2.eng e).bytes e off n))), c.2) else (.err .tcmEcc, c.2)
    | .sram t => (.ok (BitVec.ofNat 32 (s.sramNat t n)), s)
    | .flash off =>
      let x := match m with
        | .eng _ => s.bufRead (s.owned m) (off / 32 * 32)
        | .hif => s.dieRead (off / 32 * 32)
      match x with
      | (.data l, s1) => (.ok (BitVec.ofNat 32 (leNat (lineBytes l (off % 32) n))), s1)
      | (.err st, s1) => (.err (if st = stFlashHalfErased then .flashHalf else .flashEcc), s1)
      | (.waits, s1) => (.waits, s1)
    | .reg => s.regRead m a

/-- A write of the word `v` to the register at `a` by `m`, HIF_REPLY and HIF_EREQ included; `env` is what surrounds a request that
HIF_EREQ hands over. -/
def State.busReg (s : State) (m : Master) (a : Nat) (v : Word) (env : ReqEnv) : State :=
  if a = HIF_REPLY_GO.addr then s.writeHifReply m v
  else if a = HIF_EREQ_DESC.addr then s.engineRequest m v env
  else s.writeReg m a v

/-- What firmware chooses in a request that comes through a plain register write is free (log entry 33). -/
def State.freeEnv (s : State) : ReqEnv :=
  let v := fun k => Config.freeValue (s.free + k)
  { tx := { buf := v 0, desc := v 1, power := (v 2 : Nat), retry := v 3, due := v 4, entry := Fin.ofNat 128 (v 5) },
    bad := if v 6 % 2 = 0 then none else some (Fin.ofNat 2048 (v 7), v 8 % 2 == 1) }

/-- A write of `m` to the register at `a`. One to the Atoll domain enters its Strait, behind at most one other of an engine, whose own Strait
holds the second (R21, R458); with the domain unpowered it is lost, and HIF's request meets an error (R461, log entry 34). Another
waits while a write of its master is held (R22). -/
def State.regWrite (s : State) (m : Master) (a : Nat) (v : Word) : BusAns × State :=
  if isAtoll a then
    if !s.rtc.powered then (if isEng m then .ok 0 else .err .bus, s.noteFlush m a)
    else if isEng m && decide (2 ≤ s.heldCount (s.code m)) then (.waits, s)
    else (.ok 0, s.hold m a v)
  else if s.writesHeld m then (.waits, s)
  else (.ok 0, if a = HIF_EREQ_DESC.addr then (s.took 9).busReg m a v s.freeEnv else s.busReg m a v s.freeEnv)

/-- A write of the low `n` bytes of `v`, 1, 2 or 4, at address `a` by master `m`. A narrow write of a TCM word reads it first, so that it
meets a double-bit error (R293, R294). -/
def State.busWrite (s : State) (m : Master) (a n : Nat) (v : Word) : BusAns × State :=
  let p := s.place m a
  let bs := (wordBytes v).take n
  if badAccess p a n then (.err .bus, s)
  else match p with
    | .none | .flash _ => (.err .bus, s)
    | .tcm off =>
      let e := s.owned m
      if n = 4 then (.ok 0, s.tcmWrite e off bs)
      else
        let c := s.tcmPair e (off / 4)
        if c.1 then (.ok 0, c.2.tcmWrite e off bs) else (.err .tcmEcc, c.2)
    | .sram t => if s.writesHeld m then (.waits, s) else (.ok 0, s.sramWrite t bs)
    | .reg => s.regWrite m a v

/-- The fault that a failed access of `m` at `a` enters in the log of FLT (R32, R465); `conseq` as FLT's own action caused it (R470). -/
def State.busFault (s : State) (m : Master) (a : Nat) (e : BusErr) (conseq : Bool := false) : State :=
  let f : FaultIn := match e with
    | .bus => { code := 1, region := s.regionOf m, tier := 0, owner := s.code m, addr := a, conseq := conseq }
    | .flashEcc | .flashHalf => { code := 2, region := s.regionOf m, tier := 0, owner := s.code m, addr := a, status := e.status }
    | .tcmEcc => { code := 3, region := s.regionOf m, tier := 1, owner := s.code m, addr := a }
  s.fault f

/-! ### Register writes as commands -/

/-- A write of the engine to a block with a flushed write of its own is lost until the fault vector is entered (R305). -/
def State.heldWrite (s : State) (m : Master) (a : Nat) : Bool :=
  s.place m a == .reg && s.lostTo m (a / 0x1000 - 0x40000)

/-- REGISTER_WRITE (R4, R27, R33): master `m` writes the word `v` to the register block address 0x4000_0000 + 4 × `reg`. -/
def execRegisterWrite (m : Master) (reg : Fin 18432) (v : Word) (s : State) : Host.Outcome State Fault Refusal :=
  .next (if s.tclkOn ∧ !s.heldWrite m (0x40000000 + 4 * reg.val) then (s.busWrite m (0x40000000 + 4 * reg.val) 4 v).2 else s)

/-! ### The expert data port (R502, R503) -/

/-- The widths in which HIF moves `n` bytes from address `a`: aligned words, and single bytes at an unaligned start or end. -/
def dpWidth (a n : Nat) : Nat := if a % 4 = 0 ∧ 4 ≤ n then 4 else 1

/-- Why a data-port burst stops before its end: an access that fails, or one that waits. -/
inductive DpStop where
  | err (e : BusErr)
  | waits
deriving DecidableEq, Repr

/-- An access of HIF; one of the Atoll domain follows what its Strait holds, while LFCLK runs (R21). -/
def State.hifRead (s : State) (a n : Nat) : BusAns × State := (if isAtoll a then s.drain else s).busRead .hif a n

/-- HIF reads `n` bytes from `a` on: the bytes read, what stopped it with its address, and the state. `fuel` is at least `n`. -/
def State.dpReadAt (s : State) (a n : Nat) : Nat → List Byte × Option (DpStop × Nat) × State
  | 0 => ([], none, s)
  | fuel + 1 =>
    if n = 0 then ([], none, s)
    else
      let w := dpWidth a n
      match s.hifRead (a % 2 ^ 32) w with
      | (.ok v, s1) =>
        let r := s1.dpReadAt (a + w) (n - w) fuel
        ((wordBytes v).take w ++ r.1, r.2)
      | (.err e, s1) => ([], some (.err e, a % 2 ^ 32), s1)
      | (.waits, s1) => ([], some (.waits, a % 2 ^ 32), s1)

/-- A write of HIF; one past the Atoll domain follows what the Strait into it holds of HIF, while LFCLK runs (R22). -/
def State.hifWrite (s : State) (a n : Nat) (v : Word) : BusAns × State :=
  (if !isAtoll a && s.writesHeld .hif then s.drain else s).busWrite .hif a n v

/-- HIF writes bytes from `a` on: the bytes written, what stopped it with its address, and the state. -/
def State.dpWriteAt (s : State) (a : Nat) (bs : List Byte) : Nat → Nat × Option (DpStop × Nat) × State
  | 0 => (0, none, s)
  | fuel + 1 =>
    if bs.isEmpty then (0, none, s)
    else
      let w := dpWidth a bs.length
      match s.hifWrite (a % 2 ^ 32) w (BitVec.ofNat 32 (leNat (bs.take w))) with
      | (.ok _, s1) =>
        let r := s1.dpWriteAt (a + w) (bs.drop w) fuel
        (w + r.1, r.2)
      | (.err e, s1) => (0, some (.err e, a % 2 ^ 32), s1)
      | (.waits, s1) => (0, some (.waits, a % 2 ^ 32), s1)

/-- The address of an expert burst: ADDR, or with AUTO its high half with PTR (R502). -/
def State.dpAddr (s : State) (q : OpIn) : Nat :=
  if q.at 0 1 % 2 = 1 then q.at 1 4 / 65536 * 65536 + s.rd HIF_DPPTR_PTR else q.at 1 4

/-- The data-port request waits, `d` of it done (R460, R503). -/
def State.dpWait (s : State) (d : DpProgress) : Ans := ({ s with hif := { s.hif with dp := some d } }, stWaits, [])

/-- The expert DP_READ of `n` bytes goes on from `d`. A reset of the far side that has failed its access ends it with FAULT (R461). -/
def State.dpReadOn (s : State) (q : OpIn) (n : Nat) (d : DpProgress) : Ans :=
  let a := (d.base + d.moved) % 2 ^ 32
  if d.failed then (s.busFault .hif a .bus, stFault, [])
  else
    let r := s.dpReadAt (d.base + d.moved) (n - d.moved) n
    match r.2.1 with
    | none => (r.2.2.dpAdvance q n, stOK, d.got ++ r.1)
    | some (.err e, a) => (r.2.2.busFault .hif a e, e.status, [])
    | some (.waits, _) => r.2.2.dpWait { d with moved := d.moved + r.1.length, got := d.got ++ r.1 }

/-- DP_READ, basic or expert (R500, R502, R503). -/
def State.opDataRead (s : State) (q : OpIn) : Ans :=
  if q.expert then
    let n := q.at 5 2
    if q.p.length ≠ 7 ∨ 1024 < n then s.refuse stBadLength
    else if 4 ≤ q.at 0 1 then s.refuse stBadParam
    else if n = 0 then s.refuse stOkEmpty
    else s.dpReadOn q n (s.hif.dp.getD { base := s.dpAddr q, moved := 0, got := [], failed := false })
  else s.opDpRead q

/-- An expert DP_WRITE has moved its bytes from `base` on: the reply goes out once no write of HIF is held (R503). -/
def State.dpWritten (s : State) (q : OpIn) (n base : Nat) : Ans :=
  let s1 := if s.heldCount 12 = 0 then s else s.drain
  if s1.heldCount 12 = 0 then ((s1.dpAdvance q n).dpRing q, stOK, natLE 2 n)
  else s1.dpWait { base := base, moved := n, got := [], failed := false }

/-- The expert DP_WRITE of `bs` goes on from `d`. A reset of the far side that has lost a byte of it ends it with FAULT and the bytes before
(R461, log entry 34). -/
def State.dpWriteOn (s : State) (q : OpIn) (bs : List Byte) (d : DpProgress) : Ans :=
  if d.failed then (s.busFault .hif ((d.base + d.moved) % 2 ^ 32) .bus, stFault, natLE 2 d.moved)
  else
    let r := s.dpWriteAt (d.base + d.moved) (bs.drop d.moved) bs.length
    match r.2.1 with
    | none => r.2.2.dpWritten q bs.length d.base
    | some (.err e, a) => (r.2.2.busFault .hif a e, e.status, natLE 2 (d.moved + r.1))
    | some (.waits, _) => r.2.2.dpWait { d with moved := d.moved + r.1 }

/-- DP_WRITE, basic or expert (R500, R502, R503). -/
def State.opDataWrite (s : State) (q : OpIn) : Ans :=
  if q.expert then
    let d := q.p.drop 5
    if q.p.length < 5 then s.refuse stBadLength
    else if 4 ≤ q.at 0 1 then s.refuse stBadParam
    else if d.length = 0 then s.refuse stOkEmpty
    else s.dpWriteOn q d (s.hif.dp.getD { base := s.dpAddr q, moved := 0, got := [], failed := false })
  else s.opDpWrite q

/-! ### Requests that wait -/

/-- A host request that waits for an access is worked on again, or the engines' requests are (R375, R377, R460, log entry 34). -/
def State.hostLate (s : State) : State :=
  match s.hif.parked, s.hif.exec with
  | some (op, h, q), some e =>
    if h then s.runHif e op (if op = 3 then State.opDataRead else State.opDataWrite) q
    else s.runInterp op (fun t i => t.interpOp op i) q
  | _, _ => s.serve 13

end Sys2Proof.Machine
end

