-- ==== Sys2Proof/Machine/Operands.lean ====
section
/-!
DEFINITION. The operand forms of format M (R317 to R319), the base words and the reserved encodings (R316, R320 to R323, R333), and
reads and writes of memory by an instruction.
-/
namespace Sys2Proof.Machine

/-! ### Encodings -/

/-- REG of a base word (R317). -/
def regCode : GReg → Nat
  | .a => 0
  | .x => 1
  | .y => 2

/-- MODE of a base word (R318). -/
def modeCode : AMode → Nat
  | .imm => 0
  | .abs => 1
  | .xd => 2
  | .yd => 3
  | .sd => 4
  | .xpi => 5
  | .ypd => 6
  | .pcr => 7

/-- EXT of a base word (R317). -/
def extCode : Ext → Nat
  | .none => 0
  | .half _ => 1
  | .full _ => 2

/-- W of a base word (R317). -/
def widthCode : Width → Nat
  | .w8 => 0
  | .w16 => 1
  | .w32 => 2

/-- The width of an operand in bytes. -/
def widthBytes : Width → Nat
  | .w8 => 1
  | .w16 => 2
  | .w32 => 4

/-- The bytes that the extension adds (R335). -/
def extBytes : Ext → Nat
  | .none => 0
  | .half _ => 2
  | .full _ => 4

/-- A base word of format M (R317). -/
def baseWord (op : Nat) (r : GReg) (o : Opnd) : BitVec 16 :=
  BitVec.ofNat 16 (op * 1024 + modeCode o.mode * 128 + extCode o.ext * 32 + widthCode o.width * 8 + b2n o.sx * 4 + regCode r)

/-- A format M word is reserved (R318, R320, R333): its fields by number. -/
def reservedM (op mode ext w sx reg : Nat) : Bool :=
  let extBad := if mode ≤ 1 ∨ mode = 7 then ext = 0 else if mode = 5 ∨ mode = 6 then ext ≠ 0 else false
  let plain := mode = 1 || mode = 2 || mode = 3 || mode = 4 || mode = 7
  let word := w = 2 && sx = 0
  ext == 3 || w == 3 || reg == 3 || decide (0x17 ≤ op) || extBad || (mode == 0 && w != 2) ||
    (match op with
     | 0x00 => (reg == 1 && mode == 5) || (reg == 2 && mode == 6)
     | 0x01 => mode == 0 || sx == 1
     | 0x02 | 0x04 | 0x09 => false
     | 0x0D | 0x0E | 0x0F => reg != 0 || mode == 5 || mode == 6 || !word
     | 0x10 | 0x11 => reg != 0 || mode == 0 || sx == 1
     | 0x12 => !plain || !word
     | 0x13 | 0x14 | 0x15 | 0x16 => reg != 0 || !plain || !word
     | _ => reg != 0)

/-- The operation, register and operand of a format M instruction are an assigned encoding. -/
def assignedM (op : Nat) (r : GReg) (o : Opnd) : Bool :=
  !reservedM op (modeCode o.mode) (extCode o.ext) (widthCode o.width) (b2n o.sx) (regCode r)

/-- The format I words of R323. -/
def formatI : List Nat :=
  (List.range 10).map (0xE000 + ·) ++ (List.range 8).map (0xE010 + ·) ++ (List.range 4).map (0xE020 + ·) ++
  (List.range 4).map (0xE028 + ·) ++ (List.range 6).map (0xE030 + ·) ++ [0xE038, 0xE039]

/-- A base word is reserved (R333). -/
def reservedWord (w : BitVec 16) : Bool :=
  let n := w.toNat
  let top := n / 4096
  if top < 12 then reservedM (n / 1024) (n / 128 % 8) (n / 32 % 4) (n / 8 % 4) (n / 4 % 2) (n % 4)
  else if top = 12 then false
  else if top = 13 then
    let sub := n / 256 % 16
    decide (7 ≤ sub) || n / 32 % 8 != 0 || ((sub == 5 || sub == 6) && n / 8 % 4 != 0)
  else if top = 14 then !formatI.contains n
  else true

/-! ### Registers -/

/-- A programmer's register. -/
def getReg (g : GRegs) : GReg → Word
  | .a => g.a
  | .x => g.x
  | .y => g.y

/-- The registers with one replaced. -/
def setReg (g : GRegs) (r : GReg) (v : Word) : GRegs :=
  match r with
  | .a => { g with a := v }
  | .x => { g with x := v }
  | .y => { g with y := v }

/-- The registers with a pending load written (R328). -/
def withLoad (g : GRegs) (l : Option PendLoad) : GRegs :=
  match l with
  | some l => setReg g l.reg l.val
  | none => g

/-! ### Effective addresses (R318) -/

/-- A displacement: absent 0, 16 bits signed. -/
def disp : Ext → Word
  | .none => 0
  | .half v => v.signExtend 32
  | .full v => v

/-- The address of an extension in ABS: 16 bits are zero-extended. -/
def absAddr : Ext → Word
  | .none => 0
  | .half v => v.setWidth 32
  | .full v => v

/-- The effective address, and the registers after the update of XPI or YPD. -/
def effAddr (g : GRegs) (o : Opnd) (pnext : Word) : Word × GRegs :=
  let n := BitVec.ofNat 32 (widthBytes o.width)
  match o.mode with
  | .imm => (0, g)
  | .abs => (absAddr o.ext, g)
  | .xd => (g.x + disp o.ext, g)
  | .yd => (g.y + disp o.ext, g)
  | .sd => (g.s + disp o.ext, g)
  | .xpi => (g.x, { g with x := g.x + n })
  | .ypd => (g.y - n, { g with y := g.y - n })
  | .pcr => (pnext + disp o.ext, g)

/-- The mode updates register `r`. -/
def autoUpdates (m : AMode) (r : GReg) : Bool := (m == .xpi && r == .x) || (m == .ypd && r == .y)

/-- The value of register `r` that an operation reads, `g` before and `g1` after the update of its mode (log entry 35). -/
def readAuto (o : Opnd) (r : GReg) (g g1 : GRegs) : Word :=
  if autoUpdates o.mode r && Config.autoReadsNew then getReg g1 r else getReg g r

/-- The registers with the result `v` written to `r`, `g1` after the update of the mode (log entry 35). -/
def writeAuto (o : Opnd) (r : GReg) (g1 : GRegs) (v : Word) : GRegs :=
  if autoUpdates o.mode r && Config.autoWritesLast then g1 else setReg g1 r v

/-! ### Memory accesses of an instruction -/

/-- What a part of an instruction comes to: a value with the state, a failed access with its address, or an access that waits. -/
inductive Got (α : Type) where
  | ok (v : α) (s : State)
  | err (e : BusErr) (addr : Word) (s : State)
  | waits (addr : Word)

/-- The next part of an instruction. -/
def andThen {α β : Type} (x : Got α) (f : α → State → Got β) : Got β :=
  match x with
  | .ok v s => f v s
  | .err e a s => .err e a s
  | .waits a => .waits a

/-- An instruction reads `n` bytes at `a`; the flag tells of a register block (R309). -/
def State.fetchData (s : State) (m : Master) (a : Word) (n : Nat) : Got (Word × Bool) :=
  match s.busRead m a.toNat n with
  | (.ok v, s1) => .ok (v, s.place m a.toNat == .reg) s1
  | (.err e, s1) => .err e a s1
  | (.waits, _) => .waits a

/-- A place within a TCM. -/
def BusPlace.inTcm : BusPlace → Bool
  | .tcm _ => true
  | .sram _ | .flash _ | .reg | .none => false

/-- An instruction writes the low `n` bytes of `v` at `a`; the flag tells that the write leaves the TCM (R309). -/
def State.storeData (s : State) (m : Master) (a : Word) (n : Nat) (v : Word) : Got Bool :=
  let out := !(s.place m a.toNat).inTcm
  if s.heldWrite m a.toNat ∧ a.toNat % 4 = 0 ∧ n = 4 then .ok out s
  else match s.busWrite m a.toNat n v with
    | (.ok _, s1) => .ok out s1
    | (.err e, s1) => .err e a s1
    | (.waits, _) => .waits a

/-- An operand extended to 32 bits (R317, R319). -/
def extend (w : Width) (sx : Bool) (v : Word) : Word :=
  match w with
  | .w8 => if sx then (v.setWidth 8).signExtend 32 else v &&& 0xFF
  | .w16 => if sx then (v.setWidth 16).signExtend 32 else v &&& 0xFFFF
  | .w32 => v

/-- The value of an IMM extension; `zero` for the operations that extend 16 bits with zeros (R319). -/
def immValue (e : Ext) (zero : Bool) : Word := if zero then absAddr e else disp e

/-- The operand of an instruction: its value, the registers after the update of its mode, and whether a register block was read. -/
def State.operand (s : State) (m : Master) (g : GRegs) (o : Opnd) (pnext : Word) (zero : Bool) : Got (Word × GRegs × Bool) :=
  if o.mode = .imm then .ok (immValue o.ext zero, g, false) s
  else
    let x := effAddr g o pnext
    andThen (s.fetchData m x.1 (widthBytes o.width)) (fun r t => .ok (extend o.width o.sx r.1, x.2, r.2) t)

end Sys2Proof.Machine
end

