-- ==== Sys2Proof/Decode.lean ====
section
/-!
DEFINITION. Instruction words of Gosor-32 (R315 to R318, R320 to R323, R333, R335): the decoder from a word with its extension to the command
that an engine executes, the encoder, and the command that a word of spec/opcode_table.json spells.
-/
namespace Sys2Proof

open Sys2Proof.Machine

/-! ### Fields -/

/-- MODE of a base word (R318). -/
def modeOf : Nat → AMode
  | 0 => .imm
  | 1 => .abs
  | 2 => .xd
  | 3 => .yd
  | 4 => .sd
  | 5 => .xpi
  | 6 => .ypd
  | _ => .pcr

/-- W of a base word (R317). -/
def widthOf : Nat → Width
  | 0 => .w8
  | 1 => .w16
  | _ => .w32

/-- REG of a base word (R317). -/
def gregOf : Nat → GReg
  | 0 => .a
  | 1 => .x
  | _ => .y

/-- The extension that EXT calls for, from the bits that follow the base word, the lower halfword first (R315, R317). -/
def extOf (ext x : Nat) : Ext :=
  match ext with
  | 1 => .half (BitVec.ofNat 16 x)
  | 2 => .full (BitVec.ofNat 32 x)
  | _ => .none

/-- The operand of a format M word (R317). -/
def opndOf (base x : Nat) : Opnd :=
  { mode := modeOf (base / 128 % 8), ext := extOf (base / 32 % 4) x, width := widthOf (base / 8 % 4), sx := base / 4 % 2 == 1 }

/-- COND of a format B word (R321); 0xF is CALLR. -/
def condOf : Nat → Option Cond
  | 0x0 => some .br | 0x1 => some .bz | 0x2 => some .bnz | 0x3 => some .bc | 0x4 => some .bnc | 0x5 => some .bn | 0x6 => some .bnn
  | 0x7 => some .bv | 0x8 => some .bnv | 0x9 => some .bugt | 0xA => some .bule | 0xB => some .bsge | 0xC => some .bslt
  | 0xD => some .bsgt | 0xE => some .bsle | _ => none

/-- The displacement of a format B word: D8, or the D16 that follows where D8 is 0 (R321). -/
def dispOf (base x : Nat) : Disp := if base % 256 = 0 then .d16 (BitVec.ofNat 16 x) else .d8 (BitVec.ofNat 8 base)

/-! ### Decoding -/

/-- A format M word by its OP (R320). -/
def decodeM (e : Fin 12) (op : Nat) (r : GReg) (o : Opnd) : Option Instr :=
  match op with
  | 0x00 => some (.ld e r o) | 0x01 => some (.st e r o) | 0x02 => some (.add e r o) | 0x03 => some (.adc e o)
  | 0x04 => some (.sub e r o) | 0x05 => some (.sbc e o) | 0x06 => some (.and e o) | 0x07 => some (.or e o)
  | 0x08 => some (.xor e o) | 0x09 => some (.cmp e r o) | 0x0A => some (.test e o) | 0x0B => some (.mul e o)
  | 0x0C => some (.mulhu e o) | 0x0D => some (.addd e o) | 0x0E => some (.subd e o) | 0x0F => some (.cmpd e o)
  | 0x10 => some (.inc e o) | 0x11 => some (.dec e o) | 0x12 => some (.lea e r o) | 0x13 => some (.jump e o)
  | 0x14 => some (.call e o) | 0x15 => some (.ldr e o) | 0x16 => some (.stc e o) | _ => none

/-- A format S word by its SUB, with COUNT (R322). -/
def decodeS (e : Fin 12) (sub count : Nat) : Option Instr :=
  match sub with
  | 0 => some (.shl e (Fin.ofNat 32 count)) | 1 => some (.shr e (Fin.ofNat 32 count)) | 2 => some (.asr e (Fin.ofNat 32 count))
  | 3 => some (.rol e (Fin.ofNat 32 count)) | 4 => some (.ror e (Fin.ofNat 32 count))
  | 5 => some (.shld e (Fin.ofNat 8 count)) | 6 => some (.shrd e (Fin.ofNat 8 count)) | _ => none

/-- A format I word by its low 12 bits (R323). -/
def decodeI (e : Fin 12) (n : Nat) : Option Instr :=
  match n with
  | 0x000 => some (.nop e) | 0x001 => some (.wait e) | 0x002 => some (.ret e) | 0x003 => some (.retv e) | 0x004 => some (.fsetI e)
  | 0x005 => some (.fclrI e) | 0x006 => some (.fsetC e) | 0x007 => some (.fclrC e) | 0x008 => some (.fclrD e) | 0x009 => some (.daa e)
  | 0x010 => some (.move e .ax) | 0x011 => some (.move e .xa) | 0x012 => some (.move e .ay) | 0x013 => some (.move e .ya)
  | 0x014 => some (.move e .xy) | 0x015 => some (.move e .yx) | 0x016 => some (.moveSX e) | 0x017 => some (.moveXS e)
  | 0x020 => some (.push e .a) | 0x021 => some (.push e .x) | 0x022 => some (.push e .y) | 0x023 => some (.push e .f)
  | 0x028 => some (.pop e .a) | 0x029 => some (.pop e .x) | 0x02A => some (.pop e .y) | 0x02B => some (.popF e)
  | 0x030 => some (.incr e .a) | 0x031 => some (.decr e .a) | 0x032 => some (.incr e .x) | 0x033 => some (.decr e .x)
  | 0x034 => some (.incr e .y) | 0x035 => some (.decr e .y) | 0x038 => some (.neg e) | 0x039 => some (.not e) | _ => none

/-- The command that engine `e` executes at the word `w`: bits 15:0 are the base word, the bits above it its extension. A reserved base
word is the trap of R334. -/
def decodeGosor (e : Fin 12) (w : Nat) : Option Instr :=
  let base := w % 65536
  let x := w / 65536
  let top := base / 4096
  if reservedWord (BitVec.ofNat 16 base) then some (.reservedOpcodeTrap e (BitVec.ofNat 16 base))
  else if top < 12 then decodeM e (base / 1024) (gregOf (base % 4)) (opndOf base x)
  else if top = 12 then
    match condOf (base / 256 % 16) with
    | some c => some (.branch e c (dispOf base x))
    | none => some (.callr e (dispOf base x))
  else if top = 13 then decodeS e (base / 256 % 16) (base % 32)
  else decodeI e (base % 4096)

/-- The bytes of an instruction, by its base word alone (R335). -/
def gosorLen (base : Nat) : Nat :=
  let top := base / 4096
  if top < 12 then (if base / 32 % 4 = 1 then 4 else if base / 32 % 4 = 2 then 6 else 2)
  else if top = 12 ∧ base % 256 = 0 then 4
  else 2

/-! ### Encoding -/

/-- The extension above a base word. -/
def extBits : Ext → Nat
  | .none => 0
  | .half v => v.toNat
  | .full v => v.toNat

/-- A format M instruction (R317). -/
def encodeM (op : Nat) (r : GReg) (o : Opnd) : Nat :=
  op * 1024 + modeCode o.mode * 128 + extCode o.ext * 32 + widthCode o.width * 8 + b2n o.sx * 4 + regCode r + 65536 * extBits o.ext

/-- COND (R321). -/
def condCode : Cond → Nat
  | .br => 0x0 | .bz => 0x1 | .bnz => 0x2 | .bc => 0x3 | .bnc => 0x4 | .bn => 0x5 | .bnn => 0x6 | .bv => 0x7 | .bnv => 0x8
  | .bugt => 0x9 | .bule => 0xA | .bsge => 0xB | .bslt => 0xC | .bsgt => 0xD | .bsle => 0xE

/-- A format B instruction (R321). -/
def encodeB (cond : Nat) (d : Disp) : Nat :=
  match d with
  | .d8 v => 0xC000 + cond * 256 + v.toNat
  | .d16 v => 0xC000 + cond * 256 + 65536 * v.toNat

/-- The words of an instruction, with the engine that executes it; none for a command that is no instruction of an engine. -/
def encodeGosor : Instr → Option (Fin 12 × Nat)
  | .ld e r o => some (e, encodeM 0x00 r o) | .st e r o => some (e, encodeM 0x01 r o) | .add e r o => some (e, encodeM 0x02 r o)
  | .adc e o => some (e, encodeM 0x03 .a o) | .sub e r o => some (e, encodeM 0x04 r o) | .sbc e o => some (e, encodeM 0x05 .a o)
  | .and e o => some (e, encodeM 0x06 .a o) | .or e o => some (e, encodeM 0x07 .a o) | .xor e o => some (e, encodeM 0x08 .a o)
  | .cmp e r o => some (e, encodeM 0x09 r o) | .test e o => some (e, encodeM 0x0A .a o) | .mul e o => some (e, encodeM 0x0B .a o)
  | .mulhu e o => some (e, encodeM 0x0C .a o) | .addd e o => some (e, encodeM 0x0D .a o) | .subd e o => some (e, encodeM 0x0E .a o)
  | .cmpd e o => some (e, encodeM 0x0F .a o) | .inc e o => some (e, encodeM 0x10 .a o) | .dec e o => some (e, encodeM 0x11 .a o)
  | .lea e r o => some (e, encodeM 0x12 r o) | .jump e o => some (e, encodeM 0x13 .a o) | .call e o => some (e, encodeM 0x14 .a o)
  | .ldr e o => some (e, encodeM 0x15 .a o) | .stc e o => some (e, encodeM 0x16 .a o)
  | .branch e c d => some (e, encodeB (condCode c) d) | .callr e d => some (e, encodeB 0xF d)
  | .shl e n => some (e, 0xD000 + n.val) | .shr e n => some (e, 0xD100 + n.val) | .asr e n => some (e, 0xD200 + n.val)
  | .rol e n => some (e, 0xD300 + n.val) | .ror e n => some (e, 0xD400 + n.val)
  | .shld e n => some (e, 0xD500 + n.val) | .shrd e n => some (e, 0xD600 + n.val)
  | .nop e => some (e, 0xE000) | .wait e => some (e, 0xE001) | .ret e => some (e, 0xE002) | .retv e => some (e, 0xE003)
  | .fsetI e => some (e, 0xE004) | .fclrI e => some (e, 0xE005) | .fsetC e => some (e, 0xE006) | .fclrC e => some (e, 0xE007)
  | .fclrD e => some (e, 0xE008) | .daa e => some (e, 0xE009)
  | .move e .ax => some (e, 0xE010) | .move e .xa => some (e, 0xE011) | .move e .ay => some (e, 0xE012)
  | .move e .ya => some (e, 0xE013) | .move e .xy => some (e, 0xE014) | .move e .yx => some (e, 0xE015)
  | .moveSX e => some (e, 0xE016) | .moveXS e => some (e, 0xE017)
  | .push e .a => some (e, 0xE020) | .push e .x => some (e, 0xE021) | .push e .y => some (e, 0xE022) | .push e .f => some (e, 0xE023)
  | .pop e .a => some (e, 0xE028) | .pop e .x => some (e, 0xE029) | .pop e .y => some (e, 0xE02A) | .popF e => some (e, 0xE02B)
  | .incr e .a => some (e, 0xE030) | .decr e .a => some (e, 0xE031) | .incr e .x => some (e, 0xE032)
  | .decr e .x => some (e, 0xE033) | .incr e .y => some (e, 0xE034) | .decr e .y => some (e, 0xE035)
  | .neg e => some (e, 0xE038) | .not e => some (e, 0xE039)
  | .reservedOpcodeTrap e w => some (e, w.toNat)
  | _ => none

/-- The command that a word of spec/opcode_table.json spells. The table gives no row bits; the words of chapter 11 spell the instructions
of an engine, and a word of at least 16 bits is read as one of E3, since no word names its engine (log entry 91). -/
def decodeTableWord (nbits w : Nat) : Option Instr := if nbits < 16 then none else decodeGosor 3 w

end Sys2Proof
end

