-- ==== Sys2Proof/Machine/FlashFault.lean ====
section
/-! DEFINITION. ERASE_TIMEOUT (R371): an erase that never verifies ends with its block marked half-erased; ERASE_RESUME (R377). -/
namespace Sys2Proof.Machine

/-- The die when the erase of block number `blk` is given up: no DONE, and the mark. -/
def Flc.eraseFail (f : Flc) (blk : Nat) : Flc :=
  { f with op := none, half := if f.half.contains blk then f.half else f.half ++ [blk] }

/-- ERASE_TIMEOUT (R371): 400 ms of erase without verifying; ERASETMO is logged (R465). -/
def execEraseTimeout (s : State) : Host.Outcome State Fault Refusal :=
  match s.flc.op with
  | none => .next s
  | some o =>
    if o.op ≠ 2 ∨ s.rd FLC_ERSTAT_SUSP = 1 then .next s
    else
      let t := s.flashSettle.waitState
      .next (((t.flashEnd o (t.flc.eraseFail (blockOf o.dst)) 0 stFlashHalfErased).svrFlashDone o stFlashHalfErased).fault
        { code := 9, region := 13, tier := 0, owner := o.owner, addr := 0x20000000 + o.dst, status := stFlashHalfErased })

/-- ERASE_RESUME (R377): RESUMEMIN µs without a read of the bank. -/
def execEraseResume (s : State) : Host.Outcome State Fault Refusal :=
  if s.rd FLC_ERSTAT_SUSP = 1 then
    let t := s.tick (s.flc.lastRead + s.rd FLC_CFG_RESUMEMIN * 400 - s.tclk)
    .next { t with regs := wrF t.regs FLC_ERSTAT_SUSP 0 }
  else .next s

end Sys2Proof.Machine
end

