-- ==== Sys2Proof/Machine/Flags.lean ====
section
/-!
DEFINITION. The Gosor flags F (R314) and every flag computation: binary arithmetic (R324), packed BCD (R325), DAA (R326),
shifts and digit shifts (R322, R327), and the branch conditions (R321).
-/
namespace Sys2Proof.Machine

/-- Bit positions in F (R314). -/
def fC : Nat := 0
def fZ : Nat := 1
def fV : Nat := 2
def fN : Nat := 3
def fD : Nat := 4
def fI : Nat := 5
def fT : Nat := 6

/-- Bit `i` of F. -/
def getFlag (f : Word) (i : Nat) : Bool := f.getLsbD i

/-- F with bit `i` replaced. -/
def setFlag (f : Word) (i : Nat) (b : Bool) : Word :=
  if b then f ||| BitVec.ofNat 32 (2 ^ i) else f &&& ~~~(BitVec.ofNat 32 (2 ^ i))

/-- The H field of F: bits 15:8. -/
def getH (f : Word) : BitVec 8 := f.extractLsb' 8 8

/-- F with H replaced. -/
def setH (f : Word) (h : BitVec 8) : Word := (f &&& 0xFFFF00FF) ||| (h.setWidth 32 <<< 8)

/-- The bits of F that software can load: H, T, I, D, N, V, Z, C (R314); reserved bits read 0. -/
def fMask : Word := 0x0000FF7F

/-- N and Z of a 32-bit result (R324). -/
def flagsNZ (f r : Word) : Word := setFlag (setFlag f fN r.msb) fZ (r == 0)

/-- N, Z, C and V set at once. -/
def flagsNZCV (f r : Word) (c v : Bool) : Word := setFlag (setFlag (flagsNZ f r) fC c) fV v

/-- The 33-bit sum of two words and a carry, as a number. -/
def sumNat (a b : Word) (c : Bool) : Nat := a.toNat + b.toNat + b2n c

/-- Digit carries of an addition: bit k is the carry out of bit 4k + 3 (R314, R324). -/
def digitCarries (a b : Word) (c : Bool) : BitVec 8 :=
  BitVec.ofNat 8 ((List.range 8).foldl (fun h k =>
    let m := 2 ^ (4 * k + 4)
    h + (if m ≤ a.toNat % m + b.toNat % m + b2n c then 2 ^ k else 0)) 0)

/-- The outcome of an arithmetic instruction: result and flags. -/
structure AluRes where
  r : Word
  f : Word
deriving DecidableEq, Repr

/-- ADD and ADC: r = a + b + c; H is written only when the destination is A (R320, R324). -/
def aluAdd (f a b : Word) (c toA : Bool) : AluRes :=
  let r := BitVec.ofNat 32 (sumNat a b c)
  let f1 := flagsNZCV f r (decide (2 ^ 32 ≤ sumNat a b c)) (a.msb == b.msb && r.msb != a.msb)
  { r := r, f := if toA then setH f1 (digitCarries a b c) else f1 }

/-- SUB, SBC, CMP and NEG: r = a − b − borrow; C = 1 means no borrow (R324). -/
def aluSub (f a b : Word) (borrow : Bool) : AluRes :=
  let r := a - b - BitVec.ofNat 32 (b2n borrow)
  { r := r, f := flagsNZCV f r (decide (b.toNat + b2n borrow ≤ a.toNat)) (a.msb != b.msb && r.msb == b.msb) }

/-- Digit `k` of a packed-BCD word. -/
def digit (w : Word) (k : Nat) : Nat := w.toNat / 16 ^ k % 16

/-- Some digit of the word is above 9. -/
def badDigit (w : Word) : Bool := (List.range 8).any (fun k => decide (9 < digit w k))

/-- One digit of R325: the digit of the result and the carry. -/
def bcdStep (add : Bool) (x y cy : Nat) : Nat × Nat :=
  if add then
    let t := x + y + cy
    if 10 ≤ t then ((t - 10) % 16, 1) else (t % 16, 0)
  else
    if x < y + cy then ((x + 10 + 16 - y - cy) % 16, 1) else ((x - y - cy) % 16, 0)

/-- The eight digits of R325 from digit `k` on, least significant first: result number and last carry. -/
def bcdDigits (add : Bool) (a b : Word) : Nat → Nat → Nat → Nat × Nat
  | 0, _, cy => (0, cy)
  | n + 1, k, cy =>
    let d := bcdStep add (digit a k) (digit b k) cy
    let rest := bcdDigits add a b n (k + 1) d.2
    (d.1 + 16 * rest.1, rest.2)

/-- The flags of R325: D is only ever set. -/
def bcdFlags (f a b : Word) (r : Nat) (c : Bool) : Word :=
  let f1 := if badDigit a || badDigit b then setFlag f fD true else f
  setFlag (setFlag (setFlag (setFlag f1 fC c) fZ (r == 0)) fN false) fV false

/-- ADDD (R325). -/
def aluAddd (f a b : Word) : AluRes :=
  let d := bcdDigits true a b 8 0 (b2n (getFlag f fC))
  { r := BitVec.ofNat 32 d.1, f := bcdFlags f a b d.1 (d.2 == 1) }

/-- SUBD (R325): C is the no-borrow in and out. -/
def aluSubd (f a b : Word) : AluRes :=
  let d := bcdDigits false a b 8 0 (1 - b2n (getFlag f fC))
  { r := BitVec.ofNat 32 d.1, f := bcdFlags f a b d.1 (d.2 == 0) }

/-- CMPD (R325): C is ignored on entry, and A keeps its value. -/
def aluCmpd (f a b : Word) : AluRes :=
  let d := bcdDigits false a b 8 0 0
  { r := a, f := bcdFlags f a b d.1 (d.2 == 0) }

/-- The nibbles of DAA from nibble `k` on (R326): result number, last carry, and whether a nibble ended above 9. -/
def daaDigits (a : Word) (h : BitVec 8) : Nat → Nat → Nat → Nat × Nat × Bool
  | 0, _, cy => (0, cy, false)
  | m + 1, k, cy =>
    let n0 := digit a k + cy
    let n := if h.getLsbD k || decide (9 < n0) then n0 + 6 else n0
    let rest := daaDigits a h m (k + 1) (if 15 < n then 1 else 0)
    (n % 16 + 16 * rest.1, rest.2.1, decide (9 < n % 16) || rest.2.2)

/-- DAA (R326). -/
def aluDaa (f a : Word) : AluRes :=
  let h := getH f
  let d := daaDigits a h 8 0 0
  let f1 := if d.2.2 then setFlag f fD true else f
  let f2 := setH (setFlag f1 fC (h.getLsbD 7 || d.2.1 == 1)) 0
  { r := BitVec.ofNat 32 d.1, f := setFlag (setFlag (setFlag f2 fZ (d.1 == 0)) fN false) fV false }

/-- The shifts of R322 by a count that is not 0: result and last bit out. -/
inductive ShiftKind where
  | shl | shr | asr | rol | ror
deriving DecidableEq, Repr

/-- A binary shift of A by `n`, 1 to 31: the result and C (R322). -/
def shiftBy (k : ShiftKind) (a : Word) (n : Nat) : Word × Bool :=
  match k with
  | .shl => (a <<< n, a.getLsbD (32 - n))
  | .shr => (a >>> n, a.getLsbD (n - 1))
  | .asr => (a.sshiftRight n, a.getLsbD (n - 1))
  | .rol => let r := a.rotateLeft n; (r, r.getLsbD 0)
  | .ror => let r := a.rotateRight n; (r, r.getLsbD 31)

/-- A binary shift with its flags; a count of 0 leaves A and C and sets N and Z from A (R322). -/
def aluShift (k : ShiftKind) (f a : Word) (n : Nat) : AluRes :=
  if n = 0 then { r := a, f := flagsNZ f a }
  else { r := (shiftBy k a n).1, f := setFlag (flagsNZ f (shiftBy k a n).1) fC (shiftBy k a n).2 }

/-- SHLD and SHRD by `n` digits (R327): zeros enter, C tells whether a digit shifted out is not 0, D whether A held a digit
above 9. A count of 0 leaves A and C and sets N and Z from A (R322). -/
def aluDigitShift (left : Bool) (f a : Word) (n : Nat) : AluRes :=
  if n = 0 then { r := a, f := flagsNZ f a }
  else
    let r := if left then a <<< (4 * n) else a >>> (4 * n)
    let out := if left then a >>> (32 - 4 * n) else a <<< (32 - 4 * n)
    let f1 := if badDigit a then setFlag f fD true else f
    { r := r, f := setFlag (setFlag (setFlag (setFlag f1 fC (out != 0)) fZ (r == 0)) fN false) fV false }

/-- A branch condition holds of the flags (R321). -/
def condHolds (c : Cond) (f : Word) : Bool :=
  let C := getFlag f fC
  let Z := getFlag f fZ
  let V := getFlag f fV
  let N := getFlag f fN
  match c with
  | .br => true
  | .bz => Z
  | .bnz => !Z
  | .bc => C
  | .bnc => !C
  | .bn => N
  | .bnn => !N
  | .bv => V
  | .bnv => !V
  | .bugt => C && !Z
  | .bule => !C || Z
  | .bsge => N == V
  | .bslt => N != V
  | .bsgt => !Z && (N == V)
  | .bsle => Z || (N != V)

end Sys2Proof.Machine
end

