-- ==== Sys2Proof/Machine/Gosor.lean ====
section
/-!
DEFINITION. Gosor-32 (11_gosor_instruction_set.md): how an engine executes an instruction (R315, R319, R328, R329), vectors (R303 to R305,
R331, R334), lockstep checkpoints and restores (R308 to R310), and one meaning for each instruction (R320 to R327, R330).
-/
namespace Sys2Proof.Machine

/-! ### Checkpoints (R309) -/

/-- Engine `t`, the even one of a lockstepped pair, takes a checkpoint; an engine alone takes none. -/
def State.checkpoint (s : State) (t : Nat) : State :=
  let g := s.eng t
  if s.paired t then s.setEng t { g with ckpt := g.g, ckLoad := g.load, undo := [], mmSince := false } else s

/-- The old words of the undo logs back into the TCMs of the pair, each engine's own, newest entry first (R310). -/
def State.undoAll (s : State) (t : Nat) : List (Nat × Word × Word) → State
  | [] => s
  | (w, old, old1) :: r => ((s.tcmPut t (4 * w) (wordBytes old)).tcmPut (t + 1) (4 * w) (wordBytes old1)).undoAll t r

/-! ### Vectors (R303, R304, R331) -/

/-- ENG_CAUSE, ENG_FADDR and ENG_TRAPOP after an entry of priority `pri` (R304, R312). -/
def causeRegs (m : List (Nat × Word)) (t pri : Nat) (c : VecCause) : List (Nat × Word) :=
  let r1 := wrF (wrF (wrF m (ENG_CAUSE_VEC t) pri) (ENG_CAUSE_CODE t) c.code) (ENG_FADDR_ADDR t) c.faddr.toNat
  match c.op with
  | some w => wrF r1 (ENG_TRAPOP_WORD t) w.toNat
  | none => r1

/-- A stack write of a vector entry fails at `a` (R304): STOPPED, with the stack fault in ENG_CAUSE and in the log of FLT. -/
def State.stackFault (s : State) (t pri : Nat) (a : Word) : State :=
  let s1 := ({ s with regs := causeRegs s.regs t pri { code := 6, faddr := a } } : State).engStop t
  s1.fault { code := 4, region := s.regionOf (.eng (Fin.ofNat 12 t)), tier := 1, owner := t, addr := a.toNat }

/-- The entry of engine `t` is complete (R304): S and P move, I = 1, T = 0; the flushed write that it reports leaves its list. -/
def State.entered (s : State) (t : Nat) (x : Entering) : State :=
  let g := (s.eng t).g
  let r := match x.cause with
    | some c => causeRegs s.regs t x.pri c
    | none => s.regs
  let flush := match x.cause with
    | some c => c.code == 5
    | none => false
  let h : Engine := { (s.eng t) with
    g := { g with s := g.s - 8, p := x.vec, f := setFlag (setFlag g.f fI true) fT false }, access := none, entering := none,
    flushed := if flush then (s.eng t).flushed.tail else (s.eng t).flushed }
  ({ s.setEng t h with regs := r } : State).checkpoint t

/-- The entry waits for a push. -/
def State.enterWait (s : State) (t : Nat) (x : Entering) : State :=
  s.setEng t { (s.eng t) with access := none, entering := some x }

/-- The second push of an entry, of F. -/
def State.pushF (s : State) (t : Nat) (x : Entering) : State :=
  let g := (s.eng t).g
  match s.busWrite (.eng (Fin.ofNat 12 t)) (g.s - 8).toNat 4 g.f with
  | (.err _, s1) => s1.stackFault t x.pri (g.s - 8)
  | (.ok _, s1) => s1.entered t x
  | (.waits, s1) => s1.enterWait t { x with pushed := true }

/-- Engine `t` goes on with the vector entry `x` (R304): P and F are pushed. A push that must wait behind a write which a Strait holds keeps
the entry under way (R22). -/
def State.enterOn (s : State) (t : Nat) (x : Entering) : State :=
  let g := (s.eng t).g
  if x.pushed then s.pushF t x
  else match s.busWrite (.eng (Fin.ofNat 12 t)) (g.s - 4).toNat 4 g.p with
    | (.err _, s1) => s1.stackFault t x.pri (g.s - 4)
    | (.ok _, s1) => s1.pushF t x
    | (.waits, s1) => s1.enterWait t x

/-- Engine `t` enters the vector at `vec` by a cause of priority `pri` (R304). -/
def State.enterVector (s : State) (t pri : Nat) (vec : Word) (c : Option VecCause) : State :=
  s.enterOn t { pri := pri, vec := vec, cause := c, pushed := false }

/-- The bits of a pending field whose mask bits are set. -/
def State.pendEvents (s : State) (t : Nat) : Nat := s.rd (ENG_PEND_EPEND t) &&& s.rd (ENG_MASK_EMASK t)
def State.pendInterrupts (s : State) (t : Nat) : Nat := s.rd (ENG_PEND_IPEND t) &&& s.rd (ENG_MASK_IMASK t)

/-- At the boundary a vector of priority 2, 5 or 6 is to be entered (R303, R305). -/
def State.vectorDue (s : State) (t : Nat) : Bool :=
  let g := s.eng t
  !g.flushed.isEmpty || (!getFlag g.g.f fI && (s.pendEvents t != 0 || s.pendInterrupts t != 0))

/-- The engine takes the vector of lowest priority number that is present (R303). -/
def State.takeVector (s : State) (t : Nat) : State :=
  let g := s.eng t
  match g.flushed with
  | a :: _ => s.enterVector t 2 0x08 (some { code := 5, faddr := a })
  | [] =>
    if getFlag g.g.f fI then s
    else if s.pendEvents t ≠ 0 then s.enterVector t 5 0x18 none
    else if s.pendInterrupts t ≠ 0 then s.enterVector t 6 0x10 none
    else s

/-! ### Execution (R315, R319, R328, R329) -/

/-- What an instruction leaves: the registers, a load that it begins, whether the pair checkpoints at its retirement (R309), and
whether the engine is to wait. -/
structure Retired where
  g    : GRegs
  load : Option PendLoad := none
  out  : Bool := false
  wait : Bool := false
deriving DecidableEq, Repr

/-- An instruction's own work, on the registers before it and P_next. -/
abbrev Work := State → Master → GRegs → Word → Got Retired

/-- Engine `t` may execute an instruction now: it runs, no vector entry is under way, and no halt or vector comes first; a slot always follows its load (R329), and an
instruction whose access is held comes to its end first (R298). -/
def State.mayExecute (s : State) (t : Nat) : Bool :=
  let g := s.eng t
  s.tclkOn && g.st == .run && g.entering.isNone && (g.load.isSome || g.access.isSome || (!g.haltWant && !s.vectorDue t))

/-- `n` halfwords of the instruction at `p` are fetched from `a` on. A bus error names P; a flash or TCM error names its own address
(R315). -/
def State.fetchFrom (s : State) (m : Master) (p a : Word) : Nat → Got Unit
  | 0 => .ok () s
  | n + 1 =>
    if s.place m a.toNat = .reg then .err .bus p s
    else match s.busRead m a.toNat 2 with
      | (.ok _, s1) => s1.fetchFrom m p (a + 2) n
      | (.err e, s1) => .err e (if e = .bus then p else a) s1
      | (.waits, _) => .waits a

/-- The halfwords of the instruction at `a` are fetched (R315). -/
def State.fetchWords (s : State) (m : Master) (a : Word) (n : Nat) : Got Unit := s.fetchFrom m a a n

/-- The registers of engine `t` after a cause of priority 2 to 4 at its instruction: a pending load is written (R329). -/
def State.settleLoad (s : State) (t : Nat) : State :=
  let g := s.eng t
  s.setEng t { g with g := withLoad g.g g.load, load := none }

/-- An access of the instruction, or its fetch, has failed at `a` (R32, R303, R319): the fault is logged, and the engine enters its vector
unless the fault has brought a restart of it. -/
def State.faultVector (s : State) (t : Nat) (e : BusErr) (a : Word) (conseq : Bool := false) : State :=
  let s1 := s.busFault (.eng (Fin.ofNat 12 t)) a.toNat e conseq
  if (s1.eng t).st = .run then (s1.settleLoad t).enterVector t 2 0x08 (some { code := e.code, faddr := a }) else s1

/-- VECTOR_ENTRY (R303, R304): at an instruction boundary of an engine that runs, at an access that a reset of the far side has answered
with a bus error (R25, R461), or going on with an entry that waits. -/
def execVectorEntry (e : Fin 12) (s : State) : Host.Outcome State Fault Refusal :=
  let g := s.eng e.val
  .next (if !(s.tclkOn ∧ g.st = .run) then s
    else match g.entering, g.access with
      | some x, _ => s.enterOn e.val x
      | none, some (.failed a c) => s.faultVector e.val .bus a c
      | none, some (.held _) => s
      | none, none => if g.load.isNone ∧ !g.haltWant then s.takeVector e.val else s)

/-- The instruction of engine `t` waits for its access at `a` (R377, R460). -/
def State.holdAt (s : State) (t : Nat) (a : Word) : State := s.setEng t { (s.eng t) with access := some (.held a) }

/-- A held access of engine `t` that a reset of the far side has answered with a bus error: its address, and whether FLT's action was that
reset (R25, R461, R470). -/
def State.failedAt (s : State) (t : Nat) : Option (Word × Bool) :=
  match (s.eng t).access with
  | some (.failed a c) => some (a, c)
  | some (.held _) | none => none

/-- A reserved base word (R334). -/
def State.reservedTrap (s : State) (t : Nat) (w : BitVec 16) : State :=
  let m : Master := .eng (Fin.ofNat 12 t)
  let p := (s.eng t).g.p
  match s.failedAt t with
  | some (a, c) => s.faultVector t .bus a c
  | none =>
    match s.fetchWords m p 1 with
    | .ok _ s1 => (s1.settleLoad t).enterVector t 4 0x20 (some { code := 8, faddr := p, op := some w })
    | .err e a s1 => s1.faultVector t e a
    | .waits a => s.holdAt t a

/-- The instruction retires: its registers, then the load whose slot it was; an engine that its own work has stopped keeps none of it.
WAIT stops the engine unless a pending bit stands whose mask bit is set (R298, R303). -/
def State.retire (s : State) (t : Nat) (old : Option PendLoad) (r : Retired) : State :=
  let g := s.eng t
  if g.st ≠ .run then s
  else
    let s1 := s.setEng t { g with g := withLoad r.g old, load := r.load, access := none }
    if r.out then s1.checkpoint t
    else if r.wait ∧ s1.pendEvents t = 0 ∧ s1.pendInterrupts t = 0 then s1.engTo t .wait
    else s1

/-- The undo log of engine `t` has more entries than it holds (R309). -/
def State.undoFull (s : State) (t : Nat) : Bool := decide (256 < (s.eng t).undo.length)

/-- Engine `t` executes an instruction of `len` bytes whose work is `f`. A pair whose undo log would need a 257th entry takes a
checkpoint before it (R309). -/
def State.execute1 (s : State) (t len : Nat) (f : Work) : State :=
  let m : Master := .eng (Fin.ofNat 12 t)
  let g := (s.eng t).g
  let pn := g.p + BitVec.ofNat 32 len
  match s.fetchWords m g.p (len / 2) with
  | .waits a => s.holdAt t a
  | .err e a s1 => s1.faultVector t e a
  | .ok _ s1 =>
    let old := (s1.eng t).load
    let finish := fun x : Got Retired =>
      match x with
      | .ok r s2 => s2.retire t old r
      | .err e a s2 => s2.faultVector t e a
      | .waits a => s.holdAt t a
    match f s1 m g pn with
    | .ok r s2 => if s2.undoFull t then finish (f (s1.checkpoint t) m g pn) else finish (.ok r s2)
    | x => finish x

/-- An instruction of engine `e`: nothing happens unless the engine is to execute one. -/
def State.instr (s : State) (e : Fin 12) (len : Nat) (f : Work) : State :=
  if s.mayExecute e.val then
    match s.failedAt e.val with
    | some (a, c) => s.faultVector e.val .bus a c
    | none => s.execute1 e.val len f
  else s

/-- A format M instruction, which traps when its encoding is reserved (R333). -/
def State.instrM (s : State) (e : Fin 12) (op : Nat) (r : GReg) (o : Opnd) (f : Work) : State :=
  if assignedM op r o then s.instr e (2 + extBytes o.ext) f
  else if s.mayExecute e.val then s.reservedTrap e.val (baseWord op r o) else s

/-! ### Work of the operand instructions (R319, R320) -/

/-- The outcome of a logic operation or a multiply: N and Z. -/
def logicRes (f r : Word) : AluRes := { r := r, f := flagsNZ f r }

/-- An operation on register `r` and an operand; `keep` writes the result. -/
def workAlu (zero : Bool) (r : GReg) (o : Opnd) (keep : Bool) (alu : GRegs → Word → Word → AluRes) : Work := fun s m g pn =>
  andThen (s.operand m g o pn zero) (fun x t =>
    let res := alu g (readAuto o r g x.2.1) x.1
    let g2 := if keep then writeAuto o r x.2.1 res.r else x.2.1
    .ok { g := { g2 with p := pn, f := res.f }, out := x.2.2 } t)

/-- LD: the register is written at the end of the slot. -/
def workLd (r : GReg) (o : Opnd) : Work := fun s m g pn =>
  andThen (s.operand m g o pn false) (fun x t => .ok { g := { x.2.1 with p := pn }, load := some ⟨r, x.1⟩, out := x.2.2 } t)

/-- ST: ST X, [X+] stores X before the update (R319). -/
def workSt (r : GReg) (o : Opnd) : Work := fun s m g pn =>
  let x := effAddr g o pn
  let v := if o.mode = .xpi then getReg g r else readAuto o r g x.2
  andThen (s.storeData m x.1 (widthBytes o.width) v) (fun out t => .ok { g := { x.2 with p := pn }, out := out } t)

/-- N and Z of a result in W bits (R320). -/
def flagsNZW (w : Width) (f v : Word) : Word :=
  let x := extend w true v
  flagsNZ f x

/-- INC and DEC: the operand plus `d`, in W bits, as a read and a write. -/
def workStep (d : Word) (o : Opnd) : Work := fun s m g pn =>
  let x := effAddr g o pn
  let n := widthBytes o.width
  andThen (s.fetchData m x.1 n) (fun r t =>
    andThen (t.storeData m x.1 n (r.1 + d)) (fun out u =>
      .ok { g := { x.2 with p := pn, f := flagsNZW o.width g.f (r.1 + d) }, out := out || r.2 } u))

/-- LEA. -/
def workLea (r : GReg) (o : Opnd) : Work := fun s _ g pn =>
  .ok { g := { setReg g r (effAddr g o pn).1 with p := pn } } s

/-- JUMP. -/
def workJump (o : Opnd) : Work := fun s _ g pn => .ok { g := { g with p := (effAddr g o pn).1 } } s

/-- P_next is pushed and P becomes `target`: CALL and CALLR. -/
def pushCall (target : Word) : Work := fun s m g pn =>
  andThen (s.storeData m (g.s - 4) 4 pn) (fun out t => .ok { g := { g with s := g.s - 4, p := target }, out := out } t)

/-- CALL: EA is formed from S before the push. -/
def workCall (o : Opnd) : Work := fun s m g pn => pushCall (effAddr g o pn).1 s m g pn

/-! ### Reservations (R330) -/

/-- The shared-SRAM word that LDR or STC reaches; none where the access ends in a bus error. -/
def State.lockWord (s : State) (m : Master) (a : Word) : Option Nat :=
  match s.place m a.toNat with
  | .sram t => if a.toNat % 4 = 0 then some t else none
  | .tcm _ | .flash _ | .reg | .none => none

/-- LDR: A is loaded, T is set, and the word is reserved in place of an earlier one of the master. -/
def workLdr (o : Opnd) : Work := fun s m g pn =>
  let a := (effAddr g o pn).1
  match s.lockWord m a with
  | none => .err .bus a s
  | some w =>
    .ok { g := { g with p := pn, f := setFlag g.f fT true }, load := some ⟨.a, BitVec.ofNat 32 (s.sramNat w 4)⟩ }
      { s with resvs := (s.owned m, w) :: s.resvs.filter (fun r => r.1 ≠ s.owned m) }

/-- STC: A is stored while T = 1 and the reservation stands; T and the master's reservation end. The store waits behind a write of the
master that a Strait holds (R22). -/
def workStc (o : Opnd) : Work := fun s m g pn =>
  let a := (effAddr g o pn).1
  match s.lockWord m a with
  | none => .err .bus a s
  | some w =>
    let ok := getFlag g.f fT && s.resvs.contains (s.owned m, w)
    let s1 := if ok then s.sramWrite w (wordBytes g.a) else s
    if ok && s.writesHeld m then .waits a
    else .ok { g := { g with p := pn, f := setFlag (setFlag g.f fZ ok) fT false }, out := ok }
      { s1 with resvs := s1.resvs.filter (fun r => r.1 ≠ s.owned m) }

/-! ### Work of branches, shifts and implied instructions (R321 to R323) -/

/-- The bytes of a format B word, and its displacement. -/
def dispBytes : Disp → Nat
  | .d8 _ => 2
  | .d16 _ => 4

/-- The target of a format B word from P_next: D8 or D16 halfwords on. -/
def branchTarget (d : Disp) (pn : Word) : Word :=
  match d with
  | .d8 v => pn + (v.signExtend 32 <<< 1)
  | .d16 v => pn + (v.signExtend 32 <<< 1)

/-- A D8 of 0 names no instruction: a word with D8 = 0 has a D16 (R321). -/
def dispOk : Disp → Bool
  | .d8 v => v != 0
  | .d16 _ => true

/-- Work on the registers alone. -/
def workRegs (f : GRegs → GRegs) : Work := fun s _ g pn => .ok { g := { f g with p := pn } } s

/-- A conditional branch. -/
def workBranch (c : Cond) (d : Disp) : Work := fun s _ g pn =>
  .ok { g := { g with p := if condHolds c g.f then branchTarget d pn else pn } } s

/-- An operation of A alone, with its flags. -/
def workA (f : GRegs → AluRes) : Work :=
  workRegs (fun g => { g with a := (f g).r, f := (f g).f })

/-- A binary shift of A; COUNT = 0 takes bits 4:0 of X (R322). -/
def workShift (k : ShiftKind) (n : Fin 32) : Work := workA (fun g => aluShift k g.f g.a (if n.val = 0 then g.x.toNat % 32 else n.val))

/-- A digit shift of A; COUNT = 0 takes bits 2:0 of X (R322, R327). -/
def workDigits (left : Bool) (n : Fin 8) : Work :=
  workA (fun g => aluDigitShift left g.f g.a (if n.val = 0 then g.x.toNat % 8 else n.val))

/-- A flag is written (R323). -/
def workFlag (i : Nat) (v : Bool) : Work := workRegs (fun g => { g with f := setFlag g.f i v })

/-- A word is pushed (R331). -/
def workPush (v : GRegs → Word) : Work := fun s m g pn =>
  andThen (s.storeData m (g.s - 4) 4 (v g)) (fun out t => .ok { g := { g with s := g.s - 4, p := pn }, out := out } t)

/-- A register is popped, as a load (R328). -/
def workPop (r : GReg) : Work := fun s m g pn =>
  andThen (s.fetchData m g.s 4) (fun x t => .ok { g := { g with s := g.s + 4, p := pn }, load := some ⟨r, x.1⟩, out := x.2 } t)

/-- F as it is restored: T is 0 (R323, R330). -/
def loadF (v : Word) : Word := setFlag (v &&& fMask) fT false

/-- POP F, at once. -/
def workPopF : Work := fun s m g pn =>
  andThen (s.fetchData m g.s 4) (fun x t => .ok { g := { g with s := g.s + 4, p := pn, f := loadF x.1 }, out := x.2 } t)

/-- RET. -/
def workRet : Work := fun s m g _ =>
  andThen (s.fetchData m g.s 4) (fun x t => .ok { g := { g with s := g.s + 4, p := x.1 }, out := x.2 } t)

/-- RETV. -/
def workRetv : Work := fun s m g _ =>
  andThen (s.fetchData m g.s 4) (fun x t =>
    andThen (t.fetchData m (g.s + 4) 4) (fun y u =>
      .ok { g := { g with s := g.s + 8, p := y.1, f := loadF x.1 }, out := x.2 || y.2 } u))

/-- The registers that a MOVE pair names: from and to (R323). -/
def moveRegs : MovePair → GReg × GReg
  | .ax => (.a, .x)
  | .xa => (.x, .a)
  | .ay => (.a, .y)
  | .ya => (.y, .a)
  | .xy => (.x, .y)
  | .yx => (.y, .x)

/-- The value goes to the register, with N and Z. -/
def setNZ (g : GRegs) (r : GReg) (v : Word) : GRegs := { setReg g r v with f := flagsNZ g.f v }

/-- What PUSH stores. -/
def pushVal (r : PushReg) (g : GRegs) : Word :=
  match r with
  | .a => g.a
  | .x => g.x
  | .y => g.y
  | .f => g.f

/-- WAIT: a load whose slot it is has been written when the engine stops (R328). -/
def workWait : Work := fun s _ g pn => .ok { g := { g with p := pn }, wait := true } s

/-! ### Operand instructions (R320) -/

/-- LD (R320): the operand is loaded into the register, at the end of the slot (R328). -/
def execLd (e : Fin 12) (r : GReg) (o : Opnd) (s : State) : Host.Outcome State Fault Refusal :=
  .next (s.instrM e 0x00 r o (workLd r o))

/-- ST (R320): the register is stored. -/
def execSt (e : Fin 12) (r : GReg) (o : Opnd) (s : State) : Host.Outcome State Fault Refusal :=
  .next (s.instrM e 0x01 r o (workSt r o))

/-- ADD (R320): reg := reg + op. -/
def execAdd (e : Fin 12) (r : GReg) (o : Opnd) (s : State) : Host.Outcome State Fault Refusal :=
  .next (s.instrM e 0x02 r o (workAlu false r o true (fun g a b => aluAdd g.f a b false (r == .a))))

/-- ADC (R320): A := A + op + C. -/
def execAdc (e : Fin 12) (o : Opnd) (s : State) : Host.Outcome State Fault Refusal :=
  .next (s.instrM e 0x03 .a o (workAlu false .a o true (fun g a b => aluAdd g.f a b (getFlag g.f fC) true)))

/-- SUB (R320): reg := reg − op. -/
def execSub (e : Fin 12) (r : GReg) (o : Opnd) (s : State) : Host.Outcome State Fault Refusal :=
  .next (s.instrM e 0x04 r o (workAlu false r o true (fun g a b => aluSub g.f a b false)))

/-- SBC (R320): A := A − op − (1 − C). -/
def execSbc (e : Fin 12) (o : Opnd) (s : State) : Host.Outcome State Fault Refusal :=
  .next (s.instrM e 0x05 .a o (workAlu false .a o true (fun g a b => aluSub g.f a b (!getFlag g.f fC))))

/-- AND (R320): A := A and op. -/
def execAnd (e : Fin 12) (o : Opnd) (s : State) : Host.Outcome State Fault Refusal :=
  .next (s.instrM e 0x06 .a o (workAlu true .a o true (fun g a b => logicRes g.f (a &&& b))))

/-- OR (R320): A := A or op. -/
def execOr (e : Fin 12) (o : Opnd) (s : State) : Host.Outcome State Fault Refusal :=
  .next (s.instrM e 0x07 .a o (workAlu true .a o true (fun g a b => logicRes g.f (a ||| b))))

/-- XOR (R320): A := A xor op. -/
def execXor (e : Fin 12) (o : Opnd) (s : State) : Host.Outcome State Fault Refusal :=
  .next (s.instrM e 0x08 .a o (workAlu true .a o true (fun g a b => logicRes g.f (a ^^^ b))))

/-- CMP (R320): reg − op, the result discarded. -/
def execCmp (e : Fin 12) (r : GReg) (o : Opnd) (s : State) : Host.Outcome State Fault Refusal :=
  .next (s.instrM e 0x09 r o (workAlu false r o false (fun g a b => aluSub g.f a b false)))

/-- TEST (R320): A and op, the result discarded. -/
def execTest (e : Fin 12) (o : Opnd) (s : State) : Host.Outcome State Fault Refusal :=
  .next (s.instrM e 0x0A .a o (workAlu true .a o false (fun g a b => logicRes g.f (a &&& b))))

/-- MUL (R320): A := bits 31:0 of A × op. -/
def execMul (e : Fin 12) (o : Opnd) (s : State) : Host.Outcome State Fault Refusal :=
  .next (s.instrM e 0x0B .a o (workAlu false .a o true (fun g a b => logicRes g.f (a * b))))

/-- MULHU (R320): A := bits 63:32 of A × op, unsigned. -/
def execMulhu (e : Fin 12) (o : Opnd) (s : State) : Host.Outcome State Fault Refusal :=
  .next (s.instrM e 0x0C .a o (workAlu false .a o true (fun g a b => logicRes g.f (BitVec.ofNat 32 (a.toNat * b.toNat / 2 ^ 32)))))

/-- ADDD (R320): packed-BCD add (R325). -/
def execAddd (e : Fin 12) (o : Opnd) (s : State) : Host.Outcome State Fault Refusal :=
  .next (s.instrM e 0x0D .a o (workAlu true .a o true (fun g a b => aluAddd g.f a b)))

/-- SUBD (R320): packed-BCD subtract (R325). -/
def execSubd (e : Fin 12) (o : Opnd) (s : State) : Host.Outcome State Fault Refusal :=
  .next (s.instrM e 0x0E .a o (workAlu true .a o true (fun g a b => aluSubd g.f a b)))

/-- CMPD (R320): packed-BCD compare (R325). -/
def execCmpd (e : Fin 12) (o : Opnd) (s : State) : Host.Outcome State Fault Refusal :=
  .next (s.instrM e 0x0F .a o (workAlu true .a o true (fun g a b => aluCmpd g.f a b)))

/-- INC (R320): memory := memory + 1. -/
def execInc (e : Fin 12) (o : Opnd) (s : State) : Host.Outcome State Fault Refusal :=
  .next (s.instrM e 0x10 .a o (workStep 1 o))

/-- DEC (R320): memory := memory − 1. -/
def execDec (e : Fin 12) (o : Opnd) (s : State) : Host.Outcome State Fault Refusal :=
  .next (s.instrM e 0x11 .a o (workStep 0xFFFFFFFF o))

/-- LEA (R320): reg := EA. -/
def execLea (e : Fin 12) (r : GReg) (o : Opnd) (s : State) : Host.Outcome State Fault Refusal :=
  .next (s.instrM e 0x12 r o (workLea r o))

/-- JUMP (R320): P := EA. -/
def execJump (e : Fin 12) (o : Opnd) (s : State) : Host.Outcome State Fault Refusal :=
  .next (s.instrM e 0x13 .a o (workJump o))

/-- CALL (R320): P_next is pushed, P := EA. -/
def execCall (e : Fin 12) (o : Opnd) (s : State) : Host.Outcome State Fault Refusal :=
  .next (s.instrM e 0x14 .a o (workCall o))

/-- LDR (R320): load and reserve (R330). -/
def execLdr (e : Fin 12) (o : Opnd) (s : State) : Host.Outcome State Fault Refusal :=
  .next (s.instrM e 0x15 .a o (workLdr o))

/-- STC (R320): conditional store (R330). -/
def execStc (e : Fin 12) (o : Opnd) (s : State) : Host.Outcome State Fault Refusal :=
  .next (s.instrM e 0x16 .a o (workStc o))

/-! ### Branches (R321) -/

/-- A branch on a condition. -/
def execBranch (e : Fin 12) (c : Cond) (d : Disp) (s : State) : Host.Outcome State Fault Refusal :=
  .next (if dispOk d then s.instr e (dispBytes d) (workBranch c d) else s)

/-- CALLR: P_next is pushed first. -/
def execCallr (e : Fin 12) (d : Disp) (s : State) : Host.Outcome State Fault Refusal :=
  .next (if dispOk d then s.instr e (dispBytes d) (fun t m g pn => pushCall (branchTarget d pn) t m g pn) else s)

/-! ### Shifts (R322, R327) -/

/-- SHL (R322). -/
def execShl (e : Fin 12) (n : Fin 32) (s : State) : Host.Outcome State Fault Refusal :=
  .next (s.instr e 2 (workShift .shl n))

/-- SHR (R322). -/
def execShr (e : Fin 12) (n : Fin 32) (s : State) : Host.Outcome State Fault Refusal :=
  .next (s.instr e 2 (workShift .shr n))

/-- ASR (R322). -/
def execAsr (e : Fin 12) (n : Fin 32) (s : State) : Host.Outcome State Fault Refusal :=
  .next (s.instr e 2 (workShift .asr n))

/-- ROL (R322). -/
def execRol (e : Fin 12) (n : Fin 32) (s : State) : Host.Outcome State Fault Refusal :=
  .next (s.instr e 2 (workShift .rol n))

/-- ROR (R322). -/
def execRor (e : Fin 12) (n : Fin 32) (s : State) : Host.Outcome State Fault Refusal :=
  .next (s.instr e 2 (workShift .ror n))

/-- SHLD (R322, R327). -/
def execShld (e : Fin 12) (n : Fin 8) (s : State) : Host.Outcome State Fault Refusal :=
  .next (s.instr e 2 (workDigits true n))

/-- SHRD (R322, R327). -/
def execShrd (e : Fin 12) (n : Fin 8) (s : State) : Host.Outcome State Fault Refusal :=
  .next (s.instr e 2 (workDigits false n))

/-! ### Implied instructions (R323) -/

/-- NOP (R323): nothing. -/
def execNop (e : Fin 12) (s : State) : Host.Outcome State Fault Refusal :=
  .next (s.instr e 2 (workRegs id))

/-- RET (R323): P := [S], S := S + 4. -/
def execRet (e : Fin 12) (s : State) : Host.Outcome State Fault Refusal :=
  .next (s.instr e 2 (workRet))

/-- RETV (R323): the return from a vector. -/
def execRetv (e : Fin 12) (s : State) : Host.Outcome State Fault Refusal :=
  .next (s.instr e 2 (workRetv))

/-- FSET_I (R323): I := 1. -/
def execFsetI (e : Fin 12) (s : State) : Host.Outcome State Fault Refusal :=
  .next (s.instr e 2 (workFlag fI true))

/-- FCLR_I (R323): I := 0. -/
def execFclrI (e : Fin 12) (s : State) : Host.Outcome State Fault Refusal :=
  .next (s.instr e 2 (workFlag fI false))

/-- FSET_C (R323): C := 1. -/
def execFsetC (e : Fin 12) (s : State) : Host.Outcome State Fault Refusal :=
  .next (s.instr e 2 (workFlag fC true))

/-- FCLR_C (R323): C := 0. -/
def execFclrC (e : Fin 12) (s : State) : Host.Outcome State Fault Refusal :=
  .next (s.instr e 2 (workFlag fC false))

/-- FCLR_D (R323): D := 0. -/
def execFclrD (e : Fin 12) (s : State) : Host.Outcome State Fault Refusal :=
  .next (s.instr e 2 (workFlag fD false))

/-- DAA (R323): decimal adjust (R326). -/
def execDaa (e : Fin 12) (s : State) : Host.Outcome State Fault Refusal :=
  .next (s.instr e 2 (workA (fun g => aluDaa g.f g.a)))

/-- MOVE (R323): the first register named goes to the second. -/
def execMove (e : Fin 12) (p : MovePair) (s : State) : Host.Outcome State Fault Refusal :=
  .next (s.instr e 2 (workRegs (fun g => setNZ g (moveRegs p).2 (getReg g (moveRegs p).1))))

/-- MOVE_S_X (R323): X := S. -/
def execMoveSX (e : Fin 12) (s : State) : Host.Outcome State Fault Refusal :=
  .next (s.instr e 2 (workRegs (fun g => { g with x := g.s })))

/-- MOVE_X_S (R323): S := X. -/
def execMoveXS (e : Fin 12) (s : State) : Host.Outcome State Fault Refusal :=
  .next (s.instr e 2 (workRegs (fun g => { g with s := g.x })))

/-- PUSH (R323): S := S − 4, [S] := register. -/
def execPush (e : Fin 12) (r : PushReg) (s : State) : Host.Outcome State Fault Refusal :=
  .next (s.instr e 2 (workPush (pushVal r)))

/-- POP (R323): register := [S] as a load, S := S + 4. -/
def execPop (e : Fin 12) (r : GReg) (s : State) : Host.Outcome State Fault Refusal :=
  .next (s.instr e 2 (workPop r))

/-- POP_F (R323): F := [S] with T := 0, S := S + 4. -/
def execPopF (e : Fin 12) (s : State) : Host.Outcome State Fault Refusal :=
  .next (s.instr e 2 (workPopF))

/-- INCR (R323): the register plus 1. -/
def execIncr (e : Fin 12) (r : GReg) (s : State) : Host.Outcome State Fault Refusal :=
  .next (s.instr e 2 (workRegs (fun g => setNZ g r (getReg g r + 1))))

/-- DECR (R323): the register minus 1. -/
def execDecr (e : Fin 12) (r : GReg) (s : State) : Host.Outcome State Fault Refusal :=
  .next (s.instr e 2 (workRegs (fun g => setNZ g r (getReg g r - 1))))

/-- NEG (R323): A := 0 − A. -/
def execNeg (e : Fin 12) (s : State) : Host.Outcome State Fault Refusal :=
  .next (s.instr e 2 (workA (fun g => aluSub g.f 0 g.a false)))

/-- NOT (R323): A := not A. -/
def execNot (e : Fin 12) (s : State) : Host.Outcome State Fault Refusal :=
  .next (s.instr e 2 (workA (fun g => logicRes g.f (~~~g.a))))

/-- WAIT (R298, R323). -/
def execWait (e : Fin 12) (s : State) : Host.Outcome State Fault Refusal := .next (s.instr e 2 workWait)

/-! ### Traps, flushed writes and restores -/

/-- RESERVED_OPCODE_TRAP (R334): the engine meets the base word `w`; an assigned word is no trap. -/
def execReservedOpcodeTrap (e : Fin 12) (w : BitVec 16) (s : State) : Host.Outcome State Fault Refusal :=
  .next (if reservedWord w ∧ s.mayExecute e.val then s.reservedTrap e.val w else s)

/-- A retired write of engine `t` to the register at `a` is flushed (R305, R461), and its vector is entered at once where the engine stands
at a boundary. -/
def State.flushWrite (s : State) (t : Nat) (a : Word) : State :=
  let s1 := s.noteFlush (.eng (Fin.ofNat 12 t)) a.toNat
  let g := s1.eng t
  if g.st == .run ∧ g.load.isNone ∧ g.access.isNone ∧ g.entering.isNone ∧ !g.haltWant then s1.takeVector t else s1

/-- Engine `t` runs, waits, is halted or restores. -/
def State.engLive (s : State) (t : Nat) : Bool :=
  let st := (s.eng t).st
  st == .run || st == .wait || st == .halt || st == .restart

/-- FLUSHED_FAULT (R305, R461, R470): a write of engine `e` to the register at `a` is flushed. -/
def execFlushedFault (e : Fin 12) (a : Word) (s : State) : Host.Outcome State Fault Refusal :=
  .next (if s.tclkOn ∧ s.engLive e.val ∧ 0x40000000 ≤ a.toNat ∧ a.toNat < 0x40012000 ∧ a.toNat % 4 = 0 then s.flushWrite e.val a else s)

/-! ### The Strait into the Atoll domain (R461) -/

/-- A write of `m` to the register at `a` of the Atoll domain is lost to a reset there, or to its having no power: an engine takes the fault
of R305, HIF's data-port request that waits for it fails with the bytes before it (log entry 34). -/
def State.flushTo (s : State) (m : Master) (a : Nat) : State :=
  match m with
  | .eng e => if s.engLive (s.leader e.val) then s.flushWrite (s.leader e.val) (BitVec.ofNat 32 a) else s.inc CLK_FLUSH_FLUSHES
  | .hif =>
    let d := s.hif.dp.map (fun d => if d.failed then d else { d with failed := true, moved := a - d.base })
    ({ s with hif := { s.hif with dp := d } } : State).inc CLK_FLUSH_FLUSHES

/-- What the Strait into the Atoll domain held is flushed, each transfer counted. -/
def State.flushHeld (s : State) : List HeldItem → State
  | [] => s
  | x :: r =>
    (match x with
     | .write m a _ => s.flushTo m a
     | .record _ | .read _ => s.inc CLK_FLUSH_FLUSHES).flushHeld r

/-- A write of `m` on its way into the Atoll domain: lost while the domain is unpowered (R461), else `t` is what it does. -/
def State.intoAtoll (s : State) (m : Master) (a : Nat) (t : State) : State :=
  s.writes m 5 (if s.rtc.powered then t else s.flushTo m a)

/-- SET_DATE (R420): RTC_SETCMD with DATE alone. -/
def execSetDate (m : Master) (s : State) : Host.Outcome State Fault Refusal :=
  .next (s.intoAtoll m RTC_SETCMD_DATE.addr (s.arrive m RTC_SETCMD_DATE.addr 1))

/-- SET_TIME (R420): RTC_SETCMD with TIME alone. -/
def execSetTime (m : Master) (s : State) : Host.Outcome State Fault Refusal :=
  .next (s.intoAtoll m RTC_SETCMD_DATE.addr (s.arrive m RTC_SETCMD_DATE.addr 2))

/-- SET_ALARM (R420): RTC_SETCMD with ALARM alone. -/
def execSetAlarm (m : Master) (s : State) : Host.Outcome State Fault Refusal :=
  .next (s.intoAtoll m RTC_SETCMD_DATE.addr (s.arrive m RTC_SETCMD_DATE.addr 4))

/-- BACKUP_RAM_WRITE (R413, R414): a bus write of word `n`, taken at the LFCLK edge that follows those of the transfers ahead of it; held
while LFCLK stands still. -/
def execBackupRamWrite (m : Master) (n : Fin 16) (v : Word) (s : State) : Host.Outcome State Fault Refusal :=
  .next (s.intoAtoll m (0x40005080 + 4 * n.val) (s.hold m (0x40005080 + 4 * n.val) v).drain)

/-- The Atoll domain resets (R411): accesses held on their way into it end as R461 says. -/
def State.atollFall (s : State) (powered : Bool) : State :=
  (((s.atollReset powered).failAccesses isAtoll false).flushHeld s.rtc.held).flushPulses (fun x => decide (16 ≤ x ∧ x < 32)) (fun t => t == 120)

/-- ATOLL_POWER_UP (R411): the domain powers up from no supply. -/
def execAtollPowerUp (s : State) : Host.Outcome State Fault Refusal := .next (s.atollFall true)

/-- POWER_GOOD_FALL (R410, R411): both supplies lie low over the next `n` samples; the 67th low one in a row drops power-good. -/
def execPowerGoodFall (n : Nat) (s : State) : Host.Outcome State Fault Refusal :=
  let s1 : State := { s with rtc := { s.rtc with isLow := true } }
  if !(s.rtc.powered && s.rtc.lf) then .next s1
  else if s.rtc.low + n < 67 then .next (s1.lfRun n)
  else .next ((s1.lfRun (66 - s.rtc.low)).atollFall false)

/-- RESTORE_DONE (R310): the pair with even engine `e` has written its undo log back; it resumes at the checkpoint, or enters the
lockstep-mismatch vector with MMVEC = 1. -/
def execRestoreDone (e : Fin 12) (s : State) : Host.Outcome State Fault Refusal :=
  let t := e.val
  if (s.eng t).st ≠ .restart then .next s
  else
    let s1 := s.undoAll t (s.eng t).undo
    let g := s1.eng t
    let s2 := (s1.setEng t { g with g := g.ckpt, load := g.ckLoad, undo := [], mmVec := false }).engTo t .run
    .next (if g.mmVec then (s2.settleLoad t).enterVector t 3 0x28 (some { code := 7, faddr := g.ckpt.p }) else s2)

end Sys2Proof.Machine
end

