-- ==== Sys2Proof/Machine/Wire.lean ====
section
/-!
DEFINITION. The wires of the host interfaces (R482, R483, R485): which byte HIF shifts out, how a byte stands on SPI and on the UART, and
the levels of the output pads.
-/
namespace Sys2Proof.Machine

/-- An output pad: driven to a level, or at high impedance. -/
inductive Pad where
  | drive (level : Bool)
  | highZ
deriving DecidableEq, Repr

/-! ### SPI (R483) -/

/-- The SPI mode, told by the level of HIF_SCK when HIF_CS_N falls. -/
def spiMode (sck : Bool) : Nat := if sck then 3 else 0

/-- The bits of a byte in the order in which they travel, most significant first. -/
def spiBits (b : Byte) : List Bool := (List.range 8).map (fun k => b.getMsbD k)

/-- The byte of eight bits that HIF_MOSI brought. -/
def spiByte (bits : List Bool) : Byte := bits.foldl (fun b x => (b <<< 1) ||| (if x then 1 else 0)) 0

/-- The byte that HIF shifts out at byte boundary `k` from now: of the reply that waits, else 0xFF. -/
def State.spiOut (s : State) (k : Nat) : Byte :=
  match s.hif.out with
  | some (true, pkt) => pkt.getD k 0xFF
  | _ => 0xFF

/-- HIF_MISO while bit `j` of byte `k` from now is out: high once the UART is locked, at high impedance while HIF_CS_N is high (R482). -/
def State.miso (s : State) (csN : Bool) (k j : Nat) : Pad :=
  if s.rd HIF_STAT_IF = 2 then .drive true
  else if csN then .highZ
  else .drive ((spiBits (s.spiOut k)).getD j true)

/-! ### UART (R485) -/

/-- The bits of a byte on the line: start bit, eight data bits from the least significant on, one stop bit. -/
def uartFrame (b : Byte) : List Bool := [false] ++ (List.range 8).map (fun k => b.getLsbD k) ++ [true]

/-- The TCLK cycle in the middle of bit `k` of a frame that begins at 0, with the bit time `div` / 16. -/
def uartMiddle (div k : Nat) : Nat := (2 * k + 1) * div / 32

/-- The byte that HIF reads from a line whose start bit begins at 0: none without a start and a stop bit. -/
def uartByte (div : Nat) (line : Nat → Bool) : Option Byte :=
  let bit := fun k => line (uartMiddle div k)
  if bit 0 || !bit 9 then none
  else some ((List.range 8).foldl (fun b k => if bit (k + 1) then b ||| (1 <<< k) else b) 0)

/-- The level of a line `t` TCLK cycles after the first start bit of bytes sent without gaps; it rests high. -/
def uartLine (div : Nat) (bs : List Byte) (t : Nat) : Bool := ((bs.map uartFrame).flatten).getD (16 * t / div) true

/-- HIF_TXD `t` TCLK cycles after a reply began to leave: high once SPI is locked (R482). -/
def State.txd (s : State) (t : Nat) : Bool :=
  match s.hif.out with
  | some (false, pkt) => s.rd HIF_STAT_IF = 1 || uartLine (s.rd HIF_UARTDIV_DIV) pkt t
  | _ => true

end Sys2Proof.Machine
end

