-- ==== Sys2Proof/Machine/HostPort.lean ====
section
/-!
DEFINITION. The host's port (19_host_protocol.md): one meaning for each opcode of R500, and what happens on the interface around requests:
packets discarded (R490), replies sent (R486), the reset that follows a reply, the lapse of a trial rate and of the unlock (R499, R500).
-/
namespace Sys2Proof.Machine

/-! ### Requests (R491 to R500) -/

/-- GET_INFO (R500): what the device is. -/
def execGetInfo (q : HostReq) (s : State) : Host.Outcome State Fault Refusal :=
  .next (s.hostRequest 0x00 false State.opGetInfo q)

/-- ECHO (R500): the payload back. -/
def execEcho (q : HostReq) (s : State) : Host.Outcome State Fault Refusal :=
  .next (s.hostRequest 0x01 false State.opEcho q)

/-- POLL (R500): the result of a long request (R493). -/
def execPoll (q : HostReq) (s : State) : Host.Outcome State Fault Refusal :=
  .next (s.hostRequest 0x02 false State.opPoll q)

/-- DP_READ (R500): a read through the data port (R502, R503). -/
def execDpRead (q : HostReq) (s : State) : Host.Outcome State Fault Refusal :=
  .next (s.hostRequest 0x03 true State.opDataRead q)

/-- DP_WRITE (R500): a write through the data port (R502, R503). -/
def execDpWrite (q : HostReq) (s : State) : Host.Outcome State Fault Refusal :=
  .next (s.hostRequest 0x04 true State.opDataWrite q)

/-- DBELL (R500): a doorbell of R306. -/
def execDbell (q : HostReq) (s : State) : Host.Outcome State Fault Refusal :=
  .next (s.hostRequest 0x05 true State.opDbell q)

/-- EVENTS (R500): HIF_EVPEND, read and cleared. -/
def execEvents (q : HostReq) (s : State) : Host.Outcome State Fault Refusal :=
  .next (s.hostRequest 0x06 true State.opEvents q)

/-- RESET (R500): a reset after the reply. -/
def execReset (q : HostReq) (s : State) : Host.Outcome State Fault Refusal :=
  .next (s.hostRequest 0x07 false State.opReset q)

/-- FAULTS (R500): the fault log. -/
def execFaults (q : HostReq) (s : State) : Host.Outcome State Fault Refusal :=
  .next (s.hostRequest 0x08 false State.opFaults q)

/-- REPORT (R500): a report to FLT. -/
def execReport (q : HostReq) (s : State) : Host.Outcome State Fault Refusal :=
  .next (s.hostRequest 0x09 false State.opReport q)

/-- ENGINES (R500): the engines. -/
def execEngines (q : HostReq) (s : State) : Host.Outcome State Fault Refusal :=
  .next (s.hostRequest 0x0A false State.opEngines q)

/-- HOST_CFG (R500): the host interface. -/
def execHostCfg (q : HostReq) (s : State) : Host.Outcome State Fault Refusal :=
  .next (s.hostRequest 0x0B false State.opHostCfg q)

/-- UNLOCK_CHAL (R500): the nonce of R498. -/
def execUnlockChal (q : HostReq) (s : State) : Host.Outcome State Fault Refusal :=
  .next (s.hostRequest 0x0D false State.opUnlockChal q)

/-- UNLOCK (R500): the expert unlock (R498). -/
def execUnlock (q : HostReq) (s : State) : Host.Outcome State Fault Refusal :=
  .next (s.hostRequest 0x0E false State.opUnlock q)

/-- LOCK (R500): the end of the unlock (R499). -/
def execLock (q : HostReq) (s : State) : Host.Outcome State Fault Refusal :=
  .next (s.hostRequest 0x0F false State.opLock q)

/-- PWR_STATUS (R500): power. -/
def execPwrStatus (q : HostReq) (s : State) : Host.Outcome State Fault Refusal :=
  .next (s.hostRequest 0x10 false State.opPwrStatus q)

/-- PWR_LEVEL (R500): the performance level. -/
def execPwrLevel (q : HostReq) (s : State) : Host.Outcome State Fault Refusal :=
  .next (s.hostRequest 0x11 false State.opPwrLevel q)

/-- PWR_OFF (R500): BACKUP-ONLY. -/
def execPwrOff (q : HostReq) (s : State) : Host.Outcome State Fault Refusal :=
  .next (s.hostRequest 0x12 false State.opPwrOff q)

/-- FL_READ (R500): flash bytes. -/
def execFlRead (q : HostReq) (s : State) : Host.Outcome State Fault Refusal :=
  .next (s.hostRequest 0x20 false State.opFlRead q)

/-- FL_PROGRAM (R500): a program. -/
def execFlProgram (q : HostReq) (s : State) : Host.Outcome State Fault Refusal :=
  .next (s.hostRequest 0x21 false State.opFlProgram q)

/-- FL_ERASE (R500): an erase. -/
def execFlErase (q : HostReq) (s : State) : Host.Outcome State Fault Refusal :=
  .next (s.hostRequest 0x22 false State.opFlErase q)

/-- FL_MARGIN (R500): a margin read. -/
def execFlMargin (q : HostReq) (s : State) : Host.Outcome State Fault Refusal :=
  .next (s.hostRequest 0x23 false State.opFlMargin q)

/-- FL_BLOCK (R500): a block of the die. -/
def execFlBlock (q : HostReq) (s : State) : Host.Outcome State Fault Refusal :=
  .next (s.hostRequest 0x24 false State.opFlBlock q)

/-- FW_UPDATE (R500): a signed update. -/
def execFwUpdate (q : HostReq) (s : State) : Host.Outcome State Fault Refusal :=
  .next (s.hostRequest 0x25 false State.opFwUpdate q)

/-- IMAGE_SET (R500): a user image. -/
def execImageSet (q : HostReq) (s : State) : Host.Outcome State Fault Refusal :=
  .next (s.hostRequest 0x26 false State.opImageSet q)

/-- RF_STATUS (R500): the radio. -/
def execRfStatus (q : HostReq) (s : State) : Host.Outcome State Fault Refusal :=
  .next (s.hostRequest 0x30 false State.opRfStatus q)

/-- RF_CAL (R500): a calibration. -/
def execRfCal (q : HostReq) (s : State) : Host.Outcome State Fault Refusal :=
  .next (s.hostRequest 0x31 false State.opRfCal q)

/-- RF_PLAN (R500): the channel plan. -/
def execRfPlan (q : HostReq) (s : State) : Host.Outcome State Fault Refusal :=
  .next (s.hostRequest 0x32 false State.opRfPlan q)

/-- SND_CONFIG (R500): Sounding's parameters (R273, R274). -/
def execSndConfig (q : HostReq) (s : State) : Host.Outcome State Fault Refusal :=
  .next (s.hostRequest 0x38 false State.opSndConfig q)

/-- SND_LINK_ADD (R500): a link (R273). -/
def execSndLinkAdd (q : HostReq) (s : State) : Host.Outcome State Fault Refusal :=
  .next (s.hostRequest 0x39 false State.opSndLinkAdd q)

/-- SND_LINK_REMOVE (R500): a link's end (R273). -/
def execSndLinkRemove (q : HostReq) (s : State) : Host.Outcome State Fault Refusal :=
  .next (s.hostRequest 0x3A false State.opSndLinkRemove q)

/-- SND_LINK_RESET (R500): a link's baselines (R273). -/
def execSndLinkReset (q : HostReq) (s : State) : Host.Outcome State Fault Refusal :=
  .next (s.hostRequest 0x3B false State.opSndLinkReset q)

/-- SND_ZONE (R500): a zone (R273). -/
def execSndZone (q : HostReq) (s : State) : Host.Outcome State Fault Refusal :=
  .next (s.hostRequest 0x3C false State.opSndZone q)

/-- SND_START (R500): the start (R273). -/
def execSndStart (q : HostReq) (s : State) : Host.Outcome State Fault Refusal :=
  .next (s.hostRequest 0x3D false State.opSndStart q)

/-- SND_STOP (R500): the stop (R273). -/
def execSndStop (q : HostReq) (s : State) : Host.Outcome State Fault Refusal :=
  .next (s.hostRequest 0x3E false State.opSndStop q)

/-- SND_READ (R500): a link's state (R273). -/
def execSndRead (q : HostReq) (s : State) : Host.Outcome State Fault Refusal :=
  .next (s.hostRequest 0x3F false State.opSndRead q)

/-- MESH_STATUS (R500): the mesh. -/
def execMeshStatus (q : HostReq) (s : State) : Host.Outcome State Fault Refusal :=
  .next (s.hostRequest 0x40 false State.opMeshStatus q)

/-- NEIGHBOUR (R500): a neighbour. -/
def execNeighbour (q : HostReq) (s : State) : Host.Outcome State Fault Refusal :=
  .next (s.hostRequest 0x41 false State.opNeighbour q)

/-- COMMISSION (R500): commissioning. -/
def execCommission (q : HostReq) (s : State) : Host.Outcome State Fault Refusal :=
  .next (s.hostRequest 0x42 false State.opCommission q)

/-- JOIN (R500): a join. -/
def execJoin (q : HostReq) (s : State) : Host.Outcome State Fault Refusal :=
  .next (s.hostRequest 0x43 false State.opJoin q)

/-- MEMBER_KEY (R500): a member's key. -/
def execMemberKey (q : HostReq) (s : State) : Host.Outcome State Fault Refusal :=
  .next (s.hostRequest 0x44 false State.opMemberKey q)

/-- MEMBERS (R500): the members. -/
def execMembers (q : HostReq) (s : State) : Host.Outcome State Fault Refusal :=
  .next (s.hostRequest 0x45 false State.opMembers q)

/-- ASSURED (R500): an Assured flow. -/
def execAssured (q : HostReq) (s : State) : Host.Outcome State Fault Refusal :=
  .next (s.hostRequest 0x46 false State.opAssured q)

/-- SEND (R500): a frame. -/
def execSend (q : HostReq) (s : State) : Host.Outcome State Fault Refusal :=
  .next (s.hostRequest 0x47 false State.opSend q)

/-- CHART_GET (R500): the Chart. -/
def execChartGet (q : HostReq) (s : State) : Host.Outcome State Fault Refusal :=
  .next (s.hostRequest 0x50 false State.opChartGet q)

/-- QUEUES (R500): the queues. -/
def execQueues (q : HostReq) (s : State) : Host.Outcome State Fault Refusal :=
  .next (s.hostRequest 0x51 false State.opQueues q)

/-- POLICER (R500): the policers. -/
def execPolicer (q : HostReq) (s : State) : Host.Outcome State Fault Refusal :=
  .next (s.hostRequest 0x52 false State.opPolicer q)

/-- KEY_INFO (R500): the key slots. -/
def execKeyInfo (q : HostReq) (s : State) : Host.Outcome State Fault Refusal :=
  .next (s.hostRequest 0x60 false State.opKeyInfo q)

/-- KEY_LOAD (R500): a key. -/
def execKeyLoad (q : HostReq) (s : State) : Host.Outcome State Fault Refusal :=
  .next (s.hostRequest 0x61 false State.opKeyLoad q)

/-- KEY_ERASE (R500): a key's erasure. -/
def execKeyErase (q : HostReq) (s : State) : Host.Outcome State Fault Refusal :=
  .next (s.hostRequest 0x62 false State.opKeyErase q)

/-- EXPERT_KEY (R500): the expert key. -/
def execExpertKey (q : HostReq) (s : State) : Host.Outcome State Fault Refusal :=
  .next (s.hostRequest 0x63 false State.opExpertKey q)

/-- RANDOM (R500): random bytes. -/
def execRandom (q : HostReq) (s : State) : Host.Outcome State Fault Refusal :=
  .next (s.hostRequest 0x64 false State.opRandom q)

/-- TIME_GET (R500): the time. -/
def execTimeGet (q : HostReq) (s : State) : Host.Outcome State Fault Refusal :=
  .next (s.hostRequest 0x70 false State.opTimeGet q)

/-- TIME_SET (R500): the calendar. -/
def execTimeSet (q : HostReq) (s : State) : Host.Outcome State Fault Refusal :=
  .next (s.hostRequest 0x71 false State.opTimeSet q)

/-- ALARM_SET (R500): an alarm. -/
def execAlarmSet (q : HostReq) (s : State) : Host.Outcome State Fault Refusal :=
  .next (s.hostRequest 0x72 false State.opAlarmSet q)

/-- TRIM (R500): the trim. -/
def execTrim (q : HostReq) (s : State) : Host.Outcome State Fault Refusal :=
  .next (s.hostRequest 0x73 false State.opTrim q)

/-- BKUP_READ (R500): backup RAM. -/
def execBkupRead (q : HostReq) (s : State) : Host.Outcome State Fault Refusal :=
  .next (s.hostRequest 0x74 false State.opBkupRead q)

/-- BKUP_WRITE (R500): backup RAM. -/
def execBkupWrite (q : HostReq) (s : State) : Host.Outcome State Fault Refusal :=
  .next (s.hostRequest 0x75 false State.opBkupWrite q)

/-- SVY_STATUS (R500): the Survey. -/
def execSvyStatus (q : HostReq) (s : State) : Host.Outcome State Fault Refusal :=
  .next (s.hostRequest 0x78 false State.opSvyStatus q)

/-- SVY_READ (R500): sheets. -/
def execSvyRead (q : HostReq) (s : State) : Host.Outcome State Fault Refusal :=
  .next (s.hostRequest 0x79 false State.opSvyRead q)

/-- SVY_SEEK (R500): a sheet by time. -/
def execSvySeek (q : HostReq) (s : State) : Host.Outcome State Fault Refusal :=
  .next (s.hostRequest 0x7A false State.opSvySeek q)

/-- SVY_CONFIG (R500): the Survey's configuration. -/
def execSvyConfig (q : HostReq) (s : State) : Host.Outcome State Fault Refusal :=
  .next (s.hostRequest 0x7B false State.opSvyConfig q)

/-- SVY_CLEAR (R500): a clear. -/
def execSvyClear (q : HostReq) (s : State) : Host.Outcome State Fault Refusal :=
  .next (s.hostRequest 0x7C false State.opSvyClear q)

/-- UNASSIGNED_OPCODE (R500): a request with an opcode that no row of R500 gives. -/
def execUnassignedOpcode (op : BitVec 7) (q : HostReq) (s : State) : Host.Outcome State Fault Refusal :=
  .next (if assignedOps.contains op.toNat then s else s.hostRequest op.toNat false (fun t _ => t.refuse stBadOpcode) q)

/-! ### Packets (R490) -/

/-- PACKET_CRC_ERROR (R490): a packet whose LEN exceeds 1,024 or whose CRC fails is discarded and counted, without a reply. -/
def execPacketCrcError (spi : Bool) (len : BitVec 16) (s : State) : Host.Outcome State Fault Refusal :=
  .next (if s.hifHears spi then s.hifBytes.inc (if 1024 < len.toNat then HIF_CNT0_LENERR else HIF_CNT0_CRCERR) else s)

/-- PACKET_GAP_TIMEOUT (R490): more than GAP ms between two bytes discard the packet; GAP = 0 sets no limit. -/
def execPacketGapTimeout (spi : Bool) (s : State) : Host.Outcome State Fault Refusal :=
  .next (if s.hifHears spi ∧ s.rd HIF_CFG_GAP ≠ 0 then s.hifBytes.inc HIF_CNT1_GAPERR else s)

/-! ### Around replies (R486, R499, R500) -/

/-- REPLY_SHIFTED_OUT (R486): the reply that waits has been sent. On SPI every byte of it brought one from the host (R437, R483). -/
def execReplyShiftedOut (s : State) : Host.Outcome State Fault Refusal :=
  let spi := match s.hif.out with
    | some (b, _) => b
    | none => false
  .next (if s.tclkOn then (if spi then s.hifBytes else s).replySent else s)

/-- RESET_AFTER_REPLY (R500, R480): the reply of RESET has left, or 100 ms have passed, and the device resets through SYS_RESET. -/
def execResetAfterReply (s : State) : Host.Outcome State Fault Refusal :=
  match s.hif.after with
  | some (.reset cold) => .next (({ s with hif := { s.hif with after := none } } : State).softReset e2 cold)
  | _ => .next s

/-- BAUD_REVERT (R500): no valid request has come within 1 s at the new rate, and the old one returns. -/
def execBaudRevert (s : State) : Host.Outcome State Fault Refusal :=
  match s.hif.oldBaud with
  | some (d, t) =>
    if s.tclkOn then
      let s1 := s.tick (t + 400000000 - s.fltNow)
      .next (({ s1 with hif := { s1.hif with oldBaud := none } } : State).wr HIF_UARTDIV_DIV d)
    else .next s
  | none => .next s

/-- UNLOCK_TIMEOUT (R499): TMO seconds have passed without an expert request. -/
def execUnlockTimeout (s : State) : Host.Outcome State Fault Refusal :=
  let tmo := s.rd HIF_EXPERT_TMO
  if s.tclkOn ∧ s.rdB HIF_EXPERT_UNLOCK ∧ tmo ≠ 0 then
    let s1 := s.tick (s.hif.expertAt + tmo * 400000000 - s.fltNow)
    .next { s1 with regs := wrF (wrF s1.regs HIF_EXPERT_UNLOCK 0) HIF_EVPEND_LOCKED 1 }
  else .next s

end Sys2Proof.Machine
end

