-- ==== Sys2Proof/Machine/Timebase.lean ====
section
/-!
DEFINITION. The boundaries of Meridian (R42, R45, R63): what happens at a slot boundary and at a cycle boundary.
-/
namespace Sys2Proof.Machine

/-! ### Slot boundaries -/

/-- What a worker does with its pending sync points at a slot boundary (R62, R64), and what the step does to the ALIGNED outputs (R285).
The step of R64 brings a joiner into its mesh (R243). -/
def State.slotSync (s : State) : State :=
  match s.mer.pendSet with
  | some _ =>
    s.applySet.pwmSet.joinStepped
  | none =>
    match s.mer.pendStep with
    | some e =>
      let s1 := if e < 0 then s.applySync.pwmStepped else s.applySync
      if s1.mesh.phase = .joined ∧ !s1.mesh.stepped then s1.joinStepped else s1
    | none => s

/-- A hopping SG band takes the entry of the slot (R191). -/
def State.slotHop (s : State) : State := if s.hopOn .sg then s.macHop .sg (s.hopEntry s.mer.now) else s

/-- Walking goes on at the first slot boundary after a stop of TCLK (R67, R205). -/
def State.slotResume (s : State) : State :=
  let b := s.shp.bands
  { s with shp := { s.shp with bands := { sg := { b.sg with resume := false }, g24 := { b.g24 with resume := false } } } }

/-- Step 10 of R477: a warm start ends at the first slot boundary, a cold one once Meridian has been stepped, or a manager's source
has been found; a device that is not commissioned waits for neither. -/
def State.slotStart (s : State) : State :=
  if s.start = .meridian ∧ (s.path = .warm ∨ !s.fw.commissioned ∨ s.mer.stepped ∨ 2 ≤ s.rd MER_STAT_STATE) then s.startDone else s

/-- What happens at the boundary of the slot with absolute number `n`. -/
def State.slotAt (s : State) (n : Nat) : State :=
  let s1 := ({ s with mer := { s.mer with slot := n } } : State).fire 113
  (s1.slotSync.slotResume.slotHop.sweep).slotStart

/-- SLOT_BOUNDARY (R45, R63): time passes to the next boundary that has not been raised. -/
def execSlotBoundary (s : State) : Host.Outcome State Fault Refusal :=
  let n := (s.mer.slot + 1) % 2 ^ 35
  .next (if s.tclkOn then (s.toBoundary (n * 8192) (s.mer.cyc * 8 == n)).slotAt n else s)

/-! ### Mains edges and the time limit of ACQUIRE -/

/-- MAINS_EDGE (R54 to R58): an edge whose level has been stable for the filter's time at TSTAMP `t`, rising or falling. -/
def execMainsEdge (t : Nat) (rising : Bool) (s : State) : Host.Outcome State Fault Refusal :=
  if !s.tclkOn || rising == s.rdB MER_CFG_ZCEDGE then .next s
  else
    let s0 := s.advanceTo t
    let edge := t - zcFilter (s.rd MER_CFG_ZCFILT) - s.rd MER_ZCDLY_ZCDLY
    match s0.mer.refEdge with
    | none => .next ((s0.firstEdge edge).fire 114)
    | some r0 =>
      let s1 := s0.missEdges (missedBefore s0.period (edge - r0))
      let d := edge - s1.mer.refEdge.getD r0
      if 4 * d < 3 * s1.period then .next s1
      else if d < s1.perLow ∨ s1.perHigh < d then .next ((s1.missEdges 1).wr MER_STAT_ZCVALID 0)
      else
        let s2 := (s1.validEdge edge d).fire 114
        let s3 := s2.mainsRules edge
        .next (if s2.mainsSteers then (if s3.mer.stepped ∧ !s2.mer.stepped then s3.pwmStepped else s3).followWalk s2.merWalks else s2)

/-- ACQUIRE_TIMEOUT (R52): 2 s in ACQUIRE without LOCKED. -/
def execAcquireTimeout (s : State) : Host.Outcome State Fault Refusal :=
  if s.tclkOn ∧ s.mainsSteers ∧ s.rd MER_STAT_STATE = 1 ∧ s.rdB MER_CFG_AUTOSYNTH then
    .next ((s.advanceTo (s.mer.since + 2 * tclkHz)).enterSynth.followWalk false)
  else .next s

/-! ### Cycle boundaries -/

/-- The operational Chart has entered service in SG (R232): STARTUP ends, and BPER is its period. -/
def State.endStartup (s : State) : State :=
  if s.mesh.opPend ∧ !(s.shpB .sg).pend then
    { s with mesh := { s.mesh with opPend := false, startup := false, bper := (s.shpB .sg).chart.cycles } }
  else s

/-- The mesh firmware at a cycle boundary: it reads the hand-over ring (R228), sets CORR of new neighbours (R103), ends a swap that was
agreed on (R232, R247), and the manager looks for replacement paths (R250). -/
def State.meshCycle (s : State) (c : Nat) : State :=
  if s.rd SYS_BOOT_STEP < 8 ∨ s.rdB SYS_BOOT_SAFE then s
  else
    let s1 := s.readRing.corrSides.endStartup.replanFlows
    if s1.mesh.swapCyc ≠ 0 ∧ s1.mesh.swapCyc = c then { s1 with mesh := { s1.mesh with swapCyc := 0 } } else s1

/-- What happens at the boundary at which cycle `c` begins. -/
def State.cycleAt (s : State) (c : Nat) : State :=
  let s1 := ({ s with mer := { s.mer with cyc := c } } : State).fire 112
  let s2 := if c % 256 = 0 then s1.recordDue else s1
  let s3 := ((s2.swapCharts c).showCycle .sg c).showCycle .g24 c
  (((s3.refill 1).meshCycle c).zonesCycle).pdCycle

/-- CYCLE_BOUNDARY (R42, R63). -/
def execCycleBoundary (s : State) : Host.Outcome State Fault Refusal :=
  let c := (s.mer.cyc + 1) % 2 ^ 32
  .next (if s.tclkOn then (s.toBoundary (c * 65536) (s.mer.slot == c * 8)).cycleAt c else s)

/-! ### No command -/

/-- What happens while no command waits (log entry 1): one TCLK cycle while TCLK runs (R43, R65), with a power-off that waits for the
radio, a scan of SVR that waits for the die and a request that waits for an access; one LFCLK edge while only LFCLK runs, the one at
which power-good falls too (R410); nothing with both stopped. -/
def State.idleStep (s : State) : State :=
  if s.tclkOn then (s.tick 1).tryOff.svrLate.hostLate
  else if s.lfOn then s.lfEdge
  else if s.rtc.powered && s.rtc.lf then s.atollFall false
  else s

end Sys2Proof.Machine
end

