-- ==== Sys2Proof/Machine/Dispatch.lean ====
section
/-! DEFINITION. The command's effect on everything but the queue: one arm for each row of spec/opcode_table.json. -/

namespace Sys2Proof.Machine

def exec (i : Instr) (s : State) : Host.Outcome State Fault Refusal :=
  match i with
  | .registerWrite m reg v => Sys2Proof.Machine.execRegisterWrite m reg v s
  | .commit m b => Sys2Proof.Machine.execCommit m b s
  | .powerOn testEn => Sys2Proof.Machine.execPowerOn testEn s
  | .atollPowerUp => Sys2Proof.Machine.execAtollPowerUp s
  | .resetN => Sys2Proof.Machine.execResetN s
  | .brownout stored => Sys2Proof.Machine.execBrownout stored s
  | .vbatReturn => Sys2Proof.Machine.execVbatReturn s
  | .clockMonitorReset => Sys2Proof.Machine.execClockMonitorReset s
  | .softReset m => Sys2Proof.Machine.execSoftReset m s
  | .softResetCold m => Sys2Proof.Machine.execSoftResetCold m s
  | .clocksLocked => Sys2Proof.Machine.execClocksLocked s
  | .scanDone erased verified mv t badSg bad24 => Sys2Proof.Machine.execScanDone erased verified mv t badSg bad24 s
  | .mainsEdge t rising => Sys2Proof.Machine.execMainsEdge t rising s
  | .mainsEdgeMissing => Sys2Proof.Machine.execMainsEdgeMissing s
  | .acquireTimeout => Sys2Proof.Machine.execAcquireTimeout s
  | .holdoverTimeout => Sys2Proof.Machine.execHoldoverTimeout s
  | .slotBoundary => Sys2Proof.Machine.execSlotBoundary s
  | .cycleBoundary => Sys2Proof.Machine.execCycleBoundary s
  | .merPhaseRead => Sys2Proof.Machine.execMerPhaseRead s
  | .lfratioMeasure n => Sys2Proof.Machine.execLfratioMeasure n s
  | .bandEnable b mv => Sys2Proof.Machine.execBandEnable b mv s
  | .bandReady b => Sys2Proof.Machine.execBandReady b s
  | .bandDisable b => Sys2Proof.Machine.execBandDisable b s
  | .hopLock b => Sys2Proof.Machine.execHopLock b s
  | .hopLockFail b => Sys2Proof.Machine.execHopLockFail b s
  | .calEntry b e => Sys2Proof.Machine.execCalEntry b e s
  | .calStale b => Sys2Proof.Machine.execCalStale b s
  | .calAll b => Sys2Proof.Machine.execCalAll b s
  | .calEntryDone b ok codes => Sys2Proof.Machine.execCalEntryDone b ok codes s
  | .tempCheck t => Sys2Proof.Machine.execTempCheck t s
  | .autoCalibrate b => Sys2Proof.Machine.execAutoCalibrate b s
  | .rssiUpdate b pa pb => Sys2Proof.Machine.execRssiUpdate b pa pb s
  | .agcGainStep b chainB up => Sys2Proof.Machine.execAgcGainStep b chainB up s
  | .preambleDetect b n t metric short cfo => Sys2Proof.Machine.execPreambleDetect b n t metric short cfo s
  | .antennaSelect b n sumA sumB => Sys2Proof.Machine.execAntennaSelect b n sumA sumB s
  | .preambleComplete b n p => Sys2Proof.Machine.execPreambleComplete b n p s
  | .syncTimeout b n => Sys2Proof.Machine.execSyncTimeout b n s
  | .headerDecode b n h => Sys2Proof.Machine.execHeaderDecode b n h s
  | .rxFrameEnd b n t m => Sys2Proof.Machine.execRxFrameEnd b n t m s
  | .cipAcceptDone b n disagree => Sys2Proof.Machine.execCipAcceptDone b n disagree s
  | .ackDecide b disagree => Sys2Proof.Machine.execAckDecide b disagree s
  | .handOff b n assured => Sys2Proof.Machine.execHandOff b n assured s
  | .assuredRequest id ba bb fa fb ta tb => Sys2Proof.Machine.execAssuredRequest id ba bb fa fb ta tb s
  | .entryStart b => Sys2Proof.Machine.execEntryStart b s
  | .shareStart b => Sys2Proof.Machine.execShareStart b s
  | .sealDone b disagree => Sys2Proof.Machine.execSealDone b disagree s
  | .sealLate b => Sys2Proof.Machine.execSealLate b s
  | .daaListenStart b => Sys2Proof.Machine.execDaaListenStart b s
  | .txTurnStart b energy => Sys2Proof.Machine.execTxTurnStart b energy s
  | .txRampUp b => Sys2Proof.Machine.execTxRampUp b s
  | .txSymbolsEnd b => Sys2Proof.Machine.execTxSymbolsEnd b s
  | .txRampDownEnd b => Sys2Proof.Machine.execTxRampDownEnd b s
  | .turnRxDone b => Sys2Proof.Machine.execTurnRxDone b s
  | .rxWindowOpen b => Sys2Proof.Machine.execRxWindowOpen b s
  | .rxChainReady b => Sys2Proof.Machine.execRxChainReady b s
  | .rxWindowClose b => Sys2Proof.Machine.execRxWindowClose b s
  | .contactMiss b => Sys2Proof.Machine.execContactMiss b s
  | .ackTimeout b => Sys2Proof.Machine.execAckTimeout b s
  | .listenTimeout => Sys2Proof.Machine.execListenTimeout s
  | .neighbourWrite v => Sys2Proof.Machine.execNeighbourWrite v s
  | .dutyBinRetire => Sys2Proof.Machine.execDutyBinRetire s
  | .enqueue m b q v => Sys2Proof.Machine.execEnqueue m b q v s
  | .enqresRead k => Sys2Proof.Machine.execEnqresRead k s
  | .shpBandDisable b => Sys2Proof.Machine.execShpBandDisable b s
  | .policerCfgWrite p burst v => Sys2Proof.Machine.execPolicerCfgWrite p burst v s
  | .beaconSend b tx => Sys2Proof.Machine.execBeaconSend b tx s
  | .joinScanEnd => Sys2Proof.Machine.execJoinScanEnd s
  | .joinReqSend b tx => Sys2Proof.Machine.execJoinReqSend b tx s
  | .joinReq b req path nb tx => Sys2Proof.Machine.execJoinReq b req path nb tx s
  | .fwd b nb f tx => Sys2Proof.Machine.execFwd b nb f tx s
  | .joinRspRelay b rsp leaf nb tx => Sys2Proof.Machine.execJoinRspRelay b rsp leaf nb tx s
  | .joinRsp rsp nb => Sys2Proof.Machine.execJoinRsp rsp nb s
  | .joinAttemptTimeout => Sys2Proof.Machine.execJoinAttemptTimeout s
  | .joinRescanTimeout => Sys2Proof.Machine.execJoinRescanTimeout s
  | .chartSet p => Sys2Proof.Machine.execChartSet p s
  | .chartSetCommit => Sys2Proof.Machine.execChartSetCommit s
  | .nbrReport b which tx => Sys2Proof.Machine.execNbrReport b which tx s
  | .leave cmd => Sys2Proof.Machine.execLeave cmd s
  | .mapUpdateStart nb b via q tx => Sys2Proof.Machine.execMapUpdateStart nb b via q tx s
  | .cycleClose done => Sys2Proof.Machine.execCycleClose done s
  | .zoneIndexWrite m z v => Sys2Proof.Machine.execZoneIndexWrite m z v s
  | .zoneCfgWrite z v => Sys2Proof.Machine.execZoneCfgWrite z v s
  | .pdConversion k mean => Sys2Proof.Machine.execPdConversion k mean s
  | .pirSample x => Sys2Proof.Machine.execPirSample x s
  | .pwmPeriodStart n => Sys2Proof.Machine.execPwmPeriodStart n s
  | .pwmInactiveEdge n => Sys2Proof.Machine.execPwmInactiveEdge n s
  | .gpioSet v => Sys2Proof.Machine.execGpioSet v s
  | .gpioClr v => Sys2Proof.Machine.execGpioClr v s
  | .gpioEdge k rising => Sys2Proof.Machine.execGpioEdge k rising s
  | .ld e r o => Sys2Proof.Machine.execLd e r o s
  | .st e r o => Sys2Proof.Machine.execSt e r o s
  | .add e r o => Sys2Proof.Machine.execAdd e r o s
  | .adc e o => Sys2Proof.Machine.execAdc e o s
  | .sub e r o => Sys2Proof.Machine.execSub e r o s
  | .sbc e o => Sys2Proof.Machine.execSbc e o s
  | .and e o => Sys2Proof.Machine.execAnd e o s
  | .or e o => Sys2Proof.Machine.execOr e o s
  | .xor e o => Sys2Proof.Machine.execXor e o s
  | .cmp e r o => Sys2Proof.Machine.execCmp e r o s
  | .test e o => Sys2Proof.Machine.execTest e o s
  | .mul e o => Sys2Proof.Machine.execMul e o s
  | .mulhu e o => Sys2Proof.Machine.execMulhu e o s
  | .addd e o => Sys2Proof.Machine.execAddd e o s
  | .subd e o => Sys2Proof.Machine.execSubd e o s
  | .cmpd e o => Sys2Proof.Machine.execCmpd e o s
  | .inc e o => Sys2Proof.Machine.execInc e o s
  | .dec e o => Sys2Proof.Machine.execDec e o s
  | .lea e r o => Sys2Proof.Machine.execLea e r o s
  | .jump e o => Sys2Proof.Machine.execJump e o s
  | .call e o => Sys2Proof.Machine.execCall e o s
  | .ldr e o => Sys2Proof.Machine.execLdr e o s
  | .stc e o => Sys2Proof.Machine.execStc e o s
  | .branch e c d => Sys2Proof.Machine.execBranch e c d s
  | .callr e d => Sys2Proof.Machine.execCallr e d s
  | .shl e n => Sys2Proof.Machine.execShl e n s
  | .shr e n => Sys2Proof.Machine.execShr e n s
  | .asr e n => Sys2Proof.Machine.execAsr e n s
  | .rol e n => Sys2Proof.Machine.execRol e n s
  | .ror e n => Sys2Proof.Machine.execRor e n s
  | .shld e n => Sys2Proof.Machine.execShld e n s
  | .shrd e n => Sys2Proof.Machine.execShrd e n s
  | .nop e => Sys2Proof.Machine.execNop e s
  | .wait e => Sys2Proof.Machine.execWait e s
  | .ret e => Sys2Proof.Machine.execRet e s
  | .retv e => Sys2Proof.Machine.execRetv e s
  | .fsetI e => Sys2Proof.Machine.execFsetI e s
  | .fclrI e => Sys2Proof.Machine.execFclrI e s
  | .fsetC e => Sys2Proof.Machine.execFsetC e s
  | .fclrC e => Sys2Proof.Machine.execFclrC e s
  | .fclrD e => Sys2Proof.Machine.execFclrD e s
  | .daa e => Sys2Proof.Machine.execDaa e s
  | .move e p => Sys2Proof.Machine.execMove e p s
  | .moveSX e => Sys2Proof.Machine.execMoveSX e s
  | .moveXS e => Sys2Proof.Machine.execMoveXS e s
  | .push e r => Sys2Proof.Machine.execPush e r s
  | .pop e r => Sys2Proof.Machine.execPop e r s
  | .popF e => Sys2Proof.Machine.execPopF e s
  | .incr e r => Sys2Proof.Machine.execIncr e r s
  | .decr e r => Sys2Proof.Machine.execDecr e r s
  | .neg e => Sys2Proof.Machine.execNeg e s
  | .not e => Sys2Proof.Machine.execNot e s
  | .reservedOpcodeTrap e w => Sys2Proof.Machine.execReservedOpcodeTrap e w s
  | .vectorEntry e => Sys2Proof.Machine.execVectorEntry e s
  | .flushedFault e a => Sys2Proof.Machine.execFlushedFault e a s
  | .load m t desc => Sys2Proof.Machine.execLoad m t desc s
  | .loadDone m => Sys2Proof.Machine.execLoadDone m s
  | .release m t => Sys2Proof.Machine.execRelease m t s
  | .halt m t => Sys2Proof.Machine.execHalt m t s
  | .haltDone e => Sys2Proof.Machine.execHaltDone e s
  | .resume m t => Sys2Proof.Machine.execResume m t s
  | .engineReset m t => Sys2Proof.Machine.execEngineReset m t s
  | .pair m t lock => Sys2Proof.Machine.execPair m t lock s
  | .engDbell e bits => Sys2Proof.Machine.execEngDbell e bits s
  | .readBufferInvalidate m => Sys2Proof.Machine.execReadBufferInvalidate m s
  | .lockstepMismatch e => Sys2Proof.Machine.execLockstepMismatch e s
  | .restoreDone e => Sys2Proof.Machine.execRestoreDone e s
  | .eventTaskDeliver t => Sys2Proof.Machine.execEventTaskDeliver t s
  | .swfire m hi v => Sys2Proof.Machine.execSwfire m hi v s
  | .channelCfgWrite m n v => Sys2Proof.Machine.execChannelCfgWrite m n v s
  | .channelTaskWrite m n v => Sys2Proof.Machine.execChannelTaskWrite m n v s
  | .grpenWrite m v => Sys2Proof.Machine.execGrpenWrite m v s
  | .claimTake m k => Sys2Proof.Machine.execClaimTake m k s
  | .claimFree m k => Sys2Proof.Machine.execClaimFree m k s
  | .capPhaseRead k => Sys2Proof.Machine.execCapPhaseRead k s
  | .program m desc => Sys2Proof.Machine.execProgram m desc s
  | .erase m desc => Sys2Proof.Machine.execErase m desc s
  | .margin m desc => Sys2Proof.Machine.execMargin m desc s
  | .flashOpDone bad => Sys2Proof.Machine.execFlashOpDone bad s
  | .eraseTimeout => Sys2Proof.Machine.execEraseTimeout s
  | .eraseResume => Sys2Proof.Machine.execEraseResume s
  | .ctr m desc => Sys2Proof.Machine.execCtr m desc s
  | .cmacGenerate m desc => Sys2Proof.Machine.execCmacGenerate m desc s
  | .cmacVerify m desc => Sys2Proof.Machine.execCmacVerify m desc s
  | .ccmEncrypt m desc => Sys2Proof.Machine.execCcmEncrypt m desc s
  | .ccmDecrypt m desc => Sys2Proof.Machine.execCcmDecrypt m desc s
  | .gcmEncrypt m desc => Sys2Proof.Machine.execGcmEncrypt m desc s
  | .gcmDecrypt m desc => Sys2Proof.Machine.execGcmDecrypt m desc s
  | .wrap m desc => Sys2Proof.Machine.execWrap m desc s
  | .unwrap m desc => Sys2Proof.Machine.execUnwrap m desc s
  | .jobDone stop => Sys2Proof.Machine.execJobDone stop s
  | .keyWordWrite m n v => Sys2Proof.Machine.execKeyWordWrite m n v s
  | .kcmdErase m k => Sys2Proof.Machine.execKcmdErase m k s
  | .trngTestDone => Sys2Proof.Machine.execTrngTestDone s
  | .trngFail => Sys2Proof.Machine.execTrngFail s
  | .trngRestart m => Sys2Proof.Machine.execTrngRestart m s
  | .trngReseed left => Sys2Proof.Machine.execTrngReseed left s
  | .rngRead => Sys2Proof.Machine.execRngRead s
  | .setDate m => Sys2Proof.Machine.execSetDate m s
  | .setTime m => Sys2Proof.Machine.execSetTime m s
  | .setAlarm m => Sys2Proof.Machine.execSetAlarm m s
  | .rtcSetApply => Sys2Proof.Machine.execRtcSetApply s
  | .calendarSecond => Sys2Proof.Machine.execCalendarSecond s
  | .intervalAlarm => Sys2Proof.Machine.execIntervalAlarm s
  | .wakeEdge n level => Sys2Proof.Machine.execWakeEdge n level s
  | .powerGoodFall n => Sys2Proof.Machine.execPowerGoodFall n s
  | .backupRamWrite m n v => Sys2Proof.Machine.execBackupRamWrite m n v s
  | .rtcTimeRead => Sys2Proof.Machine.execRtcTimeRead s
  | .stmpSubRead => Sys2Proof.Machine.execStmpSubRead s
  | .levelChangeStep => Sys2Proof.Machine.execLevelChangeStep s
  | .engineIdle e => Sys2Proof.Machine.execEngineIdle e s
  | .deviceIdle => Sys2Proof.Machine.execDeviceIdle s
  | .sleepEntry mv => Sys2Proof.Machine.execSleepEntry mv s
  | .wakeTimer => Sys2Proof.Machine.execWakeTimer s
  | .wakeSource hif => Sys2Proof.Machine.execWakeSource hif s
  | .wakeClocksReady mv => Sys2Proof.Machine.execWakeClocksReady mv s
  | .wakeFlashReady => Sys2Proof.Machine.execWakeFlashReady s
  | .pwrOffCmd m => Sys2Proof.Machine.execPwrOffCmd m s
  | .lfclkLoss => Sys2Proof.Machine.execLfclkLoss s
  | .actdone m r mv => Sys2Proof.Machine.execActdone m r mv s
  | .fltReport m v => Sys2Proof.Machine.execFltReport m v s
  | .fltKick m => Sys2Proof.Machine.execFltKick m s
  | .watchdogExpiry r => Sys2Proof.Machine.execWatchdogExpiry r s
  | .recoveryTimeout => Sys2Proof.Machine.execRecoveryTimeout s
  | .episodeClose r => Sys2Proof.Machine.execEpisodeClose r s
  | .packetCrcError spi len => Sys2Proof.Machine.execPacketCrcError spi len s
  | .packetGapTimeout spi => Sys2Proof.Machine.execPacketGapTimeout spi s
  | .getInfo q => Sys2Proof.Machine.execGetInfo q s
  | .echo q => Sys2Proof.Machine.execEcho q s
  | .poll q => Sys2Proof.Machine.execPoll q s
  | .dpRead q => Sys2Proof.Machine.execDpRead q s
  | .dpWrite q => Sys2Proof.Machine.execDpWrite q s
  | .dbell q => Sys2Proof.Machine.execDbell q s
  | .events q => Sys2Proof.Machine.execEvents q s
  | .reset q => Sys2Proof.Machine.execReset q s
  | .resetAfterReply => Sys2Proof.Machine.execResetAfterReply s
  | .faults q => Sys2Proof.Machine.execFaults q s
  | .report q => Sys2Proof.Machine.execReport q s
  | .engines q => Sys2Proof.Machine.execEngines q s
  | .hostCfg q => Sys2Proof.Machine.execHostCfg q s
  | .baudRevert => Sys2Proof.Machine.execBaudRevert s
  | .unlockChal q => Sys2Proof.Machine.execUnlockChal q s
  | .unlock q => Sys2Proof.Machine.execUnlock q s
  | .lock q => Sys2Proof.Machine.execLock q s
  | .unlockTimeout => Sys2Proof.Machine.execUnlockTimeout s
  | .pwrStatus q => Sys2Proof.Machine.execPwrStatus q s
  | .pwrLevel q => Sys2Proof.Machine.execPwrLevel q s
  | .pwrOff q => Sys2Proof.Machine.execPwrOff q s
  | .flRead q => Sys2Proof.Machine.execFlRead q s
  | .flProgram q => Sys2Proof.Machine.execFlProgram q s
  | .flErase q => Sys2Proof.Machine.execFlErase q s
  | .flMargin q => Sys2Proof.Machine.execFlMargin q s
  | .flBlock q => Sys2Proof.Machine.execFlBlock q s
  | .fwUpdate q => Sys2Proof.Machine.execFwUpdate q s
  | .imageSet q => Sys2Proof.Machine.execImageSet q s
  | .rfStatus q => Sys2Proof.Machine.execRfStatus q s
  | .rfCal q => Sys2Proof.Machine.execRfCal q s
  | .rfPlan q => Sys2Proof.Machine.execRfPlan q s
  | .sndConfig q => Sys2Proof.Machine.execSndConfig q s
  | .sndLinkAdd q => Sys2Proof.Machine.execSndLinkAdd q s
  | .sndLinkRemove q => Sys2Proof.Machine.execSndLinkRemove q s
  | .sndLinkReset q => Sys2Proof.Machine.execSndLinkReset q s
  | .sndZone q => Sys2Proof.Machine.execSndZone q s
  | .sndStart q => Sys2Proof.Machine.execSndStart q s
  | .sndStop q => Sys2Proof.Machine.execSndStop q s
  | .sndRead q => Sys2Proof.Machine.execSndRead q s
  | .meshStatus q => Sys2Proof.Machine.execMeshStatus q s
  | .neighbour q => Sys2Proof.Machine.execNeighbour q s
  | .commission q => Sys2Proof.Machine.execCommission q s
  | .join q => Sys2Proof.Machine.execJoin q s
  | .memberKey q => Sys2Proof.Machine.execMemberKey q s
  | .members q => Sys2Proof.Machine.execMembers q s
  | .assured q => Sys2Proof.Machine.execAssured q s
  | .send q => Sys2Proof.Machine.execSend q s
  | .chartGet q => Sys2Proof.Machine.execChartGet q s
  | .queues q => Sys2Proof.Machine.execQueues q s
  | .policer q => Sys2Proof.Machine.execPolicer q s
  | .keyInfo q => Sys2Proof.Machine.execKeyInfo q s
  | .keyLoad q => Sys2Proof.Machine.execKeyLoad q s
  | .keyErase q => Sys2Proof.Machine.execKeyErase q s
  | .expertKey q => Sys2Proof.Machine.execExpertKey q s
  | .random q => Sys2Proof.Machine.execRandom q s
  | .timeGet q => Sys2Proof.Machine.execTimeGet q s
  | .timeSet q => Sys2Proof.Machine.execTimeSet q s
  | .alarmSet q => Sys2Proof.Machine.execAlarmSet q s
  | .trim q => Sys2Proof.Machine.execTrim q s
  | .bkupRead q => Sys2Proof.Machine.execBkupRead q s
  | .bkupWrite q => Sys2Proof.Machine.execBkupWrite q s
  | .svyStatus q => Sys2Proof.Machine.execSvyStatus q s
  | .svyRead q => Sys2Proof.Machine.execSvyRead q s
  | .svySeek q => Sys2Proof.Machine.execSvySeek q s
  | .svyConfig q => Sys2Proof.Machine.execSvyConfig q s
  | .svyClear q => Sys2Proof.Machine.execSvyClear q s
  | .longDone ok => Sys2Proof.Machine.execLongDone ok s
  | .hifReplyGo m v => Sys2Proof.Machine.execHifReplyGo m v s
  | .engineRequest m v env => Sys2Proof.Machine.execEngineRequest m v env s
  | .svrEnable m => Sys2Proof.Machine.execSvrEnable m s
  | .close m => Sys2Proof.Machine.execClose m s
  | .found m => Sys2Proof.Machine.execFound m s
  | .clrroll m => Sys2Proof.Machine.execClrroll m s
  | .clrfound m => Sys2Proof.Machine.execClrfound m s
  | .sheetWrite => Sys2Proof.Machine.execSheetWrite s
  | .rollingErase => Sys2Proof.Machine.execRollingErase s
  | .metricSample k v => Sys2Proof.Machine.execMetricSample k v s
  | .metricAdd k v => Sys2Proof.Machine.execMetricAdd k v s
  | .start m => Sys2Proof.Machine.execStart m s
  | .stop => Sys2Proof.Machine.execStop s
  | .testUnit p => Sys2Proof.Machine.execTestUnit p s
  | .testGapTimeout => Sys2Proof.Machine.execTestGapTimeout s
  | .lfclkValid => Sys2Proof.Machine.execLfclkValid s
  | .supplySwitchOver vbkup back => Sys2Proof.Machine.execSupplySwitchOver vbkup back s
  | .unassignedOpcode op q => Sys2Proof.Machine.execUnassignedOpcode op q s
  | .replyShiftedOut => Sys2Proof.Machine.execReplyShiftedOut s
  | .leafSearchListenEnd => Sys2Proof.Machine.execLeafSearchListenEnd s
  | .tcmClearDone e => Sys2Proof.Machine.execTcmClearDone e s

end Sys2Proof.Machine
end

