-- ==== Sys2Proof/WellFormed.lean ====
section
/-!
DEFINITION. Which commands are well formed: operands that a type admits and the spec does not.
-/
namespace Sys2Proof

open Sys2Proof.Machine

/-- A request carries a payload that R488 allows: at most 1,024 bytes. -/
def reqOk (q : HostReq) : Bool := decide (q.payload.length ≤ 1024)

/-- An aligned address within the register blocks (R27). -/
def blockWord (a : Word) : Bool := decide (0x40000000 ≤ a.toNat ∧ a.toNat < 0x40012000 ∧ a.toNat % 4 = 0)

/-- The even engine of a pair (R307). -/
def leadsPair (e : Fin 12) : Bool := (pairOf e.val).isSome && e.val % 2 == 0

/-- A step of the equaliser names its eight samples and four symbols (R144). -/
def eqOk (q : EqSym) : Bool := q.x.length == 8 && q.d.length == 4

/-- What a receiver can report of a frame: one or two LTS and payload symbols of 96 data tones, and a gain index of 0 to 11 (R80,
R120, R124, R146). -/
def measOk (m : RxMeas) : Bool :=
  (m.lts.length == 1 || m.lts.length == 2) && m.lts.all (fun l => l.length == 96) && m.rx.all (fun l => l.length == 96) &&
    decide (m.gain ≤ 11) && m.phr.all eqOk && m.eq.all eqOk

/-- The command is well formed. -/
def Instr.wf (i : Instr) : Bool :=
  match i with
  | .registerWrite _ _ _ => true
  | .commit _ _ => true
  | .powerOn _ => true
  | .atollPowerUp => true
  | .resetN => true
  | .brownout _ => true
  | .vbatReturn => true
  | .clockMonitorReset => true
  | .softReset _ => true
  | .softResetCold _ => true
  | .clocksLocked => true
  | .scanDone _ _ _ _ _ _ => true
  | .mainsEdge _ _ => true
  | .mainsEdgeMissing => true
  | .acquireTimeout => true
  | .holdoverTimeout => true
  | .slotBoundary => true
  | .cycleBoundary => true
  | .merPhaseRead => true
  | .lfratioMeasure _ => true
  | .bandEnable _ _ => true
  | .bandReady _ => true
  | .bandDisable _ => true
  | .hopLock _ => true
  | .hopLockFail _ => true
  | .calEntry _ _ => true
  | .calStale _ => true
  | .calAll _ => true
  | .calEntryDone _ _ _ => true
  | .tempCheck _ => true
  | .autoCalibrate _ => true
  | .rssiUpdate _ _ _ => true
  | .agcGainStep _ _ _ => true
  | .preambleDetect _ _ _ _ _ _ => true
  | .antennaSelect _ _ _ _ => true
  | .preambleComplete _ _ p => p.train.all eqOk
  | .syncTimeout _ _ => true
  | .headerDecode _ _ _ => true
  | .rxFrameEnd _ _ _ m => measOk m
  | .cipAcceptDone _ _ _ => true
  | .ackDecide _ _ => true
  | .handOff _ _ _ => true
  | .assuredRequest _ _ _ _ _ _ _ => true
  | .entryStart _ => true
  | .shareStart _ => true
  | .sealDone _ _ => true
  | .sealLate _ => true
  | .daaListenStart _ => true
  | .txTurnStart _ _ => true
  | .txRampUp _ => true
  | .txSymbolsEnd _ => true
  | .txRampDownEnd _ => true
  | .turnRxDone _ => true
  | .rxWindowOpen _ => true
  | .rxChainReady _ => true
  | .rxWindowClose _ => true
  | .contactMiss _ => true
  | .ackTimeout _ => true
  | .listenTimeout => true
  | .neighbourWrite _ => true
  | .dutyBinRetire => true
  | .enqueue _ _ _ _ => true
  | .enqresRead _ => true
  | .shpBandDisable _ => true
  | .policerCfgWrite _ _ _ => true
  | .beaconSend _ _ => true
  | .joinScanEnd => true
  | .joinReqSend _ _ => true
  | .joinReq _ _ _ _ _ => true
  | .fwd _ _ _ _ => true
  | .joinRspRelay _ _ _ _ _ => true
  | .joinRsp _ _ => true
  | .joinAttemptTimeout => true
  | .joinRescanTimeout => true
  | .chartSet _ => true
  | .chartSetCommit => true
  | .nbrReport _ _ _ => true
  | .leave _ => true
  | .mapUpdateStart _ _ _ _ _ => true
  | .cycleClose _ => true
  | .zoneIndexWrite _ _ _ => true
  | .zoneCfgWrite _ _ => true
  | .pdConversion _ _ => true
  | .pirSample _ => true
  | .pwmPeriodStart _ => true
  | .pwmInactiveEdge _ => true
  | .gpioSet _ => true
  | .gpioClr _ => true
  | .gpioEdge _ _ => true
  | .ld _ r o => assignedM 0x00 r o
  | .st _ r o => assignedM 0x01 r o
  | .add _ r o => assignedM 0x02 r o
  | .adc _ o => assignedM 0x03 .a o
  | .sub _ r o => assignedM 0x04 r o
  | .sbc _ o => assignedM 0x05 .a o
  | .and _ o => assignedM 0x06 .a o
  | .or _ o => assignedM 0x07 .a o
  | .xor _ o => assignedM 0x08 .a o
  | .cmp _ r o => assignedM 0x09 r o
  | .test _ o => assignedM 0x0A .a o
  | .mul _ o => assignedM 0x0B .a o
  | .mulhu _ o => assignedM 0x0C .a o
  | .addd _ o => assignedM 0x0D .a o
  | .subd _ o => assignedM 0x0E .a o
  | .cmpd _ o => assignedM 0x0F .a o
  | .inc _ o => assignedM 0x10 .a o
  | .dec _ o => assignedM 0x11 .a o
  | .lea _ r o => assignedM 0x12 r o
  | .jump _ o => assignedM 0x13 .a o
  | .call _ o => assignedM 0x14 .a o
  | .ldr _ o => assignedM 0x15 .a o
  | .stc _ o => assignedM 0x16 .a o
  | .branch _ _ d => dispOk d
  | .callr _ d => dispOk d
  | .shl _ _ => true
  | .shr _ _ => true
  | .asr _ _ => true
  | .rol _ _ => true
  | .ror _ _ => true
  | .shld _ _ => true
  | .shrd _ _ => true
  | .nop _ => true
  | .wait _ => true
  | .ret _ => true
  | .retv _ => true
  | .fsetI _ => true
  | .fclrI _ => true
  | .fsetC _ => true
  | .fclrC _ => true
  | .fclrD _ => true
  | .daa _ => true
  | .move _ _ => true
  | .moveSX _ => true
  | .moveXS _ => true
  | .push _ _ => true
  | .pop _ _ => true
  | .popF _ => true
  | .incr _ _ => true
  | .decr _ _ => true
  | .neg _ => true
  | .not _ => true
  | .reservedOpcodeTrap _ w => reservedWord w
  | .vectorEntry _ => true
  | .flushedFault _ a => blockWord a
  | .load _ _ _ => true
  | .loadDone _ => true
  | .release _ _ => true
  | .halt _ _ => true
  | .haltDone _ => true
  | .resume _ _ => true
  | .engineReset _ _ => true
  | .pair _ _ _ => true
  | .engDbell _ _ => true
  | .readBufferInvalidate _ => true
  | .lockstepMismatch e => leadsPair e
  | .restoreDone e => leadsPair e
  | .eventTaskDeliver _ => true
  | .swfire _ _ _ => true
  | .channelCfgWrite _ _ _ => true
  | .channelTaskWrite _ _ _ => true
  | .grpenWrite _ _ => true
  | .claimTake _ _ => true
  | .claimFree _ _ => true
  | .capPhaseRead _ => true
  | .program _ _ => true
  | .erase _ _ => true
  | .margin _ _ => true
  | .flashOpDone _ => true
  | .eraseTimeout => true
  | .eraseResume => true
  | .ctr _ _ => true
  | .cmacGenerate _ _ => true
  | .cmacVerify _ _ => true
  | .ccmEncrypt _ _ => true
  | .ccmDecrypt _ _ => true
  | .gcmEncrypt _ _ => true
  | .gcmDecrypt _ _ => true
  | .wrap _ _ => true
  | .unwrap _ _ => true
  | .jobDone _ => true
  | .keyWordWrite _ _ _ => true
  | .kcmdErase _ _ => true
  | .trngTestDone => true
  | .trngFail => true
  | .trngRestart _ => true
  | .trngReseed _ => true
  | .rngRead => true
  | .setDate _ => true
  | .setTime _ => true
  | .setAlarm _ => true
  | .rtcSetApply => true
  | .calendarSecond => true
  | .intervalAlarm => true
  | .wakeEdge _ _ => true
  | .powerGoodFall _ => true
  | .backupRamWrite _ _ _ => true
  | .rtcTimeRead => true
  | .stmpSubRead => true
  | .levelChangeStep => true
  | .engineIdle _ => true
  | .deviceIdle => true
  | .sleepEntry _ => true
  | .wakeTimer => true
  | .wakeSource _ => true
  | .wakeClocksReady _ => true
  | .wakeFlashReady => true
  | .pwrOffCmd _ => true
  | .lfclkLoss => true
  | .actdone _ _ _ => true
  | .fltReport _ _ => true
  | .fltKick _ => true
  | .watchdogExpiry _ => true
  | .recoveryTimeout => true
  | .episodeClose _ => true
  | .packetCrcError _ _ => true
  | .packetGapTimeout _ => true
  | .getInfo q => reqOk q
  | .echo q => reqOk q
  | .poll q => reqOk q
  | .dpRead q => reqOk q
  | .dpWrite q => reqOk q
  | .dbell q => reqOk q
  | .events q => reqOk q
  | .reset q => reqOk q
  | .resetAfterReply => true
  | .faults q => reqOk q
  | .report q => reqOk q
  | .engines q => reqOk q
  | .hostCfg q => reqOk q
  | .baudRevert => true
  | .unlockChal q => reqOk q
  | .unlock q => reqOk q
  | .lock q => reqOk q
  | .unlockTimeout => true
  | .pwrStatus q => reqOk q
  | .pwrLevel q => reqOk q
  | .pwrOff q => reqOk q
  | .flRead q => reqOk q
  | .flProgram q => reqOk q
  | .flErase q => reqOk q
  | .flMargin q => reqOk q
  | .flBlock q => reqOk q
  | .fwUpdate q => reqOk q
  | .imageSet q => reqOk q
  | .rfStatus q => reqOk q
  | .rfCal q => reqOk q
  | .rfPlan q => reqOk q
  | .sndConfig q => reqOk q
  | .sndLinkAdd q => reqOk q
  | .sndLinkRemove q => reqOk q
  | .sndLinkReset q => reqOk q
  | .sndZone q => reqOk q
  | .sndStart q => reqOk q
  | .sndStop q => reqOk q
  | .sndRead q => reqOk q
  | .meshStatus q => reqOk q
  | .neighbour q => reqOk q
  | .commission q => reqOk q
  | .join q => reqOk q
  | .memberKey q => reqOk q
  | .members q => reqOk q
  | .assured q => reqOk q
  | .send q => reqOk q
  | .chartGet q => reqOk q
  | .queues q => reqOk q
  | .policer q => reqOk q
  | .keyInfo q => reqOk q
  | .keyLoad q => reqOk q
  | .keyErase q => reqOk q
  | .expertKey q => reqOk q
  | .random q => reqOk q
  | .timeGet q => reqOk q
  | .timeSet q => reqOk q
  | .alarmSet q => reqOk q
  | .trim q => reqOk q
  | .bkupRead q => reqOk q
  | .bkupWrite q => reqOk q
  | .svyStatus q => reqOk q
  | .svyRead q => reqOk q
  | .svySeek q => reqOk q
  | .svyConfig q => reqOk q
  | .svyClear q => reqOk q
  | .longDone _ => true
  | .hifReplyGo _ _ => true
  | .engineRequest _ _ _ => true
  | .svrEnable _ => true
  | .close _ => true
  | .found _ => true
  | .clrroll _ => true
  | .clrfound _ => true
  | .sheetWrite => true
  | .rollingErase => true
  | .metricSample _ _ => true
  | .metricAdd _ _ => true
  | .start _ => true
  | .stop => true
  | .testUnit _ => true
  | .testGapTimeout => true
  | .lfclkValid => true
  | .supplySwitchOver _ _ => true
  | .unassignedOpcode op q => !assignedOps.contains op.toNat && reqOk q
  | .replyShiftedOut => true
  | .leafSearchListenEnd => true
  | .tcmClearDone _ => true

end Sys2Proof
end

