-- ==== Sys2Proof/Safety.lean ====
section
/-!
DEFINITION. What counts as a safe step and a safe run of the block, and the words in which the statements speak of one command: what an engine
needs to execute an instruction, and which instructions share a shape.
-/
namespace Sys2Proof.Machine

/-- The step goes on: it ends in neither a fault nor a refusal. -/
def State.GoesOn (s : State) : Prop := ∃ t, step s = .next t

/-- A run of `k` steps from `s` never stops. -/
def State.RunsOn (s : State) : Nat → Prop
  | 0 => True
  | k + 1 => ∃ t, step s = .next t ∧ t.RunsOn k

/-- The command has its effect: `exec` answers a next state, and `P` holds of it. -/
def Gives (i : Instr) (s : State) (P : State → Prop) : Prop := ∃ t, exec i s = .next t ∧ P t

/-! ### Engines that execute -/

/-- Engine `e` is to execute an instruction of `len` bytes, no access of it that a far-side reset failed waits to be answered (R23), and its
bytes are fetched, which leaves the state `u` with the engine running (R315); the undo log of a pair is within its size (R308). -/
def State.Fetches (s : State) (e : Fin 12) (len : Nat) (u : State) : Prop :=
  s.mayExecute e.val = true ∧ s.fetchWords (.eng e) (s.eng e.val).g.p (len / 2) = .ok () u ∧ (u.eng e.val).st = .run ∧
    (u.eng e.val).undo.length ≤ 256 ∧ s.failedAt e.val = none

/-- The programmer's registers of engine `e`, and the load in its delay. -/
abbrev State.g (s : State) (e : Fin 12) : GRegs := (s.eng e.val).g
abbrev State.load (s : State) (e : Fin 12) : Option PendLoad := (s.eng e.val).load

/-- Nothing but engine `e` differs, and its TCM does not. -/
def onlyEngine (s t : State) (e : Fin 12) : Prop :=
  t = { s with engs := setEng s.engs e.val (t.eng e.val) } ∧ (t.eng e.val).tcm = (s.eng e.val).tcm

/-- The instructions that neither read nor write memory: engine, length and what becomes of the registers, P being P_next before
(R320 to R323). -/
def regForm : Instr → Option (Fin 12 × Nat × (GRegs → GRegs))
  | .nop e => some (e, 2, id)
  | .fsetI e => some (e, 2, fun g => { g with f := setFlag g.f fI true })
  | .fclrI e => some (e, 2, fun g => { g with f := setFlag g.f fI false })
  | .fsetC e => some (e, 2, fun g => { g with f := setFlag g.f fC true })
  | .fclrC e => some (e, 2, fun g => { g with f := setFlag g.f fC false })
  | .fclrD e => some (e, 2, fun g => { g with f := setFlag g.f fD false })
  | .daa e => some (e, 2, fun g => { g with a := (aluDaa g.f g.a).r, f := (aluDaa g.f g.a).f })
  | .move e p => some (e, 2, fun g => setNZ g (moveRegs p).2 (getReg g (moveRegs p).1))
  | .moveSX e => some (e, 2, fun g => { g with x := g.s })
  | .moveXS e => some (e, 2, fun g => { g with s := g.x })
  | .incr e r => some (e, 2, fun g => setNZ g r (getReg g r + 1))
  | .decr e r => some (e, 2, fun g => setNZ g r (getReg g r - 1))
  | .neg e => some (e, 2, fun g => { g with a := 0 - g.a, f := (aluSub g.f 0 g.a false).f })
  | .not e => some (e, 2, fun g => { g with a := ~~~g.a, f := flagsNZ g.f (~~~g.a) })
  | .shl e n => some (e, 2, fun g => let x := aluShift .shl g.f g.a (if n.val = 0 then g.x.toNat % 32 else n.val)
      { g with a := x.r, f := x.f })
  | .shr e n => some (e, 2, fun g => let x := aluShift .shr g.f g.a (if n.val = 0 then g.x.toNat % 32 else n.val)
      { g with a := x.r, f := x.f })
  | .asr e n => some (e, 2, fun g => let x := aluShift .asr g.f g.a (if n.val = 0 then g.x.toNat % 32 else n.val)
      { g with a := x.r, f := x.f })
  | .rol e n => some (e, 2, fun g => let x := aluShift .rol g.f g.a (if n.val = 0 then g.x.toNat % 32 else n.val)
      { g with a := x.r, f := x.f })
  | .ror e n => some (e, 2, fun g => let x := aluShift .ror g.f g.a (if n.val = 0 then g.x.toNat % 32 else n.val)
      { g with a := x.r, f := x.f })
  | .shld e n => some (e, 2, fun g => let x := aluDigitShift true g.f g.a (if n.val = 0 then g.x.toNat % 8 else n.val)
      { g with a := x.r, f := x.f })
  | .shrd e n => some (e, 2, fun g => let x := aluDigitShift false g.f g.a (if n.val = 0 then g.x.toNat % 8 else n.val)
      { g with a := x.r, f := x.f })
  | .branch e c d => if dispOk d then some (e, dispBytes d, fun g => if condHolds c g.f then { g with p := branchTarget d g.p } else g)
      else none
  | .lea e r o => if assignedM 0x12 r o then some (e, 2 + extBytes o.ext, fun g => setReg g r (effAddr g o g.p).1) else none
  | .jump e o => if assignedM 0x13 .a o then some (e, 2 + extBytes o.ext, fun g => { g with p := (effAddr g o g.p).1 }) else none
  | _ => none

/-- The instructions of A, X or Y and an operand (R320): engine, OP, register, operand, whether a 16-bit IMM is extended with zeros, whether
the result is kept, and the operation on the flags, the register and the operand. -/
def aluForm : Instr → Option (Fin 12 × Nat × GReg × Opnd × Bool × Bool × (Word → Word → Word → AluRes))
  | .add e r o => some (e, 0x02, r, o, false, true, fun f a b => aluAdd f a b false (r == .a))
  | .adc e o => some (e, 0x03, .a, o, false, true, fun f a b => aluAdd f a b (getFlag f fC) true)
  | .sub e r o => some (e, 0x04, r, o, false, true, fun f a b => aluSub f a b false)
  | .sbc e o => some (e, 0x05, .a, o, false, true, fun f a b => aluSub f a b (!getFlag f fC))
  | .and e o => some (e, 0x06, .a, o, true, true, fun f a b => ⟨a &&& b, flagsNZ f (a &&& b)⟩)
  | .or e o => some (e, 0x07, .a, o, true, true, fun f a b => ⟨a ||| b, flagsNZ f (a ||| b)⟩)
  | .xor e o => some (e, 0x08, .a, o, true, true, fun f a b => ⟨a ^^^ b, flagsNZ f (a ^^^ b)⟩)
  | .cmp e r o => some (e, 0x09, r, o, false, false, fun f a b => aluSub f a b false)
  | .test e o => some (e, 0x0A, .a, o, true, false, fun f a b => ⟨a &&& b, flagsNZ f (a &&& b)⟩)
  | .mul e o => some (e, 0x0B, .a, o, false, true, fun f a b => ⟨a * b, flagsNZ f (a * b)⟩)
  | .mulhu e o => some (e, 0x0C, .a, o, false, true, fun f a b =>
      ⟨BitVec.ofNat 32 (a.toNat * b.toNat / 2 ^ 32), flagsNZ f (BitVec.ofNat 32 (a.toNat * b.toNat / 2 ^ 32))⟩)
  | .addd e o => some (e, 0x0D, .a, o, true, true, aluAddd)
  | .subd e o => some (e, 0x0E, .a, o, true, true, aluSubd)
  | .cmpd e o => some (e, 0x0F, .a, o, true, true, aluCmpd)
  | _ => none

/-- The instructions that store one value (R320, R321, R323): engine, length, the address and the bytes stored, and the registers after,
for the registers before and P_next. -/
def storeForm (i : Instr) (g : GRegs) (pn : Word) : Option (Fin 12 × Nat × Word × Nat × Word × GRegs) :=
  match i with
  | .st e r o =>
    if assignedM 0x01 r o then
      let x := effAddr g o pn
      some (e, 2 + extBytes o.ext, x.1, widthBytes o.width, if o.mode = .xpi then getReg g r else readAuto o r g x.2,
        { x.2 with p := pn })
    else none
  | .push e r => some (e, 2, g.s - 4, 4, pushVal r g, { g with s := g.s - 4, p := pn })
  | .call e o =>
    if assignedM 0x14 .a o then some (e, 2 + extBytes o.ext, g.s - 4, 4, pn, { g with s := g.s - 4, p := (effAddr g o pn).1 })
    else none
  | .callr e d => if dispOk d then some (e, dispBytes d, g.s - 4, 4, pn, { g with s := g.s - 4, p := branchTarget d pn }) else none
  | _ => none

/-- The instructions that pop one word (R323): engine, the register loaded, if any, and the registers after, for the word and P_next. -/
def popForm (i : Instr) (g : GRegs) (v pn : Word) : Option (Fin 12 × Option GReg × GRegs) :=
  match i with
  | .pop e r => some (e, some r, { g with s := g.s + 4, p := pn })
  | .popF e => some (e, none, { g with s := g.s + 4, p := pn, f := loadF v })
  | .ret e => some (e, none, { g with s := g.s + 4, p := v })
  | _ => none

/-- Of shared SRAM and the TCMs only the `n` bytes from address `a` on, as engine `e` reaches them, may differ; a pair stores to both of
its TCMs (R27, R30, R308). -/
def storedOnly (s t : State) (e : Fin 12) (a n : Nat) : Prop :=
  (∀ b, t.sramByte b = s.sramByte b ∨ ∃ x, s.place (.eng e) a = .sram x ∧ x ≤ b ∧ b < x + n) ∧
  (∀ k : Fin 12, ∀ b, (t.eng k.val).byte k.val b = (s.eng k.val).byte k.val b ∨
    ((k = e ∨ s.paired e.val = true ∧ k.val = e.val + 1) ∧ a < 0x10000 ∧ a ≤ b ∧ b < a + n))

/-! ### Commands of one shape -/

/-- A flash command (R365): master, descriptor and OP. -/
def flashForm : Instr → Option (Master × BitVec 19 × Nat)
  | .program m d => some (m, d, 1)
  | .erase m d => some (m, d, 2)
  | .margin m d => some (m, d, 3)
  | _ => none

/-- A job write of CIP (R390): master, descriptor and the OP that its descriptor holds. -/
def jobForm : Instr → Option (Master × BitVec 19 × Nat)
  | .ctr m d => some (m, d, 1)
  | .cmacGenerate m d => some (m, d, 2)
  | .cmacVerify m d => some (m, d, 3)
  | .ccmEncrypt m d => some (m, d, 4)
  | .ccmDecrypt m d => some (m, d, 5)
  | .gcmEncrypt m d => some (m, d, 6)
  | .gcmDecrypt m d => some (m, d, 7)
  | .wrap m d => some (m, d, 8)
  | .unwrap m d => some (m, d, 9)
  | _ => none

/-- A set of the calendar (R420): master and which of date, time and alarm it names. -/
def setForm : Instr → Option (Master × Bool × Bool × Bool)
  | .setDate m => some (m, true, false, false)
  | .setTime m => some (m, false, true, false)
  | .setAlarm m => some (m, false, false, true)
  | _ => none

/-- A device reset that a command causes in state `s`: its cause code (R476, R480). -/
def resetForm (i : Instr) (s : State) : Option Nat :=
  match i with
  | .powerOn _ => some 0
  | .vbatReturn => if s.pwr.st = .backupBrown then some 1 else none
  | .resetN => if s.pwr.st = .run ∨ s.pwr.st = .doze ∨ s.pwr.st = .sleep then some 2 else none
  | .softReset m => if s.e2OrExpert m ∧ s.tclkOn then some 8 else none
  | .softResetCold m => if s.e2OrExpert m ∧ s.tclkOn then some 8 else none
  | _ => none

/-- A write of RFC_CALCMD (R87): band, OP and the entries that the command names in state `s`. -/
def calForm (i : Instr) (s : State) : Option (Band × Nat × List Nat) :=
  match i with
  | .calEntry b e => some (b, 1, [e.val])
  | .calStale b => some (b, 2, s.staleEntries b)
  | .calAll b => some (b, 3, List.range 128)
  | _ => none

/-- Commands that store nothing and leave the engines' registers, the keys, the flash and the calendar alone. -/
def quiet : Instr → Bool
  | .gpioSet _ | .gpioClr _ | .gpioEdge _ _ | .pdConversion _ _ | .pirSample _ | .pwmPeriodStart _ | .pwmInactiveEdge _ => true
  | .zoneIndexWrite _ _ _ | .zoneCfgWrite _ _ | .metricSample _ _ | .metricAdd _ _ | .found _ | .close _ | .stop => true
  | .policerCfgWrite _ _ _ | .enqresRead _ | .engDbell _ _ | .merPhaseRead | .packetCrcError _ _ => true
  | .packetGapTimeout _ | .unlockTimeout | .baudRevert => true
  | _ => false

/-! ### Requests of the host (19_host_protocol.md) -/

/-- A request of R500: opcode, whether HIF executes it itself, the operation, and the request. -/
def hostForm : Instr → Option (Nat × Bool × (State → OpIn → Ans) × HostReq)
  | .getInfo q => some (0x00, false, State.opGetInfo, q)
  | .echo q => some (0x01, false, State.opEcho, q)
  | .poll q => some (0x02, false, State.opPoll, q)
  | .dpRead q => some (0x03, true, State.opDataRead, q)
  | .dpWrite q => some (0x04, true, State.opDataWrite, q)
  | .dbell q => some (0x05, true, State.opDbell, q)
  | .events q => some (0x06, true, State.opEvents, q)
  | .reset q => some (0x07, false, State.opReset, q)
  | .faults q => some (0x08, false, State.opFaults, q)
  | .report q => some (0x09, false, State.opReport, q)
  | .engines q => some (0x0A, false, State.opEngines, q)
  | .hostCfg q => some (0x0B, false, State.opHostCfg, q)
  | .unlockChal q => some (0x0D, false, State.opUnlockChal, q)
  | .unlock q => some (0x0E, false, State.opUnlock, q)
  | .lock q => some (0x0F, false, State.opLock, q)
  | .pwrStatus q => some (0x10, false, State.opPwrStatus, q)
  | .pwrLevel q => some (0x11, false, State.opPwrLevel, q)
  | .pwrOff q => some (0x12, false, State.opPwrOff, q)
  | .flRead q => some (0x20, false, State.opFlRead, q)
  | .flProgram q => some (0x21, false, State.opFlProgram, q)
  | .flErase q => some (0x22, false, State.opFlErase, q)
  | .flMargin q => some (0x23, false, State.opFlMargin, q)
  | .flBlock q => some (0x24, false, State.opFlBlock, q)
  | .fwUpdate q => some (0x25, false, State.opFwUpdate, q)
  | .imageSet q => some (0x26, false, State.opImageSet, q)
  | .rfStatus q => some (0x30, false, State.opRfStatus, q)
  | .rfCal q => some (0x31, false, State.opRfCal, q)
  | .rfPlan q => some (0x32, false, State.opRfPlan, q)
  | .sndConfig q => some (0x38, false, State.opSndConfig, q)
  | .sndLinkAdd q => some (0x39, false, State.opSndLinkAdd, q)
  | .sndLinkRemove q => some (0x3A, false, State.opSndLinkRemove, q)
  | .sndLinkReset q => some (0x3B, false, State.opSndLinkReset, q)
  | .sndZone q => some (0x3C, false, State.opSndZone, q)
  | .sndStart q => some (0x3D, false, State.opSndStart, q)
  | .sndStop q => some (0x3E, false, State.opSndStop, q)
  | .sndRead q => some (0x3F, false, State.opSndRead, q)
  | .meshStatus q => some (0x40, false, State.opMeshStatus, q)
  | .neighbour q => some (0x41, false, State.opNeighbour, q)
  | .commission q => some (0x42, false, State.opCommission, q)
  | .join q => some (0x43, false, State.opJoin, q)
  | .memberKey q => some (0x44, false, State.opMemberKey, q)
  | .members q => some (0x45, false, State.opMembers, q)
  | .assured q => some (0x46, false, State.opAssured, q)
  | .send q => some (0x47, false, State.opSend, q)
  | .chartGet q => some (0x50, false, State.opChartGet, q)
  | .queues q => some (0x51, false, State.opQueues, q)
  | .policer q => some (0x52, false, State.opPolicer, q)
  | .keyInfo q => some (0x60, false, State.opKeyInfo, q)
  | .keyLoad q => some (0x61, false, State.opKeyLoad, q)
  | .keyErase q => some (0x62, false, State.opKeyErase, q)
  | .expertKey q => some (0x63, false, State.opExpertKey, q)
  | .random q => some (0x64, false, State.opRandom, q)
  | .timeGet q => some (0x70, false, State.opTimeGet, q)
  | .timeSet q => some (0x71, false, State.opTimeSet, q)
  | .alarmSet q => some (0x72, false, State.opAlarmSet, q)
  | .trim q => some (0x73, false, State.opTrim, q)
  | .bkupRead q => some (0x74, false, State.opBkupRead, q)
  | .bkupWrite q => some (0x75, false, State.opBkupWrite, q)
  | .svyStatus q => some (0x78, false, State.opSvyStatus, q)
  | .svyRead q => some (0x79, false, State.opSvyRead, q)
  | .svySeek q => some (0x7A, false, State.opSvySeek, q)
  | .svyConfig q => some (0x7B, false, State.opSvyConfig, q)
  | .svyClear q => some (0x7C, false, State.opSvyClear, q)
  | _ => none

/-- OPCODE of the packet of request `q` (R497). -/
def reqCode (q : HostReq) (op : Nat) : Nat := op + if q.expert then 128 else 0

/-- The request as the operation sees it. -/
def reqInput (q : HostReq) : OpIn :=
  { expert := q.expert, owner := 12, desc := 0, seq := q.seq, p := q.payload, env := q.env }

/-- HIF takes the new request `q`: TCLK runs and the interface is free (R482), the payload is within 1,024 bytes (R490), nothing executes,
waits or is kept (R491, R494, R496), no write of E2 waits in the Strait into the Atoll domain (R22), and the level and the start allow it
(R497, R501). -/
def State.Takes (s : State) (q : HostReq) : Prop :=
  s.hifHears q.spi = true ∧ q.payload.length ≤ 1024 ∧ q.hold = false ∧ (q.expert = true → s.expert = true) ∧
    s.rdB HIF_STAT_READY = true ∧ s.rdB SYS_BOOT_SAFE = false ∧ s.pwr.entering = false ∧ s.hif.exec = none ∧ s.hif.kept = none ∧
    s.hif.out = none ∧ s.hif.ereqs = [] ∧ s.writesHeld e2 = false

/-- The state in which the operation of `q` runs: the request is stored and shown, EXEC is 1, and, unless HIF executes it itself (`h`), E2
has its doorbell (R491, R499). -/
def State.received (s : State) (op : Nat) (h : Bool) (q : HostReq) : State :=
  let s1 := s.hifPassed q.spi
  let r := wrF (wrF (wrF s1.regs HIF_REQINFO_LEN q.payload.length) HIF_REQINFO_SEQ q.seq.toNat) HIF_REQINFO_OPCODE (reqCode q op)
  let s2 := ({ s1 with regs := r } : State).sramWrite s1.reqBuf q.payload
  let s3 : State := if q.expert then { s2 with hif := { s2.hif with expertAt := s2.fltNow } } else s2
  let s4 : State := { (s3.wr HIF_STAT_EXEC 1) with hif := { s3.hif with exec := some (reqKey q (reqCode q op)) } }
  if h then s4 else s4.doorbell 2 64

/-- The payload of a native frame without CTR, with its FCTL in front (R154). -/
def meshPayload (frame : List Byte) : List Byte := frame.drop (natHdrLen (fctlOf (bytesAt frame 0 2)) false)

/-- The command is answered with status `st` and data `d`: the reply packet of R488 waits on the request's interface, nothing executes any
more, and `P` holds of the state after it. -/
def Answers (i : Instr) (s : State) (q : HostReq) (op st : Nat) (d : List Byte) (P : State → Prop) : Prop :=
  ∃ t : State, exec i s = .next t ∧ t.hif.out = some (q.spi, replyPacket (reqCode q op) q.seq st d) ∧ t.hif.exec = none ∧ P t

end Sys2Proof.Machine
end

