-- ==== Sys2Proof/Certificates/Slice0/Obligations.lean ====
section
/-!
DEFINITION. The statements for the provers, one group for each chapter of the spec. Each names what it states; its docstring cites the rules of spec/
it rests on.
-/
open Sys2Proof Sys2Proof.Machine

/-! ### The queue and reset -/

/-- A step takes the command at the front of the queue and answers what exec answers for it with the queue's rest. -/
def Obligations.StepTakesTheFrontCommand : Prop :=
  ∀ (c : Instr) (r : List Instr) (s : State), step { s with pending := c :: r } = exec c { s with pending := r }

/-- What the spec gives the machine after reset, in many kinds of register: engines, levels, sensors, test, calendar, keys, faults,
queue (R272, R292, R298, R307, R312, R389, R411, R451, R480, R535). -/
def Obligations.ResetValues : Prop :=
  let s := State.reset
  s.pending = [] ∧ (∀ e : Fin 12, (s.eng e.val).st = if e.val = 1 then .paired else .reset) ∧ s.rd SYS_ID_PART = 29714 ∧
    s.rd SYS_ROLE_ROLE = 1 ∧ s.rd PWR_LEVEL_VCORE = 1 ∧ s.rd PWR_LEVEL_FENG = 1 ∧ s.rd PWR_ENGIDLE_CYC = 256 ∧ s.rd PWR_WAKEEN_EN = 48 ∧
    s.rd TST_LEN_LEN = 64 ∧ s.rd TST_FIXED_WORD = 1431677610 ∧ s.rd ENG_ISAVER_VER = 258 ∧ s.rd SNS_PIR_CFG_HPF = 10 ∧
    (∀ z : Fin 8, s.rd (SNS_SZ_CFG_ONCNT z.val) = 2 ∧ s.rd (SNS_SZ_CFG_HOLD z.val) = 250 ∧ s.rd (SNS_SZ_CFG_OFF z.val) = 16 ∧
      s.rd (SNS_SZ_CFG_ON z.val) = 32) ∧
    s.rtc.tick = 0 ∧ s.rtc.cal = ⟨2000, 1, 1, 0, 0, 0⟩ ∧ s.rd RTC_STAT_TLOST = 1 ∧ (∀ k : Fin 16, (s.slot k.val).loaded = (k.val == 15)) ∧
    s.cip.jobs = [] ∧ (∀ r : Fin 16, s.flt.episodes.getD r.val none = none)

/-- The calendar shows a legal date and time after reset (R416, R421). -/
def Obligations.CalendarLegalAtReset : Prop :=
  State.reset.rtc.cal.valid = true

/-- Every step keeps the calendar legal: a month of its year, a day of its month, a time of its day; no set, wrap, reset or command can
leave 2100-02-29 in it (R417, R421). -/
def Obligations.CalendarStaysLegal : Prop :=
  ∀ s t : State, s.rtc.cal.valid = true → step s = .next t → t.rtc.cal.valid = true

/-- At a reset of a block both the shadow copy and the active copy of each field take the reset value, and no other block changes (R6). -/
def Obligations.BlockResetValues : Prop :=
  ∀ (s : State) (base a : Nat),
    (base ≤ a → a < base + 0x1000 → regGet (s.resetBlock base).regs a = resetWord a ∧ regGet (s.resetBlock base).shadow a = resetWord a) ∧
    (a < base ∨ base + 0x1000 ≤ a → regGet (s.resetBlock base).regs a = regGet s.regs a ∧
      regGet (s.resetBlock base).shadow a = regGet s.shadow a)

/-! ### Registers (01_architecture.md) -/

/-- A write by bus to MER or CLK takes effect by the type of each bit: RW bits take the value, W1C bits written 1 end, SH bits go to the
shadow copy, the others stay, and no other register changes; after a flushed write of its engine it has no effect. A commit that differs
from the active set is refused whole with its status, or copies every SH field of its block; CIP takes one from E2 alone, and empties
the key buffer (R4, R5, R7 to R10, R305, R386). -/
def Obligations.RegisterWrites : Prop :=
  ∀ (m : Master) (s : State),
    (∀ (reg : Fin 18432) (v : Word) (row : RegRow), s.tclkOn = true → let a := 0x40000000 + 4 * reg.val
      a / 0x1000 = 0x4000C ∨ a / 0x1000 = 0x40002 → regRow a = some row → commitBlk a = none → isAtoll a = false →
      s.heldWrite m a = false → s.writesHeld m = false →
      ∃ t : State, exec (.registerWrite m reg v) s = .next t ∧
        let rw := BitVec.ofNat 32 row.rw
        let w1c := BitVec.ofNat 32 row.w1c
        regGet t.regs a &&& ~~~(rw ||| w1c) = regGet s.regs a &&& ~~~(rw ||| w1c) ∧
        regGet t.regs a &&& rw &&& ~~~w1c = v &&& rw &&& ~~~w1c ∧
        regGet t.regs a &&& w1c &&& ~~~rw = regGet s.regs a &&& w1c &&& ~~~rw &&& ~~~v ∧
        regGet t.shadow a &&& shMask a = v &&& shMask a ∧
        ∀ b, b ≠ a → regGet t.regs b = regGet s.regs b) ∧
    (∀ (reg : Fin 18432) (v : Word), s.heldWrite m (0x40000000 + 4 * reg.val) = true → exec (.registerWrite m reg v) s = .next s) ∧
    (∀ (k : Fin 9) (blk : Blk) (n : Nat), (k.val, blk, n) ∈ [(0, Blk.pwr, 1), (5, Blk.mac, 10), (7, Blk.mer, 12), (8, Blk.sns, 17)] →
      s.barred m n = false → let as := shAddrs blk.base
      (shadowEq s.regs s.shadow as = true → ∃ t : State, exec (.commit m k) s = .next t ∧ t.rd blk.status = stOK ∧ t.shadow = s.shadow ∧
        ∀ a, a ≠ blk.status.addr → regGet t.regs a = regGet s.regs a) ∧
      (shadowEq s.regs s.shadow as = false →
        (s.blkStatus blk ≠ stOK → ∃ t : State, exec (.commit m k) s = .next t ∧ t.rd blk.status = s.blkStatus blk ∧ t.shadow = s.shadow ∧
          ∀ a, a ≠ blk.status.addr → regGet t.regs a = regGet s.regs a) ∧
        (s.blkStatus blk = stOK → ∃ t : State, exec (.commit m k) s = .next t ∧ t.rd blk.status = stOK ∧ t.shadow = s.shadow ∧
          ∀ a ∈ as, regGet t.regs a &&& shMask a = regGet s.shadow a &&& shMask a))) ∧
    (∀ (k : Fin 9) (blk : Blk) (n : Nat), (k.val, blk, n) ∈ [(1, Blk.svr, 6), (3, Blk.rfc, 8), (4, Blk.mdm, 9), (6, Blk.shp, 11)] →
      s.barred m n = false → (blk = .mdm → s.rdB MDM_COMMIT_BUSY = false ∧ s.mdmHeld = false) →
      let st := if shadowEq s.regs s.shadow (shAddrs blk.base) = true then stOK else s.blkStatus blk
      ∃ t : State, exec (.commit m k) s = .next t ∧ t.rd blk.status = st ∧
        (st ≠ stOK → t.shadow = s.shadow ∧ ∀ a, a ≠ blk.status.addr → regGet t.regs a = regGet s.regs a)) ∧
    (s.barred m 7 = false →
      (isE2 m = false → exec (.commit m 2) s = .next (s.cipRefuse (s.code m) stDenied none)) ∧
      (isE2 m = true → ∃ t : State, exec (.commit m 2) s = .next t ∧ t.cip.buf = List.replicate 8 0 ∧
        t.cip.wrote = List.replicate 8 false ∧ t.rd CIP_COMMIT_STATUS =
          (if s.cip.wrote.any id = false ∧ shadowEq s.regs s.shadow keyGroup = true then stOK else s.cipCommitStatus)))

/-- The frame of commands that store nothing: shared SRAM, the engines' registers and TCMs, the flash, the key slots, the calendar and
what firmware keeps stay as they were (R27, R288, R509). -/
def Obligations.QuietCommandsStoreNothing : Prop :=
  ∀ (i : Instr) (s t : State), quiet i = true → s.pwr.entering = false → exec i s = .next t →
    t.sram = s.sram ∧ t.sramGen = s.sramGen ∧ t.resvs = s.resvs ∧ t.flc = s.flc ∧ t.cip = s.cip ∧ t.rtc = s.rtc ∧ t.fw = s.fw ∧
      t.mac = s.mac ∧ t.shp = s.shp ∧ t.rfc = s.rfc ∧ t.pending = s.pending ∧
      ∀ e : Fin 12, t.g e = s.g e ∧ t.load e = s.load e ∧ (t.eng e.val).tcm = (s.eng e.val).tcm

/-! ### Gosor-32 (11_gosor_instruction_set.md) -/

/-- The instructions that touch no memory complete with the registers the spec gives, and change nothing else (R320 to R323). -/
def Obligations.RegisterInstructions : Prop :=
  ∀ (i : Instr) (e : Fin 12) (len : Nat) (f : GRegs → GRegs) (s u : State),
    regForm i = some (e, len, f) → s.Fetches e len u →
    ∃ t : State, exec i s = .next t ∧
      t.g e = withLoad (f { s.g e with p := (s.g e).p + BitVec.ofNat 32 len }) (u.load e) ∧
      t.load e = none ∧ onlyEngine u t e

/-- The instructions of a register and an operand complete with the result and the flags of R324 and R325 (R319, R320). -/
def Obligations.AluInstructions : Prop :=
  ∀ (i : Instr) (e : Fin 12) (op : Nat) (r : GReg) (o : Opnd) (z k : Bool) (alu : Word → Word → Word → AluRes)
    (s u w : State) (v : Word) (g1 : GRegs) (out : Bool),
    aluForm i = some (e, op, r, o, z, k, alu) → assignedM op r o = true → s.Fetches e (2 + extBytes o.ext) u →
    u.operand (.eng e) (s.g e) o ((s.g e).p + BitVec.ofNat 32 (2 + extBytes o.ext)) z = .ok (v, g1, out) w →
    (w.eng e.val).st = .run → (w.eng e.val).undo.length ≤ 256 →
    let x := alu (s.g e).f (readAuto o r (s.g e) g1) v
    ∃ t : State, exec i s = .next t ∧
      t.g e = withLoad { (if k then writeAuto o r g1 x.r else g1) with
                          p := (s.g e).p + BitVec.ofNat 32 (2 + extBytes o.ext), f := x.f } (u.load e) ∧
      t.load e = none ∧ onlyEngine w t e

/-- Decimal addition and subtraction of words of BCD digits are addition and subtraction modulo 10^8, with the carry and the no-borrow
in C, and D as it was; CMPD orders them and keeps A (R325). -/
def Obligations.DecimalArithmetic : Prop :=
  ∀ f a b : Word, bcdOk 8 a.toNat = true → bcdOk 8 b.toNat = true →
    let x := bcdVal 8 a.toNat
    let y := bcdVal 8 b.toNat
    let c := b2n (getFlag f fC)
    (bcdOk 8 (aluAddd f a b).r.toNat = true ∧ bcdVal 8 (aluAddd f a b).r.toNat = (x + y + c) % 10 ^ 8 ∧
      getFlag (aluAddd f a b).f fC = decide (10 ^ 8 ≤ x + y + c) ∧ getFlag (aluAddd f a b).f fD = getFlag f fD) ∧
    (bcdOk 8 (aluSubd f a b).r.toNat = true ∧ bcdVal 8 (aluSubd f a b).r.toNat = (x + 10 ^ 8 - y - (1 - c)) % 10 ^ 8 ∧
      getFlag (aluSubd f a b).f fC = decide (y + (1 - c) ≤ x) ∧ getFlag (aluSubd f a b).f fD = getFlag f fD) ∧
    ((aluCmpd f a b).r = a ∧ getFlag (aluCmpd f a b).f fC = decide (y ≤ x))

/-- The instructions that store one value complete, and of the memories only the stored bytes change (R320, R321, R323, R331). -/
def Obligations.StoreInstructions : Prop :=
  ∀ (i : Instr) (e : Fin 12) (len : Nat) (a : Word) (n : Nat) (v : Word) (g1 : GRegs) (s u w : State) (out : Bool),
    storeForm i (s.g e) ((s.g e).p + BitVec.ofNat 32 len) = some (e, len, a, n, v, g1) → s.Fetches e len u →
    u.storeData (.eng e) a n v = .ok out w → (w.eng e.val).st = .run → (w.eng e.val).undo.length ≤ 256 →
    ∃ t : State, exec i s = .next t ∧ t.g e = withLoad g1 (u.load e) ∧ t.load e = none ∧ onlyEngine w t e ∧
      ((u.place (.eng e) a.toNat).inTcm = true ∨ (∃ x, u.place (.eng e) a.toNat = .sram x) → storedOnly u t e a.toNat n)

/-- INC and DEC complete: the operand plus or minus 1, in W bits, goes back to where it was read, with N and Z of the W-bit result
(R320). LD completes: the register keeps its old value through the slot, in which the operand waits to be written (R320, R328). -/
def Obligations.LoadsIncAndDec : Prop :=
  (∀ (e : Fin 12) (o : Opnd) (s u v w : State) (x : Word) (o1 o2 : Bool), s.Fetches e (2 + extBytes o.ext) u →
    let pn := (s.g e).p + BitVec.ofNat 32 (2 + extBytes o.ext)
    let a := (effAddr (s.g e) o pn).1
    let after := fun (t : State) (y : Word) =>
      t.g e = withLoad { (effAddr (s.g e) o pn).2 with p := pn, f := flagsNZW o.width (s.g e).f y } (u.load e) ∧
      t.load e = none ∧ onlyEngine w t e
    u.fetchData (.eng e) a (widthBytes o.width) = .ok (x, o1) v → (w.eng e.val).st = .run → (w.eng e.val).undo.length ≤ 256 →
    (assignedM 0x10 .a o = true → v.storeData (.eng e) a (widthBytes o.width) (x + 1) = .ok o2 w →
      ∃ t : State, exec (.inc e o) s = .next t ∧ after t (x + 1)) ∧
    (assignedM 0x11 .a o = true → v.storeData (.eng e) a (widthBytes o.width) (x - 1) = .ok o2 w →
      ∃ t : State, exec (.dec e o) s = .next t ∧ after t (x - 1))) ∧
  (∀ (e : Fin 12) (r : GReg) (o : Opnd) (s u w : State) (v : Word) (g1 : GRegs) (out : Bool),
    assignedM 0x00 r o = true → s.Fetches e (2 + extBytes o.ext) u →
    u.operand (.eng e) (s.g e) o ((s.g e).p + BitVec.ofNat 32 (2 + extBytes o.ext)) false = .ok (v, g1, out) w →
    (w.eng e.val).st = .run → (w.eng e.val).undo.length ≤ 256 →
    ∃ t : State, exec (.ld e r o) s = .next t ∧
      t.g e = withLoad { g1 with p := (s.g e).p + BitVec.ofNat 32 (2 + extBytes o.ext) } (u.load e) ∧
      t.load e = some ⟨r, v⟩ ∧ onlyEngine w t e)

/-- POP, POP F and RET complete with the word at [S], RETV with the two words there; T is 0 after POP F and RETV (R323, R328, R330). -/
def Obligations.PopsAndReturns : Prop :=
  (∀ (i : Instr) (e : Fin 12) (r : Option GReg) (g1 : GRegs) (s u w : State) (v : Word) (out : Bool),
    popForm i (s.g e) v ((s.g e).p + 2) = some (e, r, g1) → s.Fetches e 2 u →
    u.fetchData (.eng e) (s.g e).s 4 = .ok (v, out) w → (w.eng e.val).st = .run → (w.eng e.val).undo.length ≤ 256 →
    ∃ t : State, exec i s = .next t ∧ t.g e = withLoad g1 (u.load e) ∧ t.load e = r.map (fun r => ⟨r, v⟩) ∧ onlyEngine w t e) ∧
  (∀ (e : Fin 12) (s u v w : State) (f p : Word) (o1 o2 : Bool),
    s.Fetches e 2 u → u.fetchData (.eng e) (s.g e).s 4 = .ok (f, o1) v → v.fetchData (.eng e) ((s.g e).s + 4) 4 = .ok (p, o2) w →
    (w.eng e.val).st = .run → (w.eng e.val).undo.length ≤ 256 →
    ∃ t : State, exec (.retv e) s = .next t ∧
      t.g e = withLoad { s.g e with s := (s.g e).s + 8, p := p, f := loadF f } (u.load e) ∧
      t.load e = none ∧ onlyEngine w t e)

/-- LDR reserves its word in place of an earlier one of its master, and STC stores A only while T = 1 and that reservation stands; T and
the reservation end with it either way. A store is under way once no write of its master waits in a Strait (R22, R330). -/
def Obligations.Reservations : Prop :=
  ∀ (e : Fin 12) (o : Opnd) (s u : State) (x : Nat), s.Fetches e (2 + extBytes o.ext) u →
    let pn := (s.g e).p + BitVec.ofNat 32 (2 + extBytes o.ext)
    u.lockWord (.eng e) (effAddr (s.g e) o pn).1 = some x →
    (assignedM 0x15 .a o = true → ∃ t : State, exec (.ldr e o) s = .next t ∧
      t.g e = withLoad { s.g e with p := pn, f := setFlag (s.g e).f fT true } (u.load e) ∧
      t.load e = some ⟨.a, BitVec.ofNat 32 (u.sramNat x 4)⟩ ∧ t.sram = u.sram ∧
      (∀ w, (u.leader e.val, w) ∈ t.resvs ↔ w = x) ∧ (∀ m w, m ≠ u.leader e.val → ((m, w) ∈ t.resvs ↔ (m, w) ∈ u.resvs))) ∧
    (assignedM 0x16 .a o = true → u.writesHeld (.eng e) = false →
      let ok := getFlag (s.g e).f fT && u.resvs.contains (u.leader e.val, x)
      ∃ t : State, exec (.stc e o) s = .next t ∧
        t.g e = withLoad { s.g e with p := pn, f := setFlag (setFlag (s.g e).f fZ ok) fT false } (u.load e) ∧
        t.load e = none ∧ (∀ w, (u.leader e.val, w) ∉ t.resvs) ∧ (ok = false → t.sram = u.sram) ∧
        (ok = true → t.sram = (u.sramWrite x (wordBytes (s.g e).a)).sram))

/-- WAIT stops the engine after a load whose slot it is has been written, unless a pending bit stands whose mask bit is set; then the
engine goes on (R298, R303, R328). Vector entry pushes P and F, sets I and clears T; an event comes before an interrupt, and a flushed
write before both (R303 to R305). -/
def Obligations.WaitsAndVectors : Prop :=
  (∀ (e : Fin 12) (s u : State), s.Fetches e 2 u →
    ∃ t : State, exec (.wait e) s = .next t ∧ t.g e = withLoad { s.g e with p := (s.g e).p + 2 } (u.load e) ∧ t.load e = none ∧
      (t.eng e.val).st = (if u.pendEvents e.val = 0 ∧ u.pendInterrupts e.val = 0 then .wait else .run) ∧
      t.sram = u.sram ∧ t.regs = u.regs) ∧
  (∀ (e : Fin 12) (s u v : State), s.tclkOn = true → (s.eng e.val).st = .run → s.load e = none → (s.eng e.val).haltWant = false →
    (s.eng e.val).access = none → (s.eng e.val).entering = none → (s.eng e.val).flushed = [] → getFlag (s.g e).f fI = false →
    s.pendEvents e.val ≠ 0 ∨ s.pendInterrupts e.val ≠ 0 →
    s.busWrite (.eng e) ((s.g e).s - 4).toNat 4 (s.g e).p = (.ok 0, u) → u.g e = s.g e →
    u.busWrite (.eng e) ((s.g e).s - 8).toNat 4 (s.g e).f = (.ok 0, v) → v.g e = s.g e →
    ∃ t : State, exec (.vectorEntry e) s = .next t ∧ t.sram = v.sram ∧ (t.eng e.val).tcm = (v.eng e.val).tcm ∧ t.regs = v.regs ∧
      t.g e = { s.g e with s := (s.g e).s - 8, p := if s.pendEvents e.val ≠ 0 then 0x18 else 0x10,
                           f := setFlag (setFlag (s.g e).f fI true) fT false })

/-- A reserved base word takes the reserved-opcode trap: ENG_CAUSE, ENG_FADDR and ENG_TRAPOP say so, and the P pushed is its address,
after a pending load has been written (R303, R304, R329, R334). An instruction whose own access fails changes no register of the
programmer's: its fault enters the log of FLT, and what its vector pushes are the registers before it, with a pending load written (R32,
R303, R319, R329). A flushed register write counts in CLK_FLUSH, enters the log of FLT, and sends its engine to the fault vector with
CODE = FLUSHED and the address of the lost write (R304, R305, R461). -/
def Obligations.TrapsAndFaults : Prop :=
  (∀ (e : Fin 12) (w : BitVec 16) (s u x y : State), reservedWord w = true → s.mayExecute e.val = true → s.failedAt e.val = none →
    s.fetchWords (.eng e) (s.g e).p 1 = .ok () u → u.g e = s.g e →
    let r := withLoad (s.g e) (u.load e)
    (u.settleLoad e.val).busWrite (.eng e) (r.s - 4).toNat 4 r.p = (.ok 0, x) → x.g e = r →
    x.busWrite (.eng e) (r.s - 8).toNat 4 r.f = (.ok 0, y) → y.g e = r → y.load e = none →
    ∃ t : State, exec (.reservedOpcodeTrap e w) s = .next t ∧
      t.g e = { r with s := r.s - 8, p := 0x20, f := setFlag (setFlag r.f fI true) fT false } ∧ t.load e = none ∧
      t.rd (ENG_CAUSE_VEC e.val) = 4 ∧ t.rd (ENG_CAUSE_CODE e.val) = 8 ∧ t.rd (ENG_FADDR_ADDR e.val) = (s.g e).p.toNat ∧
      t.rd (ENG_TRAPOP_WORD e.val) = w.toNat ∧ t.sram = y.sram) ∧
  (∀ (e : Fin 12) (r : GReg) (o : Opnd) (s u w x y : State) (err : BusErr) (a : Word),
    assignedM 0x00 r o = true → s.Fetches e (2 + extBytes o.ext) u → u.g e = s.g e →
    u.operand (.eng e) (s.g e) o ((s.g e).p + BitVec.ofNat 32 (2 + extBytes o.ext)) false = .err err a w →
    let b := w.busFault (.eng e) a.toNat err
    (b.eng e.val).st = .run → b.g e = s.g e → b.load e = u.load e →
    let q := withLoad (s.g e) (u.load e)
    (b.settleLoad e.val).busWrite (.eng e) (q.s - 4).toNat 4 q.p = (.ok 0, x) → x.g e = q →
    x.busWrite (.eng e) (q.s - 8).toNat 4 q.f = (.ok 0, y) → y.g e = q → y.load e = none →
    ∃ t : State, exec (.ld e r o) s = .next t ∧ t.flt = y.flt ∧ t.sram = y.sram ∧
      t.g e = { q with s := q.s - 8, p := 0x08, f := setFlag (setFlag q.f fI true) fT false } ∧ t.load e = none ∧
      t.rd (ENG_CAUSE_VEC e.val) = 2 ∧ t.rd (ENG_CAUSE_CODE e.val) = err.code ∧ t.rd (ENG_FADDR_ADDR e.val) = a.toNat) ∧
  (∀ (e : Fin 12) (a : Word) (s x y : State), s.tclkOn = true → (s.eng e.val).st = .run → s.leader e.val = e.val →
    (s.eng e.val).flushed = [] → blockWord a = true →
    let b := s.noteFlush (.eng e) a.toNat
    (∃ f : FaultIn, b = ((s.setEng e.val { (s.eng e.val) with flushed := [a] }).inc CLK_FLUSH_FLUSHES).fault f ∧ f.code = 5 ∧
      f.addr = a.toNat ∧ f.tier = 0) ∧
    ((b.eng e.val).st = .run → b.load e = none → (b.eng e.val).haltWant = false → (b.eng e.val).access = none →
      (b.eng e.val).entering = none → (b.eng e.val).flushed = [a] → b.g e = s.g e →
      b.busWrite (.eng e) ((s.g e).s - 4).toNat 4 (s.g e).p = (.ok 0, x) → x.g e = s.g e →
      x.busWrite (.eng e) ((s.g e).s - 8).toNat 4 (s.g e).f = (.ok 0, y) → y.g e = s.g e →
      ∃ t : State, exec (.flushedFault e a) s = .next t ∧ t.flt = y.flt ∧ t.sram = y.sram ∧
        t.g e = { s.g e with s := (s.g e).s - 8, p := 0x08, f := setFlag (setFlag (s.g e).f fI true) fT false } ∧
        t.rd (ENG_CAUSE_CODE e.val) = 5 ∧ t.rd (ENG_FADDR_ADDR e.val) = a.toNat))

/-- A pair that mismatches stops in RESTART, and RESTORE_DONE gives it its checkpoint's registers and pending load back, at the
checkpoint's P where no mismatch vector is asked for, and every word of the log its old value in the TCM of each engine (R298, R308,
R310). -/
def Obligations.LockstepRestart : Prop :=
  (∀ (e : Fin 12) (s : State), s.paired e.val = true → e.val % 2 = 0 → (s.eng e.val).st = .run → (s.eng e.val).mmSince = false →
    (s.eng e.val).stalled = false →
    ∃ (t : State) (f : FaultIn), exec (.lockstepMismatch e) s = .next (t.fault f) ∧ f.code = 6 ∧ f.tier = 0 ∧ (t.eng e.val).st = .restart ∧
      t.rd (ENG_LSCNT_MISMATCH ((pairOf e.val).getD 0)) = min (s.rd (ENG_LSCNT_MISMATCH ((pairOf e.val).getD 0)) + 1) 65535) ∧
  (∀ (e : Fin 12) (s : State), (s.eng e.val).st = .restart → (s.eng e.val).mmVec = false →
    ∃ t : State, exec (.restoreDone e) s = .next t ∧ t.g e = (s.eng e.val).ckpt ∧ t.load e = (s.eng e.val).ckLoad ∧ (t.eng e.val).undo = [] ∧
      (t.eng e.val).st = .run ∧ t.sram = s.sram ∧ t.regs = s.regs ∧
      (t.eng e.val).tcm = ((s.undoAll e.val (s.eng e.val).undo).eng e.val).tcm ∧
      ∀ (w : Nat) (old old1 : Word), (s.eng e.val).undo = [(w, old, old1)] → e.val < 11 →
        (t.eng e.val).bytes e.val (4 * w) 4 = wordBytes old ∧ (t.eng (e.val + 1)).bytes (e.val + 1) (4 * w) 4 = wordBytes old1)

/-! ### Engines and the event fabric (10_gosor_engines.md, 12_event_fabric.md) -/

/-- The commands of R300 that E2 or the unlocked host gives, no other command being outstanding: RELEASE starts the target at P = 0,
HALT is noted and PENDING, RESUME goes back to the state left, RESET holds it with its TCM as it was, and each writes its result (R298
to R301). PAIR locksteps two engines in RESET and separates a lockstepped pair in RESET; where the pair already is as ARG asks, it
answers BAD_STATE and changes nothing else (R301, R307). -/
def Obligations.EngineCommands : Prop :=
  (∀ (m : Master) (e : Fin 16) (s : State), s.e2OrExpert m = true → 3 ≤ e.val → e.val ≤ 11 → s.isOdd e.val = false → s.engJobs = [] → s.barred m 16 = false →
    let st := (s.eng e.val).st
    (st = .reset → s.clearing e.val = false → ∃ t : State, exec (.release m e) s = .next t ∧ (t.eng e.val).st = .run ∧ (t.eng e.val).g = .atRelease ∧
      t.rd (ENG_CMDRES_STATUS (s.code m)) = stOK) ∧
    (st = .run ∨ st = .wait ∨ st = .restart → ∃ t : State, exec (.halt m e) s = .next t ∧ (t.eng e.val).haltWant = true ∧
      t.engJobs = [(s.code m, .halt e.val)] ∧ t.rd (ENG_CMDRES_STATUS (s.code m)) = stPending) ∧
    (st = .halt → (s.eng e.val).left = .run → ∃ t : State, exec (.resume m e) s = .next t ∧ (t.eng e.val).st = .run ∧
      (t.eng e.val).g = (s.eng e.val).g ∧ t.rd (ENG_CMDRES_STATUS (s.code m)) = stOK) ∧
    (∃ t : State, exec (.engineReset m e) s = .next t ∧ (t.eng e.val).st = .reset ∧ (t.eng e.val).tcm = (s.eng e.val).tcm ∧
      t.rd (ENG_CMDRES_STATUS (s.code m)) = stOK) ∧
    (∀ desc : BitVec 19, let d := s.loadDesc desc.toNat
      st = .reset ∨ st = .halt → badLoad d.1 d.2.1 d.2.2 = false → d.2.2 ≠ 0 →
      ∃ t : State, exec (.load m e desc) s = .next t ∧ t.engJobs = [(s.code m, .load e.val d.1 d.2.1 d.2.2)] ∧
        t.rd (ENG_CMDRES_STATUS (s.code m)) = stPending)) ∧
  (∀ (m : Master) (e : Fin 16) (s : State), s.e2OrExpert m = true → e.val = 4 ∨ e.val = 6 ∨ e.val = 8 ∨ e.val = 10 → s.engJobs = [] →
    s.barred m 16 = false → (s.eng e.val).st = .reset →
    ((s.eng (e.val + 1)).st = .reset → s.paired e.val = false →
      ∃ t : State, exec (.pair m e true) s = .next t ∧ t.paired e.val = true ∧ (t.eng (e.val + 1)).st = .paired ∧
        t.rd (ENG_CMDRES_STATUS (s.code m)) = stOK) ∧
    ((s.eng (e.val + 1)).st = .paired → s.paired e.val = true →
      ∃ t : State, exec (.pair m e false) s = .next t ∧ t.paired e.val = false ∧ (t.eng (e.val + 1)).st = .reset ∧
        (t.eng (e.val + 1)).tcm = (s.eng (e.val + 1)).tcm ∧ t.rd (ENG_CMDRES_STATUS (s.code m)) = stOK) ∧
    (∀ lock : Bool, (s.eng (e.val + 1)).st = (if lock then EngState.paired else .reset) →
      ∃ t : State, exec (.pair m e lock) s = .next t ∧ t.engs = s.engs ∧ t.rd (ENG_CMDRES_STATUS (s.code m)) = stBadState))

/-- A HALT takes place at the next instruction boundary at which no access of the engine is held, and its owner reads OK; a LOAD ends
with the status of its copy, and neither stays outstanding (R298, R301, R302, R329). -/
def Obligations.EngineCommandsEnd : Prop :=
  (∀ (e : Fin 12) (m : Nat) (s : State), m < 16 → s.engJobs = [(m, .halt e.val)] → (s.eng e.val).haltWant = true → s.load e = none →
    (s.eng e.val).access = none → (s.eng e.val).entering = none → s.noneHeld e.val = true → (s.eng e.val).st = .run →
    ∃ t : State, exec (.haltDone e) s = .next t ∧ (t.eng e.val).st = .halt ∧ (t.eng e.val).left = .run ∧
      t.g e = s.g e ∧ t.engJobs = [] ∧ t.rd (ENG_CMDRES_STATUS m) = stOK) ∧
  (∀ (m : Master) (e src dst len st : Nat) (s u : State), s.tclkOn = true → s.pwr.clearing = [] →
    s.engJobs = [(s.code m, .load e src dst len)] → s.loadCopy e src dst (len / 4) = some (st, u) → u.engJobs = s.engJobs → st < 256 →
    ∃ t : State, exec (.loadDone m) s = .next t ∧ t.engJobs = [] ∧ t.rd (ENG_CMDRES_STATUS (s.code m)) = st ∧ t.sram = u.sram)

/-- RELEASE starts an engine with A, X and Y at 0, S at 0x0001_0000, the top of its TCM, and I alone set in F; a push there writes the
last words of the TCM (R299). -/
def Obligations.ReleaseStartsTheRegisters : Prop :=
  ∀ (m : Master) (e : Fin 12) (s : State), s.e2OrExpert m = true → s.barred m 16 = false → 3 ≤ e.val → s.isOdd e.val = false → s.engJobs = [] →
    (s.eng e.val).st = .reset → s.clearing e.val = false → ∃ t : State, exec (.release m (Fin.ofNat 16 e.val)) s = .next t ∧
      (t.g e).a = 0 ∧ (t.g e).x = 0 ∧ (t.g e).y = 0 ∧ (t.g e).s = 0x10000 ∧ (t.g e).f = setFlag 0 fI true ∧
      t.place (.eng e) ((t.g e).s - 4).toNat = .tcm 0xFFFC ∧ t.place (.eng e) 0xFFFF = .tcm 0xFFFF

/-- A doorbell sets interrupt inputs of the engine, or of the even engine of a lockstepped pair, and counts each bit that coalesces
(R306); a write to ENG_RBINV empties the writer's read buffer (R295). A pulse leaves the fabric 1 TCLK cycle after its entry for tasks 0
to 63 and 2 for the others. One that arrives at an engine's input sets its EPEND bit; one that arrives at a group task opens or closes
the group; one that arrives at a capture task is captured; one at HIF_IRQ raises its event, and one at RTC_STAMP stamps the calendar
(R306, R341, R342, R344, R348, R428, R486). -/
def Obligations.DoorbellsAndTasks : Prop :=
  ((∀ (e : Fin 12) (bits : Byte) (s : State), bits ≠ 0 → let k := s.leader e.val
    ∃ t : State, exec (.engDbell e bits) s = .next t ∧ t.rd (ENG_PEND_IPEND k) = s.rd (ENG_PEND_IPEND k) ||| bits.toNat ∧
      t.rd (ENG_PEND_EPEND k) = s.rd (ENG_PEND_EPEND k) ∧
      t.rd (ENG_CNT_IOVF k) = min (s.rd (ENG_CNT_IOVF k) + bitCount (s.rd (ENG_PEND_IPEND k) &&& bits.toNat)) 255) ∧
  (∀ (e : Fin 12) (s : State), s.barred (.eng e) 16 = false → ∃ t : State, exec (.readBufferInvalidate (.eng e)) s = .next t ∧ (t.eng (s.leader e.val)).rbuf = [] ∧
    t.regs = s.regs ∧ t.sram = s.sram)) ∧
  ((∀ (k : Fin 128) (p : Pulse) (s : State), s.tclkOn = true → flyOf s.evf k.val = some p →
    let u := s.leaveFabric p
    (s.mer.tstamp ≤ p.ts → u.mer.tstamp = (p.ts + (if p.task < 64 then 1 else 2)) % 2 ^ 64) ∧
    (k.val < 96 → let e := u.leader (k.val / 8)
      ∃ t : State, exec (.eventTaskDeliver k) s = .next t ∧ t.mer = u.mer ∧
        t.rd (ENG_PEND_EPEND e) = u.rd (ENG_PEND_EPEND e) ||| 2 ^ (k.val % 8)) ∧
    (96 ≤ k.val → k.val < 104 → grpdisTogether u.evf (k.val - 96) p = false →
      (u.evf.inCycle u.mer.tstamp).grpClr / 2 ^ (k.val - 96) % 2 = 0 →
      ∃ t : State, exec (.eventTaskDeliver k) s = .next t ∧ t.mer = u.mer ∧
        t.rd EVF_GRPEN_GRP = u.rd EVF_GRPEN_GRP ||| 2 ^ (k.val - 96)) ∧
    (104 ≤ k.val → k.val < 112 →
      ∃ t : State, exec (.eventTaskDeliver k) s = .next t ∧ t.mer = u.mer ∧
        t.rd EVF_GRPEN_GRP = u.rd EVF_GRPEN_GRP &&& (255 - 2 ^ (k.val - 104))) ∧
    (112 ≤ k.val → k.val < 116 → k.val - 112 < u.evf.caps.length →
      ∃ t : State, exec (.eventTaskDeliver k) s = .next t ∧ ∃ c, t.evf.caps[k.val - 112]? = some c ∧ c.new = true ∧ c.src = p.src ∧
        c.ts = p.ts ∧ c.cyc = p.cyc ∧ c.ph = p.ph) ∧
    (k.val = 121 → ∃ t : State, exec (.eventTaskDeliver k) s = .next t ∧ t.rd HIF_EVPEND_FABRIC = 1)) ∧
  (∀ (p : Pulse) (s : State), s.tclkOn = true → s.lfOn = true → flyOf s.evf 120 = some p →
    ∃ t : State, exec (.eventTaskDeliver 120) s = .next t ∧ t.rtc.stamp = (s.rtc.cal, s.rtc.sub) ∧ t.rtc.stampNew = true))

/-- Permitted writes to channels, groups and claims take effect, one to the groups with the group tasks of its cycle; a software fire
counts in the channel it fires, in the TCLK cycle after the write (R338, R347 to R352, R355). -/
def Obligations.FabricWrites : Prop :=
  ∀ (m : Master) (n : Fin 64) (v : Word) (s : State), s.barred m 4 = false →
    (let a := (EVF_CH_CFG_EN n.val).addr
      let new := plainActive a v (regGet s.regs a)
      s.chanAllowed m n.val ((EVF_CH_CFG_SEC 0).of v == 1) ((EVF_CH_CFG_OWNER 0).of v) = true →
      chanStatus new (regGet s.regs (EVF_CH_TASK_V n.val 0).addr) = stOK →
      ∃ t : State, exec (.channelCfgWrite m n v) s = .next t ∧ regGet t.regs a = new ∧ ∀ b, b ≠ a → regGet t.regs b = regGet s.regs b) ∧
    (let a := (EVF_CH_TASK_V n.val 0).addr
      let new := plainActive a v (regGet s.regs a)
      s.chanAllowed m n.val false (s.rd (EVF_CH_CFG_OWNER n.val)) = true →
      chanStatus (regGet s.regs (EVF_CH_CFG_EN n.val).addr) new = stOK →
      ∃ t : State, exec (.channelTaskWrite m n v) s = .next t ∧ regGet t.regs a = new ∧ ∀ b, b ≠ a → regGet t.regs b = regGet s.regs b) ∧
    (∀ g : Byte, s.code m = 2 → let e := s.evf.inCycle s.mer.tstamp
      ∃ t : State, exec (.grpenWrite m g) s = .next t ∧ t.rd EVF_GRPEN_GRP = (g.toNat ||| e.grpSet) &&& (255 - e.grpClr) ∧
        (e.grpSet = 0 → e.grpClr = 0 → t.rd EVF_GRPEN_GRP = g.toNat)) ∧
    (∀ k : Fin 16, s.code m < 16 → s.rd (EVF_CLAIM_OWNER k.val) = 15 →
      ∃ t : State, exec (.claimTake m k) s = .next t ∧ t.rd (EVF_CLAIM_OWNER k.val) = s.code m) ∧
    (∀ k : Fin 16, s.rd (EVF_CLAIM_OWNER k.val) = s.code m →
      ∃ t : State, exec (.claimFree m k) s = .next t ∧ t.rd (EVF_CLAIM_OWNER k.val) = 15) ∧
    (let u := s.tick 1;
      s.tclkOn = true → n.val < 32 → s.chanAllowed m n.val false (s.rd (EVF_CH_CFG_OWNER n.val)) = true →
      u.chanAllowed m n.val false (u.rd (EVF_CH_CFG_OWNER n.val)) = true → chanOn u.regs n.val = true →
      (u.evf.inCycle u.mer.tstamp).hard.contains n.val = false →
      ∃ t : State, exec (.swfire m false (BitVec.ofNat 32 (2 ^ n.val))) s = .next t ∧
        t.rd (EVF_CH_CNT_FIRED n.val) = min (u.rd (EVF_CH_CNT_FIRED n.val) + 1) 65535)

/-- A read of EVF_CAPk_PHASE returns the capture, latches its other three words, and clears NEW and OVR (R344). A read of MER_PHASE
latches phase, cycle count and TSTAMP of one instant (R66). With nothing ahead of it in the Strait, a read of RTC_TIME latches the
calendar, the prescaler and the tick together, and a read of RTC_STMP_SUB the stamp, whose NEW and OVR end; with LFCLK stopped the read
waits in the Strait (R20, R418, R428, R460). -/
def Obligations.LatchedReads : Prop :=
  (∀ (k : Fin 4) (c : Capture) (s : State), s.evf.caps[k.val]? = some c →
    ∃ t : State, exec (.capPhaseRead k) s = .next t ∧ t.busData = capWord c ∧
      t.rd (EVF_CAP_CYCLE_CYCLE k.val) = c.cyc % 2 ^ 32 ∧ t.rd (EVF_CAP_TSLO_TS k.val) = c.ts % 2 ^ 32 ∧
      t.rd (EVF_CAP_TSHI_TS k.val) = c.ts / 2 ^ 32 % 2 ^ 32 ∧
      t.evf.caps[k.val]? = some { c with new := false, ovr := false }) ∧
  (∀ s : State, ∃ t : State, exec .merPhaseRead s = .next t ∧ t.busData = s.mer.phaseWord ∧
    t.rd MER_CYCLE_CYCLE = merCycle s.mer.now % 2 ^ 32 ∧ t.rd MER_TSTAMP_LO_TSLO = s.mer.tstamp % 2 ^ 32 ∧
    t.rd MER_TSTAMP_HI_TSHI = s.mer.tstamp / 2 ^ 32 % 2 ^ 32 ∧ t.mer = s.mer) ∧
  (∀ s : State,
    (s.lfOn = true → s.rtc.held = [] →
      (∃ t : State, exec .rtcTimeRead s = .next t ∧ t.busData = s.rtc.cal.timeWord ∧ regGet t.regs 0x40005008 = s.rtc.cal.dateWord ∧
        regGet t.regs 0x4000500C = BitVec.ofNat 32 (s.rtc.sub % 65536) ∧ regGet t.regs 0x40005010 = BitVec.ofNat 32 s.rtc.tick ∧
        regGet t.regs 0x40005014 = BitVec.ofNat 32 (s.rtc.tick / 2 ^ 32) ∧ t.rtc = s.rtc) ∧
      (∃ t : State, exec .stmpSubRead s = .next t ∧ regGet t.regs 0x40005040 = s.rtc.stamp.1.timeWord ∧
        regGet t.regs 0x40005044 = s.rtc.stamp.1.dateWord ∧ RTC_STMP_SUB_SUB.of t.busData = s.rtc.stamp.2 % 65536 ∧
        RTC_STMP_SUB_NEW.of t.busData = b2n s.rtc.stampNew ∧ t.rtc = { s.rtc with stampNew := false, stampOvr := false })) ∧
    (s.rtc.powered = true → s.rtc.lf = false →
      (∃ t : State, exec .rtcTimeRead s = .next t ∧ t = s.holdItem (.read 0x40005004)) ∧
      (∃ t : State, exec .stmpSubRead s = .next t ∧ t = s.holdItem (.read 0x40005048))))

/-! ### Flash and CIP (13_flash_array.md, 14_cipher_engine.md) -/

/-- PROGRAM, ERASE and MARGIN: a command that no check refuses is PENDING, its operation running with BUSY = 1 and its owner's code; a
refused one leaves the die, the journals and the running operation alone, and its owner reads the status of R366 (R365 to R367). -/
def Obligations.FlashCommands : Prop :=
  ∀ (i : Instr) (m : Master) (desc : BitVec 19) (op : Nat) (s : State), flashForm i = some (m, desc, op) → s.barred m 3 = false →
    let a := sramBase + 4 * desc.toNat
    let src := s.sramNat a 4
    let dst := s.sramNat (a + 4) 4
    let len := s.sramNat (a + 8) 4
    let st := s.flashStatus (s.code m) (s.fetchBank m) op src dst len
    (st = stOK → ∃ t : State, exec i s = .next t ∧ t.rd (FLC_RES_STATUS (s.code m)) = stPending ∧ t.rd FLC_STAT_BUSY = 1 ∧
      t.rd FLC_STAT_OWNER = s.code m ∧ t.flc.words = s.flc.words ∧
      t.flc.op = some { owner := s.code m, op := op, dst := dst - 0x20000000, data := if op = 1 then s.sramBytes src len else [] }) ∧
    (st ≠ stOK → ∃ t : State, exec i s = .next t ∧ t.rd (FLC_RES_STATUS (s.code m)) = st ∧ t.flc = s.flc ∧
      t.rd FLC_STAT_BUSY = s.rd FLC_STAT_BUSY ∧ t.sram = s.sram)

/-- A flash operation ends with its owner's result, BUSY = 0 and the die as the operation leaves it, after a rollover that its ERASE
needed; an erase that never verifies ends HALF_ERASED with its block marked and ETMO logged; a suspended erase goes on (R367, R371,
R377, R465). What a PROGRAM that ends OK and an ERASE leave on the die: the programmed code words hold the source, the erased block
holds none, and every other code word is as it was (R360, R369, R371). -/
def Obligations.FlashOperationsEnd : Prop :=
  (∀ (o : FlashOp) (s : State), s.flc.op = some o → o.owner < 13 → (s.rd SVR_CFG_EN = 1 → s.svr.sheet.isSome = true) →
    (∀ bad : Option (Fin 2048 × Bool), s.rd FLC_ERSTAT_SUSP = 0 →
      let x := s.flashSettle.flc.finish o (bad.map (fun p => (p.1.val, p.2)))
      ∃ t : State, exec (.flashOpDone bad) s = .next t ∧ t.flc = x.1 ∧ t.flc.op = none ∧ t.rd (FLC_RES_STATUS o.owner) = x.2.2 ∧
        t.rd FLC_STAT_BUSY = 0 ∧ t.rd FLC_STAT_OWNER = 15 ∧ t.sram = s.sram) ∧
    (s.rd FLC_ERSTAT_SUSP = 0 → o.op = 2 →
      ∃ (t : State) (f : FaultIn), exec .eraseTimeout s = .next (t.fault f) ∧ f.code = 9 ∧ f.region = 13 ∧ f.addr = 0x20000000 + o.dst ∧
        t.flc.op = none ∧ blockOf o.dst ∈ t.flc.half ∧ t.flc.words = s.flc.words ∧ t.rd (FLC_RES_STATUS o.owner) = stFlashHalfErased ∧
        t.rd FLC_STAT_BUSY = 0) ∧
    (s.rd FLC_ERSTAT_SUSP = 1 → ∃ t : State, exec .eraseResume s = .next t ∧ t.rd FLC_ERSTAT_SUSP = 0 ∧ t.flc = s.flc ∧
      s.flc.lastRead + s.rd FLC_CFG_RESUMEMIN * 400 ≤ t.tclk)) ∧
  (∀ (f : Flc) (o : FlashOp),
    (o.op = 1 → (f.finish o none).2.2 = stOK →
      ∀ w, codeWordAt (f.finish o none).1.words w =
        if o.dst / 32 ≤ w ∧ w < o.dst / 32 + o.data.length / 32 then
          some { data := (o.data.drop (32 * (w - o.dst / 32))).take 32, err := none }
        else codeWordAt f.words w) ∧
    (o.op = 2 → ∀ w, codeWordAt (f.finish o none).1.words w =
      if w / 2048 = o.dst / 0x800000 * 128 + o.dst / 0x10000 % 128 then none else codeWordAt f.words w))

/-- Flash bank b, block k appears in the read window at 0x2000_0000 + b × 0x0080_0000 + k × 0x0001_0000, for every master (R29). -/
def Obligations.FlashWindow : Prop :=
  ∀ (m : Master) (s : State) (b : Fin 8) (k : Fin 128) (o : Fin 0x10000),
    let a := 0x20000000 + b.val * 0x800000 + k.val * 0x10000 + o.val
    s.place m a = .flash (winOff a) ∧ winOff a / 0x800000 = b.val ∧ winOff a / 0x10000 % 128 = k.val ∧ winOff a % 0x10000 = o.val

/-- A job write that no check refuses is PENDING at the end of the queue, the job whose turn it is with its key latched, and those that
it wraps; a refused one is not queued, and its owner reads the status of R391 (R388, R390, R391). While no Seal and no Accept waits, a
job that runs to its end writes its output and its tag and ends OK; a verification that fails writes zeros and ends DENIED, counted in
AUTHFAIL; an unwrap puts its keys into their slots; the job leaves the queue (R388, R391 to R393, R401). -/
def Obligations.CipherJobs : Prop :=
  (∀ (i : Instr) (m : Master) (desc : BitVec 19) (op : Nat) (s : State), jobForm i = some (m, desc, op) → s.barred m 7 = false →
    let j := s.jobAt (s.code m) (sramBase + 4 * desc.toNat)
    j.op = op → (∀ k, s.cip.jobs.head? = some k → k.key.isSome = true) →
    (s.jobStatus j = stOK → ∃ t : State, exec i s = .next t ∧ t.rd (CIP_RES_STATUS (s.code m)) = stPending ∧ t.cip.slots = s.cip.slots ∧
      t.cip.jobs = s.cip.jobs ++ [if s.cip.jobs.isEmpty then
        { j with key := some (s.slot j.slot), held := if op = 8 then s.wrapped j else [] } else j]) ∧
    (s.jobStatus j ≠ stOK → ∃ t : State, exec i s = .next t ∧ t.rd (CIP_RES_STATUS (s.code m)) = s.jobStatus j ∧
      t.cip = s.cip ∧ t.sram = s.sram)) ∧
  (∀ (s : State) (j : CipJob) (k : KeySlot), s.tclkOn = true → s.sealing = false → s.accepting = false → s.cip.jobs = [j] →
    j.key = some k → k.loaded = true → j.allowed k = true → j.heldStatus = stOK → inWindow j.src = false → j.owner < 13 →
    let checks := j.op == 3 || j.op == 5 || j.op == 7
    let o := j.run k.key (s.sramBytes j.iv j.ivLen) (s.sramBytes j.aad j.aadLen) (if checks then s.sramBytes j.tag j.tagLen else [])
      (if j.op = 8 then j.held.flatMap (fun k => k.key) else s.sramBytes j.src j.len)
    (j.op ≠ 9 → ∃ t : State, exec (.jobDone none) s = .next t ∧ t.cip.jobs = [] ∧ t.cip.slots = s.cip.slots ∧
      (checks = true → o.auth = true → t.rd (CIP_RES_STATUS j.owner) = stOK ∧ t.rd (CIP_RES_AUTH j.owner) = 1 ∧
        t.sram = (s.sramWrite j.dst o.dst).sram) ∧
      (checks = true → o.auth = false → t.rd (CIP_RES_STATUS j.owner) = stDenied ∧ t.rd (CIP_RES_AUTH j.owner) = 0 ∧
        t.sram = (s.sramWrite j.dst (List.replicate j.outLen 0)).sram ∧
        t.rd CIP_CNT0_AUTHFAIL = (s.inc CIP_CNT0_AUTHFAIL).rd CIP_CNT0_AUTHFAIL) ∧
      (checks = false → t.rd (CIP_RES_STATUS j.owner) = stOK ∧ t.rd (CIP_RES_AUTH j.owner) = 0 ∧
        t.sram = ((s.sramWrite j.dst o.dst).sramWrite j.tag o.tag).sram)) ∧
    (j.op = 9 → let x := s.unwrapInto j.owner k.key (s.sramBytes j.iv 8) (s.sramBytes j.src j.len) j.target j.pair (policyWord j.tag)
      ∃ t : State, exec (.jobDone none) s = .next t ∧ t.cip.jobs = [] ∧ t.cip.slots = x.1.cip.slots ∧
        t.rd (CIP_RES_STATUS j.owner) = x.2 ∧ t.sram = s.sram))

/-- Key words are taken from E2 alone and an erased slot is EMPTY, a locked one excepted; the TRNG passes its test, fails with a logged
fault, restarts, and gives its words until none is left (R385 to R387, R398, R399). -/
def Obligations.KeysAndEntropy : Prop :=
  ∀ (m : Master) (s : State), s.barred m 7 = false →
    (∀ (n : Fin 8) (v : Word), s.cip.buf.length = 8 → s.cip.wrote.length = 8 → isE2 m = true →
      ∃ t : State, exec (.keyWordWrite m n v) s = .next t ∧ t.cip.buf[n.val]? = some v ∧ t.cip.wrote[n.val]? = some true ∧
        t.cip.slots = s.cip.slots ∧ t.regs = s.regs) ∧
    (∀ (n : Fin 8) (v : Word), isE2 m = false → ∃ t : State, exec (.keyWordWrite m n v) s = .next t ∧ t.cip = s.cip ∧
      t.rd CIP_LASTERR_STATUS = stDenied ∧ t.rd CIP_LASTERR_OWNER = s.code m) ∧
    (∀ k : Fin 16, k.val ≠ 15 → s.cip.slots.length = 16 → isE2 m = true → (s.slot k.val).has CIP_KPOL_LOCK = false →
      ∃ t : State, exec (.kcmdErase m k) s = .next t ∧ t.slot k.val = .empty ∧ (∀ n, n ≠ k.val → t.slot n = s.slot n) ∧ t.regs = s.regs) ∧
    (∀ k : Fin 16, (s.slot k.val).has CIP_KPOL_LOCK = true → ∃ t : State, exec (.kcmdErase m k) s = .next t ∧ t.cip = s.cip ∧
      t.rd CIP_LASTERR_STATUS = stDenied ∧ t.rd CIP_LASTERR_SLOT = k.val) ∧
    (s.tclkOn = true → s.cip.trng = 0 → ∃ t : State, exec .trngTestDone s = .next t ∧ t.cip.trng = 1 ∧ t.regs = s.regs) ∧
    (s.tclkOn = true → s.cip.trng ≠ 2 → ∃ (t : State) (f : FaultIn), exec .trngFail s = .next (t.fault f) ∧ t.cip.trng = 2 ∧
      f.code = 8 ∧ f.region = 12 ∧ f.tier = 1) ∧
    (isE2 m = true → s.cip.trng = 2 → ∃ t : State, exec (.trngRestart m) s = .next t ∧ t.cip.trng = 0) ∧
    (∀ n : Nat, s.tclkOn = true → s.cip.trng = 1 → ∃ t : State, exec (.trngReseed n) s = .next t ∧
      t.rd CIP_RNGSTAT_AVAIL = min 16 (s.rd CIP_RNGSTAT_AVAIL + n)) ∧
    (∃ t : State, exec .rngRead s = .next t ∧ t.rd CIP_RNGSTAT_AVAIL = s.rd CIP_RNGSTAT_AVAIL - 1 ∧
      (s.rd CIP_RNGSTAT_AVAIL = 0 → t.busData = 0 ∧ t.rd CIP_RNGSTAT_UNDERRUN = min (s.rd CIP_RNGSTAT_UNDERRUN + 1) 255))

/-! ### The Atoll domain, power and faults (15_calendar_and_atoll.md to 18_faults_and_restart.md) -/

/-- SET_DATE, SET_TIME and SET_ALARM from E2 set BUSY and hold their part of the set registers for the next LFCLK edge; while BUSY is 1,
or from another master, they change nothing; while LFCLK stands still, the Strait holds the write (R420, R421, R460). At its LFCLK edge
a waiting set is applied or refused as the table of R421 says, RTC_SETSTAT holds its status with BUSY = 0, and the tick counts one
(R416, R421 to R423). -/
def Obligations.CalendarSets : Prop :=
  (∀ (i : Instr) (m : Master) (date time alarm : Bool) (s : State), setForm i = some (m, date, time, alarm) → s.barred m 5 = false →
    (s.lfOn = true → s.rtc.held = [] →
      (isE2 m = true → s.rd RTC_SETSTAT_BUSY = 0 → ∃ t : State, exec i s = .next t ∧ t.rd RTC_SETSTAT_BUSY = 1 ∧ t.rtc.cal = s.rtc.cal ∧
        t.rtc.pend = some { date := date, time := time, alarm := alarm, setTime := regGet s.regs 0x40005018,
                            setDate := regGet s.regs 0x4000501C, almTime := regGet s.regs 0x40005020,
                            almDate := regGet s.regs 0x40005024, almCfg := regGet s.regs 0x40005028 }) ∧
      (isE2 m = false ∨ s.rd RTC_SETSTAT_BUSY = 1 → exec i s = .next s)) ∧
    (s.lfOn = false → s.rtc.powered = true → ∃ (t : State) (v : Word), exec i s = .next t ∧ t.regs = s.regs ∧
      t.rtc = { s.rtc with held := s.rtc.held ++ [.write m 0x4000502C v] } ∧
      RTC_SETCMD_DATE.of v = b2n date ∧ RTC_SETCMD_TIME.of v = b2n time ∧ RTC_SETCMD_ALARM.of v = b2n alarm)) ∧
  (∀ (s : State) (p : RtcSet), s.rtc.pend = some p → s.lfOn = true → s.rtc.secondEnds = false → s.rtc.held = [] →
    let st := p.status (s.tlostAfter p)
    let ok := st = stOK ∨ st = stTimeLost
    let c1 := if p.date then s.rtc.cal.withDate p.setDate else s.rtc.cal
    ∃ t : State, exec .rtcSetApply s = .next t ∧ t.rtc.pend = none ∧ t.rd RTC_SETSTAT_BUSY = 0 ∧ t.rd RTC_SETSTAT_STATUS = st ∧
      t.rtc.tick = (s.rtc.tick + 1) % 2 ^ 48 ∧ (¬ ok → t.rtc.cal = s.rtc.cal) ∧
      (ok → t.rtc.cal = (if p.time then c1.withTime p.setTime else c1)) ∧ (ok → p.time = true → t.rtc.sub = 0) ∧
      (ok → p.alarm = true → t.rtc.almCount = 0 ∧ t.rtc.almCfg = p.almCfg))

/-- In RUN, with a supply above the threshold, CALENDAR_SECOND runs LFCLK to the end of the present second, at which the calendar
advances by one second, the prescaler is 0 and the next second has the length that the trim gives it; WAKE_TIMER runs it to the tick of
PWR_TIMER, INTERVAL_ALARM to the period of the interval alarm (R416, R424, R425, R448). A word of backup RAM that the master may write
reads back after its edge; a write to words 0 to 7 leaves the CRC of bytes 0 to 29 in bytes 30 and 31, and SIGOK as R415 says; a refused
one changes nothing (R413 to R415). -/
def Obligations.LfclkAndBackupRam : Prop :=
  (∀ s : State, s.lfOn = true → s.rtc.isLow = false → s.pwr.st = .run → s.rtc.pend = none → s.rtc.held = [] →
    (∃ t : State, exec .calendarSecond s = .next t ∧ t.rtc.cal = s.rtc.cal.next ∧ t.rtc.sub = 0 ∧
      t.rtc.tick = (s.rtc.tick + max 1 (s.rtc.secLen - s.rtc.sub)) % 2 ^ 48 ∧
      t.rtc.acc = (trimStep s.rtc.acc s.trim).1 ∧ t.rtc.secLen = (trimStep s.rtc.acc s.trim).2) ∧
    (s.rtc.tick < 2 ^ 48 → ∃ t : State, exec .wakeTimer s = .next t ∧
      t.rtc.tick = s.rd PWR_TIMER_HI_TICK % 65536 * 2 ^ 32 + s.rd PWR_TIMER_LO_TICK) ∧
    (RTC_ALMCFG_MODE.of s.rtc.almCfg = 2 → let n := max 1 (RTC_ALMCFG_PERIOD.of s.rtc.almCfg - s.rtc.almCount)
      ∃ t : State, exec .intervalAlarm s = .next t ∧ t.rtc.almCount = 0 ∧ t.rtc.tick = (s.rtc.tick + n) % 2 ^ 48)) ∧
  (∀ (m : Master) (n : Fin 16) (v : Word) (s : State), s.lfOn = true → s.rtc.bkup.length = 64 → s.rtc.held = [] → s.rtc.pend = none →
    s.wakeDue = false → s.barred m 5 = false →
    (bkupAllowed m n.val = true → ∃ t : State, exec (.backupRamWrite m n v) s = .next t ∧ t.rtc.bkup.length = 64 ∧
      (n.val ≠ 7 → (t.rtc.bkup.drop (4 * n.val)).take 4 = wordBytes v) ∧
      (n.val < 8 → (t.rtc.bkup.drop 30).take 2 = natLE 2 (crc16 (t.rtc.bkup.take 30))) ∧
      t.rd RTC_STAT_SIGOK = b2n (bkupSigOk t.rtc.bkup)) ∧
    (bkupAllowed m n.val = false → ∃ t : State, exec (.backupRamWrite m n v) s = .next t ∧ t.rtc.bkup = s.rtc.bkup))

/-- A domain that powers up is reset, and so is one at its 67th low sample in a row, which loses its power with it; fewer low samples
only count. The switch shows in SUPPLY, a WAKE pin in its bit of WAKELVL, and LFRATIO is twice the count of TCLK cycles (R68, R409 to
R411, R427). OFF from E2 disables both bands and powers the device down when nothing holds it; a brown-out stops it in BACKUP-ONLY,
MER's record stored or not; the loss of LFCLK is flagged and logged, and its return is flagged too (R69, R447, R453, R465). -/
def Obligations.SupplyEvents : Prop :=
  (∀ s : State,
    ((∀ e : Fin 12, s.writesHeld (.eng e) = false) → ∃ t : State, exec .atollPowerUp s = .next t ∧ t.rtc = .atPowerUp ∧
      t.rd RTC_STAT_TLOST = 1 ∧ t.sram = s.sram ∧ t.flc = s.flc ∧ t.cip = s.cip) ∧
    (s.pwr.st = .run ∨ s.pwr.st = .doze → s.rtc.powered = true → s.rtc.lf = true → ∀ n : Nat,
      (s.rtc.low + n < 67 → ∃ t : State, exec (.powerGoodFall n) s = .next t ∧ t.rtc.low = s.rtc.low + n ∧ t.rtc.powered = true) ∧
      (67 ≤ s.rtc.low + n → s.rtc.low ≤ 66 → s.rtc.pend = none → (∀ e : Fin 12, s.writesHeld (.eng e) = false) →
        ∃ t : State, exec (.powerGoodFall n) s = .next t ∧ t.rtc = { Rtc.atPowerUp with powered := false })) ∧
    (∀ b back : Bool, ∃ t : State, exec (.supplySwitchOver b back) s = .next t ∧ t.rd RTC_STAT_SUPPLY = b2n b ∧
      t.rtc = { s.rtc with isLow := s.rtc.isLow && !back }) ∧
    (∀ (n : Fin 4) (level : Bool), s.lfOn = true → ∃ t : State, exec (.wakeEdge n level) s = .next t ∧
      (t.rd RTC_STAT_WAKELVL / 2 ^ n.val % 2 = b2n level) ∧
      ∀ k : Fin 4, k ≠ n → t.rd RTC_STAT_WAKELVL / 2 ^ k.val % 2 = s.rd RTC_STAT_WAKELVL / 2 ^ k.val % 2) ∧
    (∀ n : BitVec 32, s.tclkOn = true → s.lfOn = true → n.toNat < 2 ^ 31 →
      ∃ t : State, exec (.lfratioMeasure n) s = .next t ∧ t.rd MER_LFRATIO_RATIO = 2 * n.toNat)) ∧
  (∀ s : State,
    (∀ m : Master, isE2 m = true → s.tclkOn = true → s.barred m 1 = false → ∃ t : State, exec (.pwrOffCmd m) s = .next t ∧
      t.rd (rfcEn .sg) = 0 ∧ t.rd (rfcEn .g24) = 0 ∧ (t.pwr.offWanted = true ∨ t.pwr.st = .backupCmd)) ∧
    (∀ stored : Bool, s.pwr.st = .run ∨ s.pwr.st = .doze ∨ s.pwr.st = .sleep ∨ s.pwr.st = .standby →
      ∃ t : State, exec (.brownout stored) s = .next t ∧ t.pwr.st = .backupBrown ∧ t.flc.op = none ∧ t.sns = .atReset ∧
        (stored = false → t.rtc = s.rtc)) ∧
    (s.tclkOn = true → s.rtc.lf = true ∨ s.rd CLK_STAT_LFFAIL = 0 → ∃ (t : State) (f : FaultIn), exec .lfclkLoss s = .next (t.fault f) ∧
      f.code = 0x0A ∧ f.region = 14 ∧ f.tier = 0 ∧ t.rtc.lf = false ∧ t.rd CLK_STAT_LFOK = 0 ∧ t.rd CLK_STAT_LFFAIL = 1) ∧
    (s.rtc.powered = true → ∃ t : State, exec .lfclkValid s = .next t ∧ t.rtc = { s.rtc with lf := true } ∧
      (s.tclkOn = true → t.rd CLK_STAT_LFOK = 1)))

/-- A level change carries out its next due step: VCORE reaches its target at step 2, ECLK at step 4, and CHG ends with the last one;
the idle timers count an engine to idle and the device to an entry (R433, R434, R438 to R440). An entry ends in SLEEP or STANDBY at its
LFCLK edge, counted, or is abandoned, counted too, for a wake source, a condition that failed or an end of DOZE; a wake is recorded, the
clocks start, the flash is ready, and the TCMs that were not kept are cleared (R442, R443, R445, R446, R449). -/
def Obligations.LevelsAndSleep : Prop :=
  (∀ s : State, s.tclkOn = true →
    (∀ c : LevelChange, s.pwr.change = some c → s.pwr.offWanted = false → s.pwr.nextLevel = none → c.vTo < 4 → c.fTo < 4 →
      c.done < c.steps.length → let k := c.steps.getD c.done 1
      ∃ t : State, exec .levelChangeStep s = .next t ∧
        t.rd PWR_STAT_VCORE = (if k = 2 then c.vTo else s.rd PWR_STAT_VCORE) ∧
        t.rd PWR_STAT_FENG = (if k = 4 then c.fTo else s.rd PWR_STAT_FENG) ∧
        (c.done + 1 < c.steps.length → t.pwr.change = some { c with done := c.done + 1 }) ∧
        (c.done + 1 = c.steps.length → t.pwr.change = none ∧ t.rd PWR_STAT_CHG = 0)) ∧
    (∀ e : Fin 12, (s.eng (s.leader e.val)).st.restful = true →
      ∃ t : State, exec (.engineIdle e) s = .next t ∧ (t.eng (s.leader e.val)).idle = true) ∧
    (s.pwr.st = .doze → s.pwr.entering = false → s.rd PWR_CFG_DEEP ≠ 0 → s.start = .none →
      let s1 := s.tick (s.pwr.dozeFrom + s.rd PWR_DEVIDLE_US * 400 - s.tclk)
      ∃ t : State, exec .deviceIdle s = .next t ∧ (s1.holdBits = 0 → t.pwr.entering = true ∧ t.pwr.toStandby = s1.standbyMet) ∧
        (s1.holdBits ≠ 0 → t = s1))) ∧
  (∀ (mv : Nat) (s : State),
    (s.pwr.entering = true → s.pwr.st = .doze → s.pwr.wakeReq = 0 → s.pwr.failed = false → s.holdBits = 0 → s.lfOn = true →
      let u := s.recordDue.lfEdge
      let v := if u.pwr.toStandby then u.drain else u
      v.pwr.wakeReq = 0 → ∃ t : State, exec (.sleepEntry mv) s = .next t ∧ t.pwr.entering = false ∧
        t.pwr.st = (if u.pwr.toStandby then .standby else .sleep) ∧
        (u.pwr.toStandby = false → t.rd PWR_CNT_SLEEPS = min (u.rd PWR_CNT_SLEEPS + 1) 65535)) ∧
    (s.pwr.entering = true → s.pwr.wakeReq ≠ 0 ∨ s.pwr.failed = true ∨ s.pwr.st ≠ .doze ∨ s.holdBits ≠ 0 →
      ∃ t : State, exec (.sleepEntry mv) s = .next t ∧ t.pwr.entering = false ∧
        t.pwr.st = s.pwr.st ∧ t.pwr.flashOn = true ∧ t.rd PWR_CNT_ABANDON = min (s.rd PWR_CNT_ABANDON + 1) 65535) ∧
    (s.pwr.st = .sleep → s.pwr.waking = false → s.pwr.wakeReq ≠ 0 → s.pwr.wakeReq < 256 →
      ∃ t : State, exec (.wakeSource false) s = .next t ∧ t.pwr.waking = true ∧ t.pwr.wakeReq = 0 ∧ t.rd PWR_WAKESRC_FROM = 1 ∧
        t.rd PWR_WAKESRC_FIRST = lowestBit s.pwr.wakeReq ∧ t.rd PWR_WAKESRC_SRC = s.rd PWR_WAKESRC_SRC ||| s.pwr.wakeReq) ∧
    (s.pwr.st = .sleep → s.pwr.waking = true → ∃ t : State, exec (.wakeClocksReady mv) s = .next t ∧ t.pwr.st = .doze ∧
      t.pwr.waking = false ∧ ∀ e : Fin 12, s.tcmKept e.val = false → e.val ∈ t.pwr.clearing) ∧
    (s.tclkOn = true → s.pwr.flashOn = false → s.pwr.entering = false →
      ∃ t : State, exec .wakeFlashReady s = .next t ∧ t.pwr.flashOn = true ∧ t.rd HIF_EVPEND_READY = 1) ∧
    (∀ e : Fin 12, ∃ t : State, exec (.tcmClearDone e) s = .next t ∧ e.val ∉ t.pwr.clearing ∧ t.engs = s.engs ∧ t.regs = s.regs))

/-- A device reset records its cause, puts every engine in RESET with its TCM as it was, resets every register but those of the Atoll
domain and those that R473 keeps, and keeps the calendar, a set that its domain has taken and, where it is no power-up, the fault log,
in which an action at BLOCK_RESTART that the reset ends is DONE; writes that the domain has not taken are lost. Before a reset by
SYS_RESET the record is written, at the edges that LFCLK has for it (R6, R69, R411, R462, R473, R476, R480; log entry 98). -/
def Obligations.DeviceReset : Prop :=
  ∀ (i : Instr) (c : Nat) (s : State), resetForm i s = some c → (∀ m : Master, s.barred m 0 = false) →
    let u := if c = 8 then s.writeRecord else s
    u.flc.op = none → u.flc.roll = none →
    ∃ t : State, exec i s = .next t ∧ t.rd SYS_RSTCAUSE_CAUSE = c ∧
      t.rd SYS_RSTCAUSE_HIST = (if c ≤ 1 then 2 ^ c else u.rd SYS_RSTCAUSE_HIST ||| 2 ^ c) ∧
      t.start = .clocks ∧ t.pending = s.pending ∧ t.rtc = { u.rtc with held := [] } ∧
      t.flc = { u.flc with counts := [], half := [] } ∧
      (∀ e : Fin 12, (t.eng e.val).st = (if e.val = 1 then .paired else .reset) ∧ (t.eng e.val).tcm = (u.eng e.val).tcm) ∧
      (∀ a, keptReg a = false → a ≠ SYS_RSTCAUSE_CAUSE.addr → a ≠ SYS_BOOT_SAFE.addr → a ≠ FLT_STAT_BUSY.addr →
        regGet t.regs a = regGet State.reset.regs a) ∧ t.rd FLT_STAT_BUSY = b2n t.flt.active.isSome ∧
      (2 ≤ c → t.flt.log = u.flt.endBlocks.log ∧ t.sram = u.sram) ∧ (c ≤ 1 → t.flt.log = Flt.atPowerUp.log ∧ t.rd SYS_BOOT_FORCECOLD = 0)

/-- The clocks start and every TCM is cleared; the scan completes and the start goes on to step 8 with HIF ready, or, in SAFE or with a
signature that does not verify in a cold start, stops in SAFE; the clock monitor resets the device and logs its fault (R294, R375, R455,
R457, R476, R477). -/
def Obligations.StartCommands : Prop :=
  ∀ s : State,
    (s.start = .clocks → ∃ t : State, exec .clocksLocked s = .next t ∧ t.start = .scan ∧ t.rd SYS_BOOT_STEP = 1 ∧
      t.rd CLK_STAT_XOOK = 1 ∧ t.rd CLK_STAT_PLLMLOCK = 1 ∧ t.rd CLK_STAT_PLLELOCK = 1 ∧ ∀ e : Fin 12, (t.eng e.val).tcm = []) ∧
    (∀ (erased verified : Bool) (mv : Nat) (temp : BitVec 12) (l r : List Nat), s.start = .scan →
      (s.path = .safe ∨ s.path = .cold ∧ verified = false →
        ∃ t : State, exec (.scanDone erased verified mv temp l r) s = .next t ∧ t.start = .none ∧ t.path = .safe ∧
        t.rd SYS_BOOT_SAFE = 1 ∧ t.rd HIF_STAT_READY = 1) ∧
      (s.path = .warm ∨ s.path = .cold ∧ verified = true → ∃ t : State, exec (.scanDone erased verified mv temp l r) s = .next t ∧
        t.start = .meridian ∧ t.rd SYS_BOOT_STEP = 8 ∧ t.rd HIF_STAT_READY = 1)) ∧
    (s.tclkOn = true → s.flt.log.length = 16 → ∃ t : State, exec .clockMonitorReset s = .next t ∧ t.rd SYS_RSTCAUSE_CAUSE = 5 ∧ t.start = .clocks ∧
      ∃ e ∈ t.flt.log, e.code = 0x0B ∧ e.region = 14)

/-- The fault log takes an entry at NEWEST with what the fault says; at RETRY nothing else is done but count it (R466 to R468, R472).
What reaches FLT: a report, a watchdog that expires and is kicked, a recovery that takes too long; ACTDONE ends the active block restart
and a quiet region's episode closes (R465 to R467, R474, R475). -/
def Obligations.FaultLog : Prop :=
  (∀ (s : State) (f : FaultIn), s.flt.log.length = 16 → s.flt.episodes.length = 16 → f.region < 16 → f.conseq = false → s.faultTier f = 0 →
    let t := s.fault f
    (∃ e, t.flt.log[t.rd FLT_STAT_NEWEST]? = some e ∧ e.code = f.code ∧ e.region = f.region ∧ e.tier = 0 ∧ e.state = 0 ∧
      e.owner = f.owner ∧ e.addr = f.addr ∧ e.status = f.status) ∧
    t.flt.log.length = 16 ∧ t.rd FLT_CNT_RETRY = min (s.rd FLT_CNT_RETRY + 1) 255 ∧
    t.flt.episodes[f.region]? = some (some { tier := 0, last := s.fltNow }) ∧ t.engs = s.engs ∧ t.sram = s.sram ∧ t.start = s.start) ∧
  (∀ s : State,
    (∀ (m : Master) (v : Word), s.e2OrExpert m = true → s.barred m 14 = false → ∃ f : FaultIn, exec (.fltReport m v) s = .next (s.fault f) ∧ f.code = 0x0D ∧
      f.region = FLT_REPORT_REGION.of v ∧ f.tier = FLT_REPORT_TIER.of v ∧ f.addr = FLT_REPORT_DATA.of v ∧ f.owner = s.code m) ∧
    (∀ e : Fin 12, s.barred (.eng e) 14 = false → ∃ t : State, exec (.fltKick (.eng e)) s = .next t ∧ t.flt.wdg.getD (s.regionOf (.eng e)) 0 = 0 ∧ t.regs = s.regs) ∧
    (∀ r : Fin 11, s.tclkOn = true → s.wdgRuns r.val = true → ∃ (t : State) (f : FaultIn), exec (.watchdogExpiry r) s = .next (t.fault f) ∧
      f.code = 0x0C ∧ f.region = r.val ∧ f.tier = 1 ∧ t.flt.wdg.getD r.val 0 = 0) ∧
    (∀ a : Action, s.flt.active = some a → a.tier = 1 → s.tclkOn = true → ∃ (t : State) (f : FaultIn),
      exec .recoveryTimeout s = .next (t.fault f) ∧ f.code = 0x0E ∧ f.region = a.region ∧ f.tier = 2) ∧
    (∀ (m : Master) (r : Fin 16) (mv : Nat) (a : Action), s.flt.active = some a → isE2 m = true → s.barred m 14 = false → a.region = r.val → a.tier = 1 →
      (s.recover r.val mv).flt.queue = [] → ∃ t : State, exec (.actdone m r mv) s = .next t ∧ t.flt.active = none ∧ t.rd FLT_STAT_BUSY = 0) ∧
    (∀ (r : Fin 16) (ep : Episode), s.tclkOn = true → s.flt.episodes.getD r.val none = some ep → s.flt.hasAction r.val = false →
      ∃ t : State, exec (.episodeClose r) s = .next t ∧ t.flt.episodes.getD r.val none = none ∧ t.rd (FLT_TIER r.val) = 0))

/-! ### Meridian and the radio (02_meridian_timebase.md to 04_modem.md) -/

/-- While no command waits, no request waits for an access and TCLK runs, one step is one TCLK cycle: the 80-bit accumulator gains INC
and TSTAMP gains 1, whatever the state of MER; with TCLK stopped and LFCLK running, RTC_TICK counts instead, and with neither running
nothing happens, but for the end of power-good at its last low sample (R43, R65, R410, R416; log entry 1). -/
def Obligations.IdleStepCountsTime : Prop :=
  ∀ s : State, s.pending = [] →
    (s.tclkOn = true → s.pwr.offWanted = false → (s.rd SVR_CFG_EN = 1 → s.svr.sheet.isSome = true) → s.hif.parked = none →
      s.hif.ereqs = [] → ∃ t : State, step s = .next t ∧
      t.mer.time = (s.mer.time + s.rd MER_INC_INC) % 2 ^ 80 ∧ t.mer.tstamp = (s.mer.tstamp + 1) % 2 ^ 64 ∧ t.rtc = s.rtc ∧
      t.sram = s.sram ∧ t.engs = s.engs) ∧
    (s.tclkOn = false → s.lfOn = true → ∃ t : State, step s = .next t ∧
      t.rtc.tick = (s.rtc.tick + 1) % 2 ^ 48 ∧ t.mer = { s.mer with recDue := false }) ∧
    (s.tclkOn = false → s.rtc.powered = false ∨ s.rtc.lf = false → step s = .next s)

/-- A valid mains edge becomes the reference and its interval enters the last eight; the first edge becomes the reference and shows the
phase in MER_ZCERR, one inside 75 % of the period is ignored, and a window that ends without an edge counts one missed (R54, R55). A
manager that steers by mains goes to SYNTH by itself after 2 s in ACQUIRE or MER_HOLDCYC cycles in HOLDOVER, with AUTOSYNTH = 1 (R52,
R60). -/
def Obligations.MainsEdges : Prop :=
  (∀ s : State, s.tclkOn = true →
    (∀ (t : Nat) (rising : Bool), rising ≠ s.rdB MER_CFG_ZCEDGE →
      let s0 := s.advanceTo t
      let edge := t - zcFilter (s.rd MER_CFG_ZCFILT) - s.rd MER_ZCDLY_ZCDLY
      (s.mer.refEdge = none → ∃ u : State, exec (.mainsEdge t rising) s = .next u ∧ u.mer.refEdge = some edge ∧
        u.rd MER_ZCERR_ZCERR = s0.merAt edge % 65536 ∧ u.rd MER_STAT_MISSED = 0 ∧ u.rd MER_STAT_ZCVALID = 1) ∧
      (∀ r, s.mer.refEdge = some r → 4 * (edge - r) ≤ 5 * s0.period →
        (4 * (edge - r) < 3 * s0.period → exec (.mainsEdge t rising) s = .next s0) ∧
        (3 * s0.period ≤ 4 * (edge - r) → s.perLow ≤ edge - r → edge - r ≤ s.perHigh →
          ∃ u : State, exec (.mainsEdge t rising) s = .next u ∧ u.mer.refEdge = some edge ∧
            u.mer.ivals = ((edge - r) :: s.mer.ivals).take 8 ∧ u.rd MER_STAT_MISSED = 0 ∧ u.rd MER_STAT_ZCVALID = 1))) ∧
    (∀ r, s.mer.refEdge = some r → ∃ u : State, exec .mainsEdgeMissing s = .next u ∧ u.mer.refEdge = some (r + s.period) ∧
      u.rd MER_STAT_MISSED = min (s.rd MER_STAT_MISSED + 1) 255)) ∧
  (∀ s : State, s.tclkOn = true → s.mainsSteers = true → s.rdB MER_CFG_AUTOSYNTH = true →
    (s.rd MER_STAT_STATE = 1 → ∃ t : State, exec .acquireTimeout s = .next t ∧ t.rd MER_STAT_STATE = 4) ∧
    (s.rd MER_STAT_STATE = 3 → ∃ t : State, exec .holdoverTimeout s = .next t ∧ t.rd MER_STAT_STATE = 4))

/-- A slot boundary and a cycle boundary are each raised once, at the first TCLK cycle at or past them; one that a step has skipped is
raised in the next TCLK cycle. At a cycle boundary every enabled policer gains its rate, up to its burst; the mesh firmware, the zones
and the photodiodes follow (R42, R45, R46, R63, R220). The nearest TCLK cycle is found: time has reached the boundary asked for and,
unless it stood there already, did not one cycle before (R46). At each second of TSTAMP the oldest bin leaves every duty-cycle
accumulator, an empty one enters, and the registers show the sums (R187). -/
def Obligations.Boundaries : Prop :=
  (∀ s : State, s.tclkOn = true →
    (s.mer.pendSet = none → s.mer.pendStep = none → let n := (s.mer.slot + 1) % 2 ^ 35
      ∃ t : State, exec .slotBoundary s = .next t ∧ t.mer.slot = n ∧
        (s.passed (n * 8192) = false → t.mer.time = (s.advanceMer (n * 8192)).mer.time) ∧
        (s.passed (n * 8192) = true → s.mer.cyc * 8 ≠ n → t.mer.time = (s.tick 1).mer.time)) ∧
    (let c := (s.mer.cyc + 1) % 2 ^ 32
      ∃ t u : State, exec .cycleBoundary s = .next t ∧ t = ((u.meshCycle c).zonesCycle).pdCycle ∧ u.mer.cyc = c ∧
        (s.passed (c * 65536) = false → u.mer.time = (s.advanceMer (c * 65536)).mer.time) ∧
        (s.passed (c * 65536) = true → s.mer.slot ≠ c * 8 → u.mer.time = (s.tick 1).mer.time) ∧
        (∀ p : Fin 64, s.rdB (SHP_POL_CFG_EN p.val) = true → u.rd (SHP_POL_TOK_TOKENS p.val) =
          min (s.rd (SHP_POL_BURST_BURST p.val)) (s.rd (SHP_POL_TOK_TOKENS p.val) + s.rd (SHP_POL_CFG_RATE p.val))) ∧
        (s.rd SYS_BOOT_STEP < 8 → t.mer = u.mer ∧ ∀ p : Fin 64, t.rd (SHP_POL_TOK_TOKENS p.val) = u.rd (SHP_POL_TOK_TOKENS p.val)))) ∧
  (∀ (s : State) (t : Nat), s.mer.time < 2 ^ 80 → 0 < s.rd MER_INC_INC →
    let d := (t * 2 ^ 32 + 2 ^ 80 - s.mer.time) % 2 ^ 80
    t < 2 ^ 48 → 0 < d → d < 2 ^ 79 →
    let n := s.cyclesTo (t * 2 ^ 32)
    d ≤ n * s.rd MER_INC_INC ∧ (n - 1) * s.rd MER_INC_INC < d) ∧
  (∀ s : State, s.tclkOn = true → s.mer.tstamp ≤ (s.mac.binSec + 1) * 400000000 → (s.mac.binSec + 1) * 400000000 < 2 ^ 64 →
    ∃ u : State, exec .dutyBinRetire s = .next u ∧ u.mac.binSec = s.mac.binSec + 1 ∧ ∀ b : Band,
      (u.macB b).bins = (s.macB b).bins.map (fun l => binPush (binDrop l)) ∧
      ∀ n : Fin 8, u.rd (MAC_DCSUM_SUM b n.val) = binSum ((u.macB b).bins.getD n.val []) % 2 ^ (MAC_DCSUM_SUM b n.val).width)

/-- Enabling a band in OFF measures VDD_PA for PMAX and starts it; it comes up in READY on its receive-window entry; disabling it
outside TX leaves it OFF (R90, R91, R94). A confirmed lock ends a hop on its entry and lets a turn go on; a failed one makes its entry
INVALID and counts in LOCKFAIL (R84, R91, R92). -/
def Obligations.BandsHopsAndTurns : Prop :=
  (∀ (b : Band) (s : State),
    (∀ mv : Nat, (s.rfcB b).st = .off → (s.rfcB b).starting = false → 1800 ≤ mv →
      ∃ t : State, exec (.bandEnable b mv) s = .next t ∧ t.rd (rfcEn b) = 1 ∧ t.rd (RFC_PASTAT_PMAX b) = pmaxOf b mv ∧
        (t.rfcB b).st = .off ∧ (t.rfcB b).starting = true) ∧
    ((s.rfcB b).st = .off → (s.rfcB b).starting = true → s.rfc.cmd = none →
      ∃ t : State, exec (.bandReady b) s = .next t ∧ (t.rfcB b).st = .ready ∧ (t.rfcB b).starting = false ∧
        (t.rfcB b).locked = s.rxwin b) ∧
    ((s.rfcB b).st ≠ .tx → ∃ t : State, exec (.bandDisable b) s = .next t ∧ t.rd (rfcEn b) = 0 ∧ (t.rfcB b).st = .off ∧
      (t.rfcB b).tx = none)) ∧
  (∀ (b : Band) (s : State),
    ((s.rfcB b).st = .hop → (s.rfcB b).back = .ready ∨ (s.rfcB b).back = .rx → (s.rfcB b).needHop = false → s.rfc.cmd = none →
      ∃ t : State, exec (.hopLock b) s = .next t ∧ (t.rfcB b).locked = (s.rfcB b).hopTo ∧ (t.rfcB b).st ≠ .hop) ∧
    ((s.rfcB b).st = .turnTx ∨ (s.rfcB b).st = .turnRx → ∃ t : State, exec (.hopLock b) s = .next t ∧ (t.rfcB b).lockOk = true ∧
      (t.rfcB b).st = (s.rfcB b).st) ∧
    (((s.rfcB b).st = .turnTx ∨ (s.rfcB b).st = .turnRx) ∧ (s.rfcB b).lockOk = false ∨ (s.rfcB b).st = .hop → (s.rfcB b).cal = none →
      ∃ t : State, exec (.hopLockFail b) s = .next t ∧ (t.rfc.cal b (s.rfcB b).hopTo).state = 0 ∧
        t.rd (RFC_CNT_LOCKFAIL b) = min (s.rd (RFC_CNT_LOCKFAIL b) + 1) 65535))

/-- A calibration command in a band that is in RX or READY starts at once with its first entry; in a band that is elsewhere it waits
with BUSY = 1 and changes nothing of the radio; with no entry STALE at its start it ends OK_EMPTY; to a band in OFF it ends BAD_STATE,
and while another runs it is BUSY (R85, R87). A calibration leaves its entry VALID with the die temperature and the codes found, or
INVALID and counted in FAILS; a temperature makes STALE just the VALID entries that have moved by more than DTEMP; AUTOCAL takes the
first of them in READY (R82, R85 to R87). -/
def Obligations.Calibration : Prop :=
  (∀ (i : Instr) (b : Band) (op : Nat) (es : List Nat) (s : State), calForm i s = some (b, op, es) →
    (s.rdB RFC_CALSTAT_BUSY = true → ∃ t : State, exec i s = .next t ∧ t.rd RFC_CALSTAT_STATUS = stBusy ∧ t.rfc = s.rfc) ∧
    (s.rdB RFC_CALSTAT_BUSY = false →
      let starts := ((s.rfcB b).st = .rx ∨ (s.rfcB b).st = .ready) ∧ (s.rfcB b).cal = none ∧ (s.macB b).daa = none
      (starts → ∀ (e : Nat) (l : List Nat), es = e :: l → ∃ t : State, exec i s = .next t ∧ t.rd RFC_CALSTAT_BUSY = 1 ∧
        (t.rfcB b).st = .cal ∧ (t.rfcB b).cal = some { entry := e, auto := false, prev := s.rfc.cal b e } ∧
        t.rfc.cmd = some { band := b, op := op, left := es, failed := false, begun := true }) ∧
      (starts → es = [] → ∃ t : State, exec i s = .next t ∧ t.rd RFC_CALSTAT_BUSY = 0 ∧ t.rd RFC_CALSTAT_STATUS = stOkEmpty ∧
        t.rfc.cmd = none ∧ t.rfc.bands = s.rfc.bands) ∧
      (¬ starts → (s.rfcB b).st ≠ .off → ∃ t : State, exec i s = .next t ∧ t.rd RFC_CALSTAT_BUSY = 1 ∧ t.rfc.bands = s.rfc.bands ∧
        t.rfc.cmd = some { band := b, op := op, left := if op = 2 then [] else es, failed := false, begun := false }) ∧
      ((s.rfcB b).st = .off → ∃ t : State, exec i s = .next t ∧ t.rd RFC_CALSTAT_BUSY = 0 ∧ t.rd RFC_CALSTAT_STATUS = stBadState ∧
        t.rfc.cals = s.rfc.cals ∧ t.rfc.bands = s.rfc.bands))) ∧
  (∀ (b : Band) (s : State),
    (∀ (c : CalRun) (ok : Bool) (codes : Nat), (s.rfcB b).cal = some c →
      ∃ t : State, exec (.calEntryDone b ok codes) s = .next t ∧
        t.rfc.cal b c.entry = (if ok then { s.rfc.cal b c.entry with state := 1, tcal := s.temp, codes := codes }
          else { s.rfc.cal b c.entry with state := 0 }) ∧
        (∀ k, k ≠ c.entry → t.rfc.cal b k = s.rfc.cal b k) ∧
        t.rd RFC_CALSTAT_FAILS = (if ok then s.rd RFC_CALSTAT_FAILS else min (s.rd RFC_CALSTAT_FAILS + 1) 255)) ∧
    (∀ x : BitVec 12, ∃ t : State, exec (.tempCheck x) s = .next t ∧ t.temp = x.toInt ∧ ∀ k, t.rfc.cal b k =
      (if s.stale x.toInt (s.rfc.cal b k) then { s.rfc.cal b k with state := 2 } else s.rfc.cal b k)) ∧
    (∀ (e : Nat) (l : List Nat), s.staleEntries b = e :: l → s.rdB RFC_CALCFG_AUTOCAL = true → (s.rfcB b).st = .ready →
      (s.rfcB b).opening = false → (s.rfcB b).needHop = false → (s.rfcB b).cal = none →
      ∃ t : State, exec (.autoCalibrate b) s = .next t ∧ (t.rfcB b).st = .cal ∧
        (t.rfcB b).cal = some { entry := e, auto := true, prev := s.rfc.cal b e }))

/-- A channel goes from SEARCH to SELECT or SYNC at a preamble above its threshold and within its mode's range of carrier offsets, and
stays in SEARCH at one outside it, to SYNC with the aerial that wins, to HEADER at the start of the PHR, and to PAYLOAD or, at a header
in error, back to SEARCH with HDRERR counted (R98, R111, R115, R117, R125). The powers and gains of a chain that streams follow its
measurements, the gain index within 0 to 11 (R80, R108). -/
def Obligations.ReceiveChannel : Prop :=
  (∀ (b : Band) (n : Fin 8) (s : State), (s.mdm.chans.get b).length = 8 → let c := s.chan b n.val
    (∀ (t metric : Nat) (short : Bool) (cfo : Int), c.st = .search → s.rd (MDM_CH_CFG_THR b n.val) < metric →
      s.acquires b n.val short cfo c.derot = true →
      ∃ u : State, exec (.preambleDetect b n t metric short cfo) s = .next u ∧ (u.chan b n.val).short = short ∧
        (u.chan b n.val).st = (if s.rd (RFC_DIV_MODE b) = 0 then .select else .sync) ∧
        (u.chan b n.val).aerialB = (s.rd (RFC_DIV_MODE b) == 2) ∧
        u.rd (MDM_CH_CNT_DET b n.val) = min (s.rd (MDM_CH_CNT_DET b n.val) + 1) 65535) ∧
    (∀ (t metric : Nat) (short : Bool) (cfo : Int), s.acquires b n.val short cfo c.derot = false →
      exec (.preambleDetect b n t metric short cfo) s = .next (s.advanceTo t)) ∧
    (∀ sumA sumB : Nat, c.st = .select → let w := (biasWins sumA sumB (sInt 4 (s.rd (RFC_DIV_BIAS b)))).getD (c.lastWon.getD false)
      ∃ u : State, exec (.antennaSelect b n sumA sumB) s = .next u ∧ u.chan b n.val = { c with st := .sync, aerialB := w }) ∧
    (∀ p : PreEnd, c.st = .sync → ∃ u : State, exec (.preambleComplete b n p) s = .next u ∧ (u.chan b n.val).st = .header ∧
      (u.chan b n.val).refTs = p.ref) ∧
    (c.st = .sync → ∃ u : State, exec (.syncTimeout b n) s = .next u ∧ u.chan b n.val = { c with st := .search } ∧ u.regs = s.regs) ∧
    (∀ h : BitVec 48, c.st = .header → s.chanMode b n.val = 3 →
      (hdrBad h c.short = false → ∃ u : State, exec (.headerDecode b n (.sl h)) s = .next u ∧ (u.chan b n.val).st = .payload ∧
        (u.chan b n.val).len = hdrField h 11 11 ∧ (u.chan b n.val).rate = hdrField h 3 2) ∧
      (hdrBad h c.short = true → ∃ u : State, exec (.headerDecode b n (.sl h)) s = .next u ∧ (u.chan b n.val).st = .search ∧
        u.rd (MDM_CH_ERR_HDRERR b n.val) = min (s.rd (MDM_CH_ERR_HDRERR b n.val) + 1) 255)) ∧
    (∀ (len mcs : Nat) (ms f32 : Bool), c.st = .header → s.chanMode b n.val ≠ 3 → len ≤ maxPsdu (s.chanMode b n.val) →
      (s.chanMode b n.val = 1 → ms = false) →
      (s.chanMode b n.val = 2 → let r := ofdmMcs (s.rd (MDM_CH_CFG_PARAM b n.val)); r.1 ≤ mcs ∧ mcs ≤ r.2) →
      ∃ u : State, exec (.headerDecode b n (.std len mcs ms f32)) s = .next u ∧ (u.chan b n.val).st = .payload ∧
        (u.chan b n.val).len = len ∧ u.regs = s.regs)) ∧
  (∀ (b : Band) (s : State), s.chainOn b false = true →
    (∀ pa pb : Int, ∃ t : State, exec (.rssiUpdate b pa pb) s = .next t ∧
      t.rd (RFC_RSSI_RSSIA b) = intBits 8 (clampInt (-127) 127 pa) ∧
      (s.chainOn b true = true → t.rd (RFC_RSSI_RSSIB b) = intBits 8 (clampInt (-127) 127 pb)) ∧
      (s.chainOn b true = false → t.rd (RFC_RSSI_RSSIB b) = s.rd (RFC_RSSI_RSSIB b))) ∧
    (∀ up : Bool, ∃ t : State, exec (.agcGainStep b false up) s = .next t ∧ t.rd (RFC_RSSI_GAINA b) =
      (if up then min (s.rd (RFC_RSSI_GAINA b) + 1) 11 else s.rd (RFC_RSSI_GAINA b) - 1) ∧
      t.rd (RFC_RSSI_GAINB b) = s.rd (RFC_RSSI_GAINB b)))

/-! ### Link layer and scheduler (05_link_layer.md, 06_chart_scheduler.md) -/

/-- The window of R177 and R178: a number further ahead is new and moves the window, one behind is new once, a counter far behind is a
replay and one in the band of a restart empties the window first; the window after a new number holds it. -/
def Obligations.DuplicateWindow : Prop :=
  ∀ (w : DupWin) (seq : Nat) (secured : Bool) (ctr : Nat), seq < 256 → ctr < 2 ^ 32 → w.top < 256 → w.bits < 2 ^ 32 → w.ctr < 2 ^ 32 →
    let c := classify w seq secured ctr
    let d := (ctr + 2 ^ 32 - w.ctr) % 2 ^ 32
    (c.1 = 2 ↔ secured = true ∧ w.valid = true ∧ 2 ^ 31 ≤ d ∧ d ≤ 2 ^ 32 - 1024) ∧
    (c.1 = 2 → c.2.1 = w ∧ c.2.2 = false) ∧
    (w.valid = false → c.1 = 0 ∧ c.2.1.top = seq ∧ c.2.1.bits = 1 ∧ c.2.1.valid = true) ∧
    (c.1 = 0 → c.2.1.valid = true ∧ c.2.1.bits / 2 ^ ((c.2.1.top + 256 - seq) % 256) % 2 = 1) ∧
    (c.1 = 0 → (classify c.2.1 seq secured ctr).1 = 1) ∧
    (c.2.2 = true ↔ secured = true ∧ w.valid = true ∧ 2 ^ 19 ≤ d ∧ d < 2 ^ 31)

/-- A frame whose payload fails ends its channel in SEARCH, counts as received and as failed, and moves no duplicate window; while CIP
checks one, the end of the check ends the wait, a wrong tag counting in AUTHFAIL (R115, R118, R176, R404). The acknowledgement of an
exchange carries the verdict of its frame, or BUSY while CIP has not finished it; a frame that is over goes to the ring whole, and the
write index moves on (R161, R169, R181). -/
def Obligations.ReceptionsEnd : Prop :=
  (∀ (b : Band) (n : Fin 8) (s : State),
    (∀ (t : Nat) (m : RxMeas), (s.mdm.chans.get b).length = 8 → (s.chan b n.val).st = .payload → m.decoded = false →
      ∃ u : State, exec (.rxFrameEnd b n t m) s = .next u ∧ (u.chan b n.val).st = .search ∧ u.mac.nbrs = s.mac.nbrs ∧
        u.rd (MDM_CH_CNT_DONE b n.val) = min (s.rd (MDM_CH_CNT_DONE b n.val) + 1) 65535 ∧
        u.rd (MDM_CH_ERR_FECERR b n.val) = min (s.rd (MDM_CH_ERR_FECERR b n.val) + 1) 255) ∧
    (∀ (r : Rx) (nb : Nat) (p : Parsed), (s.macB b).rxs = [r] → r.chan = n.val → r.waiting = true → r.nb = some nb →
      parseFrame r.own r.bytes = some p → s.cip.trng = 1 → s.sealing = false → s.acceptBefore b r = false →
      let o := openBytes r.key (s.nbr nb).eui p.ctr p.level p.hdr p.body p.mic
      ∃ u : State, exec (.cipAcceptDone b n false) s = .next u ∧ (u.macB b).waitingRx n.val = none ∧
        (o.2 = false → u.mac.nbrs = s.mac.nbrs ∧ u.rd CIP_CNT0_AUTHFAIL = min (s.rd CIP_CNT0_AUTHFAIL + 1) 65535))) ∧
  ((∀ (b : Band) (s : State) (x : AckExch) (r : Rx), (s.macB b).exch = some x → x.ackst = none → x.secured = false → x.own = true →
    (s.macB b).rxs.find? (fun q => q.chan == x.chan && q.er == x.er) = some r →
    ∃ u : State, exec (.ackDecide b false) s = .next u ∧ (u.macB b).exch =
      some { x with ackst := some (if r.waiting then 2 else r.verdict.getD 3),
                    psdu := withFcs (ackBytes false x.kid x.seq (if r.waiting then 2 else r.verdict.getD 3) r.err
                      (s.pendingFor x.nb)) }) ∧
  (∀ (b : Band) (n : Fin 8) (assured : Option (Nat × Nat)) (s : State) (r : Rx) (p : Parsed), (s.macB b).exch = none →
    (s.macB b).rxs.find? (fun q => q.chan == n.val && q.hand) = some r → parseFrame r.own r.bytes = some p → s.rd MAC_RXCFG_COUNT ≠ 0 →
    ∃ u : State, exec (.handOff b n assured) s = .next u ∧ u.rd MAC_RXWR_WR = (s.rd MAC_RXWR_WR + 1) % s.rd MAC_RXCFG_COUNT ∧
      u.sram = (s.sramWrite (s.rd MAC_RXBASE_BASE * 64 + s.rd MAC_RXWR_WR * s.slotSize) (ringBytes r p.ctr (p.addrs && p.broadcast))).sram ∧
      (u.macB b).rxs = (s.macB b).rxs.filter (fun q => q.chan ≠ r.chan ∨ q.er ≠ r.er)))

/-- At a gate that every check passes a frame without security is taken by MAC, sealed, with its sequence number and busy; a share gates
the frame that SHP chooses, and lays no more shares in an occurrence that no frame fits (R156, R167, R202, R203). -/
def Obligations.SharesAndGates : Prop :=
  ∀ (b : Band) (s : State),
    (∀ (f : Frame) (start : Nat), s.frameAt b f.desc = some f → (s.desc f.desc).sec = false →
      (s.desc f.desc).mode ≠ 3 ∨ (s.desc f.desc).mapsel = false →
      let d := s.desc f.desc
      let x := s.txFrame d
      s.gateCheck b f d x (s.txTimes b d x start) (s.sendEntry b d.entry (s.merAt start)) = .go →
      ∃ a, ((s.gate b f start).macB b).att = some a ∧ a.desc = f.desc ∧ a.sealed = true ∧ a.start = start ∧ a.unicast = !d.broadcast ∧
        ∃ g, (s.gate b f start).frameAt b f.desc = some g ∧ g.busy = true ∧ g.seq = some a.seq) ∧
    (∀ o : Occ, s.tclkOn = true → s.shpOn b = true → s.macOn b = true → (s.shpB b).resume = false → s.merWalks = true →
      (s.macB b).att = none → (s.shpB b).occ = some o → o.pos < o.len → let s0 := s.advanceMer (merAdd o.start o.pos)
      merAfter s0.mer.now (merAdd o.start o.len) = false →
      let s1 := s0.setShp b (s0.shpB b).endShare
      let o1 := { o with pos := max o.pos (merDiff s0.mer.now o.start).toNat }
      (∀ f, s1.chooseFrame b o1 = some f → ∃ u : State, exec (.shareStart b) s = .next u ∧ u = s1.beginShare b f) ∧
      (s1.chooseFrame b o1 = none → ∃ u : State, exec (.shareStart b) s = .next u ∧ (u.shpB b).occ = some { o with pos := o.len } ∧
        (u.shpB b).share = none))

/-- CIP completes a Seal with the sealed bytes; one not complete at the reference instant ends the transmission and counts in SEALLATE;
an attempt that detect-and-avoid has to assess listens before its turn (R192, R402, R403). The attempt's transmission: the turn begins
at S with the attempt's entry and its clamped power, the ramp up radiates, the end of the symbols counts an attempt and awaits the
acknowledgement, and the band turns back to RX or READY (R92, R94, R167, R168, R173). -/
def Obligations.Transmission : Prop :=
  (∀ (b : Band) (s : State) (a : Attempt), (s.macB b).att = some a →
    (∀ f, a.sealed = false → a.spoilt = false → s.frameAt b a.desc = some f → s.cip.trng = 1 → s.sealBefore b a = false →
      ∃ u : State, exec (.sealDone b false) s = .next u ∧
        (u.macB b).att = some { a with sealed := true, psdu := sealedPsdu a.key true a.ctr a.level a.hdr a.body }) ∧
    (∀ j, (s.rfcB b).tx = some j → (s.rfcB b).st = .tx → j.down = false → j.kind = .frame → a.sealed = false → a.spoilt = false →
      ∃ u : State, exec (.sealLate b) s = .next u ∧ (u.macB b).att = none ∧ (u.rfcB b).tx.map TxJob.down = some true ∧
        u.rd CIP_CNT1_SEALLATE = min (s.rd CIP_CNT1_SEALLATE + 1) 65535) ∧
    (s.daaWanted b = true → a.turned = false → (s.macB b).daa = none →
      ∃ u : State, exec (.daaListenStart b) s = .next u ∧ (u.macB b).daa.isSome = true ∧ (u.macB b).att = some a)) ∧
  (∀ (b : Band) (s : State) (a : Attempt), (s.macB b).att = some a → (s.macB b).exch = none →
    (∀ energy : Int, a.turned = false → a.waitEx = false → s.mer.tstamp ≤ a.start → (s.rfcB b).canTurn = true →
      s.calInvalid b a.entry = false → s.daaWanted b = false →
      ∃ (u : State) (j : TxJob), exec (.txTurnStart b energy) s = .next u ∧ (u.rfcB b).st = .turnTx ∧ (u.rfcB b).tx = some j ∧
        j.kind = .frame ∧ j.entry = a.entry ∧ j.power = s.clampPower b a.power ∧ (u.macB b).att = some { a with turned := true }) ∧
    (∀ j, (s.rfcB b).tx = some j → (s.rfcB b).st = .turnTx → (s.rfcB b).lockOk = true → j.kind = .frame →
      ∃ u : State, exec (.txRampUp b) s = .next u ∧ (u.rfcB b).st = .tx ∧ (u.rfcB b).locked = j.entry ∧
        (u.macB b).att = some { a with radiated := true }) ∧
    (∀ j f, (s.rfcB b).tx = some j → (s.rfcB b).st = .tx → j.down = false → j.kind = .frame → a.sealed = true → a.spoilt = false →
      a.unicast = true → s.frameAt b a.desc = some f →
      ∃ u : State, exec (.txSymbolsEnd b) s = .next u ∧ (u.rfcB b).tx.map TxJob.down = some true ∧
        (u.macB b).att.map Attempt.waiting = some true ∧ (u.frameAt b a.desc).map Frame.attempts = some (f.attempts + 1)) ∧
    (∀ j, (s.rfcB b).tx = some j → (s.rfcB b).st = .tx → j.down = true → (s.rfcB b).offAfter = false → a.turned = true →
      ∃ u : State, exec (.txRampDownEnd b) s = .next u ∧ (u.rfcB b).st = .turnRx ∧ (u.rfcB b).tx = none ∧ (u.macB b).att = some a) ∧
    ((s.rfcB b).st = .turnRx → (s.rfcB b).needHop = false → s.rfc.cmd = none →
      ∃ u : State, exec (.turnRxDone b) s = .next u ∧ ((u.rfcB b).st = .rx ∨ (u.rfcB b).st = .ready) ∧
        (u.rfcB b).locked = (s.rfcB b).hopTo))

/-- The receive window that opens first of those not open and not over opens for its neighbour and its slot, beside those that are open;
the one whose entry ends first closes. The receive chains stream 24 µs after they start, and a calibration of RFC_CALCMD that waits for
the band goes on then (R88, R90, R91, R206, R207). A contact that does not come is missed: the third in a row puts its link into
RECOVERY; an acknowledgement that does not come counts in ACKMISS and ends its attempt; listening that hears nothing loses the link
(R168, R173, R186, R207). -/
def Obligations.WindowsAndContacts : Prop :=
  (∀ (b : Band) (s : State),
    (∀ w, s.walking b = true → s.tclkOn = true → s.nextWindow b = some w →
      ∃ (u : State) (x : OpenWin), exec (.rxWindowOpen b) s = .next u ∧ (u.shpB b).wins = (s.shpB b).wins ++ [x] ∧ x.nb = w.nb ∧
        x.slot = w.slot ∧ x.te = w.te ∧ x.guard = w.guard ∧ x.stop = w.stop ∧ x.seen = false) ∧
    (∀ w, firstBy (·.stop) (s.shpB b).wins = some w → (s.macB b).exch = none →
      ∃ u : State, exec (.rxWindowClose b) s = .next u ∧ (u.shpB b).wins = (s.shpB b).wins.filter (fun x => x.stop != w.stop)) ∧
    ((s.rfcB b).opening = true →
      (s.rfc.cmd = none → ∃ u : State, exec (.rxChainReady b) s = .next u ∧ (u.rfcB b).st = .rx ∧ (u.rfcB b).opening = false) ∧
      (∀ c k l, s.rfc.cmd = some c → c.band = b → c.op ≠ 2 ∨ c.begun = true → c.left = k :: l → (s.rfcB b).cal = none → (s.macB b).daa = none →
        ∃ u : State, exec (.rxChainReady b) s = .next u ∧ (u.rfcB b).st = .cal ∧
          (u.rfcB b).cal = some { entry := k, auto := false, prev := s.rfc.cal b k }))) ∧
  (∀ (b : Band) (s : State),
    (∀ w, firstBy (fun w => merAdd w.te w.guard)
        ((s.shpB b).wins.filter (fun w => w.contact && !w.seen && !w.judged && !s.heard w)) = some w → (s.nbr w.nb).valid = true →
      (s.nbr w.nb).link = .normal → (s.nbr w.nb).missed < 255 →
      ∃ u : State, exec (.contactMiss b) s = .next u ∧ (u.nbr w.nb).missed = (s.nbr w.nb).missed + 1 ∧
        (u.nbr w.nb).link = (if 3 ≤ (s.nbr w.nb).missed + 1 then .recovery else .normal)) ∧
    (∀ a, (s.macB b).att = some a → a.waiting = true → a.seen = false → (s.nbr a.nb).link = .normal →
      ∃ u : State, exec (.ackTimeout b) s = .next u ∧ (u.macB b).att = none ∧
        u.rd (MAC_CNT0_ACKMISS b) = min (s.rd (MAC_CNT0_ACKMISS b) + 1) 65535) ∧
    (∀ nb x, s.listening = some nb → (s.macB .sg).listen = some x → (s.macB .g24).listen = none →
      ∃ u : State, exec .listenTimeout s = .next u ∧ (u.nbr nb).link = .lost ∧ (u.macB .sg).listen = none))

/-- An enqueue that no check refuses queues its frame at the tail with STATUS PENDING and charges its policer; a refused one writes its
status to the descriptor and to ENQRES and queues nothing; a policer's tokens never stand above a BURST written (R198, R211 to R213,
R220, R221). -/
def Obligations.EnqueueAndPolicers : Prop :=
  (∀ (m : Master) (b : Band) (q : Fin 8) (v : Word) (s : State), s.barred m 11 = false → let x := s.enqStatus b q.val v
    (x.1 = stOK → ∃ u : State, exec (.enqueue m b q v) s = .next u ∧ u.rd (SHP_ENQRES_STATUS (s.code m)) = stOK ∧
      ∃ f, (u.shpB b).frames = (s.shpB b).frames ++ [f] ∧ f.desc = enqDesc v ∧ f.queue = q.val ∧ f.n = s.count b (s.desc (enqDesc v))) ∧
    (x.1 ≠ stOK → ∃ u : State, exec (.enqueue m b q v) s = .next u ∧ u.rd (SHP_ENQRES_STATUS (s.code m)) = x.1 ∧
      u.shp.bands = s.shp.bands ∧ u.sram = (s.sramWrite (enqDesc v + 24) [BitVec.ofNat 8 x.1]).sram)) ∧
  (∀ (k : Fin 16) (s : State), ∃ u : State, exec (.enqresRead k) s = .next u ∧
    (SHP_ENQRES_STATUS k.val).of u.busData = s.rd (SHP_ENQRES_STATUS k.val) ∧ u.regs = s.regs) ∧
  (∀ (p : Fin 64) (v : Word) (s : State),
    (∃ u : State, exec (.policerCfgWrite p true v) s = .next u ∧ u.rd (SHP_POL_BURST_BURST p.val) = v.toNat % 2 ^ 24 ∧
      u.rd (SHP_POL_TOK_TOKENS p.val) = min (s.rd (SHP_POL_TOK_TOKENS p.val)) (v.toNat % 2 ^ 24)) ∧
    (∃ u : State, exec (.policerCfgWrite p false v) s = .next u ∧ u.rd (SHP_POL_CFG_RATE p.val) = v.toNat % 65536 ∧
      (s.rdB (SHP_POL_CFG_EN p.val) = false → v.getLsbD 31 = true → u.rd (SHP_POL_TOK_TOKENS p.val) = s.rd (SHP_POL_BURST_BURST p.val))))

/-- The occurrence of a Chart that fills its period holds the time it is asked for (R199, R200). An occurrence enters service with its
entry, its start and its length, the one of the present time where none is in service, else the one after it once Meridian has reached
its end; a band that SHP no longer serves completes every frame with BAD_STATE and walks no Chart (R200, R222). -/
def Obligations.ChartWalk : Prop :=
  (∀ (c : Chart) (t : Nat), 0 < c.cycles → c.cycles ≤ 64 → (c.entries.map entDur).sum = c.cycles * 65536 → t < 2 ^ 48 →
    let o := c.at_ t
    o.start ≤ t ∧ t < o.start + o.len ∧ o.start + o.len ≤ 2 ^ 48 ∧ o.entry < c.entries.length ∧ o.len ≤ entDur (c.word o.entry)) ∧
  (∀ (b : Band) (s : State),
    (s.walking b = true → s.tclkOn = true → (s.shpB b).occ = none → ∃ (u : State) (o : Occ), exec (.entryStart b) s = .next u ∧
      (u.shpB b).occ = some o ∧ o.start = (s.here b).start ∧ o.entry = (s.here b).entry ∧ o.len = (s.here b).len ∧
      u.rd (SHP_CHPOS_ENTRY b) = (s.here b).entry % 256) ∧
    (∀ old : Occ, s.walking b = true → s.tclkOn = true → (s.shpB b).occ = some old → let v := s.advanceMer (merAdd old.start old.len)
      merAfter (v.here b).start old.start = true → ∃ (u : State) (o : Occ), exec (.entryStart b) s = .next u ∧
        (u.shpB b).occ = some o ∧ o.start = (v.here b).start ∧ o.entry = (v.here b).entry ∧ o.len = (v.here b).len ∧
        u.rd (SHP_CHPOS_ENTRY b) = (v.here b).entry % 256 ∧ u.mer.time = v.mer.time) ∧
    (∃ u : State, exec (.shpBandDisable b) s = .next u ∧ u.rd (shpEn b) = 0 ∧ (u.shpB b).frames = [] ∧ (u.shpB b).occ = none ∧
      (u.shpB b).share = none ∧ (u.shpB b).wins = [] ∧ (u.macB b).att = none))

/-! ### Mesh firmware (07_mesh_roles_and_startup.md) -/

/-- The joiner: the scan ends with the best candidate, or begins anew; the request goes out at its position and is awaited; an attempt
that times out counts, and after the third a leaf that rejoins sleeps again; a rescan, and a leaf's search that heard nothing, end
(R236, R237, R239, R243, R244, R246, R252). A JOIN_RSP for this device with a right TAG, the first that it acts on: OK, when its keys
unwrap, gives it its address, its rank and its parent, towards which it pre-corrects; DENIED makes it wait and is reported to the host
(log entry 94); BUSY and BAD_STATE fail the attempt and take the candidate out of the scan; one with a wrong TAG, or one after it,
changes nothing but that the firmware has seen it (R103, R239, R243, R244). -/
def Obligations.JoinerSteps : Prop :=
  (∀ s : State, s.tclkOn = true →
    (s.mesh.phase = .scan →
      (∀ c, bestCand (s.mesh.cands.filter s.mesh.qualifies) = some c → ∃ t : State, exec .joinScanEnd s = .next t ∧
        t.mesh.phase = .position ∧ t.mesh.chosen = some c.short ∧ t.mesh.joinAt = joinInstant c s.mesh.attempt t.mer.tstamp) ∧
      (bestCand (s.mesh.cands.filter s.mesh.qualifies) = none → ∃ t : State, exec .joinScanEnd s = .next t ∧ t.mesh.phase = .listen ∧
        t.mesh.cands = [] ∧ t.mesh.chosen = none)) ∧
    (∀ (b : Band) (tx : FwTx), s.mesh.phase = .position → ∃ u t : State, exec (.joinReqSend b tx) s = .next t ∧
      u.mesh = { s.mesh with phase := .waiting, rspDone := false, since := merCycle u.mer.now } ∧ t.mesh = u.mesh ∧
      t = u.fwSend 2 b 6 { broadcast := true, sec := false, nb := 0, keyslot := 0,
                           bytes := s.fwHeader 3 0xFFFF false false ++ s.joinReq } tx) ∧
    (s.mesh.phase = .waiting → ∃ t : State, exec .joinAttemptTimeout s = .next t ∧ t.mesh.attempt = (s.mesh.attempt + 1) % 256 ∧
      t.mesh.fails = s.mesh.fails + 1 ∧ t.mesh.tried.length ≤ s.mesh.tried.length ∧
      (s.isLeaf = true → s.mesh.rejoin = true → s.mesh.fails = 2 → t.mesh.phase = .asleep) ∧ t.mesh.phase ≠ .waiting) ∧
    (s.mesh.phase = .denied → ∃ t : State, exec .joinRescanTimeout s = .next t ∧ t.mesh.phase = .listen ∧ t.mesh.cands = [] ∧
      t.mesh.tried = []) ∧
    (s.isLeaf = true → s.mesh.phase = .listen → s.mesh.heard = false → ¬(s.mesh.rejoin = true ∧ s.mesh.fails < 3) →
      ∃ t : State, exec .leafSearchListenEnd s = .next t ∧ t.mesh = { s.mesh with phase := .asleep } ∧
        RTC_ALMCFG_MODE.of t.rtc.almCfg = 2 ∧ RTC_ALMCFG_PERIOD.of t.rtc.almCfg = 655360)) ∧
  (∀ (rsp : List Byte) (nb : Fin 256) (s : State), (s.mesh.phase = .position → s.mesh.rspDone = true →
      exec (.joinRsp rsp nb) s = .next (s.acted rsp)) ∧
    (s.mesh.phase = .waiting ∨ s.mesh.phase = .position ∧ s.mesh.rspDone = false → rsp.length = 71 → bytesAt rsp 0 1 = 0x11 →
    bytesAt rsp 1 8 = ownEui →
    (joinTag s.ownJoinKey (rsp.take 63) ≠ rsp.drop 63 → exec (.joinRsp rsp nb) s = .next (s.acted rsp)) ∧
    (joinTag s.ownJoinKey (rsp.take 63) = rsp.drop 63 →
      (bytesAt rsp 9 1 = stOK → ((s.acted rsp).joinUnwrap rsp).2.1 ≠ stOK →
        exec (.joinRsp rsp nb) s = .next ((s.acted rsp).joinUnwrap rsp).1) ∧
      (bytesAt rsp 9 1 = stOK → ((s.acted rsp).joinUnwrap rsp).2.1 = stOK →
        ∃ t : State, exec (.joinRsp rsp nb) s = .next t ∧ t.mesh.phase = .joined ∧ t.mesh.rank = bytesAt rsp 12 1 ∧
          t.mesh.fails = 0 ∧ t.mesh.rejoin = false ∧ t.rd MAC_ADDR_SHORT = bytesAt rsp 10 2 ∧ (t.nbr nb.val).valid = true ∧
          (t.nbr nb.val).parent = true ∧ (t.nbr nb.val).eui = bytesAt rsp 15 8 ∧ (t.nbr nb.val).short = bytesAt rsp 13 2 ∧
          (t.offset nb.val).corr = true) ∧
      (bytesAt rsp 9 1 = stDenied → ∃ t : State, exec (.joinRsp rsp nb) s = .next t ∧ t.mesh.phase = .denied ∧
        t.mesh.since = merCycle s.mer.now ∧ t.rd HIF_EVPEND_FABRIC = 1 ∧
        ∀ a, a ≠ HIF_EVPEND_FABRIC.addr → regGet t.regs a = regGet s.regs a) ∧
      (∀ c, bytesAt rsp 9 1 = stBusy ∨ bytesAt rsp 9 1 = stBadState → s.mesh.chosen = some c → s.mesh.rejoin = false →
        ∃ t : State, exec (.joinRsp rsp nb) s = .next t ∧ t.mesh.attempt = (s.mesh.attempt + 1) % 256 ∧ t.mesh.chosen ≠ some c ∧
          (t.mesh.phase = .position → c ∈ t.mesh.tried)))))

/-- The manager discards a JOIN_REQ without a key or with a wrong TAG, repeats the answer of an attempt that it answered within 256
cycles, and answers any other as R241 decides, with a new member record on OK alone, which needs the mesh keys (log entry 116); a parent
that relays an OK takes the child (R229, R241, R242). -/
def Obligations.ManagerJoins : Prop :=
  (∀ (b : Band) (req : List Byte) (path : List (BitVec 16)) (nb : Fin 256) (tx : FwTx) (s : State), s.isManager = true →
    let eui := bytesAt req 1 8
    let att := bytesAt req 12 1
    let now := merCycle s.mer.now
    let ps := path.map (·.toNat)
    (s.mesh.joinKeys.lookup eui = none → ∃ t : State, exec (.joinReq b req path nb tx) s = .next t ∧
      t = { s.acted req with mesh := { (s.acted req).mesh with discarded := s.mesh.discarded + 1 } }) ∧
    (∀ key, s.mesh.joinKeys.lookup eui = some key →
      (req.length ≠ 23 ∨ joinTag key (req.take 15) ≠ req.drop 15 → ∃ t : State, exec (.joinReq b req path nb tx) s = .next t ∧
        t = { s.acted req with mesh := { (s.acted req).mesh with discarded := s.mesh.discarded + 1 } }) ∧
      (req.length = 23 → joinTag key (req.take 15) = req.drop 15 →
        (∀ x, s.mesh.answered.find? (fun x => x.1 == eui && x.2.1 == att && decide ((now + 2 ^ 32 - x.2.2.1) % 2 ^ 32 ≤ 256)) = some x →
          exec (.joinReq b req path nb tx) s = .next ((s.acted req).answer b ps x.2.2.2 tx)) ∧
        (s.mesh.answered.find? (fun x => x.1 == eui && x.2.1 == att && decide ((now + 2 ^ 32 - x.2.2.1) % 2 ^ 32 ≤ 256)) = none →
          let res := s.mesh.joinResult eui (bytesAt req 9 2)
          (res = stOK → s.meshKeys = none → exec (.joinReq b req path nb tx) s = .next (s.acted req).wrapRefused) ∧
          (res ≠ stOK ∨ s.meshKeys.isSome = true → ∃ (t : State) (rsp : List Byte), exec (.joinReq b req path nb tx) s = .next t ∧ (eui, att, now, rsp) ∈ t.mesh.answered ∧
            bytesAt rsp 9 1 = res ∧ t.mesh.discarded = s.mesh.discarded ∧
            (res ≠ stOK → t.mesh.members = s.mesh.members) ∧
            (res = stOK → ∃ x ∈ t.mesh.members, x.eui = eui ∧ x.parent = bytesAt req 9 2 ∧ x.detached = false ∧
              x.leaf = (bytesAt req 11 1 % 2 == 1) ∧ (bytesAt req 9 2 = 0 → (x.short, nb.val) ∈ t.mesh.children))))))) ∧
  (∀ (b : Band) (rsp : List Byte) (leaf : Bool) (nb : Fin 256) (tx : FwTx) (s : State), rsp.length = 71 → bytesAt rsp 0 1 = 0x11 →
    ∃ t : State, exec (.joinRspRelay b rsp leaf nb tx) s = .next t ∧
      (bytesAt rsp 9 1 = stOK → (bytesAt rsp 10 2, nb.val) ∈ t.mesh.children) ∧
      (bytesAt rsp 9 1 ≠ stOK → t.mesh = (s.acted rsp).mesh))

/-- The relay firmware: an upward FWD goes on to the parent with the own address added, or is discarded by a node already in PATH, and
the manager's mesh firmware takes it; a downward one goes to the node before in PATH, and the mesh firmware of the node at PATH[0] takes
it; a JOIN_REQ that names this router goes up; other identities of the mesh firmware go to the hand-over ring, and those of no one have
no effect; an owed command goes out (R227, R228, R238, R240). A beacon, a report that SHP takes, a LEAVE and an Assured request leave
their records, a map update its number, and a neighbour write its entry (R40, R140, R165, R234, R243, R249). The sequence number's 16
bits are the model's choice (log entry 95). A CHART_SET goes to the shadow set and leaves the Charts in service as they are, with its
swap cycle kept; at the cycle before, whole sets are committed and used up, and a set that is not whole, or of which a fragment is
missing, fails the swap and changes no Chart (R247, R248). That a fragment is missing which the items do not show is free (log entry
94). -/
def Obligations.MeshTraffic : Prop :=
  (∀ (b : Band) (nb : Fin 256) (flags : Byte) (tx : FwTx) (s : State),
    (∀ frame : List Byte, frame ≠ [] → let p := meshPayload frame
      (bytesAt p 0 1 = 0x12 → bytesAt p 1 1 = 0 →
        (s.isManager = true → exec (.fwd b nb ⟨flags, frame⟩ tx) s = .next (s.handOver nb flags frame)) ∧
        (s.isManager = false → 16 ≤ (fwdPath p).length ∨ (fwdPath p).contains (s.rd MAC_ADDR_SHORT) = true →
          exec (.fwd b nb ⟨flags, frame⟩ tx) s = .next s) ∧
        (∀ i, s.isManager = false → (fwdPath p).length < 16 → (fwdPath p).contains (s.rd MAC_ADDR_SHORT) = false →
          s.isDetached = false → s.parentIdx = some i → exec (.fwd b nb ⟨flags, frame⟩ tx) s =
            .next (s.sendFwd b (s.nbr i).short 0 (fwdPath p ++ [s.rd MAC_ADDR_SHORT]) (fwdCmd p) tx))) ∧
      (bytesAt p 0 1 = 0x12 → bytesAt p 1 1 ≠ 0 →
        ((fwdPath p).contains (s.rd MAC_ADDR_SHORT) = false → exec (.fwd b nb ⟨flags, frame⟩ tx) s = .next s) ∧
        (∀ r, fwdPath p = s.rd MAC_ADDR_SHORT :: r → exec (.fwd b nb ⟨flags, frame⟩ tx) s = .next (s.handOver nb flags frame)) ∧
        (∀ (l r : List Nat) (a : Nat), fwdPath p = l ++ a :: s.rd MAC_ADDR_SHORT :: r → s.rd MAC_ADDR_SHORT ∉ l ++ [a] →
          exec (.fwd b nb ⟨flags, frame⟩ tx) s = .next (s.sendFwd b a 1 (fwdPath p) (fwdCmd p) tx))) ∧
      (∀ i, bytesAt p 0 1 = 0x10 → bytesAt p 9 2 = s.rd MAC_ADDR_SHORT → s.isManager = false → s.isLeaf = false →
        s.isDetached = false → s.parentIdx = some i → exec (.fwd b nb ⟨flags, frame⟩ tx) s =
          .next (s.sendFwd b (s.nbr i).short 0 [s.rd MAC_ADDR_SHORT] p tx)) ∧
      (0x10 < bytesAt p 0 1 → bytesAt p 0 1 ≤ 0x3F → bytesAt p 0 1 ≠ 0x12 →
        exec (.fwd b nb ⟨flags, frame⟩ tx) s = .next (s.handOver nb flags frame)) ∧
      (bytesAt p 0 1 < 0x10 ∨ 0x3F < bytesAt p 0 1 → exec (.fwd b nb ⟨flags, frame⟩ tx) s = .next s)) ∧
    (∀ d r, s.isManager = false → s.mesh.owed = d :: r → ∃ t : State, exec (.fwd b nb ⟨flags, []⟩ tx) s = .next t ∧ t.mesh.owed = r)) ∧
  (∀ (b : Band) (nb : Fin 256) (tx : FwTx) (s : State),
    (s.mayBeacon = true → s.tclkOn = true → ¬(s.mesh.startup = true ∧ b = .g24) →
      ∃ t : State, exec (.beaconSend b tx) s = .next t ∧ t.mesh.beaconed = true ∧
        t.mesh.lastBeacon = some (s.nextBeacon b (beaconEntry (joinHash 0xFF))) ∧
        t.mesh.phase = (if s.mesh.phase = .joined then .operational else s.mesh.phase)) ∧
    (s.mayBeacon = false → exec (.beaconSend b tx) s = .next s) ∧
    (∀ which : List (Fin 256), s.isManager = false → s.mesh.phase = .operational → s.mesh.reportDue = true → s.tclkOn = true →
      (∀ c, s.mesh.reported = some c → 256 ≤ (merCycle s.mer.now + 2 ^ 32 - c) % 2 ^ 32) →
      (s.isDetached = true ∨ s.parentIdx = none → exec (.nbrReport b which tx) s = .next s) ∧
      (∀ i, s.isDetached = false → s.parentIdx = some i → let bytes := s.reportBytesOf which
        let u := s.sendFwd b (s.nbr i).short 0 [s.rd MAC_ADDR_SHORT] bytes tx
        ∃ t : State, exec (.nbrReport b which tx) s = .next t ∧ t.sram = u.sram ∧ t.regs = u.regs ∧ t.shp = u.shp ∧
          (u.rd (SHP_ENQRES_STATUS 2) ≠ stOK → t.mesh = s.mesh) ∧
          (u.rd (SHP_ENQRES_STATUS 2) = stOK → t.mesh.reported = some (merCycle s.mer.now) ∧ t.mesh.reportDue = false ∧
            (bytesAt bytes 1 1 ≠ 0 → t.mesh.swapFail = false)))) ∧
    (∀ (cmd : List Byte) (i : Nat), bytesAt cmd 0 1 = 0x13 → s.nbrOf (bytesAt cmd 1 8, true) = some i →
      s.mesh.children.any (fun c => c.2 == i) = true → ∃ t : State, exec (.leave cmd) s = .next t ∧ (t.nbr i).valid = false ∧
        (∀ c ∈ t.mesh.children, c.2 ≠ i) ∧ t.regs = s.regs) ∧
    (∀ (via : Band) (q : Fin 8) (m : List Nat), s.newMap nb b = some m → s.mayUpdate nb b = true → mapValid m = true →
      ∃ (t : State) (id : Nat), exec (.mapUpdateStart nb b via q tx) s = .next t ∧ id < 16 ∧
        t.mdm.updates.lookup (nb.val * 2 + b.idx) = some (merCycle s.mer.now, some id)) ∧
    (∀ (id : Nat) (ba bb : Band) (fa fb : FlowCopy) (tb : FwTx),
      ∃ t : State, exec (.assuredRequest id ba bb fa fb tx tb) s = .next t ∧
        (∀ x, s.mesh.srcs.find? (fun x => x.id == id) = some x → let hops := if s.isManager then (x.hopA, x.hopB) else (fa.hop, fb.hop)
          { id := x.id, seq := (x.seq + 1) % 65536, hopA := hops.1, hopB := hops.2 } ∈ t.mesh.srcs) ∧
        (s.mesh.srcs.find? (fun x => x.id == id) = none →
          { id := id, seq := 1, hopA := fa.hop, hopB := fb.hop } ∈ t.mesh.srcs) ∧
        (∀ y ∈ s.mesh.srcs, y.id ≠ id → y ∈ t.mesh.srcs)) ∧
    (∀ v : Word, let i := s.rd MAC_NBIDX_INDEX
      ∃ t : State, exec (.neighbourWrite v) s = .next t ∧ (t.nbr i).valid = v.getLsbD 31 ∧ (t.nbr i).parent = v.getLsbD 30 ∧
        (t.nbr i).cls = v.toNat / 2 ^ 28 % 4 ∧ (t.nbr i).key1 = v.toNat / 2 ^ 24 % 16 ∧ (t.nbr i).key0 = v.toNat / 2 ^ 20 % 16 ∧
        (t.nbr i).short = v.toNat % 65536 ∧ (t.nbr i).eui = (s.nbr i).euiNew ∧ ∀ k, k ≠ i → t.nbr k = s.nbr k)) ∧
  (∀ s : State,
    (∀ p : List Byte, 8 ≤ p.length → bytesAt p 0 1 = 0x15 → bytesAt p 2 1 + bytesAt p 3 1 ≤ 256 →
      ∃ t : State, exec (.chartSet p) s = .next t ∧ t.shp = s.shp ∧ t.mesh.swapCyc = bytesAt p 4 4 ∧
        (t.mesh.sets.get (ctlBand (bytesAt p 1 1))).swap = some (bytesAt p 4 4)) ∧
    (s.setsDue (s.mer.cyc % 2 ^ 32) ≠ [] →
      ∃ t : State, exec .chartSetCommit s = .next t ∧
        (∀ b ∈ s.setsDue (s.mer.cyc % 2 ^ 32), t.mesh.sets.get b = ChartSet.none) ∧
        ((s.setsDue (s.mer.cyc % 2 ^ 32)).all s.setWhole = true → s.took.commitShp.rd SHP_COMMIT_STATUS = stOK →
          if s.freeBelow 2 = 0 then t.shp = s.took.commitShp.shp ∧ t.regs = s.took.commitShp.regs
          else t.shp = s.shp ∧ t.regs = s.regs ∧ t.mesh.swapFail = true ∧ t.mesh.swapCyc = 0) ∧
        ((s.setsDue (s.mer.cyc % 2 ^ 32)).all s.setWhole = false →
          t.shp = s.shp ∧ t.regs = s.regs ∧ t.mesh.swapFail = true ∧ t.mesh.swapCyc = 0)) ∧
    (s.setsDue (s.mer.cyc % 2 ^ 32) = [] → exec .chartSetCommit s = .next s))

/-! ### Sounding and the luminaire (08_sounding.md, 09_luminaire_io.md) -/

/-- The zone detector by the table of R269, for a write of E2 with data of a new cycle to an enabled zone; any other write of E2 leaves
STATE and the counts alone, and a write of another master everything; a configuration is refused as R270 says or starts the counts anew.
At slot 2 the Sounding library closes the cycle before the present one, once, and writes the index of every enabled zone (R259, R264,
R268). -/
def Obligations.ZoneDetector : Prop :=
  (∀ (z : Fin 8) (v : Word) (s : State),
    let i := (SNS_SZ_IDX_INDEX z.val).of v
    let counts := s.rdB (SNS_SZ_CFG_EN z.val) = true ∧ (SNS_SZ_IDX_NODATA z.val).of v = 0 ∧
      (s.sns.fresh.getD z.val true = true ∨ s.rd (SNS_SZ_IDX_CYCLE z.val) ≠ (SNS_SZ_IDX_CYCLE z.val).of v)
    let a := s.rd (SNS_SZ_STAT_ABOVE z.val) + 1
    let h := s.rd (SNS_SZ_STAT_HELD z.val) + 1
    (∀ m : Master, isE2 m = false → exec (.zoneIndexWrite m z v) s = .next s) ∧
    (s.barred (.eng 2) 17 = false → ∃ t : State, exec (.zoneIndexWrite (.eng 2) z v) s = .next t ∧ t.rd (SNS_SZ_AGE_AGE z.val) = 0 ∧
      t.rd (SNS_SZ_IDX_CYCLE z.val) = (SNS_SZ_IDX_CYCLE z.val).of v ∧
      (¬ counts → t.rd (SNS_SZ_STAT_STATE z.val) = s.rd (SNS_SZ_STAT_STATE z.val) ∧
        t.rd (SNS_SZ_STAT_ABOVE z.val) = s.rd (SNS_SZ_STAT_ABOVE z.val) ∧ t.rd (SNS_SZ_STAT_HELD z.val) = s.rd (SNS_SZ_STAT_HELD z.val)) ∧
      (counts → s.rd (SNS_SZ_STAT_STATE z.val) = 0 →
        (s.rd (SNS_SZ_CFG_ON z.val) ≤ i → s.rd (SNS_SZ_CFG_ONCNT z.val) ≤ a → t.rd (SNS_SZ_STAT_STATE z.val) = 1 ∧
          t.rd (SNS_SZ_STAT_ABOVE z.val) = 0 ∧ t.rd (SNS_SZ_STAT_HELD z.val) = 0) ∧
        (s.rd (SNS_SZ_CFG_ON z.val) ≤ i → a < s.rd (SNS_SZ_CFG_ONCNT z.val) → t.rd (SNS_SZ_STAT_STATE z.val) = 0 ∧
          t.rd (SNS_SZ_STAT_ABOVE z.val) = a) ∧
        (i < s.rd (SNS_SZ_CFG_ON z.val) → t.rd (SNS_SZ_STAT_STATE z.val) = 0 ∧ t.rd (SNS_SZ_STAT_ABOVE z.val) = 0)) ∧
      (counts → s.rd (SNS_SZ_STAT_STATE z.val) = 1 →
        (i ≤ s.rd (SNS_SZ_CFG_OFF z.val) → s.rd (SNS_SZ_CFG_HOLD z.val) * 4 ≤ h → t.rd (SNS_SZ_STAT_STATE z.val) = 0 ∧
          t.rd (SNS_SZ_STAT_HELD z.val) = 0) ∧
        (i ≤ s.rd (SNS_SZ_CFG_OFF z.val) → h < s.rd (SNS_SZ_CFG_HOLD z.val) * 4 → t.rd (SNS_SZ_STAT_STATE z.val) = 1 ∧
          t.rd (SNS_SZ_STAT_HELD z.val) = h) ∧
        (s.rd (SNS_SZ_CFG_OFF z.val) < i → t.rd (SNS_SZ_STAT_STATE z.val) = 1 ∧ t.rd (SNS_SZ_STAT_HELD z.val) = 0))) ∧
    (let bad := ((SNS_SZ_CFG_EN z.val).of v = 1 ∧ (SNS_SZ_CFG_ONCNT z.val).of v = 0) ∨
        (SNS_SZ_CFG_ON z.val).of v ≤ (SNS_SZ_CFG_OFF z.val).of v;
      (bad → ∃ t : State, exec (.zoneCfgWrite z v) s = .next t ∧ t.rd SNS_SZSUM_CFGERR = 1 ∧
        regGet t.regs (SNS_SZ_CFG_EN z.val).addr = regGet s.regs (SNS_SZ_CFG_EN z.val).addr) ∧
      (¬ bad → ∃ t : State, exec (.zoneCfgWrite z v) s = .next t ∧ regGet t.regs (SNS_SZ_CFG_EN z.val).addr = v ∧
        t.rd (SNS_SZ_STAT_ABOVE z.val) = 0 ∧ t.rd (SNS_SZ_STAT_HELD z.val) = 0 ∧
        ((SNS_SZ_CFG_EN z.val).of v = 0 → t.rd (SNS_SZ_STAT_STATE z.val) = 0)))) ∧
  (∀ (done : Nat) (s : State), s.snd.started = true → s.tclkOn = true → s.start = .none →
    let c := (merCycle s.mer.now + 2 ^ 32 - 1) % 2 ^ 32
    (s.snd.closed ≠ some c → ∃ t : State, exec (.cycleClose done) s = .next t ∧ t.snd.closed = some c ∧
      ∀ z : Fin 8, s.rdB (SNS_SZ_CFG_EN z.val) = true → t.rd (SNS_SZ_AGE_AGE z.val) = 0) ∧
    (s.snd.closed = some c → ∃ t : State, exec (.cycleClose done) s = .next t ∧ t.snd = s.snd ∧ t.sram = s.sram))

/-- Photodiodes, the PIR filter, dimming outputs and pins: what a conversion (its quotient down or up, log entry 58), the first and a
later sample, a period start, an inactive edge, SET, CLR and an edge leave (R277 to R280, R282 to R284, R288). -/
def Obligations.Luminaire : Prop :=
  ∀ s : State,
    (∀ (k : Fin 2) (charge len : Nat), s.tclkOn = true →
      ((∃ t0, (s.pd k.val).ended = [] ∧ (s.pd k.val).start = some t0 ∧ s.rd (SNS_PD_CFG_INT k.val) = 3 ∧ len = 400000) ∨
        (∃ r, (s.pd k.val).ended = len :: r ∧ 400000 ≤ len)) →
      let tooMuch := decide (1600000000 * len < charge)
      let hi := 2 * s.rd (SNS_PD_THR_HI k.val) + 1
      ∃ (t : State) (d : Nat), exec (.pdConversion k charge) s = .next t ∧ t.rd (SNS_PD_DATA_DATA k.val) = d ∧
        d = (if tooMuch then 1600000000 else if charge % len = 0 then charge / len else d) ∧
        (tooMuch = false → charge / len ≤ d ∧ d ≤ charge / len + 1) ∧
        t.rd (SNS_PD_CFG_OVER k.val) = b2n tooMuch ∧ t.rd (SNS_PD_THR_UNDER k.val) = b2n (decide (charge < 1600 * len)) ∧
        (s.rd (SNS_PD_THR_LO k.val) < hi → t.rd (SNS_PD_CFG_LEVEL k.val) = (if hi ≤ d / 65536 then 1
          else if d / 65536 ≤ s.rd (SNS_PD_THR_LO k.val) then 0 else s.rd (SNS_PD_CFG_LEVEL k.val)))) ∧
    (∀ (k : Fin 2) (charge len : Nat) (r : List Nat), s.tclkOn = true → (s.pd k.val).ended = len :: r → len < 400000 →
      exec (.pdConversion k charge) s = .next (s.putPd k.val { s.pd k.val with ended := r })) ∧
    (∀ x : BitVec 16, s.tclkOn = true → s.rdB SNS_PIR_CFG_EN = true →
      (s.sns.pirM = none → ∃ t : State, exec (.pirSample x) s = .next t ∧ t.sns.pirM = some (x.toInt * 65536) ∧ t.rd SNS_PIR_DATA_Y = 0 ∧
        t.sns.silent = 4 * 2 ^ s.rd SNS_PIR_CFG_HPF - 1) ∧
      (∀ m : Int, s.sns.pirM = some m → ∃ (t : State) (up : Nat), exec (.pirSample x) s = .next t ∧ up ≤ 1 ∧
        t.sns.pirM = some (m + (x.toInt * 65536 - m) / 2 ^ s.rd SNS_PIR_CFG_HPF + (up : Int)))) ∧
    (∀ (n : Fin 4) (t0 : Nat), s.tclkOn = true → s.sns.pwms.length = 4 → (s.pwm n.val).mode = 1 → (s.pwm n.val).start = some t0 →
      let p := s.pwm n.val
      let q := s.pwmAdopt n.val p
      let d := match p.was with
        | some w => if w.1 = t0 + p.span then w.2 else s.rd (SNS_PWM_DUTY_DUTY n.val)
        | none => s.rd (SNS_PWM_DUTY_DUTY n.val)
      (q.mode = 1 → s.tclk ≤ t0 + p.span → ∃ t : State, exec (.pwmPeriodStart n) s = .next t ∧ t.tclk = t0 + p.span ∧
        t.pwm n.val = { q with duty := d, start := some (t0 + p.span), pin := q.level (d != 0) }) ∧
      (p.duty ≠ 0 → p.duty ≠ 0xFFFF → p.pin = p.level true → ∃ t : State, exec (.pwmInactiveEdge n) s = .next t ∧
        t.tclk = max s.tclk (t0 + p.duty * p.span / 65536) ∧ t.pwm n.val = { p with pin := p.level false })) ∧
    (∀ n : Fin 4, s.tclkOn = true → s.sns.pwms.length = 4 → (s.pwm n.val).mode = 2 → s.pwmAdopt n.val (s.pwm n.val) = s.pwm n.val →
      ∃ t : State, exec (.pwmPeriodStart n) s = .next t ∧
        (t.pwm n.val).start = some ((s.pwm n.val).alignedAt t.mer.now)) ∧
    (∀ n : Fin 4, (s.pwm n.val).mode = 0 → exec (.pwmPeriodStart n) s = .next s) ∧
    (∀ v : Word, (∃ t : State, exec (.gpioSet v) s = .next t ∧ t.rd SNS_GPIO_OUT_PINS = s.rd SNS_GPIO_OUT_PINS ||| v.toNat % 2 ^ 24) ∧
      ∃ t : State, exec (.gpioClr v) s = .next t ∧ t.rd SNS_GPIO_OUT_PINS = s.rd SNS_GPIO_OUT_PINS &&& (2 ^ 24 - 1 - v.toNat % 2 ^ 24)) ∧
    (∀ (k : Fin 2) (rising : Bool), s.tclkOn = true → let pin := s.rd (Machine.gpioPin k.val)
      pin < 24 → s.sns.levels.getD k.val false ≠ rising → s.rd SNS_GPIO_DIR_PINS / 2 ^ pin % 2 = 0 → ∃ t : State, exec (.gpioEdge k rising) s = .next t ∧
        t.rd SNS_GPIO_IN_PINS / 2 ^ pin % 2 = b2n rising ∧ t.rd SNS_GPIO_OUT_PINS = s.rd SNS_GPIO_OUT_PINS ∧
        ∀ j, j ≠ pin → t.rd SNS_GPIO_IN_PINS / 2 ^ j % 2 = s.rd SNS_GPIO_IN_PINS / 2 ^ j % 2) ∧
    (∀ (k : Fin 2) (rising : Bool), s.sns.levels.getD k.val false = rising → exec (.gpioEdge k rising) s = .next s)

/-! ### Host interface (19_host_protocol.md) -/

/-- Every opcode of R500: a new request that nothing stops is carried out by its operation, and its reply, with the operation's status
and data, is sent on its interface and kept for a repeat, unless the operation itself has reset HIF (R482, R488, R491, R494, R499, R500,
R505). -/
def Obligations.HostRequests : Prop :=
  ∀ (i : Instr) (op : Nat) (h : Bool) (run : State → OpIn → Ans) (q : HostReq) (s : State),
    hostForm i = some (op, h, run, q) → s.Takes q →
    let u := s.received op h q
    let x := run u (reqInput q)
    ∃ t : State, exec i s = .next t ∧
      (x.1.hif.exec = u.hif.exec → x.1.hif.out = none → x.1.hif.ereqs = [] → x.2.1 < 256 → x.2.2.length ≤ 1024 →
      t.hif.out = some (q.spi, replyPacket (reqCode q op) q.seq x.2.1 x.2.2) ∧ t.hif.exec = none ∧
      t.hif.kept = some (reqKey q (reqCode q op), x.2.1, x.2.2.length) ∧ t.hif.after = x.1.hif.after ∧ t.hif.long = x.1.hif.long ∧
      t.hif.nonce = x.1.hif.nonce ∧ t.flc = x.1.flc ∧ t.cip = x.1.cip ∧ t.rtc = x.1.rtc ∧ t.mer = x.1.mer ∧ t.rfc = x.1.rfc ∧
      t.mdm = x.1.mdm ∧ t.mac = x.1.mac ∧ t.shp = x.1.shp ∧ t.sns = x.1.sns ∧ t.svr = x.1.svr ∧ t.snd = x.1.snd ∧ t.mesh = x.1.mesh ∧
      t.fw = x.1.fw ∧ t.flt = x.1.flt ∧ t.tst = x.1.tst ∧ t.engs = x.1.engs ∧ t.shadow = x.1.shadow)

/-- What some requests of R500 answer and do: ECHO gives its payload back; DP_WRITE and DP_READ move bytes of the window; DBELL rings;
EVENTS reads and clears HIF_EVPEND; LOCK and a right UNLOCK change the level, a wrong tag counts (R498 to R503). -/
def Obligations.HostOperations : Prop :=
  ∀ (q : HostReq) (s : State), s.Takes q →
    (q.expert = false → q.payload.length ≤ 64 →
      Answers (.echo q) s q 0x01 (if q.payload = [] then stOkEmpty else stOK) q.payload (fun t => t.hif.after = s.hif.after ∧ t.flc = s.flc)) ∧
    (∀ (off : Nat) (d : List Byte), q.expert = false → q.payload = [0] ++ natLE 2 off ++ d → d ≠ [] → off + d.length ≤ 65536 → off < 65536 →
      let a := s.rd HIF_DPBASE_BASE * 65536 + off
      a + d.length ≤ s.reqBuf ∨ s.reqBuf + 4096 ≤ a →
      Answers (.dpWrite q) s q 0x04 stOK (natLE 2 d.length) (fun t => t.sramBytes a d.length = d)) ∧
    (∀ off n : Nat, q.expert = false → q.payload = [0] ++ natLE 2 off ++ natLE 2 n → 0 < n → n ≤ 1024 → off + n ≤ 65536 → off < 65536 →
      let a := s.rd HIF_DPBASE_BASE * 65536 + off
      a + n ≤ s.reqBuf ∨ s.reqBuf + 4096 ≤ a →
      Answers (.dpRead q) s q 0x03 stOK (s.sramBytes a n) (fun t => t.sramBytes a n = s.sramBytes a n)) ∧
    (∀ e bits : Byte, q.expert = false → q.payload = [e, bits] → 3 ≤ e.toNat → e.toNat ≤ 11 → let k := s.leader e.toNat
      Answers (.dbell q) s q 0x05 stOK [] (fun t => t.rd (ENG_PEND_IPEND k) = s.rd (ENG_PEND_IPEND k) ||| bits.toNat)) ∧
    (q.expert = false → q.payload = [] →
      Answers (.events q) s q 0x06 stOK (s.vb HIF_EVPEND_READY.addr) (fun t => regGet t.regs HIF_EVPEND_READY.addr = 0)) ∧
    (q.payload = [] → Answers (.lock q) s q 0x0F stOK [] (fun t => t.expert = false)) ∧
    (q.payload = [] → s.rdB HIF_EXPERT_KEYSET = false → Answers (.unlock q) s q 0x0E stOK [] (fun t => t.expert = true)) ∧
    (∀ (n : List Byte) (t0 : Nat), s.rdB HIF_EXPERT_KEYSET = true → q.payload.length = 8 → s.hif.barred = none →
      s.hif.nonce = some (n, t0) → s.fltNow ≤ t0 + 4000000000 →
      (q.payload = unlockTag (s.fw.expertKey.getD []) n →
        Answers (.unlock q) s q 0x0E stOK [] (fun t => t.expert = true ∧ t.rd HIF_EXPERT_FAILS = 0 ∧ t.hif.nonce = none)) ∧
      (q.payload ≠ unlockTag (s.fw.expertKey.getD []) n →
        Answers (.unlock q) s q 0x0E stDenied [] (fun t => t.expert = s.expert ∧ t.hif.nonce = none ∧
          t.rd HIF_EXPERT_FAILS = min 255 (s.rd HIF_EXPERT_FAILS + 1))))

/-- Packets that are not carried out: one that R490 discards is counted, without a reply; an opcode that is not assigned, or an expert
one while locked, reads BAD_OPCODE; another request meanwhile reads BUSY; a repeat gets the kept reply again, and another request with
its SEQ reads BAD_STATE (R490, R491, R494, R497, R500). -/
def Obligations.HostPackets : Prop :=
  ∀ (i : Instr) (op : Nat) (h : Bool) (run : State → OpIn → Ans) (q : HostReq) (s : State),
    s.hifHears q.spi = true → s.pwr.entering = false → s.hif.out = none →
    (∀ len : BitVec 16, ∃ t : State, exec (.packetCrcError q.spi len) s = .next t ∧ t.hif = s.hif ∧
      t.rd HIF_CNT0_LENERR = (if 1024 < len.toNat then min (s.rd HIF_CNT0_LENERR + 1) 65535 else s.rd HIF_CNT0_LENERR) ∧
      t.rd HIF_CNT0_CRCERR = (if 1024 < len.toNat then s.rd HIF_CNT0_CRCERR else min (s.rd HIF_CNT0_CRCERR + 1) 65535)) ∧
    (s.rd HIF_CFG_GAP ≠ 0 → ∃ t : State, exec (.packetGapTimeout q.spi) s = .next t ∧ t.hif = s.hif ∧
      t.rd HIF_CNT1_GAPERR = min (s.rd HIF_CNT1_GAPERR + 1) 65535) ∧
    (∀ k : BitVec 7, q.payload.length ≤ 1024 → assignedOps.contains k.toNat = false → s.hif.exec = none → s.hif.kept = none →
      Answers (.unassignedOpcode k q) s q k.toNat stBadOpcode [] (fun t => t.hif.kept = none ∧ t.engs = s.engs)) ∧
    (hostForm i = some (op, h, run, q) → q.payload.length ≤ 1024 →
      (q.expert = true → s.expert = false → s.hif.exec = none → s.hif.kept = none →
        Answers i s q op stBadOpcode [] (fun t => t.hif.kept = none ∧ t.engs = s.engs)) ∧
      (∀ e, s.hif.exec = some e → e.same (reqKey q (reqCode q op)) = false → q.expert = false ∨ s.expert = true →
        ∃ t : State, exec i s = .next t ∧ t.hif.exec = some e ∧ t.hif.out = some (q.spi, replyPacket (reqCode q op) q.seq stBusy []) ∧
          t.rd HIF_CNT2_BUSYREP = min (s.rd HIF_CNT2_BUSYREP + 1) 65535) ∧
      (∀ e, s.hif.exec = some e → e.same (reqKey q (reqCode q op)) = true →
        ∃ t : State, exec i s = .next t ∧ t.hif.exec = some e ∧ t.hif.out = none ∧ t.sram = s.sram) ∧
      (∀ e st n, s.hif.exec = none → s.hif.kept = some (e, st, n) → e.same (reqKey q (reqCode q op)) = true →
        ∃ t : State, exec i s = .next t ∧ t.hif.exec = none ∧ t.sram = s.sram ∧
          t.hif.out = some (q.spi, replyPacket e.opcode e.seq st (s.sramBytes s.repBuf n)) ∧
          t.rd HIF_CNT1_REPEAT = min (s.rd HIF_CNT1_REPEAT + 1) 65535) ∧
      (∀ e st n, s.hif.exec = none → s.hif.kept = some (e, st, n) → e.same (reqKey q (reqCode q op)) = false → e.seq = q.seq →
        q.expert = false ∨ s.expert = true → Answers i s q op stBadState [] (fun t => t.sram = s.sram ∧ t.hif.kept = s.hif.kept)))

/-- Around a reply: it is sent, a RESET follows it, a trial rate that no request confirms and an idle unlock lapse; E2's reply is framed
and sent; a long request that has ended keeps its result and sets LONGDONE (R486, R492, R493, R499, R500, R506). An engine's request at
HIF_EREQ: one that no check refuses is carried out as the host's is, its reply stands over the request, HIF_ERES shows it and IPEND bit
6 tells it; a refused one reads its status, and one beside an unanswered one BUSY (R306, R492, R500, R504). -/
def Obligations.HostReplies : Prop :=
  (∀ s : State, s.tclkOn = true →
    (s.hif.out.isSome = true → s.hif.after = none → s.tst.run = none → ∃ t : State, exec .replyShiftedOut s = .next t ∧ t.hif.out = none ∧
      t.rd HIF_STAT_REPWAIT = 0 ∧ t.sram = s.sram) ∧
    (∀ cold, s.hif.after = some (.reset cold) → ∃ t : State, exec .resetAfterReply s = .next t ∧ t.start = .clocks ∧
      t.rd SYS_RSTCAUSE_CAUSE = 8) ∧
    (∀ d t0, s.hif.oldBaud = some (d, t0) → ∃ t : State, exec .baudRevert s = .next t ∧ t.hif.oldBaud = none ∧
      t.rd HIF_UARTDIV_DIV = d % 65536) ∧
    (s.expert = true → s.rd HIF_EXPERT_TMO ≠ 0 → ∃ t : State, exec .unlockTimeout s = .next t ∧ t.expert = false ∧
      t.rd HIF_EVPEND_LOCKED = 1) ∧
    (∀ (m : Master) (v : Word) (e : HostExec), isE2 m = true → s.barred m 13 = false → HIF_REPLY_GO.of v = 1 → HIF_REPLY_LEN.of v ≤ 1024 → s.hif.exec = some e →
      s.hif.out = none → s.hif.ereqs = [] → let d := s.sramBytes s.repBuf (HIF_REPLY_LEN.of v)
      ∃ t : State, exec (.hifReplyGo m v) s = .next t ∧ t.hif.exec = none ∧ t.rd HIF_STAT_EXEC = 0 ∧ t.sram = s.sram ∧
        t.hif.out = some (e.spi, replyPacket e.opcode e.seq (HIF_REPLY_STATUS.of v) d) ∧
        t.hif.kept = some (e, HIF_REPLY_STATUS.of v, d.length)) ∧
    (∀ (ok : Bool) (l : LongReq) (r : Nat × List Byte), s.hif.long = some l → l.result = none → l.owner = 12 → l.job ≠ .update false →
      s.longResult l ok = some r → ∃ t : State, exec (.longDone ok) s = .next t ∧ t.hif.long = some { l with result := some r } ∧
        t.rd HIF_STAT_LONG = 0 ∧ t.rd HIF_EVPEND_LONGDONE = 1)) ∧
  (∀ (e : Fin 12) (v : Word) (env : ReqEnv) (s : State), s.tclkOn = true → s.barred (.eng e) 13 = false → s.writesHeld e2 = false →
    s.hif.exec = none → s.hif.ereqs = [] → s.hif.after = none →
    let o := s.leader e.val
    let a := sramBase + 4 * HIF_EREQ_DESC.of v
    let op := s.sramNat (a + 1) 1
    let seq : Byte := BitVec.ofNat 8 (s.sramNat (a + 2) 1)
    let len := s.sramNat (a + 3) 2
    let st := s.ereqStatus op len
    let u : State := { (s.wr (HIF_ERES_DONE o) 0) with hif := { s.hif with eLast := o } }
    let x := u.safeFilter op (u.interpOp op { expert := false, owner := o, desc := a, seq := seq, p := s.sramBytes (a + 5) len, env := env })
    (s.hif.outstanding o = true → ∃ t : State, exec (.engineRequest (.eng e) v env) s = .next t ∧ t.rd (HIF_ERES_STATUS o) = stBusy ∧
      t.rd (HIF_ERES_DONE o) = 0 ∧ t.sram = s.sram) ∧
    (s.hif.outstanding o = false → st ≠ stOK → ∃ t : State, exec (.engineRequest (.eng e) v env) s = .next t ∧
      t.rd (HIF_ERES_STATUS o) = st ∧ t.rd (HIF_ERES_OPCODE o) = op ∧ t.rd (HIF_ERES_DONE o) = 1 ∧
      t.sram = (s.sramWrite a ((replyPacket op seq st []).take (0x10200000 - a))).sram) ∧
    (s.hif.outstanding o = false → st = stOK → x.2.1 ≠ stPending → x.2.1 < 256 → x.1.hif.exec = none → x.1.hif.ereqs = [] →
      x.1.hif.after = none → ∃ t : State, exec (.engineRequest (.eng e) v env) s = .next t ∧
        t.rd (HIF_ERES_STATUS o) = x.2.1 ∧ t.rd (HIF_ERES_OPCODE o) = op ∧ t.rd (HIF_ERES_DONE o) = 1 ∧
        t.rd (ENG_PEND_IPEND (x.1.leader o)) / 64 % 2 = 1 ∧
        t.sram = (x.1.sramWrite a ((replyPacket op seq x.2.1 x.2.2).take (0x10200000 - a))).sram))

/-! ### The Survey recorder and the link test (20_survey_recorder.md, 21_link_test.md) -/

/-- What E2 and the firmware do to the open sheet, and what SVR does with the areas: enable, close, FOUND, samples, the write of a
sheet, the erases and the clears (R509 to R512, R515 to R518, R520, R523). -/
def Obligations.SurveyCommands : Prop :=
  ∀ s : State, s.barred (.eng 2) 6 = false →
    (s.svr.sheet = none → s.dieFree = true → ∃ t : State, exec (.svrEnable (.eng 2)) s = .next t ∧ t.rd SVR_CFG_EN = 1 ∧
      t.rd SVR_STAT_SCANNED = 1 ∧ t.svr.sheet = some (s.rtc.cal, !s.svr.started)) ∧
    (∀ st r, s.svr.sheet = some (st, r) → s.svr.waiting.length < 2 → ∃ t : State, exec (.close (.eng 2)) s = .next t ∧
      t.svr.sheet = some (s.rtc.cal, false) ∧ t.rd SVR_SEQ_SEQ = (s.rd SVR_SEQ_SEQ + 1) % 2 ^ 32 ∧
      t.rd SVR_STAT_WAITING = s.svr.waiting.length + 1 ∧ ∃ x, t.svr.waiting = s.svr.waiting ++ [x] ∧ x.seq = s.rd SVR_SEQ_SEQ ∧
        x.bytes = s.sheetBytes st s.rtc.cal r s.goesFounding {} ∧ x.founding = s.goesFounding) ∧
    (∃ t : State, exec (.found (.eng 2)) s = .next t ∧ t.svr = { s.svr with found := true } ∧ t.regs = s.regs) ∧
    (∀ m : Master, isE2 m = false → exec (.close m) s = .next s ∧ exec (.found m) s = .next s ∧ exec (.clrroll m) s = .next s ∧
      exec (.clrfound m) s = .next s ∧ exec (.svrEnable m) s = .next s) ∧
    (∀ (k : Fin 24) (v : Word), s.svr.slots.length = 24 →
      (s.svrSlotOn k.val 1 = true → let raw := (SVR_M_SAMPLE_VALUE k.val).of v
        let sg := s.rd (SVR_M_CFG_SGN k.val) = 1
        let x : Int := if sg then sInt 16 raw else raw
        let lo : Int := if sg then sInt 16 (s.rd (SVR_M_BIN_LO k.val)) else s.rd (SVR_M_BIN_LO k.val)
        ∃ t : State, exec (.metricSample k v) s = .next t ∧ t.svr.slots.getD k.val .empty =
          (s.svr.slots.getD k.val .empty).sample (svrBin lo (s.rd (SVR_M_BIN_STEP k.val)) x) x)) ∧
    (∀ x r, s.svr.waiting = x :: r → s.dieFree = true → s.svr.clear = [] → s.svr.eraseWant = none →
      let w := s.svr.placeWord (s.svr.dest x).1 (s.svr.dest x).2
      s.flc.half.contains (w / 2048) = false → ∃ (t : State) (o : FlashOp), exec .sheetWrite s = .next t ∧ t.flc.op = some o ∧
        o.owner = 13 ∧ o.op = 1 ∧ o.data = x.bytes ∧ t.rd FLC_STAT_BUSY = 1 ∧
        t.svr.writing = some ((s.svr.dest x).1, (s.svr.dest x).2, x.seq)) ∧
    (∀ j, s.svr.clear = [] → s.svr.eraseWant = some j → s.svr.eraseStuck = false → s.dieFree = true → s.rdB SVR_STAT_RDLOCK = false →
      ∃ t : State, exec .rollingErase s = .next t ∧ t.svr.rheld = s.svr.rheld.filter (fun x => x.2 / 128 ≠ j)) ∧
    (∃ t : State, exec (.clrroll (.eng 2)) s = .next t ∧ t.rd SVR_STAT_CLEAR = 1 ∧
      t.svr.clear = s.svr.clear ++ [(false, s.svr.areaBlocks false)]) ∧
    (∃ t : State, exec (.clrfound (.eng 2)) s = .next t ∧ t.rd SVR_STAT_CLEAR = 1 ∧
      t.svr.clear = s.svr.clear ++ [(true, s.svr.areaBlocks true)])

/-- A write to SVR_MkADD adds its 8 BCD digits to VALUE and to DELTA of its counter slot; one that holds a digit above 9 is ignored and
sets SVR_STAT.BCDERR (R511). -/
def Obligations.MetricAddIsDecimal : Prop :=
  ∀ (k : Fin 24) (v : Word) (s : State), s.svr.slots.length = 24 → s.svrSlotOn k.val 8 = true →
    (bcdOk 8 v.toNat = true → ∃ t : State, exec (.metricAdd k v) s = .next t ∧ t.regs = s.regs ∧
      (t.svr.slots.getD k.val .empty).value = ((s.svr.slots.getD k.val .empty).value + bcdVal 8 v.toNat) % 10 ^ 16 ∧
      (t.svr.slots.getD k.val .empty).delta = ((s.svr.slots.getD k.val .empty).delta + bcdVal 8 v.toNat) % 10 ^ 16) ∧
    (bcdOk 8 v.toNat = false → ∃ t : State, exec (.metricAdd k v) s = .next t ∧ t.svr = s.svr ∧ t.rd SVR_STAT_BCDERR = 1)

/-- A START that no check refuses runs with cleared results, a refused one changes nothing but STATUS; STOP waits for the end of a unit;
a burst of the FLASH link is compared, counted and, at COUNT, ends the run with its RESULT; bytes of the UART, lost frames and fires
count; a silent host ends a HOST run (R524 to R532). -/
def Obligations.LinkTest : Prop :=
  ∀ (m : Master) (s : State),
    (s.barred m 15 = false → s.testStatus m = stOK → ∃ (t : State) (x : TestRun), exec (.start m) s = .next t ∧ t.tst.run = some x ∧ x.owner = s.code m ∧
      x.link = s.rd TST_CFG_LINK ∧ x.stop = false ∧ t.rd TST_STAT_STATUS = stPending ∧ t.rd TST_STAT_RUN = 1 ∧ t.rd TST_STAT_RESULT = 0 ∧
      t.rd TST_UNITS_UNITS = 0 ∧ t.rd TST_ERRS_ERRS = 0 ∧ t.rd TST_LOST_LOST = 0) ∧
    (s.barred m 15 = false → s.testStatus m ≠ stOK → s.testStatus m ≠ stOkEmpty → ∃ t : State, exec (.start m) s = .next t ∧ t.tst = s.tst ∧
      t.rd TST_STAT_STATUS = s.testStatus m ∧ ∀ a, a ≠ TST_STAT_STATUS.addr → regGet t.regs a = regGet s.regs a) ∧
    (∀ x, s.tst.run = some x →
      (∃ t : State, exec .stop s = .next t ∧ t.tst.run = some { x with stop := true } ∧ t.regs = s.regs) ∧
      (∀ rx : List Byte, s.tclkOn = true → x.link = 1 → x.ready = true → x.stop = false →
        let e := patBytes (s.rd TST_CFG_PAT) (s.rd TST_FIXED_WORD) false 32 x.chk
        let errs := min (s.rd TST_ERRS_ERRS + byteErrs e.1 rx) (2 ^ 32 - 1)
        (s.rd TST_UNITS_UNITS + 1 < s.rd TST_COUNT_COUNT → ∃ t : State, exec (.testUnit (.burst rx)) s = .next t ∧
          t.tst.run = some { x with chk := e.2, gen := e.2 } ∧ t.rd TST_ERRS_ERRS = errs ∧
          t.rd TST_UNITS_UNITS = s.rd TST_UNITS_UNITS + 1) ∧
        (s.rd TST_UNITS_UNITS + 1 = s.rd TST_COUNT_COUNT → s.tst.heldMdm = none → ∃ t : State,
          exec (.testUnit (.burst rx)) s = .next t ∧ t.tst.run = none ∧ t.rd TST_STAT_RUN = 0 ∧ t.rd TST_STAT_STATUS = stOK ∧
          t.rd FLC_STAT_BUSY = 0 ∧ t.rd TST_STAT_RESULT = (if errs ≤ s.rd TST_ERRMAX_MAX ∧ s.rd TST_LOST_LOST = 0 then 1 else 2))) ∧
      (∀ (rx : Byte) (ok : Bool), s.tclkOn = true → x.link = 3 → x.ready = true → x.stop = false →
        s.rd TST_UNITS_UNITS + 1 < s.rd TST_COUNT_COUNT →
        let e := patBytes (s.rd TST_CFG_PAT) (s.rd TST_FIXED_WORD) false 1 x.chk
        ∃ t : State, exec (.testUnit (.byte rx ok)) s = .next t ∧ t.rd TST_UNITS_UNITS = s.rd TST_UNITS_UNITS + 1 ∧
          t.rd TST_ERRS_ERRS = min (s.rd TST_ERRS_ERRS + (if ok then byteErrs e.1 [rx] else 8)) (2 ^ 32 - 1)) ∧
      (∀ a b : Byte, s.tclkOn = true → x.link = 2 → x.ready = true → x.stop = false → s.macOn s.testBand = false →
        s.rd TST_UNITS_UNITS + 1 < s.rd TST_COUNT_COUNT → ∃ t : State, exec (.testUnit (.frame none a b)) s = .next t ∧
          t.rd TST_UNITS_UNITS = s.rd TST_UNITS_UNITS + 1 ∧ t.rd TST_LOST_LOST = min (s.rd TST_LOST_LOST + 1) 65535) ∧
      (∀ sw : Bool, s.tclkOn = true → x.link = 4 → x.ready = true → x.stop = false →
        s.rd TST_UNITS_UNITS + 1 < s.rd TST_COUNT_COUNT → ∃ t : State, exec (.testUnit (.fire sw)) s = .next t ∧
          t.rd TST_UNITS_UNITS = s.rd TST_UNITS_UNITS + 1) ∧
      (x.link = 0 → x.ready = true → s.tst.heldMdm = none → ∃ t : State, exec .testGapTimeout s = .next t ∧ t.tst.run = none ∧
        t.rd TST_STAT_RESULT = 3 ∧ t.rd TST_STAT_RUN = 0))
end

