-- ==== Sys2Proof/Laws/Sparse.lean ====
section
/-!
SUPPORT. Laws of the sparse stores: a read after a write to the same place and to another, and the canonical form, which every
operation keeps.
-/
namespace Sys2Proof.Machine

variable {α : Type} [DecidableEq α] {d : Nat → α}

omit [DecidableEq α] in
@[simp] theorem spGet_nil (a : Nat) : spGet d [] a = d a := rfl

omit [DecidableEq α] in
theorem spGet_spErase_same (m : List (Nat × α)) (a : Nat) : spGet d (spErase a m) a = d a := by
  induction m with
  | nil => rfl
  | cons p r ih =>
    by_cases h : p.1 = a
    · simp [spErase, h, ih]
    · simp [spErase, h, spGet, ih]

omit [DecidableEq α] in
theorem spGet_spErase_other (m : List (Nat × α)) {a b : Nat} (h : b ≠ a) : spGet d (spErase a m) b = spGet d m b := by
  induction m with
  | nil => rfl
  | cons p r ih =>
    by_cases hp : p.1 = a
    · have hb : ¬ p.1 = b := fun e => h (e.symm.trans hp)
      simp [spErase, hp, spGet, ih, h.symm]
    · simp only [spErase, hp, if_false, spGet, ih]

omit [DecidableEq α] in
theorem spGet_spInsert_other (m : List (Nat × α)) {a b : Nat} (v : α) (h : b ≠ a) :
    spGet d (spInsert a v m) b = spGet d m b := by
  induction m with
  | nil => simp [spInsert, spGet, h.symm]
  | cons p r ih =>
    by_cases hl : a < p.1
    · simp [spInsert, hl, spGet, h.symm]
    · simp only [spInsert, hl, if_false, spGet, ih]

omit [DecidableEq α] in
theorem spGet_spInsert_same (m : List (Nat × α)) (a : Nat) (v : α) :
    spGet d (spInsert a v (spErase a m)) a = v := by
  induction m with
  | nil => simp [spErase, spInsert, spGet]
  | cons p r ih =>
    by_cases hp : p.1 = a
    · simpa [spErase, hp] using ih
    · by_cases hl : a < p.1 <;> simp [spErase, hp, spInsert, hl, spGet, ih]

/-- A read after a write to the same place gives the value written. -/
@[simp] theorem spGet_spSet_same (m : List (Nat × α)) (a : Nat) (v : α) : spGet d (spSet d m a v) a = v := by
  unfold spSet
  split
  · rename_i h
    rw [spGet_spErase_same, h]
  · exact spGet_spInsert_same m a v

/-- A write leaves every other place alone. -/
theorem spGet_spSet_other (m : List (Nat × α)) {a b : Nat} (v : α) (h : b ≠ a) :
    spGet d (spSet d m a v) b = spGet d m b := by
  unfold spSet
  split
  · exact spGet_spErase_other m h
  · rw [spGet_spInsert_other _ v h, spGet_spErase_other m h]

/-- A read after a write, in one equation. -/
theorem spGet_spSet (m : List (Nat × α)) (a b : Nat) (v : α) :
    spGet d (spSet d m a v) b = if b = a then v else spGet d m b := by
  by_cases h : b = a
  · subst h; simp
  · simp [h, spGet_spSet_other m v h]

omit [DecidableEq α] in
theorem spErase_sublist (m : List (Nat × α)) (a : Nat) : (spErase a m).Sublist m := by
  induction m with
  | nil => exact List.Sublist.slnil
  | cons p r ih =>
    by_cases h : p.1 = a
    · simpa [spErase, h] using ih.cons p
    · simpa [spErase, h] using ih.cons_cons p

omit [DecidableEq α] in
theorem spClear_sublist (m : List (Nat × α)) (p : Nat → Bool) : (spClear p m).Sublist m := by
  induction m with
  | nil => exact List.Sublist.slnil
  | cons q r ih =>
    cases h : p q.1
    · simpa [spClear, h] using ih.cons_cons q
    · simpa [spClear, h] using ih.cons q

omit [DecidableEq α] in
theorem mem_spErase {m : List (Nat × α)} {a : Nat} {p : Nat × α} : p ∈ spErase a m ↔ p ∈ m ∧ p.1 ≠ a := by
  induction m with
  | nil => simp [spErase]
  | cons q r ih =>
    by_cases h : q.1 = a
    · simp only [spErase, h, if_true, ih, List.mem_cons]
      constructor
      · rintro ⟨h1, h2⟩; exact ⟨.inr h1, h2⟩
      · rintro ⟨rfl | h1, h2⟩
        · exact absurd h h2
        · exact ⟨h1, h2⟩
    · simp only [spErase, h, if_false, List.mem_cons, ih]
      constructor
      · rintro (rfl | ⟨h1, h2⟩)
        · exact ⟨.inl rfl, h⟩
        · exact ⟨.inr h1, h2⟩
      · rintro ⟨rfl | h1, h2⟩
        · exact .inl rfl
        · exact .inr ⟨h1, h2⟩

omit [DecidableEq α] in
theorem mem_spInsert {m : List (Nat × α)} {a : Nat} {v : α} {p : Nat × α} :
    p ∈ spInsert a v m ↔ p = (a, v) ∨ p ∈ m := by
  induction m with
  | nil => simp [spInsert]
  | cons q r ih =>
    by_cases h : a < q.1
    · simp [spInsert, h]
    · simp only [spInsert, h, if_false, List.mem_cons, ih]
      exact or_left_comm

omit [DecidableEq α] in
theorem spInsert_pairwise {m : List (Nat × α)} {a : Nat} {v : α} (hm : m.Pairwise (fun p q => p.1 < q.1))
    (ha : ∀ p ∈ m, p.1 ≠ a) : (spInsert a v m).Pairwise (fun p q => p.1 < q.1) := by
  induction m with
  | nil => simp [spInsert]
  | cons q r ih =>
    rw [List.pairwise_cons] at hm
    by_cases h : a < q.1
    · simp only [spInsert, h, if_true, List.pairwise_cons, List.mem_cons]
      refine ⟨?_, hm⟩
      rintro p (rfl | hp)
      · exact h
      · exact Nat.lt_trans h (hm.1 p hp)
    · simp only [spInsert, h, if_false, List.pairwise_cons]
      refine ⟨?_, ih hm.2 (fun p hp => ha p (List.mem_cons_of_mem _ hp))⟩
      intro p hp
      rcases mem_spInsert.1 hp with rfl | hp
      · exact Nat.lt_of_le_of_ne (Nat.not_lt.1 h) (ha q List.mem_cons_self)
      · exact hm.1 p hp

/-- The canonical form, in words. -/
theorem spWf_iff (m : List (Nat × α)) :
    spWf d m = true ↔ m.Pairwise (fun p q => p.1 < q.1) ∧ ∀ p ∈ m, p.2 ≠ d p.1 := by
  simp [spWf]

/-- A write keeps the canonical form. -/
theorem spWf_spSet {m : List (Nat × α)} (a : Nat) (v : α) (h : spWf d m = true) : spWf d (spSet d m a v) = true := by
  rw [spWf_iff] at *
  unfold spSet
  have he : (spErase a m).Pairwise (fun p q => p.1 < q.1) := h.1.sublist (spErase_sublist m a)
  split
  · exact ⟨he, fun p hp => h.2 p (mem_spErase.1 hp).1⟩
  · rename_i hv
    refine ⟨spInsert_pairwise he (fun p hp => (mem_spErase.1 hp).2), fun p hp => ?_⟩
    rcases mem_spInsert.1 hp with rfl | hp
    · exact hv
    · exact h.2 p (mem_spErase.1 hp).1

/-- Returning places to their defaults keeps the canonical form. -/
theorem spWf_spClear {m : List (Nat × α)} (p : Nat → Bool) (h : spWf d m = true) : spWf d (spClear p m) = true := by
  rw [spWf_iff] at *
  exact ⟨h.1.sublist (spClear_sublist m p), fun q hq => h.2 q ((spClear_sublist m p).subset hq)⟩

omit [DecidableEq α] in
/-- A place whose address is cleared reads as its default; every other place reads as before. -/
theorem spGet_spClear (m : List (Nat × α)) (p : Nat → Bool) (a : Nat) :
    spGet d (spClear p m) a = if p a then d a else spGet d m a := by
  induction m with
  | nil => simp [spClear]
  | cons q r ih =>
    cases h : p q.1
    · by_cases hq : q.1 = a
      · subst hq; simp [spClear, h, spGet]
      · simp [spClear, h, spGet, hq, ih]
    · by_cases hq : q.1 = a
      · subst hq; simp [spClear, h, ih]
      · simp [spClear, h, ih, spGet, hq]

end Sys2Proof.Machine
end

