-- ==== Sys2Proof/Laws/Bytes.lean ====
section
/-!
SUPPORT. Laws of bytes in a store and in shared SRAM: what a read gives after a write, and the canonical form, which every operation keeps
(R27, R28).
-/
namespace Sys2Proof.Machine

@[simp] theorem natLE_length : ∀ n v : Nat, (natLE n v).length = n
  | 0, _ => rfl
  | n + 1, v => by simp [natLE, natLE_length n]

/-- The number of the bytes of a number that fits them. -/
theorem leNat_natLE : ∀ n v : Nat, leNat (natLE n v) = v % 256 ^ n
  | 0, v => by simp [natLE, leNat, Nat.mod_one]
  | n + 1, v => by
    have h := Nat.mod_mul (x := v) (a := 256) (b := 256 ^ n)
    simp only [natLE, leNat, leNat_natLE n, BitVec.toNat_ofNat, Nat.pow_succ]
    rw [Nat.mul_comm (256 ^ n) 256, h]

@[simp] theorem readBytes_length (d : Nat → Byte) (m : List Host.Cell) : ∀ n a : Nat, (readBytes d m a n).length = n
  | 0, _ => rfl
  | n + 1, a => by simp [readBytes, readBytes_length d m n]

/-- A byte outside the bytes written reads as before. -/
theorem spGet_writeBytes_other {d : Nat → Byte} :
    ∀ (bs : List Byte) (m : List Host.Cell) (a b : Nat), b < a ∨ a + bs.length ≤ b → spGet d (writeBytes d m a bs) b = spGet d m b
  | [], _, _, _, _ => rfl
  | x :: r, m, a, b, h => by
    simp only [List.length_cons] at h
    rw [writeBytes, spGet_writeBytes_other r _ (a + 1) b (by omega), spGet_spSet_other]
    omega

/-- The bytes written read back. -/
theorem readBytes_writeBytes {d : Nat → Byte} :
    ∀ (bs : List Byte) (m : List Host.Cell) (a : Nat), readBytes d (writeBytes d m a bs) a bs.length = bs
  | [], _, _ => rfl
  | x :: r, m, a => by
    rw [List.length_cons, readBytes, writeBytes, readBytes_writeBytes r, spGet_writeBytes_other r _ (a + 1) a (by omega),
      spGet_spSet_same]

/-- A read that no written byte reaches gives what it gave. -/
theorem readBytes_writeBytes_other {d : Nat → Byte} (bs : List Byte) (m : List Host.Cell) (a : Nat) :
    ∀ n b : Nat, b + n ≤ a ∨ a + bs.length ≤ b → readBytes d (writeBytes d m a bs) b n = readBytes d m b n
  | 0, _, _ => rfl
  | n + 1, b, h => by
    rw [readBytes, readBytes, readBytes_writeBytes_other bs m a n (b + 1) (by omega), spGet_writeBytes_other bs m a b (by omega)]

theorem writeBytes_wf {d : Nat → Byte} : ∀ (bs : List Byte) (m : List Host.Cell) (a : Nat),
    spWf d m = true → spWf d (writeBytes d m a bs) = true
  | [], _, _, h => h
  | _ :: r, _, a, h => writeBytes_wf r _ (a + 1) (spWf_spSet a _ h)

/-! ### Shared SRAM -/


/-- A write of shared SRAM keeps the canonical form. -/
theorem sramWrite_wf {s : State} (a : Nat) (bs : List Byte) (h : Memory.wf s.sramGen s.sram = true) :
    Memory.wf (s.sramWrite a bs).sramGen (s.sramWrite a bs).sram = true := writeBytes_wf bs _ a h

theorem reset_sram_wf : Memory.wf State.reset.sramGen State.reset.sram = true := rfl

theorem sramBytes_sramWrite (s : State) (a : Nat) (bs : List Byte) : (s.sramWrite a bs).sramBytes a bs.length = bs :=
  readBytes_writeBytes bs _ a

theorem sramBytes_sramWrite_other (s : State) (a : Nat) (bs : List Byte) (b n : Nat) (h : b + n ≤ a ∨ a + bs.length ≤ b) :
    (s.sramWrite a bs).sramBytes b n = s.sramBytes b n := readBytes_writeBytes_other bs _ a n b h

theorem sramByte_sramWrite_other (s : State) (a b : Nat) (bs : List Byte) (h : b < a ∨ a + bs.length ≤ b) :
    (s.sramWrite a bs).sramByte b = s.sramByte b := spGet_writeBytes_other bs _ a b h

end Sys2Proof.Machine
end

