-- ==== Sys2Proof/Laws/Crypto.lean ====
section
/-!
SUPPORT. Laws of the cipher functions: their lengths, and the inverses (R382, R383, R393, R408).
-/
namespace Sys2Proof.Machine

/-- The round keys of `key` are those of a whole schedule: at least two, of 16 bytes each. -/
def wholeSchedule (key : List Byte) : Bool :=
  decide (2 ≤ (roundKeys (toNats key)).length) && (roundKeys (toNats key)).all (fun k => k.length == 16)

@[simp] theorem shiftRows_length (s : List Nat) : (shiftRows s).length = 16 := by simp [shiftRows]

@[simp] theorem mixColumn_length (c : List Nat) : (mixColumn c).length = 4 := by simp [mixColumn]

theorem xorNats_length (a b : List Nat) : (xorNats a b).length = min a.length b.length := by simp [xorNats]

theorem xorBytes_length (a b : List Byte) : (xorBytes a b).length = min a.length b.length := by simp [xorBytes]

theorem aesRounds_length : ∀ (r : List (List Nat)) (s : List Nat), r ≠ [] → (∀ k ∈ r, k.length = 16) → (aesRounds r s).length = 16
  | [], _, h, _ => absurd rfl h
  | [k], s, _, hk => by simp [aesRounds, xorNats_length, hk k (by simp)]
  | k :: k2 :: r, s, _, hk => by
    rw [aesRounds]
    · exact aesRounds_length (k2 :: r) _ (by simp) (fun x hx => hk x (List.mem_cons_of_mem _ hx))
    · simp

/-- AES gives 16 bytes under a whole schedule. -/
theorem aes_length {key : List Byte} (h : wholeSchedule key = true) (b : List Byte) : (aes key b).length = 16 := by
  simp only [wholeSchedule, Bool.and_eq_true, decide_eq_true_eq, List.all_eq_true, beq_iff_eq] at h
  unfold aes
  split
  · simp_all
  · rename_i k r e
    rw [e] at h
    have hr : r ≠ [] := by rintro rfl; simp at h
    simp [toBytes, aesRounds_length r _ hr (fun x hx => h.2 x (List.mem_cons_of_mem _ hx))]

theorem cbcMac_length {key : List Byte} (h : wholeSchedule key = true) :
    ∀ (bs : List (List Byte)) (x : List Byte), x.length = 16 → (cbcMac key bs x).length = 16
  | [], _, hx => hx
  | _ :: r, _, _ => cbcMac_length h r _ (aes_length h _)

/-- A CMAC has 16 bytes. -/
theorem cmac_length {key : List Byte} (h : wholeSchedule key = true) (m : List Byte) : (cmac key m).length = 16 :=
  cbcMac_length h _ _ (by simp [zeroBlock])

theorem ctrStream_length {key : List Byte} (h : wholeSchedule key = true) (hi : List Byte) :
    ∀ n c : Nat, (ctrStream key hi n c).length = 16 * n
  | 0, _ => rfl
  | n + 1, c => by simp [ctrStream, aes_length h, ctrStream_length h hi n]; omega

/-- CTR gives as many bytes as it takes. -/
theorem aesCtr_length {key : List Byte} (h : wholeSchedule key = true) (iv d : List Byte) : (aesCtr key iv d).length = d.length := by
  simp only [aesCtr, xorBytes_length, ctrStream_length h, blocks16]
  omega

theorem xorBytes_xorBytes : ∀ a b : List Byte, a.length ≤ b.length → xorBytes (xorBytes a b) b = a
  | [], _, _ => rfl
  | x :: a, [], h => by simp at h
  | x :: a, y :: b, h => by
    have ih := xorBytes_xorBytes a b (by simpa using h)
    simp only [xorBytes] at ih ⊢
    simp [ih, BitVec.xor_assoc]

/-- CTR is its own inverse (R383). -/
theorem aesCtr_aesCtr {key : List Byte} (h : wholeSchedule key = true) (iv d : List Byte) : aesCtr key iv (aesCtr key iv d) = d := by
  show xorBytes (aesCtr key iv d) (ctrStream key (iv.take 12) (blocks16 (aesCtr key iv d).length) (beNat (iv.drop 12))) = d
  rw [aesCtr_length h]
  apply xorBytes_xorBytes
  rw [ctrStream_length h, blocks16]
  omega

theorem wrapTag_length {key : List Byte} (h1 : wholeSchedule (wrapSubkey key 1) = true) (h p : List Byte) : (wrapTag key h p).length = 8 := by
  rw [wrapTag, List.length_take, cmac_length h1]
  rfl

/-- An unwrap gives back what a wrap under the same key and header took (R408). -/
theorem unwrapKey_wrapKey {key : List Byte} (h1 : wholeSchedule (wrapSubkey key 1) = true) (h2 : wholeSchedule (wrapSubkey key 2) = true)
    (h p : List Byte) : unwrapKey key h (wrapKey key h p) = some p := by
  have hl := wrapTag_length h1 h p
  unfold unwrapKey wrapKey
  rw [List.take_left' hl, List.drop_left' hl, aesCtr_aesCtr h2, if_pos rfl]

theorem wrapKey_length {key : List Byte} (h1 : wholeSchedule (wrapSubkey key 1) = true) (h2 : wholeSchedule (wrapSubkey key 2) = true)
    (h p : List Byte) : (wrapKey key h p).length = 8 + p.length := by
  unfold wrapKey
  rw [List.length_append, wrapTag_length h1, aesCtr_length h2]

end Sys2Proof.Machine
end

