-- ==== Sys2Proof/Laws/Regs.lean ====
section
/-!
SUPPORT. Laws of register words and fields: a field read after a write of it, of another field of the word, and of another register.
-/
namespace Sys2Proof.Machine

theorem regGet_regSet (m : List (Nat × Word)) (a b : Nat) (v : Word) :
    regGet (regSet m a v) b = if b = a then v else regGet m b := spGet_spSet m a b v

@[simp] theorem regGet_regSet_same (m : List (Nat × Word)) (a : Nat) (v : Word) : regGet (regSet m a v) a = v :=
  spGet_spSet_same m a v

theorem regGet_regSet_other (m : List (Nat × Word)) {a b : Nat} (v : Word) (h : b ≠ a) :
    regGet (regSet m a v) b = regGet m b := spGet_spSet_other m v h

/-- A field lies within a word. -/
def Field.fits (f : Field) : Bool := decide (f.lsb + f.width ≤ 32)

theorem Field.of_lt (f : Field) (w : Word) : f.of w < 2 ^ f.width := Nat.mod_lt _ (Nat.two_pow_pos _)

/-- The word with a field replaced, as a number. -/
theorem Field.put_split (l k w v : Nat) :
    w - w / 2 ^ l % 2 ^ k * 2 ^ l + v * 2 ^ l = w % 2 ^ l + 2 ^ l * (v + 2 ^ k * (w / 2 ^ l / 2 ^ k)) := by
  have h1 := Nat.div_add_mod w (2 ^ l)
  have h2 := Nat.div_add_mod (w / 2 ^ l) (2 ^ k)
  have h3 : w = 2 ^ l * (2 ^ k * (w / 2 ^ l / 2 ^ k)) + w / 2 ^ l % 2 ^ k * 2 ^ l + w % 2 ^ l := by
    calc w = 2 ^ l * (w / 2 ^ l) + w % 2 ^ l := h1.symm
      _ = 2 ^ l * (2 ^ k * (w / 2 ^ l / 2 ^ k) + w / 2 ^ l % 2 ^ k) + w % 2 ^ l := by rw [h2]
      _ = _ := by rw [Nat.mul_add, Nat.mul_comm (2 ^ l) (w / 2 ^ l % 2 ^ k)]
  have h4 : w - w / 2 ^ l % 2 ^ k * 2 ^ l = 2 ^ l * (2 ^ k * (w / 2 ^ l / 2 ^ k)) + w % 2 ^ l := by omega
  rw [h4, Nat.mul_add, Nat.mul_comm v]
  omega

theorem Field.put_lt (l k w v : Nat) (hk : l + k ≤ 32) (hw : w < 2 ^ 32) :
    w - w / 2 ^ l % 2 ^ k * 2 ^ l + v % 2 ^ k * 2 ^ l < 2 ^ 32 := by
  rw [Field.put_split]
  have hv : v % 2 ^ k < 2 ^ k := Nat.mod_lt _ (Nat.two_pow_pos _)
  have hm : w % 2 ^ l < 2 ^ l := Nat.mod_lt _ (Nat.two_pow_pos _)
  have hq : w / 2 ^ l / 2 ^ k < 2 ^ (32 - l - k) := by
    rw [Nat.div_div_eq_div_mul, ← Nat.pow_add]
    apply Nat.div_lt_of_lt_mul
    rw [← Nat.pow_add]
    have : l + k + (32 - l - k) = 32 := by omega
    rwa [this]
  have e : 2 ^ 32 = 2 ^ l * (2 ^ k * 2 ^ (32 - l - k)) := by
    rw [← Nat.pow_add, ← Nat.pow_add]
    congr 1
    omega
  rw [e]
  generalize w / 2 ^ l / 2 ^ k = q at *
  generalize 2 ^ (32 - l - k) = Q at *
  generalize v % 2 ^ k = x at *
  generalize w % 2 ^ l = y at *
  have hP : 0 < 2 ^ l := Nat.two_pow_pos _
  generalize 2 ^ l = P at *
  generalize 2 ^ k = K at *
  have h1 : x + K * q + 1 ≤ K * Q := by
    have : K * (q + 1) ≤ K * Q := Nat.mul_le_mul_left K hq
    rw [Nat.mul_add, Nat.mul_one] at this
    omega
  have h2 : P * (x + K * q + 1) ≤ P * (K * Q) := Nat.mul_le_mul_left P h1
  rw [Nat.mul_add, Nat.mul_one] at h2
  omega

theorem Field.put_toNat (f : Field) (w : Word) (v : Nat) (hf : f.lsb + f.width ≤ 32) :
    (f.put w v).toNat = w.toNat % 2 ^ f.lsb + 2 ^ f.lsb * (v % 2 ^ f.width + 2 ^ f.width * (w.toNat / 2 ^ f.lsb / 2 ^ f.width)) := by
  have h := Field.put_lt f.lsb f.width w.toNat v hf w.isLt
  simp only [Field.put, Field.of, BitVec.toNat_ofNat]
  rw [Nat.mod_eq_of_lt h, Field.put_split]

/-- A field read after it was put. -/
theorem Field.of_put (f : Field) (w : Word) (v : Nat) (hf : f.lsb + f.width ≤ 32) : f.of (f.put w v) = v % 2 ^ f.width := by
  rw [Field.of, Field.put_toNat f w v hf, Nat.add_mul_div_left _ _ (Nat.two_pow_pos _),
    Nat.div_eq_of_lt (Nat.mod_lt _ (Nat.two_pow_pos _)), Nat.zero_add, Nat.add_mul_mod_self_left, Nat.mod_mod]

/-- A field above the one put reads as before. -/
theorem Field.of_put_above (f g : Field) (w : Word) (v : Nat) (hf : f.lsb + f.width ≤ 32) (h : f.lsb + f.width ≤ g.lsb) :
    g.of (f.put w v) = g.of w := by
  have e : g.lsb = f.lsb + f.width + (g.lsb - f.lsb - f.width) := by omega
  have hm : w.toNat % 2 ^ f.lsb < 2 ^ f.lsb := Nat.mod_lt _ (Nat.two_pow_pos _)
  rw [Field.of, Field.of, Field.put_toNat f w v hf, e, Nat.pow_add, Nat.pow_add, ← Nat.div_div_eq_div_mul,
    ← Nat.div_div_eq_div_mul, ← Nat.div_div_eq_div_mul, ← Nat.div_div_eq_div_mul, Nat.add_mul_div_left _ _ (Nat.two_pow_pos _),
    Nat.div_eq_of_lt hm, Nat.zero_add, Nat.add_mul_div_left _ _ (Nat.two_pow_pos _),
    Nat.div_eq_of_lt (Nat.mod_lt _ (Nat.two_pow_pos _)), Nat.zero_add]

/-- A field below the one put reads as before. -/
theorem Field.of_put_below (f g : Field) (w : Word) (v : Nat) (hf : f.lsb + f.width ≤ 32) (h : g.lsb + g.width ≤ f.lsb) :
    g.of (f.put w v) = g.of w := by
  have e : f.lsb = g.lsb + g.width + (f.lsb - g.lsb - g.width) := by omega
  have key : ∀ x y : Nat, (x % 2 ^ f.lsb + 2 ^ f.lsb * y) / 2 ^ g.lsb % 2 ^ g.width = x / 2 ^ g.lsb % 2 ^ g.width := by
    intro x y
    have e2 : ∀ z : Nat, z / 2 ^ g.lsb % 2 ^ g.width = z % 2 ^ (g.lsb + g.width) / 2 ^ g.lsb := by
      intro z
      rw [Nat.pow_add, Nat.mod_mul_right_div_self]
    rw [e2, e2]
    congr 1
    rw [e, Nat.pow_add _ (g.lsb + g.width), Nat.mul_assoc, Nat.add_mul_mod_self_left, Nat.mod_mul_right_mod]
  rw [Field.of, Field.of, Field.put_toNat f w v hf]
  exact key _ _

/-- Two fields of one word do not overlap. -/
def Field.apart (f g : Field) : Bool := decide (f.addr ≠ g.addr ∨ f.lsb + f.width ≤ g.lsb ∨ g.lsb + g.width ≤ f.lsb)

/-- A field of the register words read after it was written. -/
theorem rdF_wrF (m : List (Nat × Word)) (f : Field) (v : Nat) (hf : f.fits = true) : rdF (wrF m f v) f = v % 2 ^ f.width := by
  simp only [rdF, wrF, regGet_regSet_same]
  exact Field.of_put f _ v (of_decide_eq_true hf)

/-- A field apart from the one written reads as before. -/
theorem rdF_wrF_apart (m : List (Nat × Word)) (f g : Field) (v : Nat) (hf : f.fits = true) (h : f.apart g = true) :
    rdF (wrF m f v) g = rdF m g := by
  have hf := of_decide_eq_true hf
  have h := of_decide_eq_true h
  simp only [rdF, wrF, regGet_regSet]
  by_cases ha : g.addr = f.addr
  · rw [if_pos ha, ha]
    rcases h with h | h | h
    · exact absurd ha.symm h
    · exact Field.of_put_above f g _ v hf h
    · exact Field.of_put_below f g _ v hf h
  · rw [if_neg ha]

/-- A whole register read after a field of another was written. -/
theorem regGet_wrF (m : List (Nat × Word)) (f : Field) (v a : Nat) (h : a ≠ f.addr) : regGet (wrF m f v) a = regGet m a :=
  regGet_regSet_other m _ h

/-- A field read after its counter moved on. -/
theorem rdF_incF (m : List (Nat × Word)) (f : Field) (k : Nat) (hf : f.fits = true) :
    rdF (incF m f k) f = min (rdF m f + k) (2 ^ f.width - 1) := by
  rw [incF, rdF_wrF _ _ _ hf, Nat.mod_eq_of_lt]
  have := Nat.two_pow_pos f.width
  omega

theorem rdF_incF_apart (m : List (Nat × Word)) (f g : Field) (k : Nat) (hf : f.fits = true) (h : f.apart g = true) :
    rdF (incF m f k) g = rdF m g := rdF_wrF_apart m f g _ hf h

/-- A field of the register words is below its bound. -/
theorem rdF_lt (m : List (Nat × Word)) (f : Field) : rdF m f < 2 ^ f.width := Field.of_lt f _

/-- The stored register words keep their canonical form. -/
theorem wrF_wf {m : List (Nat × Word)} (f : Field) (v : Nat) (h : spWf resetWord m = true) : spWf resetWord (wrF m f v) = true :=
  spWf_spSet _ _ h

theorem incF_wf {m : List (Nat × Word)} (f : Field) (k : Nat) (h : spWf resetWord m = true) : spWf resetWord (incF m f k) = true :=
  spWf_spSet _ _ h

end Sys2Proof.Machine
end

