-- ==== Sys2Proof/Laws/State.lean ====
section
/-!
SUPPORT. What each named update of State leaves: one lemma per field and update.
-/
namespace Sys2Proof.Machine

/-! ### wr -/

@[simp] theorem State.wr_pending (s : State) (f : Field) (v : Nat) : (s.wr f v).pending = s.pending := rfl
@[simp] theorem State.wr_free (s : State) (f : Field) (v : Nat) : (s.wr f v).free = s.free := rfl
@[simp] theorem State.wr_busData (s : State) (f : Field) (v : Nat) : (s.wr f v).busData = s.busData := rfl
@[simp] theorem State.wr_tclk (s : State) (f : Field) (v : Nat) : (s.wr f v).tclk = s.tclk := rfl
@[simp] theorem State.wr_shadow (s : State) (f : Field) (v : Nat) : (s.wr f v).shadow = s.shadow := rfl
@[simp] theorem State.wr_sram (s : State) (f : Field) (v : Nat) : (s.wr f v).sram = s.sram := rfl
@[simp] theorem State.wr_sramGen (s : State) (f : Field) (v : Nat) : (s.wr f v).sramGen = s.sramGen := rfl
@[simp] theorem State.wr_resvs (s : State) (f : Field) (v : Nat) : (s.wr f v).resvs = s.resvs := rfl
@[simp] theorem State.wr_engs (s : State) (f : Field) (v : Nat) : (s.wr f v).engs = s.engs := rfl
@[simp] theorem State.wr_engJobs (s : State) (f : Field) (v : Nat) : (s.wr f v).engJobs = s.engJobs := rfl
@[simp] theorem State.wr_evf (s : State) (f : Field) (v : Nat) : (s.wr f v).evf = s.evf := rfl
@[simp] theorem State.wr_flt (s : State) (f : Field) (v : Nat) : (s.wr f v).flt = s.flt := rfl
@[simp] theorem State.wr_start (s : State) (f : Field) (v : Nat) : (s.wr f v).start = s.start := rfl
@[simp] theorem State.wr_path (s : State) (f : Field) (v : Nat) : (s.wr f v).path = s.path := rfl
@[simp] theorem State.wr_pwr (s : State) (f : Field) (v : Nat) : (s.wr f v).pwr = s.pwr := rfl
@[simp] theorem State.wr_rtc (s : State) (f : Field) (v : Nat) : (s.wr f v).rtc = s.rtc := rfl
@[simp] theorem State.wr_mer (s : State) (f : Field) (v : Nat) : (s.wr f v).mer = s.mer := rfl
@[simp] theorem State.wr_rfc (s : State) (f : Field) (v : Nat) : (s.wr f v).rfc = s.rfc := rfl
@[simp] theorem State.wr_mdm (s : State) (f : Field) (v : Nat) : (s.wr f v).mdm = s.mdm := rfl
@[simp] theorem State.wr_mac (s : State) (f : Field) (v : Nat) : (s.wr f v).mac = s.mac := rfl
@[simp] theorem State.wr_shp (s : State) (f : Field) (v : Nat) : (s.wr f v).shp = s.shp := rfl
@[simp] theorem State.wr_flc (s : State) (f : Field) (v : Nat) : (s.wr f v).flc = s.flc := rfl
@[simp] theorem State.wr_cip (s : State) (f : Field) (v : Nat) : (s.wr f v).cip = s.cip := rfl
@[simp] theorem State.wr_svr (s : State) (f : Field) (v : Nat) : (s.wr f v).svr = s.svr := rfl
@[simp] theorem State.wr_mesh (s : State) (f : Field) (v : Nat) : (s.wr f v).mesh = s.mesh := rfl
@[simp] theorem State.wr_snd (s : State) (f : Field) (v : Nat) : (s.wr f v).snd = s.snd := rfl
@[simp] theorem State.wr_sns (s : State) (f : Field) (v : Nat) : (s.wr f v).sns = s.sns := rfl
@[simp] theorem State.wr_tst (s : State) (f : Field) (v : Nat) : (s.wr f v).tst = s.tst := rfl
@[simp] theorem State.wr_hif (s : State) (f : Field) (v : Nat) : (s.wr f v).hif = s.hif := rfl
@[simp] theorem State.wr_fw (s : State) (f : Field) (v : Nat) : (s.wr f v).fw = s.fw := rfl

/-! ### inc -/

@[simp] theorem State.inc_pending (s : State) (f : Field) (k : Nat) : (s.inc f k).pending = s.pending := rfl
@[simp] theorem State.inc_free (s : State) (f : Field) (k : Nat) : (s.inc f k).free = s.free := rfl
@[simp] theorem State.inc_busData (s : State) (f : Field) (k : Nat) : (s.inc f k).busData = s.busData := rfl
@[simp] theorem State.inc_tclk (s : State) (f : Field) (k : Nat) : (s.inc f k).tclk = s.tclk := rfl
@[simp] theorem State.inc_shadow (s : State) (f : Field) (k : Nat) : (s.inc f k).shadow = s.shadow := rfl
@[simp] theorem State.inc_sram (s : State) (f : Field) (k : Nat) : (s.inc f k).sram = s.sram := rfl
@[simp] theorem State.inc_sramGen (s : State) (f : Field) (k : Nat) : (s.inc f k).sramGen = s.sramGen := rfl
@[simp] theorem State.inc_resvs (s : State) (f : Field) (k : Nat) : (s.inc f k).resvs = s.resvs := rfl
@[simp] theorem State.inc_engs (s : State) (f : Field) (k : Nat) : (s.inc f k).engs = s.engs := rfl
@[simp] theorem State.inc_engJobs (s : State) (f : Field) (k : Nat) : (s.inc f k).engJobs = s.engJobs := rfl
@[simp] theorem State.inc_evf (s : State) (f : Field) (k : Nat) : (s.inc f k).evf = s.evf := rfl
@[simp] theorem State.inc_flt (s : State) (f : Field) (k : Nat) : (s.inc f k).flt = s.flt := rfl
@[simp] theorem State.inc_start (s : State) (f : Field) (k : Nat) : (s.inc f k).start = s.start := rfl
@[simp] theorem State.inc_path (s : State) (f : Field) (k : Nat) : (s.inc f k).path = s.path := rfl
@[simp] theorem State.inc_pwr (s : State) (f : Field) (k : Nat) : (s.inc f k).pwr = s.pwr := rfl
@[simp] theorem State.inc_rtc (s : State) (f : Field) (k : Nat) : (s.inc f k).rtc = s.rtc := rfl
@[simp] theorem State.inc_mer (s : State) (f : Field) (k : Nat) : (s.inc f k).mer = s.mer := rfl
@[simp] theorem State.inc_rfc (s : State) (f : Field) (k : Nat) : (s.inc f k).rfc = s.rfc := rfl
@[simp] theorem State.inc_mdm (s : State) (f : Field) (k : Nat) : (s.inc f k).mdm = s.mdm := rfl
@[simp] theorem State.inc_mac (s : State) (f : Field) (k : Nat) : (s.inc f k).mac = s.mac := rfl
@[simp] theorem State.inc_shp (s : State) (f : Field) (k : Nat) : (s.inc f k).shp = s.shp := rfl
@[simp] theorem State.inc_flc (s : State) (f : Field) (k : Nat) : (s.inc f k).flc = s.flc := rfl
@[simp] theorem State.inc_cip (s : State) (f : Field) (k : Nat) : (s.inc f k).cip = s.cip := rfl
@[simp] theorem State.inc_svr (s : State) (f : Field) (k : Nat) : (s.inc f k).svr = s.svr := rfl
@[simp] theorem State.inc_mesh (s : State) (f : Field) (k : Nat) : (s.inc f k).mesh = s.mesh := rfl
@[simp] theorem State.inc_snd (s : State) (f : Field) (k : Nat) : (s.inc f k).snd = s.snd := rfl
@[simp] theorem State.inc_sns (s : State) (f : Field) (k : Nat) : (s.inc f k).sns = s.sns := rfl
@[simp] theorem State.inc_tst (s : State) (f : Field) (k : Nat) : (s.inc f k).tst = s.tst := rfl
@[simp] theorem State.inc_hif (s : State) (f : Field) (k : Nat) : (s.inc f k).hif = s.hif := rfl
@[simp] theorem State.inc_fw (s : State) (f : Field) (k : Nat) : (s.inc f k).fw = s.fw := rfl

/-! ### took -/

@[simp] theorem State.took_pending (s : State) (k : Nat) : (s.took k).pending = s.pending := rfl
@[simp] theorem State.took_busData (s : State) (k : Nat) : (s.took k).busData = s.busData := rfl
@[simp] theorem State.took_tclk (s : State) (k : Nat) : (s.took k).tclk = s.tclk := rfl
@[simp] theorem State.took_regs (s : State) (k : Nat) : (s.took k).regs = s.regs := rfl
@[simp] theorem State.took_shadow (s : State) (k : Nat) : (s.took k).shadow = s.shadow := rfl
@[simp] theorem State.took_sram (s : State) (k : Nat) : (s.took k).sram = s.sram := rfl
@[simp] theorem State.took_sramGen (s : State) (k : Nat) : (s.took k).sramGen = s.sramGen := rfl
@[simp] theorem State.took_resvs (s : State) (k : Nat) : (s.took k).resvs = s.resvs := rfl
@[simp] theorem State.took_engs (s : State) (k : Nat) : (s.took k).engs = s.engs := rfl
@[simp] theorem State.took_engJobs (s : State) (k : Nat) : (s.took k).engJobs = s.engJobs := rfl
@[simp] theorem State.took_evf (s : State) (k : Nat) : (s.took k).evf = s.evf := rfl
@[simp] theorem State.took_flt (s : State) (k : Nat) : (s.took k).flt = s.flt := rfl
@[simp] theorem State.took_start (s : State) (k : Nat) : (s.took k).start = s.start := rfl
@[simp] theorem State.took_path (s : State) (k : Nat) : (s.took k).path = s.path := rfl
@[simp] theorem State.took_pwr (s : State) (k : Nat) : (s.took k).pwr = s.pwr := rfl
@[simp] theorem State.took_rtc (s : State) (k : Nat) : (s.took k).rtc = s.rtc := rfl
@[simp] theorem State.took_mer (s : State) (k : Nat) : (s.took k).mer = s.mer := rfl
@[simp] theorem State.took_rfc (s : State) (k : Nat) : (s.took k).rfc = s.rfc := rfl
@[simp] theorem State.took_mdm (s : State) (k : Nat) : (s.took k).mdm = s.mdm := rfl
@[simp] theorem State.took_mac (s : State) (k : Nat) : (s.took k).mac = s.mac := rfl
@[simp] theorem State.took_shp (s : State) (k : Nat) : (s.took k).shp = s.shp := rfl
@[simp] theorem State.took_flc (s : State) (k : Nat) : (s.took k).flc = s.flc := rfl
@[simp] theorem State.took_cip (s : State) (k : Nat) : (s.took k).cip = s.cip := rfl
@[simp] theorem State.took_svr (s : State) (k : Nat) : (s.took k).svr = s.svr := rfl
@[simp] theorem State.took_mesh (s : State) (k : Nat) : (s.took k).mesh = s.mesh := rfl
@[simp] theorem State.took_snd (s : State) (k : Nat) : (s.took k).snd = s.snd := rfl
@[simp] theorem State.took_sns (s : State) (k : Nat) : (s.took k).sns = s.sns := rfl
@[simp] theorem State.took_tst (s : State) (k : Nat) : (s.took k).tst = s.tst := rfl
@[simp] theorem State.took_hif (s : State) (k : Nat) : (s.took k).hif = s.hif := rfl
@[simp] theorem State.took_fw (s : State) (k : Nat) : (s.took k).fw = s.fw := rfl

/-! ### setEng -/

@[simp] theorem State.setEng_pending (s : State) (e : Nat) (g : Engine) : (s.setEng e g).pending = s.pending := rfl
@[simp] theorem State.setEng_free (s : State) (e : Nat) (g : Engine) : (s.setEng e g).free = s.free := rfl
@[simp] theorem State.setEng_busData (s : State) (e : Nat) (g : Engine) : (s.setEng e g).busData = s.busData := rfl
@[simp] theorem State.setEng_tclk (s : State) (e : Nat) (g : Engine) : (s.setEng e g).tclk = s.tclk := rfl
@[simp] theorem State.setEng_regs (s : State) (e : Nat) (g : Engine) : (s.setEng e g).regs = s.regs := rfl
@[simp] theorem State.setEng_shadow (s : State) (e : Nat) (g : Engine) : (s.setEng e g).shadow = s.shadow := rfl
@[simp] theorem State.setEng_sram (s : State) (e : Nat) (g : Engine) : (s.setEng e g).sram = s.sram := rfl
@[simp] theorem State.setEng_sramGen (s : State) (e : Nat) (g : Engine) : (s.setEng e g).sramGen = s.sramGen := rfl
@[simp] theorem State.setEng_resvs (s : State) (e : Nat) (g : Engine) : (s.setEng e g).resvs = s.resvs := rfl
@[simp] theorem State.setEng_engJobs (s : State) (e : Nat) (g : Engine) : (s.setEng e g).engJobs = s.engJobs := rfl
@[simp] theorem State.setEng_evf (s : State) (e : Nat) (g : Engine) : (s.setEng e g).evf = s.evf := rfl
@[simp] theorem State.setEng_flt (s : State) (e : Nat) (g : Engine) : (s.setEng e g).flt = s.flt := rfl
@[simp] theorem State.setEng_start (s : State) (e : Nat) (g : Engine) : (s.setEng e g).start = s.start := rfl
@[simp] theorem State.setEng_path (s : State) (e : Nat) (g : Engine) : (s.setEng e g).path = s.path := rfl
@[simp] theorem State.setEng_pwr (s : State) (e : Nat) (g : Engine) : (s.setEng e g).pwr = s.pwr := rfl
@[simp] theorem State.setEng_rtc (s : State) (e : Nat) (g : Engine) : (s.setEng e g).rtc = s.rtc := rfl
@[simp] theorem State.setEng_mer (s : State) (e : Nat) (g : Engine) : (s.setEng e g).mer = s.mer := rfl
@[simp] theorem State.setEng_rfc (s : State) (e : Nat) (g : Engine) : (s.setEng e g).rfc = s.rfc := rfl
@[simp] theorem State.setEng_mdm (s : State) (e : Nat) (g : Engine) : (s.setEng e g).mdm = s.mdm := rfl
@[simp] theorem State.setEng_mac (s : State) (e : Nat) (g : Engine) : (s.setEng e g).mac = s.mac := rfl
@[simp] theorem State.setEng_shp (s : State) (e : Nat) (g : Engine) : (s.setEng e g).shp = s.shp := rfl
@[simp] theorem State.setEng_flc (s : State) (e : Nat) (g : Engine) : (s.setEng e g).flc = s.flc := rfl
@[simp] theorem State.setEng_cip (s : State) (e : Nat) (g : Engine) : (s.setEng e g).cip = s.cip := rfl
@[simp] theorem State.setEng_svr (s : State) (e : Nat) (g : Engine) : (s.setEng e g).svr = s.svr := rfl
@[simp] theorem State.setEng_mesh (s : State) (e : Nat) (g : Engine) : (s.setEng e g).mesh = s.mesh := rfl
@[simp] theorem State.setEng_snd (s : State) (e : Nat) (g : Engine) : (s.setEng e g).snd = s.snd := rfl
@[simp] theorem State.setEng_sns (s : State) (e : Nat) (g : Engine) : (s.setEng e g).sns = s.sns := rfl
@[simp] theorem State.setEng_tst (s : State) (e : Nat) (g : Engine) : (s.setEng e g).tst = s.tst := rfl
@[simp] theorem State.setEng_hif (s : State) (e : Nat) (g : Engine) : (s.setEng e g).hif = s.hif := rfl
@[simp] theorem State.setEng_fw (s : State) (e : Nat) (g : Engine) : (s.setEng e g).fw = s.fw := rfl

/-! ### sramWrite -/

@[simp] theorem State.sramWrite_pending (s : State) (a : Nat) (bs : List Byte) : (s.sramWrite a bs).pending = s.pending := rfl
@[simp] theorem State.sramWrite_free (s : State) (a : Nat) (bs : List Byte) : (s.sramWrite a bs).free = s.free := rfl
@[simp] theorem State.sramWrite_busData (s : State) (a : Nat) (bs : List Byte) : (s.sramWrite a bs).busData = s.busData := rfl
@[simp] theorem State.sramWrite_tclk (s : State) (a : Nat) (bs : List Byte) : (s.sramWrite a bs).tclk = s.tclk := rfl
@[simp] theorem State.sramWrite_regs (s : State) (a : Nat) (bs : List Byte) : (s.sramWrite a bs).regs = s.regs := rfl
@[simp] theorem State.sramWrite_shadow (s : State) (a : Nat) (bs : List Byte) : (s.sramWrite a bs).shadow = s.shadow := rfl
@[simp] theorem State.sramWrite_sramGen (s : State) (a : Nat) (bs : List Byte) : (s.sramWrite a bs).sramGen = s.sramGen := rfl
@[simp] theorem State.sramWrite_engs (s : State) (a : Nat) (bs : List Byte) : (s.sramWrite a bs).engs = s.engs := rfl
@[simp] theorem State.sramWrite_engJobs (s : State) (a : Nat) (bs : List Byte) : (s.sramWrite a bs).engJobs = s.engJobs := rfl
@[simp] theorem State.sramWrite_evf (s : State) (a : Nat) (bs : List Byte) : (s.sramWrite a bs).evf = s.evf := rfl
@[simp] theorem State.sramWrite_flt (s : State) (a : Nat) (bs : List Byte) : (s.sramWrite a bs).flt = s.flt := rfl
@[simp] theorem State.sramWrite_start (s : State) (a : Nat) (bs : List Byte) : (s.sramWrite a bs).start = s.start := rfl
@[simp] theorem State.sramWrite_path (s : State) (a : Nat) (bs : List Byte) : (s.sramWrite a bs).path = s.path := rfl
@[simp] theorem State.sramWrite_pwr (s : State) (a : Nat) (bs : List Byte) : (s.sramWrite a bs).pwr = s.pwr := rfl
@[simp] theorem State.sramWrite_rtc (s : State) (a : Nat) (bs : List Byte) : (s.sramWrite a bs).rtc = s.rtc := rfl
@[simp] theorem State.sramWrite_mer (s : State) (a : Nat) (bs : List Byte) : (s.sramWrite a bs).mer = s.mer := rfl
@[simp] theorem State.sramWrite_rfc (s : State) (a : Nat) (bs : List Byte) : (s.sramWrite a bs).rfc = s.rfc := rfl
@[simp] theorem State.sramWrite_mdm (s : State) (a : Nat) (bs : List Byte) : (s.sramWrite a bs).mdm = s.mdm := rfl
@[simp] theorem State.sramWrite_mac (s : State) (a : Nat) (bs : List Byte) : (s.sramWrite a bs).mac = s.mac := rfl
@[simp] theorem State.sramWrite_shp (s : State) (a : Nat) (bs : List Byte) : (s.sramWrite a bs).shp = s.shp := rfl
@[simp] theorem State.sramWrite_flc (s : State) (a : Nat) (bs : List Byte) : (s.sramWrite a bs).flc = s.flc := rfl
@[simp] theorem State.sramWrite_cip (s : State) (a : Nat) (bs : List Byte) : (s.sramWrite a bs).cip = s.cip := rfl
@[simp] theorem State.sramWrite_svr (s : State) (a : Nat) (bs : List Byte) : (s.sramWrite a bs).svr = s.svr := rfl
@[simp] theorem State.sramWrite_mesh (s : State) (a : Nat) (bs : List Byte) : (s.sramWrite a bs).mesh = s.mesh := rfl
@[simp] theorem State.sramWrite_snd (s : State) (a : Nat) (bs : List Byte) : (s.sramWrite a bs).snd = s.snd := rfl
@[simp] theorem State.sramWrite_sns (s : State) (a : Nat) (bs : List Byte) : (s.sramWrite a bs).sns = s.sns := rfl
@[simp] theorem State.sramWrite_tst (s : State) (a : Nat) (bs : List Byte) : (s.sramWrite a bs).tst = s.tst := rfl
@[simp] theorem State.sramWrite_hif (s : State) (a : Nat) (bs : List Byte) : (s.sramWrite a bs).hif = s.hif := rfl
@[simp] theorem State.sramWrite_fw (s : State) (a : Nat) (bs : List Byte) : (s.sramWrite a bs).fw = s.fw := rfl

/-! ### resetBlock -/

@[simp] theorem State.resetBlock_pending (s : State) (b : Nat) : (s.resetBlock b).pending = s.pending := rfl
@[simp] theorem State.resetBlock_free (s : State) (b : Nat) : (s.resetBlock b).free = s.free := rfl
@[simp] theorem State.resetBlock_busData (s : State) (b : Nat) : (s.resetBlock b).busData = s.busData := rfl
@[simp] theorem State.resetBlock_tclk (s : State) (b : Nat) : (s.resetBlock b).tclk = s.tclk := rfl
@[simp] theorem State.resetBlock_sram (s : State) (b : Nat) : (s.resetBlock b).sram = s.sram := rfl
@[simp] theorem State.resetBlock_sramGen (s : State) (b : Nat) : (s.resetBlock b).sramGen = s.sramGen := rfl
@[simp] theorem State.resetBlock_resvs (s : State) (b : Nat) : (s.resetBlock b).resvs = s.resvs := rfl
@[simp] theorem State.resetBlock_engs (s : State) (b : Nat) : (s.resetBlock b).engs = s.engs := rfl
@[simp] theorem State.resetBlock_engJobs (s : State) (b : Nat) : (s.resetBlock b).engJobs = s.engJobs := rfl
@[simp] theorem State.resetBlock_evf (s : State) (b : Nat) : (s.resetBlock b).evf = s.evf := rfl
@[simp] theorem State.resetBlock_flt (s : State) (b : Nat) : (s.resetBlock b).flt = s.flt := rfl
@[simp] theorem State.resetBlock_start (s : State) (b : Nat) : (s.resetBlock b).start = s.start := rfl
@[simp] theorem State.resetBlock_path (s : State) (b : Nat) : (s.resetBlock b).path = s.path := rfl
@[simp] theorem State.resetBlock_pwr (s : State) (b : Nat) : (s.resetBlock b).pwr = s.pwr := rfl
@[simp] theorem State.resetBlock_rtc (s : State) (b : Nat) : (s.resetBlock b).rtc = s.rtc := rfl
@[simp] theorem State.resetBlock_mer (s : State) (b : Nat) : (s.resetBlock b).mer = s.mer := rfl
@[simp] theorem State.resetBlock_rfc (s : State) (b : Nat) : (s.resetBlock b).rfc = s.rfc := rfl
@[simp] theorem State.resetBlock_mdm (s : State) (b : Nat) : (s.resetBlock b).mdm = s.mdm := rfl
@[simp] theorem State.resetBlock_mac (s : State) (b : Nat) : (s.resetBlock b).mac = s.mac := rfl
@[simp] theorem State.resetBlock_shp (s : State) (b : Nat) : (s.resetBlock b).shp = s.shp := rfl
@[simp] theorem State.resetBlock_flc (s : State) (b : Nat) : (s.resetBlock b).flc = s.flc := rfl
@[simp] theorem State.resetBlock_cip (s : State) (b : Nat) : (s.resetBlock b).cip = s.cip := rfl
@[simp] theorem State.resetBlock_svr (s : State) (b : Nat) : (s.resetBlock b).svr = s.svr := rfl
@[simp] theorem State.resetBlock_mesh (s : State) (b : Nat) : (s.resetBlock b).mesh = s.mesh := rfl
@[simp] theorem State.resetBlock_snd (s : State) (b : Nat) : (s.resetBlock b).snd = s.snd := rfl
@[simp] theorem State.resetBlock_sns (s : State) (b : Nat) : (s.resetBlock b).sns = s.sns := rfl
@[simp] theorem State.resetBlock_tst (s : State) (b : Nat) : (s.resetBlock b).tst = s.tst := rfl
@[simp] theorem State.resetBlock_hif (s : State) (b : Nat) : (s.resetBlock b).hif = s.hif := rfl
@[simp] theorem State.resetBlock_fw (s : State) (b : Nat) : (s.resetBlock b).fw = s.fw := rfl

/-! ### fireChans -/

@[simp] theorem State.fireChans_pending (s : State) (cfg : List (Nat × Word)) (cs : List Nat) (src : Nat) : (s.fireChans cfg cs src).pending = s.pending := rfl
@[simp] theorem State.fireChans_free (s : State) (cfg : List (Nat × Word)) (cs : List Nat) (src : Nat) : (s.fireChans cfg cs src).free = s.free := rfl
@[simp] theorem State.fireChans_busData (s : State) (cfg : List (Nat × Word)) (cs : List Nat) (src : Nat) : (s.fireChans cfg cs src).busData = s.busData := rfl
@[simp] theorem State.fireChans_tclk (s : State) (cfg : List (Nat × Word)) (cs : List Nat) (src : Nat) : (s.fireChans cfg cs src).tclk = s.tclk := rfl
@[simp] theorem State.fireChans_shadow (s : State) (cfg : List (Nat × Word)) (cs : List Nat) (src : Nat) : (s.fireChans cfg cs src).shadow = s.shadow := rfl
@[simp] theorem State.fireChans_sram (s : State) (cfg : List (Nat × Word)) (cs : List Nat) (src : Nat) : (s.fireChans cfg cs src).sram = s.sram := rfl
@[simp] theorem State.fireChans_sramGen (s : State) (cfg : List (Nat × Word)) (cs : List Nat) (src : Nat) : (s.fireChans cfg cs src).sramGen = s.sramGen := rfl
@[simp] theorem State.fireChans_resvs (s : State) (cfg : List (Nat × Word)) (cs : List Nat) (src : Nat) : (s.fireChans cfg cs src).resvs = s.resvs := rfl
@[simp] theorem State.fireChans_engs (s : State) (cfg : List (Nat × Word)) (cs : List Nat) (src : Nat) : (s.fireChans cfg cs src).engs = s.engs := rfl
@[simp] theorem State.fireChans_engJobs (s : State) (cfg : List (Nat × Word)) (cs : List Nat) (src : Nat) : (s.fireChans cfg cs src).engJobs = s.engJobs := rfl
@[simp] theorem State.fireChans_flt (s : State) (cfg : List (Nat × Word)) (cs : List Nat) (src : Nat) : (s.fireChans cfg cs src).flt = s.flt := rfl
@[simp] theorem State.fireChans_start (s : State) (cfg : List (Nat × Word)) (cs : List Nat) (src : Nat) : (s.fireChans cfg cs src).start = s.start := rfl
@[simp] theorem State.fireChans_path (s : State) (cfg : List (Nat × Word)) (cs : List Nat) (src : Nat) : (s.fireChans cfg cs src).path = s.path := rfl
@[simp] theorem State.fireChans_pwr (s : State) (cfg : List (Nat × Word)) (cs : List Nat) (src : Nat) : (s.fireChans cfg cs src).pwr = s.pwr := rfl
@[simp] theorem State.fireChans_rtc (s : State) (cfg : List (Nat × Word)) (cs : List Nat) (src : Nat) : (s.fireChans cfg cs src).rtc = s.rtc := rfl
@[simp] theorem State.fireChans_mer (s : State) (cfg : List (Nat × Word)) (cs : List Nat) (src : Nat) : (s.fireChans cfg cs src).mer = s.mer := rfl
@[simp] theorem State.fireChans_rfc (s : State) (cfg : List (Nat × Word)) (cs : List Nat) (src : Nat) : (s.fireChans cfg cs src).rfc = s.rfc := rfl
@[simp] theorem State.fireChans_mdm (s : State) (cfg : List (Nat × Word)) (cs : List Nat) (src : Nat) : (s.fireChans cfg cs src).mdm = s.mdm := rfl
@[simp] theorem State.fireChans_mac (s : State) (cfg : List (Nat × Word)) (cs : List Nat) (src : Nat) : (s.fireChans cfg cs src).mac = s.mac := rfl
@[simp] theorem State.fireChans_shp (s : State) (cfg : List (Nat × Word)) (cs : List Nat) (src : Nat) : (s.fireChans cfg cs src).shp = s.shp := rfl
@[simp] theorem State.fireChans_flc (s : State) (cfg : List (Nat × Word)) (cs : List Nat) (src : Nat) : (s.fireChans cfg cs src).flc = s.flc := rfl
@[simp] theorem State.fireChans_cip (s : State) (cfg : List (Nat × Word)) (cs : List Nat) (src : Nat) : (s.fireChans cfg cs src).cip = s.cip := rfl
@[simp] theorem State.fireChans_svr (s : State) (cfg : List (Nat × Word)) (cs : List Nat) (src : Nat) : (s.fireChans cfg cs src).svr = s.svr := rfl
@[simp] theorem State.fireChans_mesh (s : State) (cfg : List (Nat × Word)) (cs : List Nat) (src : Nat) : (s.fireChans cfg cs src).mesh = s.mesh := rfl
@[simp] theorem State.fireChans_snd (s : State) (cfg : List (Nat × Word)) (cs : List Nat) (src : Nat) : (s.fireChans cfg cs src).snd = s.snd := rfl
@[simp] theorem State.fireChans_sns (s : State) (cfg : List (Nat × Word)) (cs : List Nat) (src : Nat) : (s.fireChans cfg cs src).sns = s.sns := rfl
@[simp] theorem State.fireChans_tst (s : State) (cfg : List (Nat × Word)) (cs : List Nat) (src : Nat) : (s.fireChans cfg cs src).tst = s.tst := rfl
@[simp] theorem State.fireChans_hif (s : State) (cfg : List (Nat × Word)) (cs : List Nat) (src : Nat) : (s.fireChans cfg cs src).hif = s.hif := rfl
@[simp] theorem State.fireChans_fw (s : State) (cfg : List (Nat × Word)) (cs : List Nat) (src : Nat) : (s.fireChans cfg cs src).fw = s.fw := rfl

/-! ### firePulse -/

@[simp] theorem State.firePulse_pending (s : State) (src : Nat) : (s.firePulse src).pending = s.pending := rfl
@[simp] theorem State.firePulse_free (s : State) (src : Nat) : (s.firePulse src).free = s.free := rfl
@[simp] theorem State.firePulse_busData (s : State) (src : Nat) : (s.firePulse src).busData = s.busData := rfl
@[simp] theorem State.firePulse_tclk (s : State) (src : Nat) : (s.firePulse src).tclk = s.tclk := rfl
@[simp] theorem State.firePulse_shadow (s : State) (src : Nat) : (s.firePulse src).shadow = s.shadow := rfl
@[simp] theorem State.firePulse_sram (s : State) (src : Nat) : (s.firePulse src).sram = s.sram := rfl
@[simp] theorem State.firePulse_sramGen (s : State) (src : Nat) : (s.firePulse src).sramGen = s.sramGen := rfl
@[simp] theorem State.firePulse_resvs (s : State) (src : Nat) : (s.firePulse src).resvs = s.resvs := rfl
@[simp] theorem State.firePulse_engs (s : State) (src : Nat) : (s.firePulse src).engs = s.engs := rfl
@[simp] theorem State.firePulse_engJobs (s : State) (src : Nat) : (s.firePulse src).engJobs = s.engJobs := rfl
@[simp] theorem State.firePulse_flt (s : State) (src : Nat) : (s.firePulse src).flt = s.flt := rfl
@[simp] theorem State.firePulse_start (s : State) (src : Nat) : (s.firePulse src).start = s.start := rfl
@[simp] theorem State.firePulse_path (s : State) (src : Nat) : (s.firePulse src).path = s.path := rfl
@[simp] theorem State.firePulse_pwr (s : State) (src : Nat) : (s.firePulse src).pwr = s.pwr := rfl
@[simp] theorem State.firePulse_rtc (s : State) (src : Nat) : (s.firePulse src).rtc = s.rtc := rfl
@[simp] theorem State.firePulse_mer (s : State) (src : Nat) : (s.firePulse src).mer = s.mer := rfl
@[simp] theorem State.firePulse_rfc (s : State) (src : Nat) : (s.firePulse src).rfc = s.rfc := rfl
@[simp] theorem State.firePulse_mdm (s : State) (src : Nat) : (s.firePulse src).mdm = s.mdm := rfl
@[simp] theorem State.firePulse_mac (s : State) (src : Nat) : (s.firePulse src).mac = s.mac := rfl
@[simp] theorem State.firePulse_shp (s : State) (src : Nat) : (s.firePulse src).shp = s.shp := rfl
@[simp] theorem State.firePulse_flc (s : State) (src : Nat) : (s.firePulse src).flc = s.flc := rfl
@[simp] theorem State.firePulse_cip (s : State) (src : Nat) : (s.firePulse src).cip = s.cip := rfl
@[simp] theorem State.firePulse_svr (s : State) (src : Nat) : (s.firePulse src).svr = s.svr := rfl
@[simp] theorem State.firePulse_mesh (s : State) (src : Nat) : (s.firePulse src).mesh = s.mesh := rfl
@[simp] theorem State.firePulse_snd (s : State) (src : Nat) : (s.firePulse src).snd = s.snd := rfl
@[simp] theorem State.firePulse_sns (s : State) (src : Nat) : (s.firePulse src).sns = s.sns := rfl
@[simp] theorem State.firePulse_tst (s : State) (src : Nat) : (s.firePulse src).tst = s.tst := rfl
@[simp] theorem State.firePulse_hif (s : State) (src : Nat) : (s.firePulse src).hif = s.hif := rfl
@[simp] theorem State.firePulse_fw (s : State) (src : Nat) : (s.firePulse src).fw = s.fw := rfl

/-! ### enterSource, enterSources -/

@[simp] theorem State.enterSource_pending (s : State) (d src : Nat) : (s.enterSource d src).pending = s.pending := rfl
@[simp] theorem State.enterSource_free (s : State) (d src : Nat) : (s.enterSource d src).free = s.free := rfl
@[simp] theorem State.enterSource_busData (s : State) (d src : Nat) : (s.enterSource d src).busData = s.busData := rfl
@[simp] theorem State.enterSource_tclk (s : State) (d src : Nat) : (s.enterSource d src).tclk = s.tclk := rfl
@[simp] theorem State.enterSource_shadow (s : State) (d src : Nat) : (s.enterSource d src).shadow = s.shadow := rfl
@[simp] theorem State.enterSource_sram (s : State) (d src : Nat) : (s.enterSource d src).sram = s.sram := rfl
@[simp] theorem State.enterSource_sramGen (s : State) (d src : Nat) : (s.enterSource d src).sramGen = s.sramGen := rfl
@[simp] theorem State.enterSource_resvs (s : State) (d src : Nat) : (s.enterSource d src).resvs = s.resvs := rfl
@[simp] theorem State.enterSource_engs (s : State) (d src : Nat) : (s.enterSource d src).engs = s.engs := rfl
@[simp] theorem State.enterSource_engJobs (s : State) (d src : Nat) : (s.enterSource d src).engJobs = s.engJobs := rfl
@[simp] theorem State.enterSource_flt (s : State) (d src : Nat) : (s.enterSource d src).flt = s.flt := rfl
@[simp] theorem State.enterSource_start (s : State) (d src : Nat) : (s.enterSource d src).start = s.start := rfl
@[simp] theorem State.enterSource_path (s : State) (d src : Nat) : (s.enterSource d src).path = s.path := rfl
@[simp] theorem State.enterSource_pwr (s : State) (d src : Nat) : (s.enterSource d src).pwr = s.pwr := rfl
@[simp] theorem State.enterSource_rtc (s : State) (d src : Nat) : (s.enterSource d src).rtc = s.rtc := rfl
@[simp] theorem State.enterSource_mer (s : State) (d src : Nat) : (s.enterSource d src).mer = s.mer := rfl
@[simp] theorem State.enterSource_rfc (s : State) (d src : Nat) : (s.enterSource d src).rfc = s.rfc := rfl
@[simp] theorem State.enterSource_mdm (s : State) (d src : Nat) : (s.enterSource d src).mdm = s.mdm := rfl
@[simp] theorem State.enterSource_mac (s : State) (d src : Nat) : (s.enterSource d src).mac = s.mac := rfl
@[simp] theorem State.enterSource_shp (s : State) (d src : Nat) : (s.enterSource d src).shp = s.shp := rfl
@[simp] theorem State.enterSource_flc (s : State) (d src : Nat) : (s.enterSource d src).flc = s.flc := rfl
@[simp] theorem State.enterSource_cip (s : State) (d src : Nat) : (s.enterSource d src).cip = s.cip := rfl
@[simp] theorem State.enterSource_svr (s : State) (d src : Nat) : (s.enterSource d src).svr = s.svr := rfl
@[simp] theorem State.enterSource_mesh (s : State) (d src : Nat) : (s.enterSource d src).mesh = s.mesh := rfl
@[simp] theorem State.enterSource_snd (s : State) (d src : Nat) : (s.enterSource d src).snd = s.snd := rfl
@[simp] theorem State.enterSource_sns (s : State) (d src : Nat) : (s.enterSource d src).sns = s.sns := rfl
@[simp] theorem State.enterSource_tst (s : State) (d src : Nat) : (s.enterSource d src).tst = s.tst := rfl
@[simp] theorem State.enterSource_hif (s : State) (d src : Nat) : (s.enterSource d src).hif = s.hif := rfl
@[simp] theorem State.enterSource_fw (s : State) (d src : Nat) : (s.enterSource d src).fw = s.fw := rfl

/-- What no pulse entering the fabric changes, the entry of a number of them does not change. -/
theorem State.enterSources_keeps {α : Type} (p : State → α) (h : ∀ (t : State) (d src : Nat), p (t.enterSource d src) = p t)
    (he : ∀ (t : State) (e : Evf), p { t with evf := e } = p t) (s : State) (n : Nat) : p (s.enterSources n) = p s := by
  have fold : ∀ (l : List SrcPulse) (t : State), p (l.foldl (fun t x => t.enterSource (x.enter - s.tclk) x.src) t) = p t := by
    intro l
    induction l with
    | nil => exact fun _ => rfl
    | cons x l ih => exact fun t => (ih _).trans (h t _ _)
  simp only [State.enterSources]
  split
  · rfl
  · exact (he _ _).trans (fold _ s)

@[simp] theorem State.enterSources_pending (s : State) (n : Nat) : (s.enterSources n).pending = s.pending :=
  State.enterSources_keeps (·.pending) (fun _ _ _ => rfl) (fun _ _ => rfl) s n
@[simp] theorem State.enterSources_free (s : State) (n : Nat) : (s.enterSources n).free = s.free :=
  State.enterSources_keeps (·.free) (fun _ _ _ => rfl) (fun _ _ => rfl) s n
@[simp] theorem State.enterSources_busData (s : State) (n : Nat) : (s.enterSources n).busData = s.busData :=
  State.enterSources_keeps (·.busData) (fun _ _ _ => rfl) (fun _ _ => rfl) s n
@[simp] theorem State.enterSources_tclk (s : State) (n : Nat) : (s.enterSources n).tclk = s.tclk :=
  State.enterSources_keeps (·.tclk) (fun _ _ _ => rfl) (fun _ _ => rfl) s n
@[simp] theorem State.enterSources_shadow (s : State) (n : Nat) : (s.enterSources n).shadow = s.shadow :=
  State.enterSources_keeps (·.shadow) (fun _ _ _ => rfl) (fun _ _ => rfl) s n
@[simp] theorem State.enterSources_sram (s : State) (n : Nat) : (s.enterSources n).sram = s.sram :=
  State.enterSources_keeps (·.sram) (fun _ _ _ => rfl) (fun _ _ => rfl) s n
@[simp] theorem State.enterSources_sramGen (s : State) (n : Nat) : (s.enterSources n).sramGen = s.sramGen :=
  State.enterSources_keeps (·.sramGen) (fun _ _ _ => rfl) (fun _ _ => rfl) s n
@[simp] theorem State.enterSources_resvs (s : State) (n : Nat) : (s.enterSources n).resvs = s.resvs :=
  State.enterSources_keeps (·.resvs) (fun _ _ _ => rfl) (fun _ _ => rfl) s n
@[simp] theorem State.enterSources_engs (s : State) (n : Nat) : (s.enterSources n).engs = s.engs :=
  State.enterSources_keeps (·.engs) (fun _ _ _ => rfl) (fun _ _ => rfl) s n
@[simp] theorem State.enterSources_engJobs (s : State) (n : Nat) : (s.enterSources n).engJobs = s.engJobs :=
  State.enterSources_keeps (·.engJobs) (fun _ _ _ => rfl) (fun _ _ => rfl) s n
@[simp] theorem State.enterSources_flt (s : State) (n : Nat) : (s.enterSources n).flt = s.flt :=
  State.enterSources_keeps (·.flt) (fun _ _ _ => rfl) (fun _ _ => rfl) s n
@[simp] theorem State.enterSources_start (s : State) (n : Nat) : (s.enterSources n).start = s.start :=
  State.enterSources_keeps (·.start) (fun _ _ _ => rfl) (fun _ _ => rfl) s n
@[simp] theorem State.enterSources_path (s : State) (n : Nat) : (s.enterSources n).path = s.path :=
  State.enterSources_keeps (·.path) (fun _ _ _ => rfl) (fun _ _ => rfl) s n
@[simp] theorem State.enterSources_pwr (s : State) (n : Nat) : (s.enterSources n).pwr = s.pwr :=
  State.enterSources_keeps (·.pwr) (fun _ _ _ => rfl) (fun _ _ => rfl) s n
@[simp] theorem State.enterSources_rtc (s : State) (n : Nat) : (s.enterSources n).rtc = s.rtc :=
  State.enterSources_keeps (·.rtc) (fun _ _ _ => rfl) (fun _ _ => rfl) s n
@[simp] theorem State.enterSources_mer (s : State) (n : Nat) : (s.enterSources n).mer = s.mer :=
  State.enterSources_keeps (·.mer) (fun _ _ _ => rfl) (fun _ _ => rfl) s n
@[simp] theorem State.enterSources_rfc (s : State) (n : Nat) : (s.enterSources n).rfc = s.rfc :=
  State.enterSources_keeps (·.rfc) (fun _ _ _ => rfl) (fun _ _ => rfl) s n
@[simp] theorem State.enterSources_mdm (s : State) (n : Nat) : (s.enterSources n).mdm = s.mdm :=
  State.enterSources_keeps (·.mdm) (fun _ _ _ => rfl) (fun _ _ => rfl) s n
@[simp] theorem State.enterSources_mac (s : State) (n : Nat) : (s.enterSources n).mac = s.mac :=
  State.enterSources_keeps (·.mac) (fun _ _ _ => rfl) (fun _ _ => rfl) s n
@[simp] theorem State.enterSources_shp (s : State) (n : Nat) : (s.enterSources n).shp = s.shp :=
  State.enterSources_keeps (·.shp) (fun _ _ _ => rfl) (fun _ _ => rfl) s n
@[simp] theorem State.enterSources_flc (s : State) (n : Nat) : (s.enterSources n).flc = s.flc :=
  State.enterSources_keeps (·.flc) (fun _ _ _ => rfl) (fun _ _ => rfl) s n
@[simp] theorem State.enterSources_cip (s : State) (n : Nat) : (s.enterSources n).cip = s.cip :=
  State.enterSources_keeps (·.cip) (fun _ _ _ => rfl) (fun _ _ => rfl) s n
@[simp] theorem State.enterSources_svr (s : State) (n : Nat) : (s.enterSources n).svr = s.svr :=
  State.enterSources_keeps (·.svr) (fun _ _ _ => rfl) (fun _ _ => rfl) s n
@[simp] theorem State.enterSources_mesh (s : State) (n : Nat) : (s.enterSources n).mesh = s.mesh :=
  State.enterSources_keeps (·.mesh) (fun _ _ _ => rfl) (fun _ _ => rfl) s n
@[simp] theorem State.enterSources_snd (s : State) (n : Nat) : (s.enterSources n).snd = s.snd :=
  State.enterSources_keeps (·.snd) (fun _ _ _ => rfl) (fun _ _ => rfl) s n
@[simp] theorem State.enterSources_sns (s : State) (n : Nat) : (s.enterSources n).sns = s.sns :=
  State.enterSources_keeps (·.sns) (fun _ _ _ => rfl) (fun _ _ => rfl) s n
@[simp] theorem State.enterSources_tst (s : State) (n : Nat) : (s.enterSources n).tst = s.tst :=
  State.enterSources_keeps (·.tst) (fun _ _ _ => rfl) (fun _ _ => rfl) s n
@[simp] theorem State.enterSources_hif (s : State) (n : Nat) : (s.enterSources n).hif = s.hif :=
  State.enterSources_keeps (·.hif) (fun _ _ _ => rfl) (fun _ _ => rfl) s n
@[simp] theorem State.enterSources_fw (s : State) (n : Nat) : (s.enterSources n).fw = s.fw :=
  State.enterSources_keeps (·.fw) (fun _ _ _ => rfl) (fun _ _ => rfl) s n

/-! ### fireStrait -/

@[simp] theorem State.fireStrait_pending (s : State) (src : Nat) : (s.fireStrait src).pending = s.pending := by
  simp only [State.fireStrait]
  split <;> rfl
@[simp] theorem State.fireStrait_busData (s : State) (src : Nat) : (s.fireStrait src).busData = s.busData := by
  simp only [State.fireStrait]
  split <;> rfl
@[simp] theorem State.fireStrait_tclk (s : State) (src : Nat) : (s.fireStrait src).tclk = s.tclk := by
  simp only [State.fireStrait]
  split <;> rfl
@[simp] theorem State.fireStrait_shadow (s : State) (src : Nat) : (s.fireStrait src).shadow = s.shadow := by
  simp only [State.fireStrait]
  split <;> rfl
@[simp] theorem State.fireStrait_sram (s : State) (src : Nat) : (s.fireStrait src).sram = s.sram := by
  simp only [State.fireStrait]
  split <;> rfl
@[simp] theorem State.fireStrait_sramGen (s : State) (src : Nat) : (s.fireStrait src).sramGen = s.sramGen := by
  simp only [State.fireStrait]
  split <;> rfl
@[simp] theorem State.fireStrait_resvs (s : State) (src : Nat) : (s.fireStrait src).resvs = s.resvs := by
  simp only [State.fireStrait]
  split <;> rfl
@[simp] theorem State.fireStrait_engs (s : State) (src : Nat) : (s.fireStrait src).engs = s.engs := by
  simp only [State.fireStrait]
  split <;> rfl
@[simp] theorem State.fireStrait_engJobs (s : State) (src : Nat) : (s.fireStrait src).engJobs = s.engJobs := by
  simp only [State.fireStrait]
  split <;> rfl
@[simp] theorem State.fireStrait_flt (s : State) (src : Nat) : (s.fireStrait src).flt = s.flt := by
  simp only [State.fireStrait]
  split <;> rfl
@[simp] theorem State.fireStrait_start (s : State) (src : Nat) : (s.fireStrait src).start = s.start := by
  simp only [State.fireStrait]
  split <;> rfl
@[simp] theorem State.fireStrait_path (s : State) (src : Nat) : (s.fireStrait src).path = s.path := by
  simp only [State.fireStrait]
  split <;> rfl
@[simp] theorem State.fireStrait_pwr (s : State) (src : Nat) : (s.fireStrait src).pwr = s.pwr := by
  simp only [State.fireStrait]
  split <;> rfl
@[simp] theorem State.fireStrait_rtc (s : State) (src : Nat) : (s.fireStrait src).rtc = s.rtc := by
  simp only [State.fireStrait]
  split <;> rfl
@[simp] theorem State.fireStrait_mer (s : State) (src : Nat) : (s.fireStrait src).mer = s.mer := by
  simp only [State.fireStrait]
  split <;> rfl
@[simp] theorem State.fireStrait_rfc (s : State) (src : Nat) : (s.fireStrait src).rfc = s.rfc := by
  simp only [State.fireStrait]
  split <;> rfl
@[simp] theorem State.fireStrait_mdm (s : State) (src : Nat) : (s.fireStrait src).mdm = s.mdm := by
  simp only [State.fireStrait]
  split <;> rfl
@[simp] theorem State.fireStrait_mac (s : State) (src : Nat) : (s.fireStrait src).mac = s.mac := by
  simp only [State.fireStrait]
  split <;> rfl
@[simp] theorem State.fireStrait_shp (s : State) (src : Nat) : (s.fireStrait src).shp = s.shp := by
  simp only [State.fireStrait]
  split <;> rfl
@[simp] theorem State.fireStrait_flc (s : State) (src : Nat) : (s.fireStrait src).flc = s.flc := by
  simp only [State.fireStrait]
  split <;> rfl
@[simp] theorem State.fireStrait_cip (s : State) (src : Nat) : (s.fireStrait src).cip = s.cip := by
  simp only [State.fireStrait]
  split <;> rfl
@[simp] theorem State.fireStrait_svr (s : State) (src : Nat) : (s.fireStrait src).svr = s.svr := by
  simp only [State.fireStrait]
  split <;> rfl
@[simp] theorem State.fireStrait_mesh (s : State) (src : Nat) : (s.fireStrait src).mesh = s.mesh := by
  simp only [State.fireStrait]
  split <;> rfl
@[simp] theorem State.fireStrait_snd (s : State) (src : Nat) : (s.fireStrait src).snd = s.snd := by
  simp only [State.fireStrait]
  split <;> rfl
@[simp] theorem State.fireStrait_sns (s : State) (src : Nat) : (s.fireStrait src).sns = s.sns := by
  simp only [State.fireStrait]
  split <;> rfl
@[simp] theorem State.fireStrait_tst (s : State) (src : Nat) : (s.fireStrait src).tst = s.tst := by
  simp only [State.fireStrait]
  split <;> rfl
@[simp] theorem State.fireStrait_hif (s : State) (src : Nat) : (s.fireStrait src).hif = s.hif := by
  simp only [State.fireStrait]
  split <;> rfl
@[simp] theorem State.fireStrait_fw (s : State) (src : Nat) : (s.fireStrait src).fw = s.fw := by
  simp only [State.fireStrait]
  split <;> rfl

/-! ### fire -/

@[simp] theorem State.fire_pending (s : State) (src : Nat) : (s.fire src).pending = s.pending := by
  simp only [State.fire]
  repeat' split
  all_goals first | rfl | exact State.fireStrait_pending s src
@[simp] theorem State.fire_busData (s : State) (src : Nat) : (s.fire src).busData = s.busData := by
  simp only [State.fire]
  repeat' split
  all_goals first | rfl | exact State.fireStrait_busData s src
@[simp] theorem State.fire_tclk (s : State) (src : Nat) : (s.fire src).tclk = s.tclk := by
  simp only [State.fire]
  repeat' split
  all_goals first | rfl | exact State.fireStrait_tclk s src
@[simp] theorem State.fire_shadow (s : State) (src : Nat) : (s.fire src).shadow = s.shadow := by
  simp only [State.fire]
  repeat' split
  all_goals first | rfl | exact State.fireStrait_shadow s src
@[simp] theorem State.fire_sram (s : State) (src : Nat) : (s.fire src).sram = s.sram := by
  simp only [State.fire]
  repeat' split
  all_goals first | rfl | exact State.fireStrait_sram s src
@[simp] theorem State.fire_sramGen (s : State) (src : Nat) : (s.fire src).sramGen = s.sramGen := by
  simp only [State.fire]
  repeat' split
  all_goals first | rfl | exact State.fireStrait_sramGen s src
@[simp] theorem State.fire_resvs (s : State) (src : Nat) : (s.fire src).resvs = s.resvs := by
  simp only [State.fire]
  repeat' split
  all_goals first | rfl | exact State.fireStrait_resvs s src
@[simp] theorem State.fire_engs (s : State) (src : Nat) : (s.fire src).engs = s.engs := by
  simp only [State.fire]
  repeat' split
  all_goals first | rfl | exact State.fireStrait_engs s src
@[simp] theorem State.fire_engJobs (s : State) (src : Nat) : (s.fire src).engJobs = s.engJobs := by
  simp only [State.fire]
  repeat' split
  all_goals first | rfl | exact State.fireStrait_engJobs s src
@[simp] theorem State.fire_flt (s : State) (src : Nat) : (s.fire src).flt = s.flt := by
  simp only [State.fire]
  repeat' split
  all_goals first | rfl | exact State.fireStrait_flt s src
@[simp] theorem State.fire_start (s : State) (src : Nat) : (s.fire src).start = s.start := by
  simp only [State.fire]
  repeat' split
  all_goals first | rfl | exact State.fireStrait_start s src
@[simp] theorem State.fire_path (s : State) (src : Nat) : (s.fire src).path = s.path := by
  simp only [State.fire]
  repeat' split
  all_goals first | rfl | exact State.fireStrait_path s src
@[simp] theorem State.fire_pwr (s : State) (src : Nat) : (s.fire src).pwr = s.pwr := by
  simp only [State.fire]
  repeat' split
  all_goals first | rfl | exact State.fireStrait_pwr s src
@[simp] theorem State.fire_rtc (s : State) (src : Nat) : (s.fire src).rtc = s.rtc := by
  simp only [State.fire]
  repeat' split
  all_goals first | rfl | exact State.fireStrait_rtc s src
@[simp] theorem State.fire_mer (s : State) (src : Nat) : (s.fire src).mer = s.mer := by
  simp only [State.fire]
  repeat' split
  all_goals first | rfl | exact State.fireStrait_mer s src
@[simp] theorem State.fire_rfc (s : State) (src : Nat) : (s.fire src).rfc = s.rfc := by
  simp only [State.fire]
  repeat' split
  all_goals first | rfl | exact State.fireStrait_rfc s src
@[simp] theorem State.fire_mdm (s : State) (src : Nat) : (s.fire src).mdm = s.mdm := by
  simp only [State.fire]
  repeat' split
  all_goals first | rfl | exact State.fireStrait_mdm s src
@[simp] theorem State.fire_mac (s : State) (src : Nat) : (s.fire src).mac = s.mac := by
  simp only [State.fire]
  repeat' split
  all_goals first | rfl | exact State.fireStrait_mac s src
@[simp] theorem State.fire_shp (s : State) (src : Nat) : (s.fire src).shp = s.shp := by
  simp only [State.fire]
  repeat' split
  all_goals first | rfl | exact State.fireStrait_shp s src
@[simp] theorem State.fire_flc (s : State) (src : Nat) : (s.fire src).flc = s.flc := by
  simp only [State.fire]
  repeat' split
  all_goals first | rfl | exact State.fireStrait_flc s src
@[simp] theorem State.fire_cip (s : State) (src : Nat) : (s.fire src).cip = s.cip := by
  simp only [State.fire]
  repeat' split
  all_goals first | rfl | exact State.fireStrait_cip s src
@[simp] theorem State.fire_svr (s : State) (src : Nat) : (s.fire src).svr = s.svr := by
  simp only [State.fire]
  repeat' split
  all_goals first | rfl | exact State.fireStrait_svr s src
@[simp] theorem State.fire_mesh (s : State) (src : Nat) : (s.fire src).mesh = s.mesh := by
  simp only [State.fire]
  repeat' split
  all_goals first | rfl | exact State.fireStrait_mesh s src
@[simp] theorem State.fire_snd (s : State) (src : Nat) : (s.fire src).snd = s.snd := by
  simp only [State.fire]
  repeat' split
  all_goals first | rfl | exact State.fireStrait_snd s src
@[simp] theorem State.fire_sns (s : State) (src : Nat) : (s.fire src).sns = s.sns := by
  simp only [State.fire]
  repeat' split
  all_goals first | rfl | exact State.fireStrait_sns s src
@[simp] theorem State.fire_tst (s : State) (src : Nat) : (s.fire src).tst = s.tst := by
  simp only [State.fire]
  repeat' split
  all_goals first | rfl | exact State.fireStrait_tst s src
@[simp] theorem State.fire_hif (s : State) (src : Nat) : (s.fire src).hif = s.hif := by
  simp only [State.fire]
  repeat' split
  all_goals first | rfl | exact State.fireStrait_hif s src
@[simp] theorem State.fire_fw (s : State) (src : Nat) : (s.fire src).fw = s.fw := by
  simp only [State.fire]
  repeat' split
  all_goals first | rfl | exact State.fireStrait_fw s src

/-! ### setPend -/

@[simp] theorem State.setPend_pending (s : State) (e : Nat) (p o : Field) (b : Nat) : (s.setPend e p o b).pending = s.pending := rfl
@[simp] theorem State.setPend_free (s : State) (e : Nat) (p o : Field) (b : Nat) : (s.setPend e p o b).free = s.free := rfl
@[simp] theorem State.setPend_busData (s : State) (e : Nat) (p o : Field) (b : Nat) : (s.setPend e p o b).busData = s.busData := rfl
@[simp] theorem State.setPend_tclk (s : State) (e : Nat) (p o : Field) (b : Nat) : (s.setPend e p o b).tclk = s.tclk := rfl
@[simp] theorem State.setPend_shadow (s : State) (e : Nat) (p o : Field) (b : Nat) : (s.setPend e p o b).shadow = s.shadow := rfl
@[simp] theorem State.setPend_sram (s : State) (e : Nat) (p o : Field) (b : Nat) : (s.setPend e p o b).sram = s.sram := rfl
@[simp] theorem State.setPend_sramGen (s : State) (e : Nat) (p o : Field) (b : Nat) : (s.setPend e p o b).sramGen = s.sramGen := rfl
@[simp] theorem State.setPend_resvs (s : State) (e : Nat) (p o : Field) (b : Nat) : (s.setPend e p o b).resvs = s.resvs := rfl
@[simp] theorem State.setPend_engJobs (s : State) (e : Nat) (p o : Field) (b : Nat) : (s.setPend e p o b).engJobs = s.engJobs := rfl
@[simp] theorem State.setPend_evf (s : State) (e : Nat) (p o : Field) (b : Nat) : (s.setPend e p o b).evf = s.evf := rfl
@[simp] theorem State.setPend_flt (s : State) (e : Nat) (p o : Field) (b : Nat) : (s.setPend e p o b).flt = s.flt := rfl
@[simp] theorem State.setPend_start (s : State) (e : Nat) (p o : Field) (b : Nat) : (s.setPend e p o b).start = s.start := rfl
@[simp] theorem State.setPend_path (s : State) (e : Nat) (p o : Field) (b : Nat) : (s.setPend e p o b).path = s.path := rfl
@[simp] theorem State.setPend_rtc (s : State) (e : Nat) (p o : Field) (b : Nat) : (s.setPend e p o b).rtc = s.rtc := rfl
@[simp] theorem State.setPend_mer (s : State) (e : Nat) (p o : Field) (b : Nat) : (s.setPend e p o b).mer = s.mer := rfl
@[simp] theorem State.setPend_rfc (s : State) (e : Nat) (p o : Field) (b : Nat) : (s.setPend e p o b).rfc = s.rfc := rfl
@[simp] theorem State.setPend_mdm (s : State) (e : Nat) (p o : Field) (b : Nat) : (s.setPend e p o b).mdm = s.mdm := rfl
@[simp] theorem State.setPend_mac (s : State) (e : Nat) (p o : Field) (b : Nat) : (s.setPend e p o b).mac = s.mac := rfl
@[simp] theorem State.setPend_shp (s : State) (e : Nat) (p o : Field) (b : Nat) : (s.setPend e p o b).shp = s.shp := rfl
@[simp] theorem State.setPend_flc (s : State) (e : Nat) (p o : Field) (b : Nat) : (s.setPend e p o b).flc = s.flc := rfl
@[simp] theorem State.setPend_cip (s : State) (e : Nat) (p o : Field) (b : Nat) : (s.setPend e p o b).cip = s.cip := rfl
@[simp] theorem State.setPend_svr (s : State) (e : Nat) (p o : Field) (b : Nat) : (s.setPend e p o b).svr = s.svr := rfl
@[simp] theorem State.setPend_mesh (s : State) (e : Nat) (p o : Field) (b : Nat) : (s.setPend e p o b).mesh = s.mesh := rfl
@[simp] theorem State.setPend_snd (s : State) (e : Nat) (p o : Field) (b : Nat) : (s.setPend e p o b).snd = s.snd := rfl
@[simp] theorem State.setPend_sns (s : State) (e : Nat) (p o : Field) (b : Nat) : (s.setPend e p o b).sns = s.sns := rfl
@[simp] theorem State.setPend_tst (s : State) (e : Nat) (p o : Field) (b : Nat) : (s.setPend e p o b).tst = s.tst := rfl
@[simp] theorem State.setPend_hif (s : State) (e : Nat) (p o : Field) (b : Nat) : (s.setPend e p o b).hif = s.hif := rfl
@[simp] theorem State.setPend_fw (s : State) (e : Nat) (p o : Field) (b : Nat) : (s.setPend e p o b).fw = s.fw := rfl

/-! ### doorbell -/

@[simp] theorem State.doorbell_pending (s : State) (e b : Nat) : (s.doorbell e b).pending = s.pending := by
  simp only [State.doorbell]
  split
  · rfl
  · exact State.setPend_pending ..
@[simp] theorem State.doorbell_free (s : State) (e b : Nat) : (s.doorbell e b).free = s.free := by
  simp only [State.doorbell]
  split
  · rfl
  · exact State.setPend_free ..
@[simp] theorem State.doorbell_busData (s : State) (e b : Nat) : (s.doorbell e b).busData = s.busData := by
  simp only [State.doorbell]
  split
  · rfl
  · exact State.setPend_busData ..
@[simp] theorem State.doorbell_tclk (s : State) (e b : Nat) : (s.doorbell e b).tclk = s.tclk := by
  simp only [State.doorbell]
  split
  · rfl
  · exact State.setPend_tclk ..
@[simp] theorem State.doorbell_shadow (s : State) (e b : Nat) : (s.doorbell e b).shadow = s.shadow := by
  simp only [State.doorbell]
  split
  · rfl
  · exact State.setPend_shadow ..
@[simp] theorem State.doorbell_sram (s : State) (e b : Nat) : (s.doorbell e b).sram = s.sram := by
  simp only [State.doorbell]
  split
  · rfl
  · exact State.setPend_sram ..
@[simp] theorem State.doorbell_sramGen (s : State) (e b : Nat) : (s.doorbell e b).sramGen = s.sramGen := by
  simp only [State.doorbell]
  split
  · rfl
  · exact State.setPend_sramGen ..
@[simp] theorem State.doorbell_resvs (s : State) (e b : Nat) : (s.doorbell e b).resvs = s.resvs := by
  simp only [State.doorbell]
  split
  · rfl
  · exact State.setPend_resvs ..
@[simp] theorem State.doorbell_engJobs (s : State) (e b : Nat) : (s.doorbell e b).engJobs = s.engJobs := by
  simp only [State.doorbell]
  split
  · rfl
  · exact State.setPend_engJobs ..
@[simp] theorem State.doorbell_evf (s : State) (e b : Nat) : (s.doorbell e b).evf = s.evf := by
  simp only [State.doorbell]
  split
  · rfl
  · exact State.setPend_evf ..
@[simp] theorem State.doorbell_flt (s : State) (e b : Nat) : (s.doorbell e b).flt = s.flt := by
  simp only [State.doorbell]
  split
  · rfl
  · exact State.setPend_flt ..
@[simp] theorem State.doorbell_start (s : State) (e b : Nat) : (s.doorbell e b).start = s.start := by
  simp only [State.doorbell]
  split
  · rfl
  · exact State.setPend_start ..
@[simp] theorem State.doorbell_path (s : State) (e b : Nat) : (s.doorbell e b).path = s.path := by
  simp only [State.doorbell]
  split
  · rfl
  · exact State.setPend_path ..
@[simp] theorem State.doorbell_rtc (s : State) (e b : Nat) : (s.doorbell e b).rtc = s.rtc := by
  simp only [State.doorbell]
  split
  · rfl
  · exact State.setPend_rtc ..
@[simp] theorem State.doorbell_mer (s : State) (e b : Nat) : (s.doorbell e b).mer = s.mer := by
  simp only [State.doorbell]
  split
  · rfl
  · exact State.setPend_mer ..
@[simp] theorem State.doorbell_rfc (s : State) (e b : Nat) : (s.doorbell e b).rfc = s.rfc := by
  simp only [State.doorbell]
  split
  · rfl
  · exact State.setPend_rfc ..
@[simp] theorem State.doorbell_mdm (s : State) (e b : Nat) : (s.doorbell e b).mdm = s.mdm := by
  simp only [State.doorbell]
  split
  · rfl
  · exact State.setPend_mdm ..
@[simp] theorem State.doorbell_mac (s : State) (e b : Nat) : (s.doorbell e b).mac = s.mac := by
  simp only [State.doorbell]
  split
  · rfl
  · exact State.setPend_mac ..
@[simp] theorem State.doorbell_shp (s : State) (e b : Nat) : (s.doorbell e b).shp = s.shp := by
  simp only [State.doorbell]
  split
  · rfl
  · exact State.setPend_shp ..
@[simp] theorem State.doorbell_flc (s : State) (e b : Nat) : (s.doorbell e b).flc = s.flc := by
  simp only [State.doorbell]
  split
  · rfl
  · exact State.setPend_flc ..
@[simp] theorem State.doorbell_cip (s : State) (e b : Nat) : (s.doorbell e b).cip = s.cip := by
  simp only [State.doorbell]
  split
  · rfl
  · exact State.setPend_cip ..
@[simp] theorem State.doorbell_svr (s : State) (e b : Nat) : (s.doorbell e b).svr = s.svr := by
  simp only [State.doorbell]
  split
  · rfl
  · exact State.setPend_svr ..
@[simp] theorem State.doorbell_mesh (s : State) (e b : Nat) : (s.doorbell e b).mesh = s.mesh := by
  simp only [State.doorbell]
  split
  · rfl
  · exact State.setPend_mesh ..
@[simp] theorem State.doorbell_snd (s : State) (e b : Nat) : (s.doorbell e b).snd = s.snd := by
  simp only [State.doorbell]
  split
  · rfl
  · exact State.setPend_snd ..
@[simp] theorem State.doorbell_sns (s : State) (e b : Nat) : (s.doorbell e b).sns = s.sns := by
  simp only [State.doorbell]
  split
  · rfl
  · exact State.setPend_sns ..
@[simp] theorem State.doorbell_tst (s : State) (e b : Nat) : (s.doorbell e b).tst = s.tst := by
  simp only [State.doorbell]
  split
  · rfl
  · exact State.setPend_tst ..
@[simp] theorem State.doorbell_hif (s : State) (e b : Nat) : (s.doorbell e b).hif = s.hif := by
  simp only [State.doorbell]
  split
  · rfl
  · exact State.setPend_hif ..
@[simp] theorem State.doorbell_fw (s : State) (e b : Nat) : (s.doorbell e b).fw = s.fw := by
  simp only [State.doorbell]
  split
  · rfl
  · exact State.setPend_fw ..

@[simp] theorem State.wr_regs (s : State) (f : Field) (v : Nat) : (s.wr f v).regs = wrF s.regs f v := rfl
@[simp] theorem State.inc_regs (s : State) (f : Field) (k : Nat) : (s.inc f k).regs = incF s.regs f k := rfl

/-- A field read after it was written. -/
theorem State.rd_wr (s : State) (f : Field) (v : Nat) (hf : f.fits = true) : (s.wr f v).rd f = v % 2 ^ f.width := rdF_wrF _ f v hf

/-- A field apart from the one written. -/
theorem State.rd_wr_apart (s : State) (f g : Field) (v : Nat) (hf : f.fits = true) (h : f.apart g = true) :
    (s.wr f v).rd g = s.rd g := rdF_wrF_apart _ f g v hf h

theorem State.rd_inc (s : State) (f : Field) (k : Nat) (hf : f.fits = true) :
    (s.inc f k).rd f = min (s.rd f + k) (2 ^ f.width - 1) := rdF_incF _ f k hf

theorem State.rd_inc_apart (s : State) (f g : Field) (k : Nat) (hf : f.fits = true) (h : f.apart g = true) :
    (s.inc f k).rd g = s.rd g := rdF_incF_apart _ f g k hf h

/-! ### Firing leaves every register outside EVF (R338) -/

theorem fold_keeps {α β : Type} (P : β → β → Prop) (hr : ∀ x, P x x) (ht : ∀ x y z, P x y → P y z → P x z) (f : β → α → β)
    (hf : ∀ x a, P x (f x a)) (l : List α) (x : β) : P x (l.foldl f x) := by
  induction l generalizing x with
  | nil => exact hr x
  | cons a l ih => exact ht _ _ _ (hf x a) (ih (f x a))

/-- An address of the EVF block. -/
def inEvf (a : Nat) : Prop := 0x40004000 ≤ a ∧ a < 0x40005000

/-- The register words agree outside EVF. -/
def sameOutside (m n : List (Nat × Word)) : Prop := ∀ a, ¬ inEvf a → regGet n a = regGet m a

theorem sameOutside_incF (m : List (Nat × Word)) (f : Field) (k : Nat) (h : inEvf f.addr) : sameOutside m (incF m f k) := by
  intro a ha
  exact regGet_wrF m f _ a (fun e => ha (e ▸ h))

theorem evf_counts (r : List (Nat × Word)) (cs : List Nat) (g : Nat → Field) (hc : ∀ n ∈ cs, inEvf (g n).addr) :
    sameOutside r (cs.foldl (fun r n => incF r (g n)) r) := by
  induction cs generalizing r with
  | nil => intro a _; rfl
  | cons n cs ih =>
    intro a ha
    rw [List.foldl_cons, ih (incF r (g n)) (fun k hk => hc k (List.mem_cons_of_mem _ hk)) a ha]
    exact sameOutside_incF r (g n) 1 (hc n List.mem_cons_self) a ha

theorem sameOutside.trans {a b c : List (Nat × Word)} (h : sameOutside a b) (k : sameOutside b c) : sameOutside a c :=
  fun x hx => (k x hx).trans (h x hx)

theorem sameOutside_ite {r : List (Nat × Word)} {c : Prop} [Decidable c] {a b : List (Nat × Word) × Evf} (ha : sameOutside r a.1)
    (hb : sameOutside r b.1) : sameOutside r (if c then a else b).1 := by split <;> assumption

theorem enterPulse_keeps (x : List (Nat × Word) × Evf) (p : Pulse) (h : ∀ n ∈ p.chans, n < 64) :
    sameOutside x.1 (enterPulse x p).1 := by
  have lose : ∀ r : List (Nat × Word), sameOutside r (p.chans.foldl (fun r n => incF r (EVF_CH_CNT_MERGED n)) r) := fun r =>
    evf_counts r p.chans _ (fun n hn => by have := h n hn; constructor <;> simp only [] <;> omega)
  have coll : ∀ (r : List (Nat × Word)) (k : Nat), sameOutside r (if k = 0 then r else incF r EVF_CNT_TCOLL k) := fun r k => by
    split
    · exact fun _ _ => rfl
    · exact sameOutside_incF _ _ _ (by constructor <;> decide)
  simp only [enterPulse]
  refine sameOutside_ite (coll _ _) (sameOutside_ite ((coll _ _).trans (lose _)) (sameOutside_ite (sameOutside_ite ?_ ?_) ?_))
  · exact (coll _ _).trans (lose _)
  · exact coll _ _
  · exact coll _ _

theorem pulses_keep (ts : List Nat) (p : Nat → Pulse) (x : List (Nat × Word) × Evf) (h : ∀ t, ∀ n ∈ (p t).chans, n < 64) :
    sameOutside x.1 (ts.foldl (fun x t => enterPulse x (p t)) x).1 := by
  induction ts generalizing x with
  | nil => exact fun _ _ => rfl
  | cons t ts ih => exact (enterPulse_keeps x (p t) (h t)).trans (ih _)

theorem fireRegsEvf_keeps (cfg regs : List (Nat × Word)) (e : Evf) (mer : Mer) (cs : List Nat) (src : Nat) (h : ∀ n ∈ cs, n < 64) :
    sameOutside regs (fireRegsEvf cfg regs e mer cs src).1 := by
  have h1 : ∀ (r : List (Nat × Word)) (p : Nat → Bool) (g : Nat → Field), (∀ n, n < 64 → inEvf (g n).addr) →
      sameOutside r ((cs.filter p).foldl (fun r n => incF r (g n)) r) := fun r p g hg =>
    evf_counts r _ g (fun n hn => hg n (h n (List.mem_filter.1 hn).1))
  simp only [fireRegsEvf]
  refine sameOutside.trans ?_ (pulses_keep _ _ _ (fun t n hn => h n (List.mem_filter.1 (List.mem_filter.1 hn).1).1))
  exact (h1 _ _ (fun n => EVF_CH_CNT_FIRED n) (fun n hn => by constructor <;> simp only [] <;> omega)).trans
    (h1 _ _ (fun n => EVF_CH_CNT_MERGED n) (fun n hn => by constructor <;> simp only [] <;> omega))

theorem chansOf_lt (regs : List (Nat × Word)) (src n : Nat) (h : n ∈ chansOf regs src) : n < 64 :=
  List.mem_range.1 (List.mem_filter.1 h).1

theorem State.firePulse_keeps (s : State) (src : Nat) : sameOutside s.regs (s.firePulse src).regs :=
  fireRegsEvf_keeps _ _ _ _ _ _ (fun n hn => chansOf_lt _ _ n hn)

theorem State.enterSource_keeps (s : State) (d src : Nat) : sameOutside s.regs (s.enterSource d src).regs :=
  fireRegsEvf_keeps _ _ _ _ _ _ (fun n hn => chansOf_lt _ _ n hn)

/-- The pulses that enter the fabric leave every register outside EVF. -/
theorem State.enterSources_regs (s : State) (n : Nat) : sameOutside s.regs (s.enterSources n).regs := by
  have fold : ∀ (l : List SrcPulse) (t : State),
      sameOutside t.regs (l.foldl (fun t x => t.enterSource (x.enter - s.tclk) x.src) t).regs := by
    intro l
    induction l with
    | nil => exact fun _ _ _ => rfl
    | cons x l ih => exact fun t => (State.enterSource_keeps t _ _).trans (ih _)
  simp only [State.enterSources]
  split
  · exact fun _ _ => rfl
  · exact fold _ s

/-- With no pulse at a source crossing, nothing enters the fabric. -/
@[simp] theorem State.enterSources_none (s : State) (n : Nat) (h : s.evf.srcs = []) : s.enterSources n = s := by
  simp [State.enterSources, h]

theorem State.fireStrait_keeps (s : State) (src : Nat) : sameOutside s.regs (s.fireStrait src).regs := by
  simp only [State.fireStrait]
  split
  · exact sameOutside_incF _ _ _ (by constructor <;> decide)
  · exact fun _ _ => rfl

/-- A source pulse leaves every register outside EVF. -/
theorem State.fire_keeps (s : State) (src : Nat) : sameOutside s.regs (s.fire src).regs := by
  simp only [State.fire]
  repeat' split
  · exact s.fireStrait_keeps src
  · exact fun _ _ => rfl
  · exact s.firePulse_keeps src

/-- A source pulse leaves every field outside EVF. -/
theorem State.rd_fire (s : State) (src : Nat) (f : Field) (h : ¬ inEvf f.addr) : (s.fire src).rd f = s.rd f := by
  simp only [State.rd, rdF, s.fire_keeps src f.addr h]

/-- A field outside the block reads as before a block's reset (R6). -/
theorem State.rd_resetBlock (s : State) (b : Nat) (f : Field) (h : f.addr < b ∨ b + 0x1000 ≤ f.addr) :
    (s.resetBlock b).rd f = s.rd f := by
  have e : (decide (b ≤ f.addr ∧ f.addr < b + 0x1000)) = false := by
    rw [decide_eq_false_iff_not]; omega
  simp only [State.rd, rdF, State.resetBlock, regsReset, regGet, spGet_spClear, e, Bool.false_eq_true, if_false]

end Sys2Proof.Machine
end

