-- ==== Sys2Proof/Laws/Gosor.lean ====
section
/-!
SUPPORT. Laws of the engines and of the shared steps of an instruction: what fetch, work and retirement do together (R309, R315, R328, R329).
-/
namespace Sys2Proof.Machine

theorem fin12_ofNat (e : Fin 12) : Fin.ofNat 12 e.val = e := by
  apply Fin.ext
  simp [Fin.ofNat]

@[simp] theorem eng_setEng (s : State) (e : Fin 12) (g : Engine) : (s.setEng e.val g).eng e.val = g := by
  have h : min e.val 11 = e.val := by omega
  simp [State.setEng, State.eng, Machine.setEng, h]

/-- Another engine is as it was. -/
theorem eng_setEng_other (s : State) {e k : Fin 12} (g : Engine) (h : k ≠ e) : (s.setEng e.val g).eng k.val = s.eng k.val := by
  have hv : ¬ e.val = k.val := fun x => h (Fin.ext x.symm)
  have he : min e.val 11 = e.val := by omega
  have hk : min k.val 11 = k.val := by omega
  simp [State.setEng, State.eng, Machine.setEng, he, hk, hv]

theorem setEng_setEng (s : State) (e : Fin 12) (g h : Engine) : (s.setEng e.val g).setEng e.val h = s.setEng e.val h := by
  simp [State.setEng, Machine.setEng]

/-- The replacement of one engine leaves everything else. -/
theorem onlyEngine_setEng (s : State) (e : Fin 12) (g : Engine) (h : g.tcm = (s.eng e.val).tcm) : onlyEngine s (s.setEng e.val g) e :=
  ⟨by rw [eng_setEng]; rfl, by rw [eng_setEng]; exact h⟩

/-- An instruction of a running engine retires with the registers of its work, the load before it written and its own load pending; nothing
else changes. -/
theorem retire_spec (u : State) (e : Fin 12) (l : Option PendLoad) (r : Retired) (h : (u.eng e.val).st = .run) (hw : r.wait = false) :
    (u.retire e.val l r).g e = withLoad r.g l ∧ (u.retire e.val l r).load e = r.load ∧ onlyEngine u (u.retire e.val l r) e := by
  simp only [State.retire, h, ne_eq, not_true_eq_false, if_false, hw]
  by_cases ho : r.out
  · simp only [ho, if_true, State.checkpoint, eng_setEng]
    split <;> simp only [setEng_setEng, State.g, State.load, eng_setEng, onlyEngine, true_and] <;> exact ⟨rfl, trivial⟩
  · simp [ho, State.g, State.load, onlyEngine]
    rfl

/-- An engine that stopped on the way retires nothing. -/
theorem retire_stopped (u : State) (e : Fin 12) (l : Option PendLoad) (r : Retired) (h : (u.eng e.val).st ≠ .run) :
    u.retire e.val l r = u := by
  simp [State.retire, h]

/-- What an instruction does whose fetch and whose work succeed within the undo log: it retires. -/
theorem instr_spec {s u w : State} {e : Fin 12} {len : Nat} {f : Work} {r : Retired} (h : s.Fetches e len u)
    (hf : f u (.eng e) (s.g e) ((s.g e).p + BitVec.ofNat 32 len) = .ok r w) (hu : (w.eng e.val).undo.length ≤ 256) :
    s.instr e len f = w.retire e.val (u.load e) r := by
  obtain ⟨h1, h2, -, -, h6⟩ := h
  have h5 : w.undoFull e.val = false := by simp [State.undoFull]; omega
  simp only [State.g] at hf
  simp only [State.instr, h1, if_true, State.execute1, fin12_ofNat, h6, h2, hf, h5, Bool.false_eq_true, if_false]

/-- An instruction whose work fails takes the fault vector. -/
theorem instr_err {s u w : State} {e : Fin 12} {len : Nat} {f : Work} {x : BusErr} {a : Word} (h : s.Fetches e len u)
    (hf : f u (.eng e) (s.g e) ((s.g e).p + BitVec.ofNat 32 len) = .err x a w) :
    s.instr e len f = w.faultVector e.val x a := by
  obtain ⟨h1, h2, -, -, h6⟩ := h
  simp only [State.g] at hf
  simp only [State.instr, h1, if_true, State.execute1, fin12_ofNat, h6, h2, hf]

end Sys2Proof.Machine
end

