-- ==== Sys2Proof/Laws/Restart.lean ====
section
/-!
SUPPORT. Laws of the restart operations: the loss of SRAM banks keeps the canonical form (R445).
-/
namespace Sys2Proof.Machine

theorem getD_lost (gen : List Nat) (lost : Nat → Bool) (k : Nat) (h : lost k = false) :
    (gen.zipIdx.map (fun p => if lost p.2 then p.1 + 1 else p.1)).getD k 0 = gen.getD k 0 := by
  simp only [List.getD_eq_getElem?_getD, List.getElem?_map, List.getElem?_zipIdx, Nat.zero_add]
  cases gen[k]? <;> simp [h]

theorem mem_spClear {α : Type} {m : List (Nat × α)} {p : Nat → Bool} {x : Nat × α} (h : x ∈ spClear p m) : p x.1 = false := by
  induction m with
  | nil => simp [spClear] at h
  | cons y r ih =>
    by_cases hp : p y.1 = true
    · exact ih (by simpa [spClear, hp] using h)
    · simp only [spClear, hp] at h
      rcases List.mem_cons.mp h with rfl | h
      · simpa using hp
      · exact ih h

/-- The loss of banks keeps the canonical form. -/
theorem loseBanks_wf {s : State} (lost : Nat → Bool) (h : Memory.wf s.sramGen s.sram = true) :
    Memory.wf (s.loseBanks lost).sramGen (s.loseBanks lost).sram = true := by
  have h1 := (spWf_iff _).mp (spWf_spClear (fun a => lost ((a - sramBase) / 0x40000)) h)
  refine (spWf_iff _).mpr ⟨h1.1, fun x hx => ?_⟩
  have hl := mem_spClear hx
  have e : sramDefault (s.loseBanks lost).sramGen x.1 = sramDefault s.sramGen x.1 := by
    have k := getD_lost s.sramGen lost ((x.1 - 0x10000000) / 0x40000) hl
    simp only [sramDefault, State.loseBanks, k]
  rw [e]
  exact h1.2 x hx

end Sys2Proof.Machine
end

