-- ==== Sys2Proof/Laws/Time.lean ====
section
/-!
SUPPORT. What the passage of TCLK cycles does to each field of State (R43, R59, R65, R474).
-/
namespace Sys2Proof.Machine

/-- The slew of SYNTH changes the increment and the point that its rate is counted from, nothing else. -/
theorem slewSynth_keeps {α : Type} (p : State → α) (h : ∀ (t : State) (r : List (Nat × Word)) (m : Mer), m.time = t.mer.time →
    m.tstamp = t.mer.tstamp → p { t with regs := r, mer := m } = p t) (s : State) : p s.slewSynth = p s := by
  simp only [State.slewSynth]
  split
  · exact h _ _ _ rfl rfl
  · rfl

@[simp] theorem tick_tclk (s : State) (n : Nat) : (s.tick n).tclk = s.tclk + n := by
  simp only [State.tick]
  exact (slewSynth_keeps (·.tclk) (fun _ _ _ _ _ => rfl) _).trans (by simp)

/-- An increment outside EVF: no pulse that enters the fabric changes it. -/
theorem rd_enterSources (s : State) (n : Nat) (f : Field) (h : ¬ inEvf f.addr) : (s.enterSources n).rd f = s.rd f := by
  simp only [State.rd, rdF, s.enterSources_regs n f.addr h]

/-- Time moves TSTAMP and the accumulator. -/
@[simp] theorem tick_time (s : State) (n : Nat) : (s.tick n).mer.time = (s.mer.time + n * s.rd MER_INC_INC) % 2 ^ 80 := by
  simp only [State.tick]
  refine (slewSynth_keeps (·.mer.time) (fun _ _ _ h _ => h) _).trans ?_
  simp [rd_enterSources s n MER_INC_INC (by simp [inEvf])]
@[simp] theorem tick_tstamp (s : State) (n : Nat) : (s.tick n).mer.tstamp = (s.mer.tstamp + n) % 2 ^ 64 := by
  simp only [State.tick]
  exact (slewSynth_keeps (·.mer.tstamp) (fun _ _ _ _ h => h) _).trans (by simp)

/-- Of the registers outside EVF, time changes the increment alone. -/
theorem tick_regGet (s : State) (n a : Nat) (h : a ≠ MER_INC_INC.addr) (he : ¬ inEvf a) :
    regGet (s.tick n).regs a = regGet s.regs a := by
  refine Eq.trans ?_ (s.enterSources_regs n a he)
  simp only [State.tick, State.slewSynth]
  split
  · exact regGet_wrF _ _ _ _ h
  · rfl
theorem tick_rd (s : State) (n : Nat) (f : Field) (h : f.addr ≠ MER_INC_INC.addr) (he : ¬ inEvf f.addr) :
    (s.tick n).rd f = s.rd f :=
  congrArg f.of (tick_regGet s n f.addr h he)

/-- With no source pulse on its way, time leaves the fabric and its registers. -/
theorem tick_evf (s : State) (n : Nat) (h : s.evf.srcs = []) : (s.tick n).evf = s.evf := by
  simp only [State.tick, State.enterSources_none s n h]
  exact slewSynth_keeps (·.evf) (fun _ _ _ _ _ => rfl) _
theorem tick_rd_quiet (s : State) (n : Nat) (f : Field) (h : f.addr ≠ MER_INC_INC.addr) (he : s.evf.srcs = []) :
    (s.tick n).rd f = s.rd f := by
  simp only [State.tick, State.enterSources_none s n he, State.slewSynth]
  split
  · exact congrArg f.of (regGet_wrF _ _ _ _ h)
  · rfl

@[simp] theorem tick_pending (s : State) (n : Nat) : (s.tick n).pending = s.pending := by
  simp only [State.tick]
  exact (slewSynth_keeps (·.pending) (fun _ _ _ _ _ => rfl) _).trans (s.enterSources_pending n)
@[simp] theorem tick_free (s : State) (n : Nat) : (s.tick n).free = s.free := by
  simp only [State.tick]
  exact (slewSynth_keeps (·.free) (fun _ _ _ _ _ => rfl) _).trans (s.enterSources_free n)
@[simp] theorem tick_busData (s : State) (n : Nat) : (s.tick n).busData = s.busData := by
  simp only [State.tick]
  exact (slewSynth_keeps (·.busData) (fun _ _ _ _ _ => rfl) _).trans (s.enterSources_busData n)
@[simp] theorem tick_shadow (s : State) (n : Nat) : (s.tick n).shadow = s.shadow := by
  simp only [State.tick]
  exact (slewSynth_keeps (·.shadow) (fun _ _ _ _ _ => rfl) _).trans (s.enterSources_shadow n)
@[simp] theorem tick_sram (s : State) (n : Nat) : (s.tick n).sram = s.sram := by
  simp only [State.tick]
  exact (slewSynth_keeps (·.sram) (fun _ _ _ _ _ => rfl) _).trans (s.enterSources_sram n)
@[simp] theorem tick_sramGen (s : State) (n : Nat) : (s.tick n).sramGen = s.sramGen := by
  simp only [State.tick]
  exact (slewSynth_keeps (·.sramGen) (fun _ _ _ _ _ => rfl) _).trans (s.enterSources_sramGen n)
@[simp] theorem tick_resvs (s : State) (n : Nat) : (s.tick n).resvs = s.resvs := by
  simp only [State.tick]
  exact (slewSynth_keeps (·.resvs) (fun _ _ _ _ _ => rfl) _).trans (s.enterSources_resvs n)
@[simp] theorem tick_engs (s : State) (n : Nat) : (s.tick n).engs = s.engs := by
  simp only [State.tick]
  exact (slewSynth_keeps (·.engs) (fun _ _ _ _ _ => rfl) _).trans (s.enterSources_engs n)
@[simp] theorem tick_engJobs (s : State) (n : Nat) : (s.tick n).engJobs = s.engJobs := by
  simp only [State.tick]
  exact (slewSynth_keeps (·.engJobs) (fun _ _ _ _ _ => rfl) _).trans (s.enterSources_engJobs n)
@[simp] theorem tick_start (s : State) (n : Nat) : (s.tick n).start = s.start := by
  simp only [State.tick]
  exact (slewSynth_keeps (·.start) (fun _ _ _ _ _ => rfl) _).trans (s.enterSources_start n)
@[simp] theorem tick_path (s : State) (n : Nat) : (s.tick n).path = s.path := by
  simp only [State.tick]
  exact (slewSynth_keeps (·.path) (fun _ _ _ _ _ => rfl) _).trans (s.enterSources_path n)
@[simp] theorem tick_pwr (s : State) (n : Nat) : (s.tick n).pwr = s.pwr := by
  simp only [State.tick]
  exact (slewSynth_keeps (·.pwr) (fun _ _ _ _ _ => rfl) _).trans (s.enterSources_pwr n)
@[simp] theorem tick_rtc (s : State) (n : Nat) : (s.tick n).rtc = s.rtc := by
  simp only [State.tick]
  exact (slewSynth_keeps (·.rtc) (fun _ _ _ _ _ => rfl) _).trans (s.enterSources_rtc n)
@[simp] theorem tick_rfc (s : State) (n : Nat) : (s.tick n).rfc = s.rfc := by
  simp only [State.tick]
  exact (slewSynth_keeps (·.rfc) (fun _ _ _ _ _ => rfl) _).trans (s.enterSources_rfc n)
@[simp] theorem tick_mdm (s : State) (n : Nat) : (s.tick n).mdm = s.mdm := by
  simp only [State.tick]
  exact (slewSynth_keeps (·.mdm) (fun _ _ _ _ _ => rfl) _).trans (s.enterSources_mdm n)
@[simp] theorem tick_mac (s : State) (n : Nat) : (s.tick n).mac = s.mac := by
  simp only [State.tick]
  exact (slewSynth_keeps (·.mac) (fun _ _ _ _ _ => rfl) _).trans (s.enterSources_mac n)
@[simp] theorem tick_shp (s : State) (n : Nat) : (s.tick n).shp = s.shp := by
  simp only [State.tick]
  exact (slewSynth_keeps (·.shp) (fun _ _ _ _ _ => rfl) _).trans (s.enterSources_shp n)
@[simp] theorem tick_flc (s : State) (n : Nat) : (s.tick n).flc = s.flc := by
  simp only [State.tick]
  exact (slewSynth_keeps (·.flc) (fun _ _ _ _ _ => rfl) _).trans (s.enterSources_flc n)
@[simp] theorem tick_cip (s : State) (n : Nat) : (s.tick n).cip = s.cip := by
  simp only [State.tick]
  exact (slewSynth_keeps (·.cip) (fun _ _ _ _ _ => rfl) _).trans (s.enterSources_cip n)
@[simp] theorem tick_svr (s : State) (n : Nat) : (s.tick n).svr = s.svr := by
  simp only [State.tick]
  exact (slewSynth_keeps (·.svr) (fun _ _ _ _ _ => rfl) _).trans (s.enterSources_svr n)
@[simp] theorem tick_mesh (s : State) (n : Nat) : (s.tick n).mesh = s.mesh := by
  simp only [State.tick]
  exact (slewSynth_keeps (·.mesh) (fun _ _ _ _ _ => rfl) _).trans (s.enterSources_mesh n)
@[simp] theorem tick_snd (s : State) (n : Nat) : (s.tick n).snd = s.snd := by
  simp only [State.tick]
  exact (slewSynth_keeps (·.snd) (fun _ _ _ _ _ => rfl) _).trans (s.enterSources_snd n)
@[simp] theorem tick_sns (s : State) (n : Nat) : (s.tick n).sns = s.sns := by
  simp only [State.tick]
  exact (slewSynth_keeps (·.sns) (fun _ _ _ _ _ => rfl) _).trans (s.enterSources_sns n)
@[simp] theorem tick_tst (s : State) (n : Nat) : (s.tick n).tst = s.tst := by
  simp only [State.tick]
  exact (slewSynth_keeps (·.tst) (fun _ _ _ _ _ => rfl) _).trans (s.enterSources_tst n)
@[simp] theorem tick_hif (s : State) (n : Nat) : (s.tick n).hif = s.hif := by
  simp only [State.tick]
  exact (slewSynth_keeps (·.hif) (fun _ _ _ _ _ => rfl) _).trans (s.enterSources_hif n)
@[simp] theorem tick_fw (s : State) (n : Nat) : (s.tick n).fw = s.fw := by
  simp only [State.tick]
  exact (slewSynth_keeps (·.fw) (fun _ _ _ _ _ => rfl) _).trans (s.enterSources_fw n)
@[simp] theorem tick_log (s : State) (n : Nat) : (s.tick n).flt.log = s.flt.log := by
  simp only [State.tick]
  exact (slewSynth_keeps (·.flt.log) (fun _ _ _ _ _ => rfl) _).trans (congrArg (·.log) (s.enterSources_flt n))
@[simp] theorem tick_episodes (s : State) (n : Nat) : (s.tick n).flt.episodes = s.flt.episodes := by
  simp only [State.tick]
  exact (slewSynth_keeps (·.flt.episodes) (fun _ _ _ _ _ => rfl) _).trans (congrArg (·.episodes) (s.enterSources_flt n))
@[simp] theorem tick_active (s : State) (n : Nat) : (s.tick n).flt.active = s.flt.active := by
  simp only [State.tick]
  exact (slewSynth_keeps (·.flt.active) (fun _ _ _ _ _ => rfl) _).trans (congrArg (·.active) (s.enterSources_flt n))

end Sys2Proof.Machine
end

