-- ==== Sys2Proof/Tests/Slice0.lean ====
section
/-!
SUPPORT. The model's own tests: ill-formed terms that the checks refuse, worked examples of the spec, and for every statement with hypotheses
a state and operands that meet those of each of its clauses.
-/

namespace Sys2Proof.Machine.Tests

set_option Elab.async false

/-! ### Well-formedness -/

def req0 : HostReq := { spi := false, expert := false, seq := 1, payload := [], hold := false, env := ⟨⟨0, 0, 0, 0, 0, 0⟩, none⟩ }
def meas0 : RxMeas := { metricA := 0, metricB := 0, rssi := 0, cfo := 0, decoded := true, psdu := [], gain := 11,
                        lts := [List.replicate 96 (0, 0)], rx := [], phr := [], eq := [], pts := [] }

/-- What a receiver may report, a training symbol and a payload symbol of one tone fewer, and a gain index of 12 (R80, R145). -/
theorem wf_meas : measOk meas0 = true ∧ measOk { meas0 with lts := [List.replicate 95 (0, 0)] } = false ∧
    measOk { meas0 with gain := 12 } = false ∧ (Instr.rxFrameEnd .sg 0 0 { meas0 with rx := [List.replicate 95 (0, 0)] }).wf = false := by decide +kernel

/-- A request of 1,025 bytes (R488). -/
theorem wf_request : (Instr.echo req0).wf = true ∧ (Instr.echo { req0 with payload := List.replicate 1025 0 }).wf = false := by decide +kernel

/-- Opcode 0x0C is not assigned, 0x01 is (R500). -/
theorem wf_opcode : (Instr.unassignedOpcode 0x0C req0).wf = true ∧ (Instr.unassignedOpcode 0x01 req0).wf = false := by decide +kernel

/-- E5 leads no pair, nor does E2; E4 does (R307). -/
theorem wf_pair : (Instr.lockstepMismatch 4).wf = true ∧ (Instr.restoreDone 5).wf = false ∧ (Instr.lockstepMismatch 2).wf = false := by
  decide +kernel

/-- A misaligned address, and one past the last block (R27). -/
theorem wf_blockWord : (Instr.flushedFault 3 0x40011FFC).wf = true ∧ (Instr.flushedFault 3 0x40000002).wf = false ∧
    (Instr.flushedFault 3 0x40012000).wf = false := by decide +kernel

/-- ST to an immediate, ADC of X by its OP alone, LDR of a byte, and LEA of an immediate are reserved; a D8 of 0 asks for D16 (R321, R333). -/
theorem wf_operands : (Instr.st 3 .a ⟨.imm, .half 0, .w32, false⟩).wf = false ∧ (Instr.ld 3 .a ⟨.imm, .half 0, .w32, false⟩).wf = true ∧
    (Instr.ldr 3 ⟨.xd, .none, .w8, false⟩).wf = false ∧ (Instr.lea 3 .a ⟨.imm, .half 0, .w32, false⟩).wf = false ∧
    (Instr.branch 3 .bz (.d8 0)).wf = false ∧ (Instr.branch 3 .bz (.d16 0)).wf = true := by decide +kernel

/-- The word 0xFFFF is reserved and NOP, 0xE000, is not (R323, R333). -/
theorem wf_reserved : (Instr.reservedOpcodeTrap 3 0xFFFF).wf = true ∧ (Instr.reservedOpcodeTrap 3 0xE000).wf = false := by decide +kernel

/-! ### Gosor-32 -/

/-- TCLK runs, E3 executes. -/
def w0 : State := { State.reset with start := .none, engs := setEng State.reset.engs 3 { Engine.atReset with st := .run } }
/-- The same with a change to E3. -/
def w0e (f : Engine → Engine) : State := { w0 with engs := setEng w0.engs 3 (f (w0.eng 3)) }

/-- The start is complete, so a fault at RETRY stays one (R471). -/
def wDone : State := w0.wr SYS_BOOT_DONE 1

/-- One byte of immediate, and a word of shared SRAM. -/
def imm8 : Opnd := ⟨.imm, .half 7, .w32, false⟩
def sramOp : Opnd := ⟨.abs, .full 0x10000000, .w32, false⟩
def tcmOp : Opnd := ⟨.abs, .half 0x1000, .w32, false⟩

theorem wit_RegisterInstructions : (∃ u, w0.Fetches 3 2 u) ∧ (∃ f, regForm (.shl 3 0) = some (3, 2, f)) ∧
    (∃ f, regForm (.lea 3 .y sramOp) = some (3, 6, f)) ∧ (∃ u, w0.Fetches 3 6 u) :=
  ⟨⟨_, by decide +kernel, rfl, by decide +kernel⟩, ⟨_, rfl⟩, ⟨_, rfl⟩,
   ⟨_, by decide +kernel, rfl, by decide +kernel⟩⟩

/-- The state after the fetch of `n` halfwords at P by E3, and what is there as the operand. -/
def fetched (s : State) (n : Nat) : State :=
  match s.fetchWords (.eng 3) (s.eng 3).g.p n with | .ok _ u => u | .err _ _ u => u | .waits _ => s
def opAfter (s : State) (o : Opnd) (len : Nat) : State :=
  match (fetched s (len / 2)).operand (.eng 3) (s.g 3) o ((s.g 3).p + BitVec.ofNat 32 len) false with | .ok _ w => w | .err _ _ w => w | .waits _ => s

theorem wit_AluInstructions : (∃ k, aluForm (.adc 3 sramOp) = some k) ∧ assignedM 0x03 .a sramOp = true ∧ w0.Fetches 3 6 (fetched w0 3) ∧
    (∃ x, (fetched w0 3).operand (.eng 3) (w0.g 3) sramOp ((w0.g 3).p + 6) false = .ok x (opAfter w0 sramOp 6)) ∧
    ((opAfter w0 sramOp 6).eng 3).st = .run ∧ ((opAfter w0 sramOp 6).eng 3).undo.length ≤ 256 :=
  ⟨⟨_, rfl⟩, by decide +kernel, ⟨by decide +kernel, rfl, by decide +kernel⟩, ⟨_, rfl⟩, by decide +kernel⟩

/-- 95,000,000 + 5,000,001 in eight digits (R325). -/
theorem wit_DecimalArithmetic : bcdOk 8 0x95000000 = true ∧ bcdOk 8 0x05000001 = true ∧ (aluAddd 0 0x95000000 0x05000001).r = 1 ∧
    getFlag (aluAddd 0 0x95000000 0x05000001).f fC = true := by decide +kernel

theorem wit_StoreInstructions : (∃ k, storeForm (.st 3 .x sramOp) (w0.g 3) ((w0.g 3).p + 6) = some k) ∧
    (∃ w, (fetched w0 3).storeData (.eng 3) 0x10000000 4 5 = .ok true w ∧ (w.eng 3).st = .run ∧ (w.eng 3).undo.length ≤ 256) ∧
    (∃ w, (fetched w0 1).storeData (.eng 3) 0xFFFC 4 5 = .ok false w ∧ (w.eng 3).st = .run ∧ (w.eng 3).undo.length ≤ 256) ∧
    (∃ k, storeForm (.push 3 .f) (w0.g 3) ((w0.g 3).p + 2) = some k) :=
  ⟨⟨_, rfl⟩, ⟨_, rfl, by decide +kernel⟩, ⟨_, rfl, by decide +kernel⟩, ⟨_, rfl⟩⟩

theorem wit_LoadsIncAndDec : (assignedM 0x10 .a tcmOp = true ∧ assignedM 0x11 .a tcmOp = true ∧ assignedM 0x00 .y tcmOp = true) ∧ w0.Fetches 3 4 (fetched w0 2) ∧
    (∃ v w, (fetched w0 2).fetchData (.eng 3) 0x1000 4 = .ok (0, false) v ∧ v.storeData (.eng 3) 0x1000 4 (0 + 1) = .ok false w ∧
      (w.eng 3).st = .run ∧ (w.eng 3).undo.length ≤ 256) ∧
    (∃ v w, (fetched w0 2).fetchData (.eng 3) 0x1000 4 = .ok (0, false) v ∧ v.storeData (.eng 3) 0x1000 4 (0 - 1) = .ok false w ∧
      (w.eng 3).st = .run ∧ (w.eng 3).undo.length ≤ 256) :=
  ⟨by decide +kernel, ⟨by decide +kernel, rfl, by decide +kernel⟩, ⟨_, _, rfl, rfl, by decide +kernel⟩, _, _, rfl, rfl, by decide +kernel⟩

theorem wit_PopsAndReturns : let s := w0e (fun g => { g with g := { g.g with s := 0xFFF8 } })
    (∃ k, popForm (.pop 3 .x) (s.g 3) 0 ((s.g 3).p + 2) = some k) ∧ s.Fetches 3 2 (fetched s 1) ∧
    (∃ v w, (fetched s 1).fetchData (.eng 3) (s.g 3).s 4 = .ok (0, false) v ∧ v.fetchData (.eng 3) ((s.g 3).s + 4) 4 = .ok (0, false) w ∧
      (w.eng 3).st = .run ∧ (w.eng 3).undo.length ≤ 256) :=
  ⟨⟨_, rfl⟩, ⟨by decide +kernel, rfl, by decide +kernel⟩, ⟨_, _, rfl, rfl, by decide +kernel⟩⟩

theorem wit_Reservations : w0.Fetches 3 6 (fetched w0 3) ∧ ((fetched w0 3).lockWord (.eng 3) 0x10000000 = some 0x10000000 ∧
    assignedM 0x15 .a sramOp = true ∧ assignedM 0x16 .a sramOp = true) ∧
    (∃ s : State, (getFlag (s.g 3).f fT && s.resvs.contains (s.leader 3, 0x10000000)) = true) ∧
    (getFlag (w0.g 3).f fT && w0.resvs.contains (w0.leader 3, 0x10000000)) = false :=
  ⟨⟨by decide +kernel, rfl, by decide +kernel⟩, by decide +kernel,
   ⟨{ w0e (fun g => { g with g := { g.g with f := setFlag 0 fT true } }) with resvs := [(3, 0x10000000)] }, by decide +kernel⟩,
   by decide +kernel⟩

/-- E3 with event bit 3 pending and unmasked, I clear, and a stack in its TCM. -/
def wVec : State := ((w0e (fun g => { g with g := { g.g with f := 0 } })).wr (ENG_PEND_EPEND 3) 8).wr (ENG_MASK_EMASK 3) 8

theorem wit_WaitsAndVectors : w0.Fetches 3 2 (fetched w0 1) ∧
    (∃ u v, (wVec.tclkOn = true ∧ (wVec.eng 3).st = .run ∧ wVec.load 3 = none ∧ (wVec.eng 3).haltWant = false ∧
      (wVec.eng 3).access = none ∧ (wVec.eng 3).entering = none ∧ (wVec.eng 3).flushed = [] ∧ getFlag (wVec.g 3).f fI = false ∧
      wVec.pendEvents 3 ≠ 0) ∧
      wVec.busWrite (.eng 3) ((wVec.g 3).s - 4).toNat 4 (wVec.g 3).p = (.ok 0, u) ∧
      u.busWrite (.eng 3) ((wVec.g 3).s - 8).toNat 4 (wVec.g 3).f = (.ok 0, v) ∧ u.g 3 = wVec.g 3 ∧ v.g 3 = wVec.g 3) :=
  ⟨⟨by decide +kernel, rfl, by decide +kernel⟩,
   ⟨_, _, by decide +kernel, rfl, rfl, by decide +kernel⟩⟩

/-- A load from a hole of the map: the address space between the TCM and the flash window. -/
def holeOp : Opnd := ⟨.abs, .full 0x00200000, .w32, false⟩

theorem wit_TrapsAndFaults :
    ((reservedWord 0xFFFF = true ∧ wDone.mayExecute 3 = true ∧ wDone.failedAt 3 = none) ∧ (∃ u x y, wDone.fetchWords (.eng 3) (wDone.g 3).p 1 = .ok () u ∧
      (u.settleLoad 3).busWrite (.eng 3) ((wDone.g 3).s - 4).toNat 4 (wDone.g 3).p = (.ok 0, x) ∧
      x.busWrite (.eng 3) ((wDone.g 3).s - 8).toNat 4 (wDone.g 3).f = (.ok 0, y) ∧ u.g 3 = wDone.g 3 ∧ u.load 3 = none ∧ x.g 3 = wDone.g 3 ∧
      y.g 3 = wDone.g 3 ∧ y.load 3 = none)) ∧
    ((assignedM 0x00 .a holeOp = true ∧ (fetched wDone 3).g 3 = wDone.g 3) ∧
      (∃ a w, (fetched wDone 3).operand (.eng 3) (wDone.g 3) holeOp ((wDone.g 3).p + 6) false = .err .bus a w ∧
        let b := w.busFault (.eng 3) a.toNat .bus
        ((b.eng 3).st = .run ∧ b.g 3 = wDone.g 3 ∧ b.load 3 = none) ∧ ∃ x y, (b.settleLoad 3).busWrite (.eng 3) 0xFFFC 4 (wDone.g 3).p = (.ok 0, x) ∧
          x.busWrite (.eng 3) 0xFFF8 4 (wDone.g 3).f = (.ok 0, y) ∧ x.g 3 = wDone.g 3 ∧ y.g 3 = wDone.g 3 ∧ y.load 3 = none)) ∧
    (let b := wDone.noteFlush (.eng 3) 0x40000040
     (blockWord 0x40000040 = true ∧ wDone.leader 3 = 3 ∧ (b.eng 3).st = .run ∧ b.load 3 = none ∧ (b.eng 3).haltWant = false ∧
       (b.eng 3).access = none ∧ (b.eng 3).entering = none ∧ (b.eng 3).flushed = [0x40000040] ∧ b.g 3 = wDone.g 3) ∧
      (∃ x y, b.busWrite (.eng 3) 0xFFFC 4 (wDone.g 3).p = (.ok 0, x) ∧ x.busWrite (.eng 3) 0xFFF8 4 (wDone.g 3).f = (.ok 0, y) ∧
        x.g 3 = wDone.g 3 ∧ y.g 3 = wDone.g 3)) :=
  ⟨⟨by decide +kernel, _, _, _, rfl, rfl, rfl, by decide +kernel⟩,
   ⟨by decide +kernel, _, _, rfl, by decide +kernel, _, _, rfl, rfl, by decide +kernel⟩,
   ⟨by decide +kernel, _, _, rfl, rfl, by decide +kernel⟩⟩

/-- E4/E5 locksteps. -/
def wPair : State := { (w0.wr ENG_LSCFG_PAIRED 2) with
  engs := setEng (setEng w0.engs 4 { Engine.atReset with st := .run }) 5 { Engine.atReset with st := .paired } }

theorem wit_LockstepRestart :
    (∃ s : State, s.paired 4 = true ∧ (s.eng 4).st = .run ∧ (s.eng 4).mmSince = false ∧ (s.eng 4).stalled = false) ∧
    (∃ s : State, (s.eng 4).st = .restart ∧ (s.eng 4).mmVec = false ∧ (s.eng 4).undo = [(16383, 1, 2)]) :=
  ⟨⟨wPair, by decide +kernel⟩,
   ⟨{ wPair with engs := setEng wPair.engs 4 { Engine.atReset with st := .restart, undo := [(16383, 1, 2)] } }, by decide +kernel⟩⟩


/-! ### Registers, engines and the fabric -/

/-- MER_CFG is a word that is no commit register; a commit of PWR with equal sets, one with a differing set that is legal, and one that is not
(R7, R75). -/
theorem wit_RegisterWrites :
    (w0.tclkOn = true ∧ (regRow MER_CFG_NOMFREQ.addr).isSome = true ∧ commitBlk MER_CFG_NOMFREQ.addr = none ∧
      MER_CFG_NOMFREQ.addr / 0x1000 = 0x4000C) ∧
    shadowEq w0.regs w0.shadow (shAddrs Blk.pwr.base) = true ∧
    (∃ s : State, shadowEq s.regs s.shadow (shAddrs Blk.mer.base) = false ∧ s.blkStatus .mer = stOK) ∧
    (∃ s : State, shadowEq s.regs s.shadow (shAddrs Blk.mer.base) = false ∧ s.blkStatus .mer ≠ stOK) :=
  ⟨by decide +kernel, by decide +kernel,
   ⟨{ w0 with shadow := wrF w0.shadow MER_SLEW_SLEW 1000 }, by decide +kernel⟩,
   ⟨{ w0 with shadow := wrF w0.shadow MER_SLEW_SLEW 1001 }, by decide +kernel⟩⟩

/-- What the other clauses ask: nothing is held or lost, a write to PWR follows a lost one to PWR, no set of MDM waits. -/
theorem wit_RegisterWrites_lost : (isAtoll MER_CFG_NOMFREQ.addr = false ∧ w0.heldWrite (.eng 3) MER_CFG_NOMFREQ.addr = false ∧
      w0.writesHeld (.eng 3) = false) ∧
    (w0e (fun g => { g with flushed := [0x40001000] })).heldWrite (.eng 3) 0x40001FFC = true ∧ w0.barred (.eng 2) 1 = false ∧
    w0.barred (.eng 2) 7 = false ∧ w0.rdB MDM_COMMIT_BUSY = false ∧ w0.mdmHeld = false ∧ isE2 (.eng 3) = false := by decide +kernel

theorem wit_BlockResetValues : 0x40011000 ≤ 0x40011FFC ∧ 0x40011FFC < 0x40011000 + 0x1000 ∧ 0x40011000 + 0x1000 ≤ 0x40012000 := by decide

theorem wit_QuietCommandsStoreNothing : quiet (.gpioSet 5) = true ∧ ∃ t, exec (.gpioSet 5) w0 = .next t := ⟨rfl, _, rfl⟩

theorem wit_EngineCommands :
    (w0.e2OrExpert (.eng 2) = true ∧ w0.isOdd 11 = false ∧ w0.engJobs = [] ∧ w0.barred (.eng 2) 16 = false ∧
      (w0.eng 11).st = .reset ∧ w0.clearing 11 = false ∧ (w0.eng 3).st = .run) ∧
    (∃ s : State, (s.eng 3).st = .halt ∧ (s.eng 3).left = .run ∧ s.e2OrExpert .hif = true ∧ s.engJobs = []) ∧
    (∃ s : State, (let d := s.loadDesc 0; badLoad d.1 d.2.1 d.2.2 = false ∧ d.2.2 ≠ 0) ∧ (s.eng 11).st = .reset) ∧
    ((w0.eng 10).st = .reset ∧ (w0.eng 11).st = .reset ∧ w0.paired 10 = false) ∧
    (∃ s : State, (s.eng 4).st = .reset ∧ (s.eng 5).st = .paired ∧ s.paired 4 = true ∧ s.barred (.eng 2) 16 = false) :=
  ⟨by decide +kernel,
   ⟨(w0e (fun g => { g with st := .halt, left := .run })).wr HIF_EXPERT_UNLOCK 1, by decide +kernel⟩,
   ⟨w0.sramWrite 0x10000000 [0, 0, 0, 0x10, 0, 0xFF, 0, 1], by decide +kernel⟩,
   by decide +kernel,
   ⟨{ wPair with engs := setEng wPair.engs 4 .atReset }, by decide +kernel⟩⟩

theorem wit_EngineCommandsEnd :
    (∃ s : State, s.engJobs = [(2, .halt 3)] ∧ (s.eng 3).haltWant = true ∧ s.load 3 = none ∧ (s.eng 3).access = none ∧
      (s.eng 3).entering = none ∧ s.noneHeld 3 = true ∧ (s.eng 3).st = .run) ∧
    (∃ s : State, s.tclkOn = true ∧ s.pwr.clearing = [] ∧ s.engJobs = [(s.code (.eng 2), .load 11 0x10000000 0xFF00 256)] ∧
      ∃ st u, s.loadCopy 11 0x10000000 0xFF00 (256 / 4) = some (st, u) ∧ u.engJobs = s.engJobs ∧ st < 256) :=
  ⟨⟨{ w0e (fun g => { g with haltWant := true }) with engJobs := [(2, .halt 3)] }, rfl, by decide +kernel⟩,
   ⟨{ w0 with engJobs := [(2, .load 11 0x10000000 0xFF00 256)] }, by decide +kernel, rfl, rfl, _, _, rfl, by decide +kernel⟩⟩

theorem wit_ReleaseStartsTheRegisters : w0.e2OrExpert (.eng 2) = true ∧ w0.isOdd 5 = false ∧ w0.engJobs = [] ∧ (w0.eng 5).st = .reset ∧
    (w0.eng 11).st = .reset ∧ w0.clearing 5 = false ∧ w0.barred (.eng 2) 16 = false := by decide +kernel

/-- A pulse in flight to task `k`. -/
def wFly (k : Nat) : State :=
  { w0 with evf := { w0.evf with fly := [{ task := k, src := 3, ts := 10, cyc := 1, ph := 2, chans := [] }] } }

theorem wit_DoorbellsAndTasks : (∀ k ∈ [0, 95, 96, 103, 104, 111, 112, 115, 121], (wFly k).tclkOn = true ∧ (flyOf (wFly k).evf k).isSome = true) ∧
    (∀ p, flyOf (wFly 103).evf 103 = some p → grpdisTogether ((wFly 103).leaveFabric p).evf 7 p = false ∧
      (((wFly 103).leaveFabric p).evf.inCycle ((wFly 103).leaveFabric p).mer.tstamp).grpClr / 2 ^ 7 % 2 = 0) ∧
    (∀ p, flyOf (wFly 115).evf 115 = some p → ((wFly 115).leaveFabric p).evf.caps.length = 4) ∧
    (∃ s : State, s.tclkOn = true ∧ s.lfOn = true ∧ (flyOf s.evf 120).isSome = true) ∧ w0.barred (.eng 11) 16 = false ∧ (1 : Byte) ≠ 0 :=
  ⟨by decide +kernel, by intro p h; cases h; decide +kernel, by intro p h; cases h; decide +kernel,
   ⟨{ wFly 120 with rtc := { w0.rtc with lf := true } }, by decide +kernel⟩, by decide +kernel, by decide⟩

theorem wit_FabricWrites : (w0.barred (.eng 2) 4 = false ∧
    (let a := (EVF_CH_CFG_EN 63).addr
     w0.chanAllowed (.eng 2) 63 false 15 = true ∧ chanStatus (plainActive a 0 (regGet w0.regs a)) (regGet w0.regs (EVF_CH_TASK_V 63 0).addr) = stOK) ∧
    (let a := (EVF_CH_TASK_V 63 0).addr
     w0.chanAllowed (.eng 7) 63 false (w0.rd (EVF_CH_CFG_OWNER 63)) = true ∧
       chanStatus (regGet w0.regs (EVF_CH_CFG_EN 63).addr) (plainActive a 0 (regGet w0.regs a)) = stOK) ∧
    w0.rd (EVF_CLAIM_OWNER 15) = 15 ∧ w0.code (.eng 11) < 16) ∧
    (∃ s : State, s.rd (EVF_CLAIM_OWNER 15) = s.code (.eng 3)) ∧
    (∃ s : State, s.barred (.eng 2) 4 = false ∧ s.tclkOn = true ∧ s.chanAllowed (.eng 2) 31 false (s.rd (EVF_CH_CFG_OWNER 31)) = true ∧
      let u := s.tick 1
      u.chanAllowed (.eng 2) 31 false (u.rd (EVF_CH_CFG_OWNER 31)) = true ∧ chanOn u.regs 31 = true ∧
        (u.evf.inCycle u.mer.tstamp).hard.contains 31 = false) ∧
    (w0.evf.inCycle w0.mer.tstamp).grpSet = 0 ∧ (w0.evf.inCycle w0.mer.tstamp).grpClr = 0 :=
  ⟨by decide +kernel, ⟨w0.wr (EVF_CLAIM_OWNER 15) 3, by decide +kernel⟩,
   ⟨(w0.wr (EVF_CH_CFG_EN 31) 1).wr EVF_GRPEN_GRP 255, by decide +kernel⟩, by decide +kernel⟩

/-! ### Flash and CIP -/

/-- A descriptor at 0x1000_0000 of a flash command of E2: SRC 0x1000_0100, DST block 127 of bank 7's last, LEN 32. -/
def wFlash : State := (w0.wr FLC_STAT_SCANDONE 1).sramWrite 0x10000000 ([0, 1, 0, 0x10] ++ natLE 4 0x23F00000 ++ natLE 4 32)

theorem wit_FlashCommands : let s := wFlash
    flashForm (.program (.eng 2) 0) = some (.eng 2, 0, 1) ∧ s.barred (.eng 2) 3 = false ∧
    let st := fun op => s.flashStatus 2 (s.fetchBank (.eng 2)) op (s.sramNat 0x10000000 4) (s.sramNat 0x10000004 4) (s.sramNat 0x10000008 4)
    st 1 = stOK ∧ st 2 = stOK ∧ st 3 = stOK ∧ w0.flashStatus 2 (w0.fetchBank (.eng 2)) 1 0 0 0 ≠ stOK := by decide +kernel

theorem wit_FlashOperationsEnd :
    (∃ s : State, s.flc.op = some { owner := 12, op := 2, dst := 0, data := [] } ∧ s.rd FLC_ERSTAT_SUSP = 0) ∧
    (∃ s : State, s.flc.op = some { owner := 2, op := 2, dst := 0, data := [] } ∧ s.rd FLC_ERSTAT_SUSP = 1) ∧
    (Flc.fresh.finish { owner := 2, op := 1, dst := 32, data := List.replicate 32 5 } none).2.2 = stOK :=
  ⟨⟨{ w0 with flc := { w0.flc with op := some { owner := 12, op := 2, dst := 0, data := [] } } }, rfl, by decide +kernel⟩,
   ⟨{ (w0.wr FLC_ERSTAT_SUSP 1) with flc := { w0.flc with op := some { owner := 2, op := 2, dst := 0, data := [] } } }, rfl, by decide +kernel⟩,
   by decide +kernel⟩

/-- Slot 3 with a 16-byte key for CTR and CMAC of E2, the TRNG tested. -/
def wKey : State := { w0 with cip := { w0.cip with trng := 1, slots := List.replicate 3 .empty ++
  [{ loaded := true, key := List.replicate 16 7, klen := 0, pol := 0x0000FFFF ||| 0xFFFF0000, kcv := 0 }] ++ List.replicate 12 .empty } }

/-- CMAC verification of 16 bytes. -/
def wJob : CipJob := { owner := 2, op := 3, slot := 3, inv := false, tagLen := 16, nLen := 0, src := 0x10000100, dst := 0x10000200, len := 16,
                       aad := 0, aadLen := 0, iv := 0x10000300, tag := 0x10000400, key := none, held := [] }


theorem wit_CipherJobs :
    w0.cip.jobs = [] ∧ (let s := wKey.sramWrite 0x10000000 ([3, 3, 16, 0] ++ natLE 4 0x10000100 ++ natLE 4 0x10000200 ++ natLE 4 16 ++ natLE 4 0 ++ natLE 4 0 ++
        natLE 4 0x10000300 ++ natLE 4 0x10000400)
     jobForm (.cmacVerify (.eng 2) 0) = some (.eng 2, 0, 3) ∧ (s.jobAt 2 0x10000000).op = 3 ∧ s.jobStatus (s.jobAt 2 0x10000000) = stOK ∧
       s.jobStatus (s.jobAt 3 0x10000000) = stOK ∧ w0.jobStatus (w0.jobAt 2 0x10000000) ≠ stOK) ∧
    (let s : State := { wKey with cip := { wKey.cip with jobs := [{ wJob with key := some (wKey.slot 3) }] } }
     s.tclkOn = true ∧ s.sealing = false ∧ s.accepting = false ∧ (wKey.slot 3).loaded = true ∧ wJob.heldStatus = stOK ∧ CipJob.allowed wJob (wKey.slot 3) = true ∧ inWindow wJob.src = false ∧
       (wJob.run (wKey.slot 3).key [] [] (s.sramBytes wJob.tag 16) (s.sramBytes wJob.src 16)).auth = false) ∧
    (let k := wKey.slot 3
     (wJob.run k.key [] [] (cmac k.key (List.replicate 16 0)) (List.replicate 16 0)).auth = true ∧ CipJob.allowed { wJob with op := 1 } k = true) ∧
    (let k := { wKey.slot 3 with pol := 0xFFFFFFFF }
     k.loaded = true ∧ CipJob.allowed { wJob with op := 8 } k = true ∧ CipJob.allowed { wJob with op := 9 } k = true) ∧
    w0.barred (.eng 2) 7 = false :=
  by decide +kernel

/-- AES-128 of FIPS 197, appendix B: the encrypted counter block is what CTR adds to the data (R393). -/
theorem test_aes : aesCtr [0x2B, 0x7E, 0x15, 0x16, 0x28, 0xAE, 0xD2, 0xA6, 0xAB, 0xF7, 0x15, 0x88, 0x09, 0xCF, 0x4F, 0x3C]
    [0x32, 0x43, 0xF6, 0xA8, 0x88, 0x5A, 0x30, 0x8D, 0x31, 0x31, 0x98, 0xA2, 0xE0, 0x37, 0x07, 0x34] (List.replicate 16 0) =
    [0x39, 0x25, 0x84, 0x1D, 0x02, 0xDC, 0x09, 0xFB, 0xDC, 0x11, 0x85, 0x97, 0x19, 0x6A, 0x0B, 0x32] := by decide +kernel

theorem wit_KeysAndEntropy : (w0.cip.buf.length = 8 ∧ w0.cip.wrote.length = 8 ∧ w0.cip.slots.length = 16 ∧
    (w0.slot 14).has CIP_KPOL_LOCK = false ∧ (w0.slot 15).has CIP_KPOL_LOCK = true ∧ w0.tclkOn = true ∧ w0.cip.trng = 0 ∧ wKey.cip.trng = 1) ∧
    (∃ s : State, s.cip.trng = 2) ∧ (wKey.wr CIP_RNGSTAT_AVAIL 0).rd CIP_RNGSTAT_AVAIL = 0 :=
  ⟨by decide +kernel, ⟨{ w0 with cip := { w0.cip with trng := 2 } }, rfl⟩, by decide +kernel⟩

/-! ### The Atoll domain, power, start and faults -/

/-- TCLK and LFCLK run. -/
def wLf : State := { w0 with rtc := { w0.rtc with lf := true } }

theorem wit_LatchedReads : w0.evf.caps[3]? = some .empty ∧ (wLf.lfOn = true ∧ wLf.rtc.held = []) ∧
    w0.rtc.powered = true ∧ w0.rtc.lf = false := ⟨rfl, by decide +kernel⟩

/-- The set of a date, BCD 31 December 2026. -/
def wSet : RtcSet := { date := true, time := true, alarm := false, setTime := 0x235959, setDate := 0x20261231, almTime := 0, almDate := 0, almCfg := 0 }

theorem wit_CalendarSets : setForm (.setAlarm (.eng 2)) = some (.eng 2, false, false, true) ∧ wLf.barred (.eng 2) 5 = false ∧
    (wLf.lfOn = true ∧ wLf.rtc.held = [] ∧ wLf.rd RTC_SETSTAT_BUSY = 0) ∧
    (∃ s : State, s.lfOn = true ∧ s.rtc.held = [] ∧ s.rd RTC_SETSTAT_BUSY = 1) ∧ w0.lfOn = false ∧ w0.rtc.powered = true ∧
    (∃ s : State, s.rtc.pend = some wSet ∧ s.lfOn = true ∧ s.rtc.secondEnds = false ∧ s.rtc.held = [] ∧
      wSet.status (s.tlostAfter wSet) = stOK) ∧
    (∃ p : RtcSet, p.status false = stDateInvalid) :=
  ⟨rfl, by decide +kernel, by decide +kernel, ⟨wLf.wr RTC_SETSTAT_BUSY 1, by decide +kernel⟩,
   by decide +kernel, by decide +kernel,
   ⟨{ wLf with rtc := { wLf.rtc with pend := some wSet } }, rfl, by decide +kernel, by decide +kernel, rfl, by decide +kernel⟩,
   ⟨{ wSet with setDate := 0x21000229 }, by decide +kernel⟩⟩

/-- No 29 February 2100 (R421); the last second of a century carries to the next year (R417). -/
theorem test_calendar : dateOk 0x21000229 = false ∧ dateOk 0x20240229 = true ∧
    (⟨2099, 12, 31, 23, 59, 59⟩ : Calendar).next.month = 1 := by decide +kernel

theorem wit_CalendarStaysLegal : w0.rtc.cal.valid = true ∧ ∃ t, step { w0 with pending := [.found (.eng 2)] } = .next t :=
  ⟨by decide +kernel, _, rfl⟩

theorem wit_LfclkAndBackupRam : (wLf.lfOn = true ∧ wLf.rtc.isLow = false ∧ wLf.pwr.st = .run ∧ wLf.rtc.pend = none ∧ wLf.rtc.held = [] ∧ wLf.rtc.tick < 2 ^ 48 ∧
      wLf.wakeDue = false ∧ wLf.barred (.eng 2) 5 = false ∧
      wLf.rtc.bkup.length = 64 ∧ bkupAllowed (.eng 2) 7 = true ∧ bkupAllowed .hif 8 = true ∧ bkupAllowed .hif 7 = false) ∧
    (∃ s : State, RTC_ALMCFG_MODE.of s.rtc.almCfg = 2 ∧ s.lfOn = true) :=
  ⟨by decide +kernel, ⟨{ wLf with rtc := { wLf.rtc with almCfg := RTC_ALMCFG_MODE.put 0 2 } }, by decide +kernel⟩⟩

theorem wit_SupplyEvents : (∀ x : Fin 12, wLf.writesHeld (.eng x) = false) ∧ wLf.rtc.low + 66 < 67 ∧ 67 ≤ wLf.rtc.low + 67 ∧ wLf.rtc.low ≤ 66 ∧
    wLf.rtc.pend = none ∧ wLf.lfOn = true ∧ wLf.tclkOn = true ∧ (0xFFFFFFFF#32 >>> 1).toNat < 2 ^ 31 ∧ wLf.rtc.lf = true ∧
    wLf.rtc.powered = true ∧ wLf.pwr.st = .run ∧ w0.barred (.eng 2) 1 = false ∧ w0.rtc.lf = false ∧ w0.rd CLK_STAT_LFFAIL = 0 := by
  decide +kernel

/-- DOZE with DEEP = 1, asleep, and an entry under way. -/
def wDoze : State := { (wLf.wr PWR_CFG_DEEP 1) with pwr := { wLf.pwr with st := .doze } }
def wEnter : State := { wDoze with pwr := { wDoze.pwr with entering := true, flashOn := false },
                                   engs := setEng (setEng wDoze.engs 3 .atReset) 3 .atReset }

theorem wit_LevelsAndSleep :
    (∃ (s : State) (c : LevelChange), s.pwr.change = some c ∧ s.pwr.offWanted = false ∧ s.pwr.nextLevel = none ∧ c.vTo < 4 ∧ c.fTo < 4 ∧
      c.done < c.steps.length ∧ s.tclkOn = true) ∧
    (∃ s : State, (s.eng 3).st.restful = true) ∧
    (wDoze.tclkOn = true ∧ wDoze.pwr.entering = false ∧ wDoze.rd PWR_CFG_DEEP ≠ 0 ∧ wDoze.start = .none) ∧
    (wEnter.pwr.entering = true ∧ wEnter.pwr.st = .doze ∧ wEnter.pwr.wakeReq = 0 ∧ wEnter.pwr.failed = false ∧ wEnter.holdBits = 0 ∧
      wEnter.lfOn = true ∧ let u := wEnter.recordDue.lfEdge; (if u.pwr.toStandby then u.drain else u).pwr.wakeReq = 0) ∧
    (∃ s : State, s.pwr.entering = true ∧ s.pwr.wakeReq ≠ 0) ∧
    (∃ s : State, s.pwr.st = .sleep ∧ s.pwr.waking = false ∧ s.pwr.wakeReq ≠ 0 ∧ s.pwr.wakeReq < 256) ∧
    (∃ s : State, s.pwr.st = .sleep ∧ s.pwr.waking = true ∧ s.tcmKept 3 = false) ∧
    (∃ s : State, s.tclkOn = true ∧ s.pwr.flashOn = false ∧ s.pwr.entering = false) :=
  ⟨⟨{ w0 with pwr := { w0.pwr with change := some { done := 0, rising := true, vFrom := 1, vTo := 3, fFrom := 1, fTo := 3 } } }, _, rfl, rfl, rfl,
     by decide +kernel⟩,
   ⟨w0e (fun g => { g with st := .wait }), by decide +kernel⟩, by decide +kernel, by decide +kernel,
   ⟨{ wEnter with pwr := { wEnter.pwr with wakeReq := 1 } }, by decide +kernel⟩,
   ⟨{ wLf with pwr := { wLf.pwr with st := .sleep, wakeReq := 255 } }, rfl, rfl, by decide +kernel⟩,
   ⟨{ (wLf.wr PWR_RETCFG_TCM 0) with pwr := { wLf.pwr with st := .sleep, waking := true } }, rfl, rfl, by decide +kernel⟩,
   ⟨{ w0 with pwr := { w0.pwr with flashOn := false } }, by decide +kernel, rfl, rfl⟩⟩

theorem wit_DeviceReset : resetForm (.powerOn false) w0 = some 0 ∧ resetForm (.softResetCold (.eng 2)) w0 = some 8 ∧ w0.flc.op = none ∧
    resetForm .vbatReturn { w0 with pwr := { w0.pwr with st := .backupBrown } } = some 1 ∧ (∀ m : Master, w0.barred m 0 = false) ∧
    (let u := w0.writeRecord; u.flc.op = none ∧ u.flc.roll = none) ∧ w0.flc.roll = none :=
  ⟨by decide +kernel, by decide +kernel, by decide +kernel, by decide +kernel,
   fun m => by cases m with | hif => decide +kernel | eng e => revert e; decide +kernel,
   by decide +kernel⟩

theorem wit_StartCommands : State.reset.start = .clocks ∧ w0.flt.log.length = 16 ∧ w0.tclkOn = true ∧
    (∀ p : StartPath, ∃ s : State, s.start = .scan ∧ s.path = p) :=
  ⟨rfl, rfl, by decide +kernel, fun p => ⟨{ w0 with start := .scan, path := p }, rfl, rfl⟩⟩

/-- A fault that is logged at RETRY. -/
def wFault : FaultIn := { code := 0x0A, region := 14, owner := 15, addr := 0, status := 0, tier := 0, conseq := false }

theorem wit_FaultLog : (wDone.flt.log.length = 16 ∧ wDone.flt.episodes.length = 16 ∧ wFault.region < 16 ∧ wFault.conseq = false ∧
      wDone.faultTier wFault = 0) ∧
    (w0.e2OrExpert (.eng 2) = true ∧ w0.barred (.eng 2) 14 = false ∧ isE2 (.eng 2) = true) ∧
    (∃ s : State, s.tclkOn = true ∧ s.wdgRuns 2 = true) ∧
    (∃ (s : State) (a : Action), s.flt.active = some a ∧ a.tier = 1 ∧ s.tclkOn = true ∧ a.region = 15 ∧ (s.recover 15 3300).flt.queue = []) ∧
    (∃ (s : State) (ep : Episode), s.tclkOn = true ∧ s.flt.episodes.getD 15 none = some ep ∧ s.flt.hasAction 15 = false) :=
  ⟨by decide +kernel, by decide +kernel, ⟨w0.wr (FLT_WDG_EN 2) 1, by decide +kernel⟩,
   ⟨{ wDone with flt := { wDone.flt with active := some ⟨15, 1, 0⟩ } }, _, rfl, rfl, by decide +kernel, rfl, by decide +kernel⟩,
   ⟨{ wDone with flt := { wDone.flt with episodes := List.replicate 15 none ++ [some ⟨0, 0⟩] } }, _, by decide +kernel, rfl, by decide +kernel⟩⟩


/-! ### Meridian and the radio -/

theorem wit_IdleStepCountsTime : (w0.pending = [] ∧ w0.tclkOn = true ∧ w0.pwr.offWanted = false ∧ w0.rd SVR_CFG_EN = 0 ∧
      w0.hif.parked = none ∧ w0.hif.ereqs = []) ∧
    (∃ s : State, s.tclkOn = false ∧ s.lfOn = true) ∧ (State.reset.tclkOn = false ∧ State.reset.rtc.lf = false) ∧
    (∃ s : State, s.tclkOn = false ∧ s.rtc.powered = false) :=
  ⟨by decide +kernel, ⟨{ wLf with pwr := { wLf.pwr with st := .sleep } }, by decide +kernel⟩, by decide +kernel,
   ⟨{ State.reset with rtc := { Rtc.atPowerUp with powered := false } }, by decide +kernel⟩⟩

/-- A manager with mains, its last edge at TSTAMP 0. -/
def wMains : State := { (((w0.wr SYS_ROLE_ROLE 0).wr MER_CFG_SOURCE 1).wr MER_CFG_AUTOSYNTH 1) with mer := { w0.mer with refEdge := some 0 } }

theorem wit_MainsEdges : (true ≠ w0.rdB MER_CFG_ZCEDGE ∨ false ≠ w0.rdB MER_CFG_ZCEDGE) ∧ w0.mer.refEdge = none ∧ wMains.tclkOn = true ∧
    (let s0 := wMains.advanceTo 8000000
     let edge := 8000000 - zcFilter (wMains.rd MER_CFG_ZCFILT) - wMains.rd MER_ZCDLY_ZCDLY
     4 * (edge - 0) ≤ 5 * s0.period ∧ 3 * s0.period ≤ 4 * (edge - 0) ∧ wMains.perLow ≤ edge ∧ edge ≤ wMains.perHigh) ∧
    (let s0 := wMains.advanceTo 5000000
     let edge := 5000000 - zcFilter (wMains.rd MER_CFG_ZCFILT) - wMains.rd MER_ZCDLY_ZCDLY
     4 * (edge - 0) < 3 * s0.period) ∧
    (wMains.wr MER_STAT_STATE 1).mainsSteers = true ∧ (wMains.wr MER_STAT_STATE 1).rd MER_STAT_STATE = 1 ∧
    (wMains.wr MER_STAT_STATE 3).mainsSteers = true ∧ (wMains.wr MER_STAT_STATE 3).rd MER_STAT_STATE = 3 := by decide +kernel

theorem wit_Boundaries : w0.tclkOn = true ∧ w0.mer.pendSet = none ∧ w0.mer.pendStep = none ∧ w0.mer.time < 2 ^ 80 ∧ 0 < w0.rd MER_INC_INC ∧
    (let d := ((2 ^ 47 - 1) * 2 ^ 32 + 2 ^ 80 - w0.mer.time) % 2 ^ 80; 0 < d ∧ d < 2 ^ 79) ∧
    w0.mer.tstamp ≤ (w0.mac.binSec + 1) * 400000000 ∧ (w0.mac.binSec + 1) * 400000000 < 2 ^ 64 := by decide +kernel

/-- The MODE_SL band at 2.4 GHz with its radio as `f` changes it. -/
def wRf (f : BandRadio → BandRadio) : State := w0.setRfc .g24 (f (w0.rfcB .g24))

theorem wit_BandsHopsAndTurns : ((w0.rfcB .sg).st = .off ∧ (w0.rfcB .sg).starting = false ∧ 1800 ≤ 1800 ∧ (w0.rfcB .sg).st ≠ .tx) ∧
    (let s := wRf (fun r => { r with starting := true }); (s.rfcB .g24).st = .off ∧ (s.rfcB .g24).starting = true ∧ s.rfc.cmd = none) ∧
    (let s := wRf (fun r => { r with st := .hop, back := .rx })
     (s.rfcB .g24).st = .hop ∧ (s.rfcB .g24).back = .rx ∧ (s.rfcB .g24).needHop = false ∧ s.rfc.cmd = none ∧ (s.rfcB .g24).cal = none) ∧
    (let s := wRf (fun r => { r with st := .turnRx }); (s.rfcB .g24).st = .turnRx ∧ (s.rfcB .g24).lockOk = false) := by decide +kernel

/-- Entry 127 is STALE. -/
def wStale : State :=
  { w0 with rfc := { w0.rfc with cals := { w0.rfc.cals with g24 := [(127, { state := 2, freq := 2440000, tcal := 100, codes := 0 })] } } }

theorem wit_Calibration : (∃ k, calForm (.calEntry .g24 127) w0 = some k) ∧ (w0.rdB RFC_CALSTAT_BUSY = false ∧
    ((wRf (fun r => { r with st := .ready })).rfcB .g24).st ≠ .off ∧ (w0.rfcB .g24).st = .off ∧ w0.staleEntries .g24 = [] ∧
    wStale.staleEntries .g24 = [127]) ∧
    (∃ (s : State) (c : CalRun), (s.rfcB .g24).cal = some c) ∧
    (∃ s : State, s.staleEntries .g24 = 127 :: [] ∧ s.rdB RFC_CALCFG_AUTOCAL = true ∧ (s.rfcB .g24).st = .ready ∧
      (s.rfcB .g24).opening = false ∧ (s.rfcB .g24).needHop = false ∧ (s.rfcB .g24).cal = none) :=
  ⟨⟨_, rfl⟩, by decide +kernel,
   ⟨wRf (fun r => { r with cal := some ⟨127, false, ⟨1, 0, 0, 0⟩⟩ }), _, rfl⟩,
   ⟨(wStale.setRfc .g24 { wStale.rfcB .g24 with st := .ready }).wr RFC_CALCFG_AUTOCAL 1, by decide +kernel⟩⟩

/-- Channel 7 in `st`, its mode MODE_SL. -/
def wCh (st : ChanState) : State := (w0.setChan .g24 7 { Chan.atReset with st := st }).wr (MDM_CH_CFG_MODE .g24 7) 3

theorem wit_ReceiveChannel : ((w0.mdm.chans.get .g24).length = 8 ∧ ((wCh .search).chan .g24 7).st = .search ∧
    (wCh .search).rd (MDM_CH_CFG_THR .g24 7) < (wCh .search).rd (MDM_CH_CFG_THR .g24 7) + 1 ∧ ((wCh .select).chan .g24 7).st = .select ∧
    (wCh .search).acquires .g24 7 false 15360 0 = true ∧ (wCh .search).acquires .g24 7 false 15361 0 = false ∧
    ((wCh .sync).chan .g24 7).st = .sync ∧ ((wCh .header).chan .g24 7).st = .header ∧ (wCh .header).chanMode .g24 7 = 3 ∧
    hdrBad 0 false = true) ∧
    (∃ h : BitVec 48, hdrBad h false = false) ∧
    (let s := (wCh .header).wr (MDM_CH_CFG_MODE .g24 7) 2
     s.chanMode .g24 7 = 2 ∧ 2047 ≤ maxPsdu 2 ∧ let r := ofdmMcs (s.rd (MDM_CH_CFG_PARAM .g24 7)); r.1 ≤ r.2) ∧ (wRf (fun r => { r with st := .rx })).chainOn .g24 false = true ∧
    (wRf (fun r => { r with st := .rx })).chainOn .g24 true = true ∧
    ((wRf (fun r => { r with st := .rx })).wr (RFC_DIV_MODE .g24) 1).chainOn .g24 true = false := by
  refine ⟨by decide +kernel, ?_, by decide +kernel⟩
  exact ⟨makeHeader false 3 1 15 2047 127, by decide +kernel⟩

/-! ### The link layer and the scheduler -/

theorem wit_DuplicateWindow : let w : DupWin := ⟨true, 255, 2 ^ 32 - 1, 5000⟩
    (classify w 0 false 0).1 = 0 ∧ (classify w 224 false 0).1 = 1 ∧ (classify w 3 true 1000).1 = 2 ∧ (classify w 3 true (5000 + 2 ^ 19)).2.2 = true ∧
      (classify w 3 true (5000 + 2 ^ 31)).2.2 = false ∧ (classify { w with valid := false } 9 true 0).1 = 0 := by decide +kernel

/-- A reception on channel 7 whose bytes are a secured Data frame of neighbour 4, an attempt, an exchange, a transmission, a window. -/
def rx0 : Rx :=
  { chan := 7, report := List.replicate 16 0, mode := 3, loaded := none, bytes := natLE 2 0x119 ++ [9] ++ natLE 2 1 ++ natLE 2 5 ++ natLE 2 6 ++ natLE 4 77 ++
      [1, 2, 3] ++ List.replicate 8 0, good := true, own := true, er := 1000, refTs := 500, refMer := 5, aerialB := false, cfo := 0,
    ackNb := none, waiting := true, key := List.replicate 16 7, tagOk := false, plain := [], nb := some 4, verdict := some 0, hand := true,
    err := none, synced := false, acked := false, record := none }
def duty0 : Duty := { accs := [], units := 1, us := 16 }
def att0 : Attempt :=
  { desc := 0x10000000, unicast := true, beacon := false, nb := 4, seq := 9, secured := false, key := [], kid := 0, ctr := 0, own := true,
    short := false, rate := 1, mode := 3, param := 0, power := 0, entry := 38, air := 100, pre := 10, tail := 0, start := 50000, sealNo := 0, sealed := true,
    spoilt := false, waitEx := false, turned := false, radiated := false, waiting := false, seen := false, endTs := 0, refTs := 0, hdr := [],
    body := [1], level := 0, psdu := [1, 2, 3], map := none, duty := duty0 }
def exch0 : AckExch :=
  { chan := 7, er := 1000, start := 5000, nb := 4, seq := 9, secured := false, kid := 0, ctr := 0, own := true, enh := false, short := false,
    mode := 3, param := 0, entry := 38, air := 100, duty := duty0, turned := false, radiated := false, ackst := none, psdu := [] }
def job0 : TxJob :=
  { kind := .frame, start := 50000, entry := 38, word := 2440000, aerialB := false, power := 0, ramp := 8, symEnd := 60000, onAir := false,
    down := false }
def frame0 : Frame :=
  { desc := 0x10000000, queue := 6, n := 400, u := 100, claims := [], admitted := false, accs := [], held := 0, order := 0, attempts := 0,
    seq := none, duty := false, disagree := false, busy := true, txTs := 0, tried := none }
def win0 : OpenWin :=
  { nb := 4, slot := 2, ack := false, contact := true, te := 5000, guard := 40, stop := 8192, seen := false, judged := false }

/-- MAC of 2.4 GHz as `f` changes it, and the frame queued. -/
def wMac (s : State) (f : BandMac → BandMac) : State := s.setMac .g24 (f (s.macB .g24))
def wQ (s : State) : State := s.setShp .g24 { s.shpB .g24 with frames := [frame0] }

theorem wit_ReceptionsEnd :
    (((wCh .payload).chan .g24 7).st = .payload ∧ ((wCh .payload).mdm.chans.get .g24).length = 8) ∧
    (let s := wMac wKey (fun m => { m with rxs := [rx0] })
     (s.macB .g24).rxs = [rx0] ∧ s.cip.trng = 1 ∧ s.sealing = false ∧ s.acceptBefore .g24 rx0 = false ∧ (∃ p, parseFrame rx0.own rx0.bytes = some p ∧
       (openBytes rx0.key (s.nbr 4).eui p.ctr p.level p.hdr p.body p.mic).2 = false)) ∧
    (let s := wMac w0 (fun m => { m with rxs := [rx0], exch := some exch0 })
     (s.macB .g24).exch = some exch0 ∧ ((s.macB .g24).rxs.find? (fun q => q.chan == exch0.chan && q.er == exch0.er)).isSome = true) ∧
    (let s := (wMac w0 (fun m => { m with rxs := [rx0] })).wr MAC_RXCFG_COUNT 64
     (s.macB .g24).exch = none ∧ ((s.macB .g24).rxs.find? (fun q => q.chan == 7 && q.hand)).isSome = true ∧ s.rd MAC_RXCFG_COUNT ≠ 0) :=
  ⟨by decide +kernel, ⟨rfl, rfl, by decide +kernel, by decide +kernel, _, rfl, by decide +kernel⟩, by decide +kernel⟩

/-- A broadcast MODE_SL frame of 20 bytes due in 1,000 cycles, MER in SYNTH, every entry valid. -/
def wGate : State :=
  let s := ((wQ w0).wr MER_STAT_STATE 4).sramWrite 0x10000000 (natLE 4 0x10000100 ++ natLE 2 20 ++ [0, 0x81, 3, 0, 0, 0] ++ natLE 4 1000 ++ [0, 0, 0, 38])
  { (s.sramWrite 0x10000100 (natLE 2 0x101 ++ [0] ++ List.replicate 17 1)) with
    rfc := { s.rfc with cals := { s.rfc.cals with g24 := [(38, { s.rfc.cal .g24 38 with state := 1 })] } } }

theorem wit_SharesAndGates :
    (let d := wGate.desc 0x10000000
     let x := wGate.txFrame d
     wGate.frameAt .g24 0x10000000 = some frame0 ∧ d.sec = false ∧ d.mapsel = false ∧
       wGate.gateCheck .g24 frame0 d x (wGate.txTimes .g24 d x 50000) (wGate.sendEntry .g24 d.entry (wGate.merAt 50000)) = .go) ∧
    (let s := ((wGate.wr SHP_CFG_G24EN 1).wr MAC_CFG_G24EN 1).setShp .g24 { wGate.shpB .g24 with
        frames := [{ frame0 with busy := false }], occ := some ⟨0, 0, 8192, 0⟩, chart := { Chart.atReset with entries := List.replicate 8 0xFF2000 } }
     let o : Occ := ⟨0, 0, 8192, 0⟩
     s.tclkOn = true ∧ s.shpOn .g24 = true ∧ s.macOn .g24 = true ∧ (s.shpB .g24).resume = false ∧ s.merWalks = true ∧
       (s.macB .g24).att = none ∧ (s.shpB .g24).occ = some o ∧ o.pos < o.len ∧
       (let s0 := s.advanceMer (merAdd o.start o.pos)
        merAfter s0.mer.now (merAdd o.start o.len) = false ∧
        ((s0.setShp .g24 (s0.shpB .g24).endShare).chooseFrame .g24 o).isSome = true)) ∧
    (let s := ((wGate.wr SHP_CFG_G24EN 1).wr MAC_CFG_G24EN 1).setShp .g24 { wGate.shpB .g24 with occ := some ⟨0, 0, 8192, 8191⟩ }
     let o : Occ := ⟨0, 0, 8192, 8191⟩
     let s0 := s.advanceMer (merAdd o.start o.pos)
     (s0.setShp .g24 (s0.shpB .g24).endShare).chooseFrame .g24 o = none) := by decide +kernel

theorem wit_Transmission :
    (let s := wMac (wQ wKey) (fun m => { m with att := some { att0 with sealed := false } })
     s.cip.trng = 1 ∧ s.sealBefore .g24 { att0 with sealed := false } = false ∧ (s.macB .g24).att = some { att0 with sealed := false } ∧ s.frameAt .g24 att0.desc = some frame0) ∧
    (let s := (wMac (wQ w0) (fun m => { m with att := some att0 })).setRfc .g24 { w0.rfcB .g24 with st := .tx, tx := some job0 }
     (s.rfcB .g24).tx = some job0 ∧ (s.rfcB .g24).st = .tx ∧ (s.macB .g24).att = some att0 ∧ (s.macB .g24).exch = none ∧
       s.frameAt .g24 att0.desc = some frame0) ∧
    ((wMac w0 (fun m => { m with att := some att0 })).wr MAC_DAA_EN 1).daaWanted .g24 = true ∧ (w0.macB .g24).daa = none ∧
    (let s := ((wMac wGate (fun m => { m with att := some att0 })).setRfc .g24 { w0.rfcB .g24 with st := .rx }).wr MAC_DAA_EN 0
     s.mer.tstamp ≤ att0.start ∧ (s.rfcB .g24).canTurn = true ∧ s.calInvalid .g24 att0.entry = false ∧ s.daaWanted .g24 = false) ∧
    (let s := wRf (fun r => { r with st := .turnTx, lockOk := true, tx := some job0 })
     (s.rfcB .g24).tx = some job0 ∧ (s.rfcB .g24).st = .turnTx ∧ (s.rfcB .g24).lockOk = true) ∧
    (let s := wRf (fun r => { r with st := .tx, tx := some { job0 with down := true } })
     (s.rfcB .g24).tx.map TxJob.down = some true ∧ (s.rfcB .g24).offAfter = false) ∧
    (let s := wRf (fun r => { r with st := .turnRx }); (s.rfcB .g24).st = .turnRx ∧ (s.rfcB .g24).needHop = false ∧ s.rfc.cmd = none) := by
  decide +kernel

theorem wit_WindowsAndContacts :
    (let s := (wGate.wr SHP_CFG_G24EN 1).setShp .g24 { wGate.shpB .g24 with chart := { Chart.atReset with entries := List.replicate 8 0x80002000 } }
     s.walking .g24 = true ∧ s.tclkOn = true ∧ (s.nextWindow .g24).isSome = true) ∧
    (let s := (w0.setShp .g24 { w0.shpB .g24 with wins := [win0] }).putNbr 4 { Nbr.empty with valid := true, missed := 254 }
     firstBy (·.stop) (s.shpB .g24).wins = some win0 ∧ firstBy (fun w => merAdd w.te w.guard)
       ((s.shpB .g24).wins.filter (fun w => w.contact && !w.seen && !w.judged && !s.heard w)) = some win0 ∧ (s.macB .g24).exch = none ∧ (s.nbr 4).valid = true ∧ (s.nbr 4).link = .normal ∧ (s.nbr 4).missed < 255) ∧
    (let s := wRf (fun r => { r with opening := true })
     (s.rfcB .g24).opening = true ∧ s.rfc.cmd = none ∧ (s.rfcB .g24).cal = none ∧ (s.macB .g24).daa = none) ∧
    (∀ c ∈ [CalCmd.mk .g24 1 [5] false false, CalCmd.mk .g24 2 [5] false true], let s := wRf (fun r => { r with opening := true })
     let t := { s with rfc := { s.rfc with cmd := some c } }
     (t.rfcB .g24).opening = true ∧ t.rfc.cmd = some c ∧ (c.op ≠ 2 ∨ c.begun = true) ∧ c.left = 5 :: []) ∧
    (let s := wMac w0 (fun m => { m with att := some { att0 with waiting := true } })
     (s.macB .g24).att = some { att0 with waiting := true } ∧ (s.nbr att0.nb).link = .normal) ∧
    (let s := (w0.putNbr 4 { Nbr.empty with valid := true, link := .listen }).setMac .sg { w0.macB .sg with listen := some (0, 99) }
     s.listening = some 4 ∧ (s.macB .sg).listen = some (0, 99) ∧ (s.macB .g24).listen = none) := by decide +kernel

theorem wit_EnqueueAndPolicers : (((wGate.wr SHP_CFG_G24EN 1).setShp .g24
      { w0.shpB .g24 with chart := { Chart.atReset with entries := List.replicate 8 0xFF2000, profs := List.replicate 8 (0x10, 0x10) } }).enqStatus .g24 6 0).1 = stOK ∧ w0.barred (.eng 2) 11 = false ∧
    (w0.enqStatus .g24 0 0).1 ≠ stOK ∧
    w0.rdB (SHP_POL_CFG_EN 63) = false ∧ (0x80000000 : Word).getLsbD 31 = true := by decide +kernel

theorem wit_ChartWalk : (let c := Chart.atReset; 0 < c.cycles ∧ c.cycles ≤ 64 ∧ (c.entries.map entDur).sum = c.cycles * 65536) ∧
    (let s := wGate.wr SHP_CFG_G24EN 1; s.walking .g24 = true ∧ s.tclkOn = true ∧ (s.shpB .g24).occ = none) ∧
    (let s := (wGate.wr SHP_CFG_G24EN 1).setShp .g24 { wGate.shpB .g24 with occ := some ⟨0, 0, 8192, 0⟩ }
     let o : Occ := ⟨0, 0, 8192, 0⟩
     s.walking .g24 = true ∧ s.tclkOn = true ∧ (s.shpB .g24).occ = some o ∧
       merAfter ((s.advanceMer (merAdd o.start o.len)).here .g24).start o.start = true) := by decide +kernel


/-! ### Mesh firmware -/

def fwTx0 : FwTx := { buf := 0x1000, desc := 0x2000, power := 0, retry := 0, due := 0, entry := 38 }
def cand0 : Cand := { short := 5, rank := 1, flags := 1, snr := 40, count := 1, ts := 0, mer := 0, inc := 0x80000000 }
/-- A key of 16 zeros. -/
def zeroKey : List Byte := List.replicate 16 0
/-- A slot that holds it, of a policy that lets E2 unwrap under it and wrap it. -/
def wSlot (pol : Nat) : KeySlot := { KeySlot.empty with loaded := true, key := zeroKey, pol := pol }
def wPol : Nat := 2 ^ CIP_KPOL_KEK.lsb + 2 ^ CIP_KPOL_DEC.lsb + 2 ^ CIP_KPOL_EXPORT.lsb + 4
/-- A worker whose mesh firmware stands as `f` says; every key slot holds the key of zeros, of policy `pol`. -/
def wKeys (pol : Nat) (f : Mesh → Mesh) : State :=
  { w0 with mesh := f w0.mesh, cip := { w0.cip with slots := List.replicate 16 (wSlot pol) } }
def wMesh (f : Mesh → Mesh) : State := wKeys wPol f

theorem wKeys_slot (pol : Nat) (f : Mesh → Mesh) {n : Nat} (h : n < 16) : (wKeys pol f).slot n = wSlot pol := by
  have e : (List.replicate 16 (wSlot pol))[n]? = some (wSlot pol) := List.getElem?_replicate_of_lt h
  simp only [State.slot, wKeys, List.getD_eq_getElem?_getD, e, Option.getD_some]

theorem joinSlot_lt : joinSlot < 16 := Nat.lt_trans (Nat.mod_lt _ (by decide)) (by decide : 15 < 16)

theorem meshSlot_lt : meshSlot < 14 := by
  have h : ∀ m ∈ meshSlots, m < 14 := fun m hm => List.mem_range.1 (List.mem_filter.1 hm).1
  rw [meshSlot, List.getD_eq_getElem?_getD]
  cases e : meshSlots[Config.meshSlotPick % meshSlots.length]? with
  | none => decide
  | some m => exact h m (List.mem_of_getElem? e)

theorem wMesh_unlocked (f : Mesh → Mesh) (n : Nat) : ((wMesh f).slot n).has CIP_KPOL_LOCK = false := by
  by_cases h : n < 16
  · rw [wMesh, wKeys_slot _ _ h]; decide +kernel
  · have e : (List.replicate 16 (wSlot wPol))[n]? = none := List.getElem?_eq_none (by simp; omega)
    simp only [State.slot, wMesh, wKeys, List.getD_eq_getElem?_getD, e, Option.getD_none]
    decide +kernel

/-- E2 may unwrap under the join key of that policy, and not under one of policy 0. -/
theorem wMesh_joinUnwrap (f : Mesh → Mesh) (r : List Byte)
    (h : ∃ p, unwrapKey zeroKey (natBE 8 ownEui) ((r.drop 23).take 40) = some p) : (((wMesh f).acted r).joinUnwrap r).2.1 = stOK := by
  obtain ⟨p, h⟩ := h
  have e : ((wMesh f).acted r).slot joinSlot = wSlot wPol := wKeys_slot _ f joinSlot_lt
  have l : (unwrapSlots meshSlot true meshPolicy p).any (fun x => (((wMesh f).acted r).slot x.1).has CIP_KPOL_LOCK) = false :=
    List.any_eq_false.2 (fun x _ => Bool.eq_false_iff.1 (wMesh_unlocked f x.1))
  have q : (wSlot wPol).key = zeroKey := rfl
  have a : policyBad 0 meshPolicy = false := by decide +kernel
  have b : (wSlot wPol).loaded = true := rfl
  have c : ((wSlot wPol).has CIP_KPOL_KEK && (wSlot wPol).has CIP_KPOL_DEC &&
    CIP_KPOL_USERS.of (BitVec.ofNat 32 (wSlot wPol).pol) / 4 % 2 == 1) = true := by decide +kernel
  simp only [State.joinUnwrap, State.unwrapInto, e, q, h, l, b, c]
  simp [a]

theorem noUnwrap (f : Mesh → Mesh) (r : List Byte) : (((wKeys 0 f).acted r).joinUnwrap r).2.1 ≠ stOK := by
  have e : ((wKeys 0 f).acted r).slot joinSlot = wSlot 0 := wKeys_slot _ f joinSlot_lt
  have b : (wSlot 0).loaded = true := rfl
  have c : ((wSlot 0).has CIP_KPOL_KEK && (wSlot 0).has CIP_KPOL_DEC &&
    CIP_KPOL_USERS.of (BitVec.ofNat 32 (wSlot 0).pol) / 4 % 2 == 1) = false := by decide +kernel
  simp [State.joinUnwrap, e, b, c, stDenied, stOK]

theorem wholeSchedule_zero : wholeSchedule zeroKey = true ∧ wholeSchedule (wrapSubkey zeroKey 1) = true ∧
    wholeSchedule (wrapSubkey zeroKey 2) = true := by decide +kernel

theorem wKeys_joinKey (pol : Nat) (f : Mesh → Mesh) : (wKeys pol f).ownJoinKey = zeroKey :=
  congrArg KeySlot.key (wKeys_slot pol f joinSlot_lt)

/-- The layout of a JOIN_RSP for this device under the key of zeros: its length, its kind, its EUI-64, its RESULT and its TAG (R239). -/
theorem joinRsp_layout (x p : List Byte) (res : Nat) (hr : res < 256) (hp : p.length = 53)
    (hx : x = [0x11] ++ natLE 8 ownEui ++ [BitVec.ofNat 8 res] ++ p) :
    let r := x ++ joinTag zeroKey x
    r.length = 71 ∧ bytesAt r 0 1 = 0x11 ∧ bytesAt r 1 8 = ownEui ∧ bytesAt r 9 1 = res ∧
      joinTag zeroKey (r.take 63) = r.drop 63 ∧ (r.drop 23).take 40 = p.drop 13 := by
  have he : leNat (natLE 8 ownEui) = ownEui := by
    rw [leNat_natLE]
    exact Nat.mod_eq_of_lt Config.eui64.isLt
  have hj : (joinTag zeroKey x).length = 8 := by
    rw [joinTag, List.length_take, cmac_length wholeSchedule_zero.1]
    rfl
  have hl : x.length = 63 := by simp [hx, hp]
  refine ⟨by simp [hl, hj], ?_, ?_, ?_, by simp [List.take_left' hl, List.drop_left' hl], ?_⟩
  · subst hx; rfl
  · subst hx; exact he
  · subst hx
    show (BitVec.ofNat 8 res).toNat + 256 * 0 = res
    rw [BitVec.toNat_ofNat]
    omega
  · rw [List.drop_append_of_le_length (by omega), List.take_left' (by simp [hl])]
    subst hx
    exact List.drop_append (l₁ := [0x11] ++ natLE 8 ownEui ++ [BitVec.ofNat 8 res]) (i := 23)

/-- A response with OK carries the wrapped keys at byte 23 (R239). -/
theorem joinRsp_ok : ∃ r : List Byte, r.length = 71 ∧ bytesAt r 0 1 = 0x11 ∧ bytesAt r 1 8 = ownEui ∧ bytesAt r 9 1 = stOK ∧
    joinTag zeroKey (r.take 63) = r.drop 63 ∧ ∃ p, unwrapKey zeroKey (natBE 8 ownEui) ((r.drop 23).take 40) = some p := by
  let w := wrapKey zeroKey (natBE 8 ownEui) (zeroKey ++ zeroKey)
  have hw : w.length = 40 := wrapKey_length wholeSchedule_zero.2.1 wholeSchedule_zero.2.2 _ _
  obtain ⟨a, b, c, d, e, f⟩ := joinRsp_layout _ (List.replicate 13 0 ++ w) stOK (by decide) (by simp [hw]) rfl
  refine ⟨_, a, b, c, d, e, zeroKey ++ zeroKey, ?_⟩
  rw [f, List.drop_left' (by simp)]
  exact unwrapKey_wrapKey wholeSchedule_zero.2.1 wholeSchedule_zero.2.2 _ _

/-- A response with another RESULT. -/
theorem joinRsp_other (res : Nat) (hr : res < 256) : ∃ r : List Byte, r.length = 71 ∧ bytesAt r 0 1 = 0x11 ∧ bytesAt r 1 8 = ownEui ∧
    bytesAt r 9 1 = res ∧ joinTag zeroKey (r.take 63) = r.drop 63 := by
  obtain ⟨a, b, c, d, e, _⟩ := joinRsp_layout _ (List.replicate 53 0) res hr (by simp) rfl
  exact ⟨_, a, b, c, d, e⟩

/-- One with a wrong TAG. -/
theorem joinRsp_wrongTag : ∃ r : List Byte, r.length = 71 ∧ bytesAt r 0 1 = 0x11 ∧ bytesAt r 1 8 = ownEui ∧
    joinTag zeroKey (r.take 63) ≠ r.drop 63 := by
  let x := [0x11] ++ natLE 8 ownEui ++ [(0 : Byte)] ++ List.replicate 53 0
  have hl : x.length = 63 := by simp [x]
  have he : bytesAt x 1 8 = ownEui := (leNat_natLE 8 ownEui).trans (Nat.mod_eq_of_lt Config.eui64.isLt)
  have go : ∀ y : List Byte, y.length = 8 → joinTag zeroKey x ≠ y → ∃ r : List Byte, r.length = 71 ∧ bytesAt r 0 1 = 0x11 ∧
      bytesAt r 1 8 = ownEui ∧ joinTag zeroKey (r.take 63) ≠ r.drop 63 := fun y hy h =>
    ⟨x ++ y, by simp [hl, hy], rfl, he, by rw [List.take_left' hl, List.drop_left' hl]; exact h⟩
  by_cases h : joinTag zeroKey x = List.replicate 8 0
  · exact go (List.replicate 8 1) rfl (by rw [h]; decide)
  · exact go (List.replicate 8 0) rfl h

theorem wit_JoinerSteps :
    (∃ s : State, s.tclkOn = true ∧ s.mesh.phase = .scan ∧ bestCand (s.mesh.cands.filter s.mesh.qualifies) = some cand0) ∧
    (∃ s : State, s.mesh.phase = .scan ∧ bestCand (s.mesh.cands.filter s.mesh.qualifies) = none) ∧
    (∀ p : JoinPhase, (wMesh (fun m => { m with phase := p })).mesh.phase = p ∧ (wMesh (fun m => { m with phase := p })).tclkOn = true) ∧
    (∃ s : State, s.isLeaf = true ∧ s.mesh.phase = .waiting ∧ s.mesh.rejoin = true ∧ s.mesh.fails = 2) ∧
    (∃ s : State, s.isLeaf = true ∧ s.mesh.phase = .listen ∧ s.mesh.heard = false ∧ ¬(s.mesh.rejoin = true ∧ s.mesh.fails < 3)) ∧
    (∃ (s : State) (r : List Byte), s.mesh.phase = .waiting ∧ r.length = 71 ∧ bytesAt r 0 1 = 0x11 ∧ bytesAt r 1 8 = ownEui ∧
      bytesAt r 9 1 = stOK ∧ joinTag s.ownJoinKey (r.take 63) = r.drop 63 ∧ ((s.acted r).joinUnwrap r).2.1 = stOK) ∧
    (∃ (s : State) (r : List Byte), (s.mesh.phase = .position ∧ s.mesh.rspDone = false) ∧ r.length = 71 ∧ bytesAt r 0 1 = 0x11 ∧
      bytesAt r 1 8 = ownEui ∧ bytesAt r 9 1 = stOK ∧ joinTag s.ownJoinKey (r.take 63) = r.drop 63 ∧
      ((s.acted r).joinUnwrap r).2.1 ≠ stOK) ∧
    (∃ s : State, s.mesh.phase = .position ∧ s.mesh.rspDone = true) ∧
    (∀ res, res < 256 → ∃ (s : State) (r : List Byte), s.mesh.phase = .waiting ∧ s.mesh.chosen = some 5 ∧ s.mesh.rejoin = false ∧ r.length = 71 ∧
      bytesAt r 0 1 = 0x11 ∧ bytesAt r 1 8 = ownEui ∧ bytesAt r 9 1 = res ∧ joinTag s.ownJoinKey (r.take 63) = r.drop 63) ∧
    (∃ (s : State) (r : List Byte), s.mesh.phase = .waiting ∧ r.length = 71 ∧ bytesAt r 0 1 = 0x11 ∧ bytesAt r 1 8 = ownEui ∧
      joinTag s.ownJoinKey (r.take 63) ≠ r.drop 63) := by
  refine ⟨⟨wMesh (fun m => { m with phase := .scan, cands := [cand0] }), by decide +kernel, rfl, by decide +kernel⟩,
    ⟨wMesh (fun m => { m with phase := .scan, cands := [{ cand0 with snr := 39 }] }), rfl, by decide +kernel⟩,
    fun p => ⟨rfl, rfl⟩,
    ⟨(wMesh (fun m => { m with phase := .waiting, rejoin := true, fails := 2 })).wr SYS_ROLE_ROLE 2, by decide +kernel, rfl, rfl, rfl⟩,
    ⟨(wMesh (fun m => { m with phase := .listen })).wr SYS_ROLE_ROLE 2, by decide +kernel, rfl, rfl, by decide +kernel⟩, ?_, ?_,
    ⟨wMesh (fun m => { m with phase := .position, rspDone := true }), rfl, rfl⟩, ?_, ?_⟩
  · obtain ⟨r, h⟩ := joinRsp_ok
    refine ⟨wMesh (fun m => { m with phase := .waiting }), r, rfl, ?_⟩
    rw [wMesh, wKeys_joinKey]
    exact ⟨h.1, h.2.1, h.2.2.1, h.2.2.2.1, h.2.2.2.2.1, wMesh_joinUnwrap _ r h.2.2.2.2.2⟩
  · obtain ⟨r, h⟩ := joinRsp_ok
    refine ⟨wKeys 0 (fun m => { m with phase := .position, rspDone := false }), r, ⟨rfl, rfl⟩, ?_⟩
    rw [wKeys_joinKey]
    exact ⟨h.1, h.2.1, h.2.2.1, h.2.2.2.1, h.2.2.2.2.1, noUnwrap _ r⟩
  · intro res hr
    obtain ⟨r, h⟩ := joinRsp_other res hr
    refine ⟨wMesh (fun m => { m with phase := .waiting, chosen := some 5 }), r, rfl, rfl, rfl, ?_⟩
    rw [wMesh, wKeys_joinKey]
    exact h
  · obtain ⟨r, h⟩ := joinRsp_wrongTag
    refine ⟨wMesh (fun m => { m with phase := .waiting }), r, rfl, ?_⟩
    rw [wMesh, wKeys_joinKey]
    exact h

/-- A JOIN_REQ of EUI-64 99 towards the manager, with its TAG under the key of zeros (R238). -/
def req1 : List Byte := let p := [0x10] ++ natLE 8 99 ++ natLE 2 0 ++ [0, 1] ++ List.replicate 2 0; p ++ joinTag zeroKey p
/-- A manager that holds that key. -/
def wMan : State := (wMesh (fun m => { m with joinKeys := [(99, zeroKey)] })).wr SYS_ROLE_ROLE 0

theorem wMan_meshKeys : wMan.meshKeys.isSome = true := by
  let f : Mesh → Mesh := fun m => { m with joinKeys := [(99, zeroKey)] }
  have a : wMan.slot meshSlot = wSlot wPol := wKeys_slot wPol f (by have := meshSlot_lt; omega)
  have b : wMan.slot (meshSlot + 1) = wSlot wPol := wKeys_slot wPol f (by have := meshSlot_lt; omega)
  have c : ((wSlot wPol).loaded && (wSlot wPol).klen == 0 && (wSlot wPol).has CIP_KPOL_EXPORT) = true := by decide +kernel
  simp only [State.meshKeys, a, b, c]
  rfl

/-- The same manager, its key slots EMPTY. -/
def wBare : State := { wMan with cip := { wMan.cip with slots := [] } }

theorem wit_ManagerJoins : wMan.meshKeys.isSome = true ∧ wBare.meshKeys = none ∧ wBare.isManager = true ∧
    wBare.mesh.joinKeys.lookup (bytesAt req1 1 8) = some zeroKey ∧ wMan.isManager = true ∧ wMan.mesh.joinKeys.lookup (bytesAt req1 1 8) = some zeroKey ∧
    w0.mesh.joinKeys.lookup (bytesAt req1 1 8) = none ∧ req1.length = 23 ∧ joinTag zeroKey (req1.take 15) = req1.drop 15 ∧
    joinTag zeroKey ((req1.set 22 0).take 15) ≠ (req1.set 22 0).drop 15 ∧ wMan.mesh.answered = [] ∧
    wMan.mesh.joinResult 99 0 = stOK ∧ wMan.mesh.joinResult 99 7 ≠ stOK ∧ ([0x11] ++ List.replicate 70 (0 : Byte)).length = 71 :=
  ⟨wMan_meshKeys, rfl, by decide +kernel⟩

/-- A worker with a parent at index 4, operational. -/
def wWork : State := (wMesh (fun m => { m with phase := .operational, children := [(9, 4)] })).putNbr 4
  { Nbr.empty with valid := true, parent := true, eui := 77 }

/-- A native frame from 6 to 5 without CTR whose payload is `p`. -/
def wFrame (p : List Byte) : List Byte := natLE 2 0x101 ++ [9] ++ natLE 2 1 ++ natLE 2 5 ++ natLE 2 6 ++ p

theorem wit_FwdRelay :
    (let p : List Byte := [0x12, 0, 15] ++ List.replicate 30 1 ++ [0x13]
     meshPayload (wFrame p) = p ∧ bytesAt p 0 1 = 0x12 ∧ bytesAt p 1 1 = 0 ∧ wWork.isManager = false ∧ (fwdPath p).length < 16 ∧
       (fwdPath p).contains (wWork.rd MAC_ADDR_SHORT) = false ∧ wWork.isDetached = false ∧ wWork.parentIdx = some 4) ∧
    (let p : List Byte := [0x12, 0, 16] ++ List.replicate 32 1
     meshPayload (wFrame p) = p ∧ bytesAt p 0 1 = 0x12 ∧ bytesAt p 1 1 = 0 ∧ wWork.isManager = false ∧ 16 ≤ (fwdPath p).length) ∧
    wMan.isManager = true ∧
    (let s := wWork.wr MAC_ADDR_SHORT 8
     let p : List Byte := [0x12, 1, 1, 7, 0, 0x13]
     let q : List Byte := [0x12, 1, 1, 8, 0, 0x13]
     let r : List Byte := [0x12, 1, 2, 7, 0, 8, 0, 0x13]
     bytesAt p 1 1 ≠ 0 ∧ (fwdPath p).contains (s.rd MAC_ADDR_SHORT) = false ∧ fwdPath q = s.rd MAC_ADDR_SHORT :: [] ∧
       fwdPath r = [] ++ 7 :: s.rd MAC_ADDR_SHORT :: [] ∧ s.rd MAC_ADDR_SHORT ∉ [] ++ [7]) ∧
    (let s := wWork.wr MAC_ADDR_SHORT 8
     let p : List Byte := [0x10] ++ natLE 8 99 ++ natLE 2 8
     bytesAt p 0 1 = 0x10 ∧ bytesAt p 9 2 = s.rd MAC_ADDR_SHORT ∧ s.isManager = false ∧ s.isLeaf = false ∧ s.isDetached = false ∧
       s.parentIdx = some 4) ∧
    (let s := wMesh (fun m => { m with owed := [(0, [0x14])] })
     s.isManager = false ∧ s.mesh.owed = (0, [0x14]) :: []) := by decide +kernel

theorem wit_MeshTraffic :
    (let s := wMesh (fun m => { m with phase := .operational })
     s.mayBeacon = true ∧ s.tclkOn = true ∧ ¬(s.mesh.startup = true ∧ Band.sg = Band.g24)) ∧ State.reset.mayBeacon = false ∧
    (let s := wMesh (fun m => { m with phase := .operational, reportDue := true })
     let u := s.putNbr 4 { Nbr.empty with valid := true, parent := true, eui := 77 }
     s.isManager = false ∧ s.mesh.phase = .operational ∧ s.mesh.reportDue = true ∧ s.tclkOn = true ∧ s.mesh.reported = none ∧
       s.parentIdx = none ∧ u.isDetached = false ∧ u.parentIdx = some 4 ∧ u.mesh.reportDue = true) ∧
    (let c : List Byte := [0x13] ++ natLE 8 77
     bytesAt c 0 1 = 0x13 ∧ wWork.nbrOf (bytesAt c 1 8, true) = some 4 ∧ wWork.mesh.children.any (fun c => c.2 == 4) = true) ∧
    (let s := { w0 with mdm := { w0.mdm with means := [(9, List.replicate 96 200)] } }
     ∃ m, s.newMap 4 .g24 = some m ∧ s.mayUpdate 4 .g24 = true ∧ mapValid m = true) ∧
    (∃ (s : State) (x : AssuredSrc), s.mesh.srcs.find? (fun x => x.id == 3) = some x ∧ x.seq = 65535) ∧
    w0.mesh.srcs.find? (fun x => x.id == 3) = none :=
  ⟨by decide +kernel, by decide +kernel, by decide +kernel, by decide +kernel, ⟨_, rfl, by decide +kernel⟩,
   ⟨{ w0 with mesh := { w0.mesh with srcs := [⟨3, 65535, 4, 5⟩] } }, _, rfl, rfl⟩, rfl⟩

theorem wit_ChartSets :
    (let p : List Byte := [0x15, 0, 255, 1] ++ natLE 4 9
     8 ≤ p.length ∧ bytesAt p 0 1 = 0x15 ∧ bytesAt p 2 1 + bytesAt p 3 1 ≤ 256) ∧
    (let s := wMesh (fun m => { m with sets := { sg := { ChartSet.none with swap := some 1, last := true }, g24 := ChartSet.none } })
     s.setsDue (s.mer.cyc % 2 ^ 32) ≠ [] ∧ (s.setsDue (s.mer.cyc % 2 ^ 32)).all s.setWhole = true ∧ s.took.commitShp.rd SHP_COMMIT_STATUS = stOK) ∧
    (let s := wMesh (fun m => { m with sets := { sg := { ChartSet.none with swap := some 1, last := false }, g24 := ChartSet.none } })
     s.setsDue (s.mer.cyc % 2 ^ 32) ≠ [] ∧ (s.setsDue (s.mer.cyc % 2 ^ 32)).all s.setWhole = false) ∧ w0.setsDue (w0.mer.cyc % 2 ^ 32) = [] := by
  decide +kernel

/-! ### Sounding and the luminaire -/

/-- Zone 7 enabled, in `st`, with one short of ONCNT counts above. -/
def wZone (st above held : Nat) : State :=
  (((w0.wr (SNS_SZ_CFG_EN 7) 1).wr (SNS_SZ_STAT_STATE 7) st).wr (SNS_SZ_STAT_ABOVE 7) above).wr (SNS_SZ_STAT_HELD 7) held

theorem wit_ZoneDetector :
    w0.barred (.eng 2) 17 = false ∧ isE2 (.eng 3) = false ∧ (∀ x ∈ [(0, 0, 0), (0, 1, 0), (1, 0, 0), (1, 0, 999)], let s := wZone x.1 x.2.1 x.2.2
      s.rdB (SNS_SZ_CFG_EN 7) = true ∧ s.sns.fresh.getD 7 true = true ∧ s.rd (SNS_SZ_STAT_STATE 7) = x.1) ∧
    (let s := wZone 0 1 0; s.rd (SNS_SZ_CFG_ONCNT 7) ≤ s.rd (SNS_SZ_STAT_ABOVE 7) + 1 ∧ s.rd (SNS_SZ_CFG_ON 7) ≤ 32 ∧ 31 < s.rd (SNS_SZ_CFG_ON 7)) ∧
    (let s := wZone 0 0 0; s.rd (SNS_SZ_STAT_ABOVE 7) + 1 < s.rd (SNS_SZ_CFG_ONCNT 7)) ∧
    (let s := wZone 1 0 999; s.rd (SNS_SZ_CFG_HOLD 7) * 4 ≤ s.rd (SNS_SZ_STAT_HELD 7) + 1 ∧ 16 ≤ s.rd (SNS_SZ_CFG_OFF 7) ∧ s.rd (SNS_SZ_CFG_OFF 7) < 17) ∧
    (let s := wZone 1 0 998; s.rd (SNS_SZ_STAT_HELD 7) + 1 < s.rd (SNS_SZ_CFG_HOLD 7) * 4) ∧
    (let s := { w0 with snd := { w0.snd with started := true } }; s.snd.started = true ∧ s.tclkOn = true ∧ s.start = .none ∧ s.snd.closed = none) ∧
    (let s := { w0 with snd := { w0.snd with started := true, closed := some (2 ^ 32 - 1) } }
     s.snd.closed = some ((merCycle s.mer.now + 2 ^ 32 - 1) % 2 ^ 32)) := by decide +kernel

theorem wit_Luminaire :
    (let s := { (w0.wr (SNS_PD_CFG_INT 1) 3) with sns := { w0.sns with pds := [⟨none, 0, []⟩, ⟨some 0, 0, []⟩] } }
     s.tclkOn = true ∧ (s.pd 1).start = some 0 ∧ (s.pd 1).ended = [] ∧ s.rd (SNS_PD_CFG_INT 1) = 3 ∧
       s.rd (SNS_PD_THR_LO 1) < 2 * s.rd (SNS_PD_THR_HI 1) + 1) ∧
    (let s := { w0 with sns := { w0.sns with pds := [⟨none, 0, [399999, 400000]⟩, ⟨none, 0, [400000]⟩] } }
     (s.pd 0).ended = 399999 :: [400000] ∧ (s.pd 1).ended = 400000 :: []) ∧
    ((w0.wr SNS_PIR_CFG_EN 1).rdB SNS_PIR_CFG_EN = true ∧ w0.sns.pirM = none ∧
      ({ w0 with sns := { w0.sns with pirM := some 0 } } : State).sns.pirM = some 0) ∧
    (let p : Pwm := { Pwm.atReset with cfg := (SNS_PWM_CFG_MODE 0).put 0x800 1, duty := 0x8000, start := some 0, pin := true }
     let s := { (w0.wr (SNS_PWM_CFG_MODE 3) 1) with sns := { w0.sns with pwms := [.atReset, .atReset, .atReset, p] } }
     s.sns.pwms.length = 4 ∧ (s.pwm 3).mode = 1 ∧ (s.pwm 3).start = some 0 ∧ (s.pwmAdopt 3 p).mode = 1 ∧ s.tclk ≤ 0 + p.span ∧ p.duty ≠ 0 ∧
       p.duty ≠ 0xFFFF ∧ p.pin = p.level true) ∧
    (let p : Pwm := { Pwm.atReset with cfg := (SNS_PWM_CFG_MODE 0).put 0x800 1, start := some 0, was := some (4096 * 8, 7) }
     p.was.isSome = true ∧ p.mode = 1) ∧
    (let p : Pwm := { Pwm.atReset with cfg := (SNS_PWM_CFG_MODE 0).put 0x800 2 }
     let s := { (w0.wr (SNS_PWM_CFG_MODE 2) 2) with sns := { w0.sns with pwms := [.atReset, .atReset, p, .atReset] } }
     (s.pwm 2).mode = 2 ∧ s.pwmAdopt 2 (s.pwm 2) = s.pwm 2 ∧ (s.pwm 3).mode = 0) ∧
    (let s := w0.wr (gpioPin 1) 23
     s.rd (gpioPin 1) < 24 ∧ s.sns.levels.getD 1 false ≠ true ∧ s.sns.levels.getD 1 false = false ∧
       s.rd SNS_GPIO_DIR_PINS / 2 ^ s.rd (gpioPin 1) % 2 = 0) := by decide +kernel

/-! ### The host interface -/

/-- HIF ready. -/
def wHost : State := (w0.wr HIF_STAT_READY 1).wr SYS_BOOT_DONE 1

theorem takes0 (q : HostReq) (h : q.payload.length ≤ 1024) (hh : q.hold = false) (hx : q.expert = false) : wHost.Takes q := by
  refine ⟨?_, h, hh, by simp [hx], by decide +kernel, by decide +kernel, rfl, rfl, rfl, rfl, rfl, by decide +kernel⟩
  cases q.spi <;> rfl

theorem wit_HostRequests : wHost.Takes { req0 with payload := [1, 2, 3] } ∧
    (let q := { req0 with payload := [1, 2, 3] }
     let u := wHost.received 0x01 false q
     let x := State.opEcho u (reqInput q)
     x.1.hif.exec = u.hif.exec ∧ x.1.hif.out = none ∧ x.1.hif.ereqs = [] ∧ x.2.1 < 256 ∧ x.2.2.length ≤ 1024) :=
  ⟨takes0 _ (by decide) rfl rfl, by decide +kernel⟩

/-- A device with the expert key of zeros that has issued a nonce. -/
def wNonce : State :=
  { (wHost.wr HIF_EXPERT_KEYSET 1) with hif := { wHost.hif with nonce := some (List.replicate 8 1, 0) },
                                        fw := { wHost.fw with expertKey := some zeroKey } }

theorem wit_HostOperations :
    wHost.Takes { req0 with payload := [0] ++ natLE 2 65535 ++ [7] } ∧ wHost.Takes { req0 with payload := [0] ++ natLE 2 64512 ++ natLE 2 1024 } ∧
    wHost.Takes { req0 with payload := [11, 255] } ∧ wHost.Takes req0 ∧ wHost.rdB HIF_EXPERT_KEYSET = false ∧
    (let a := wHost.rd HIF_DPBASE_BASE * 65536 + 64512; a + 1024 ≤ wHost.reqBuf ∨ wHost.reqBuf + 4096 ≤ a) ∧
    (∃ (s : State) (q : HostReq) (n : List Byte), s.Takes q ∧ s.rdB HIF_EXPERT_KEYSET = true ∧ q.payload.length = 8 ∧ s.hif.barred = none ∧
      s.hif.nonce = some (n, 0) ∧ s.fltNow ≤ 0 + 4000000000 ∧ q.payload = unlockTag (s.fw.expertKey.getD []) n) ∧
    (∃ (s : State) (q : HostReq) (n : List Byte), s.Takes q ∧ s.rdB HIF_EXPERT_KEYSET = true ∧ q.payload.length = 8 ∧ s.hif.barred = none ∧
      s.hif.nonce = some (n, 0) ∧ s.fltNow ≤ 0 + 4000000000 ∧ q.payload ≠ unlockTag (s.fw.expertKey.getD []) n) := by
  have ht : ∀ q : HostReq, q.payload.length = 8 → q.hold = false → q.expert = false → wNonce.Takes q := fun q h hh hx => by
    refine ⟨?_, by omega, hh, by simp [hx], by decide +kernel, by decide +kernel, rfl, rfl, rfl, rfl, rfl, by decide +kernel⟩
    cases q.spi <;> decide +kernel
  have hl : (unlockTag zeroKey (List.replicate 8 1)).length = 8 := by
    rw [unlockTag, List.length_take, cmac_length wholeSchedule_zero.1]
    rfl
  refine ⟨takes0 _ (by decide) rfl rfl, takes0 _ (by decide) rfl rfl, takes0 _ (by decide) rfl rfl, takes0 _ (by decide) rfl rfl,
    by decide +kernel, by decide +kernel,
    ⟨wNonce, { req0 with payload := unlockTag zeroKey (List.replicate 8 1) }, _, ht _ hl rfl rfl, by decide +kernel, hl, rfl, rfl, by decide +kernel,
      congrArg (unlockTag · (List.replicate 8 1)) (rfl : zeroKey = wNonce.fw.expertKey.getD [])⟩, ?_⟩
  have go : ∀ y : List Byte, y.length = 8 → y ≠ unlockTag zeroKey (List.replicate 8 1) → _ := fun y hy h =>
    (⟨wNonce, { req0 with payload := y }, _, ht _ hy rfl rfl, by decide +kernel, hy, rfl, rfl, by decide +kernel, h⟩ :
      ∃ (s : State) (q : HostReq) (n : List Byte), s.Takes q ∧ s.rdB HIF_EXPERT_KEYSET = true ∧ q.payload.length = 8 ∧ s.hif.barred = none ∧
        s.hif.nonce = some (n, 0) ∧ s.fltNow ≤ 0 + 4000000000 ∧ q.payload ≠ unlockTag (s.fw.expertKey.getD []) n)
  by_cases h : unlockTag zeroKey (List.replicate 8 1) = List.replicate 8 0
  · exact go (List.replicate 8 1) rfl (by rw [h]; decide)
  · exact go (List.replicate 8 0) rfl (Ne.symm h)

/-- A request of SEQ 1 that executes, and one that is kept. -/
def wExec : State := { wHost with hif := { wHost.hif with exec := some (reqKey req0 1) } }
def wKept : State := { wHost with hif := { wHost.hif with kept := some (reqKey req0 1, 0, 2) } }

theorem wit_HostPackets : wHost.hifHears false = true ∧ wHost.pwr.entering = false ∧ wHost.hif.out = none ∧ wHost.rd HIF_CFG_GAP ≠ 0 ∧
    assignedOps.contains 0x0C = false ∧ hostForm (.echo req0) = some (0x01, false, State.opEcho, req0) ∧
    (wExec.hifHears false = true ∧ (reqKey req0 1).same (reqKey { req0 with seq := 2 } (reqCode { req0 with seq := 2 } 1)) = false ∧
      (reqKey req0 1).same (reqKey req0 (reqCode req0 1)) = true) ∧
    (wKept.hif.exec = none ∧ (reqKey req0 1).same (reqKey req0 (reqCode req0 2)) = false ∧ (reqKey req0 1).seq = req0.seq) ∧
    (wHost.expert = false ∧ ({ req0 with expert := true } : HostReq).expert = true) :=
  ⟨by decide +kernel, rfl, rfl, by decide +kernel, by decide +kernel, rfl, by decide +kernel⟩

theorem wit_HostReplies : (∃ s : State, s.tclkOn = true ∧ s.hif.out.isSome = true ∧ s.hif.after = none ∧ s.tst.run = none) ∧
    (∃ s : State, s.hif.after = some (.reset true) ∧ s.tclkOn = true) ∧ (∃ s : State, s.hif.oldBaud = some (34, 0) ∧ s.tclkOn = true) ∧
    (∃ s : State, s.expert = true ∧ s.rd HIF_EXPERT_TMO ≠ 0 ∧ s.tclkOn = true) ∧
    (HIF_REPLY_GO.of ((HIF_REPLY_GO.put 0 1) ||| (HIF_REPLY_LEN.put 0 1024)) = 1 ∧
      HIF_REPLY_LEN.of ((HIF_REPLY_GO.put 0 1) ||| (HIF_REPLY_LEN.put 0 1024)) ≤ 1024 ∧ wExec.hif.exec.isSome = true ∧ wExec.hif.out = none ∧
      wExec.hif.ereqs = [] ∧ wExec.tclkOn = true ∧ wExec.barred (.eng 2) 13 = false) ∧
    (∃ (s : State) (l : LongReq), s.hif.long = some l ∧ l.result = none ∧ l.owner = 12 ∧ l.job ≠ .update false ∧ (s.longResult l true).isSome = true ∧
      s.tclkOn = true) ∧
    (wHost.hif.exec = none ∧ wHost.hif.ereqs = [] ∧ wHost.hif.after = none ∧ wHost.hif.outstanding 3 = false ∧ wHost.ereqStatus 1 1024 = stOK ∧
      wHost.ereqStatus 1 1025 ≠ stOK ∧ wHost.ereqStatus 0x0C 0 ≠ stOK) ∧
    (∃ s : State, s.hif.outstanding 3 = true ∧ s.hif.ereqs = [] ∧ s.hif.exec = none ∧ s.tclkOn = true) ∧
    (let s := wHost.sramWrite 0x10000000 [0, 1, 7, 0, 0]
     let u : State := { (s.wr (HIF_ERES_DONE 3) 0) with hif := { s.hif with eLast := 3 } }
     let x := u.safeFilter 1 (u.interpOp 1 { expert := false, owner := 3, desc := 0x10000000, seq := 7, p := [], env := req0.env })
     s.sramNat 0x10000001 1 = 1 ∧ s.sramNat 0x10000003 2 = 0 ∧ x.2.1 ≠ stPending ∧ x.2.1 < 256 ∧ x.1.hif.exec = none ∧ x.1.hif.ereqs = [] ∧
       x.1.hif.after = none) :=
  ⟨⟨{ wHost with hif := { wHost.hif with out := some (true, [1]) } }, by decide +kernel, rfl, rfl, rfl⟩,
   ⟨{ wHost with hif := { wHost.hif with after := some (.reset true) } }, rfl, by decide +kernel⟩,
   ⟨{ wHost with hif := { wHost.hif with oldBaud := some (34, 0) } }, rfl, by decide +kernel⟩,
   ⟨(wHost.wr HIF_EXPERT_UNLOCK 1).wr HIF_EXPERT_TMO 5, by decide +kernel⟩, by decide +kernel,
   ⟨{ wHost with hif := { wHost.hif with long := some ⟨0x7C, 1, 12, 0, .clear, none⟩ } }, _, rfl, rfl, rfl, by decide, by decide +kernel⟩,
   by decide +kernel,
   ⟨{ wHost with hif := { wHost.hif with long := some ⟨0x7C, 1, 3, 0, .clear, none⟩ } }, by decide +kernel, rfl, rfl, by decide +kernel⟩, by decide +kernel⟩

/-! ### Survey and link test -/

/-- SVR enabled with an open sheet, slot 23 on sample source 1, slot 22 a counter of source 8, the die free. -/
def wSvr : State :=
  { ((((((w0.wr FLC_STAT_SCANDONE 1).wr SVR_CFG_EN 1).wr (SVR_M_CFG_EN 23) 1).wr (SVR_M_CFG_SRC 23) 1).wr (SVR_M_CFG_EN 22) 1).wr (SVR_M_CFG_SRC 22) 8) with
    svr := { w0.svr with sheet := some (w0.rtc.cal, false) } }
def sheet0 : Sheet := { bytes := List.replicate 512 0, seq := 0, founding := false, srcs := List.replicate 24 0 }

theorem wit_SurveyCommands :
    wSvr.barred (.eng 2) 6 = false ∧ (let s := { wSvr with svr := { wSvr.svr with sheet := none } }; s.svr.sheet = none ∧ s.dieFree = true) ∧
    (wSvr.svr.sheet.isSome = true ∧ wSvr.svr.waiting.length < 2 ∧ wSvr.svr.slots.length = 24 ∧ wSvr.svrSlotOn 23 1 = true) ∧
    (let s := { wSvr with svr := { wSvr.svr with waiting := [sheet0] } }
     s.svr.waiting = sheet0 :: [] ∧ s.dieFree = true ∧ s.svr.clear = [] ∧ s.svr.eraseWant = none ∧
       s.flc.half.contains (s.svr.placeWord (s.svr.dest sheet0).1 (s.svr.dest sheet0).2 / 2048) = false) ∧
    (let s := { wSvr with svr := { wSvr.svr with eraseWant := some 31 } }
     s.svr.clear = [] ∧ s.svr.eraseWant = some 31 ∧ s.svr.eraseStuck = false ∧ s.dieFree = true ∧ s.rdB SVR_STAT_RDLOCK = false) := by decide +kernel

theorem wit_MetricAddIsDecimal : wSvr.svr.slots.length = 24 ∧ wSvr.svrSlotOn 22 8 = true ∧ bcdOk 8 0x99999999 = true ∧ bcdOk 8 0x0000000A = false ∧
    bcdVal 8 0x99999999 = 99999999 := by decide +kernel

/-- A run on the FLASH link, and one on HOST. -/
def run0 : TestRun := { owner := 2, link := 1, gen := 1, chk := 1, sent := 0, recv := 0, stop := false, ready := true, due := 0 }

theorem wit_LinkTest :
    (let s := ((w0.wr TST_CFG_LINK 1).wr FLC_STAT_SCANDONE 1).wr TST_COUNT_COUNT 1
     s.barred (.eng 2) 15 = false ∧ s.testStatus (.eng 2) = stOK) ∧
    (let s := w0.wr TST_CFG_LINK 5; s.testStatus (.eng 2) ≠ stOK ∧ s.testStatus (.eng 2) ≠ stOkEmpty) ∧
    (let s := { (w0.wr TST_COUNT_COUNT 1) with tst := { w0.tst with run := some run0 } }
     s.tst.run = some run0 ∧ s.tclkOn = true ∧ s.rd TST_UNITS_UNITS + 1 = s.rd TST_COUNT_COUNT ∧ s.tst.heldMdm = none) ∧
    (∀ k ∈ [0, 1, 2, 3, 4], let r : TestRun := { run0 with link := k }
      let s := { (w0.wr TST_COUNT_COUNT 2) with tst := { w0.tst with run := some r } }
      s.tst.run = some r ∧ r.ready = true ∧ r.stop = false ∧ s.rd TST_UNITS_UNITS + 1 < s.rd TST_COUNT_COUNT ∧ s.macOn s.testBand = false ∧
        s.tst.heldMdm = none) := by decide +kernel


/-! ### Worked examples of the spec -/

/-- Words of each format, as 11_gosor_instruction_set.md encodes them: LD A,#1; CMP A,#0; LDR A,[X]; STC A,[X]; ADDD A,#0; BNZ −5; SHL A,#4;
NOP; and a reserved word. -/
theorem test_decodeWords : decodeTableWord 32 0x00010030 = some (.ld 3 .a ⟨.imm, .half 1, .w32, false⟩) ∧
    decodeTableWord 32 0x00002430 = some (.cmp 3 .a ⟨.imm, .half 0, .w32, false⟩) ∧
    decodeTableWord 16 0x5510 = some (.ldr 3 ⟨.xd, .none, .w32, false⟩) ∧ decodeTableWord 16 0x5910 = some (.stc 3 ⟨.xd, .none, .w32, false⟩) ∧
    decodeTableWord 32 0x00003430 = some (.addd 3 ⟨.imm, .half 0, .w32, false⟩) ∧ decodeTableWord 16 0xC2FB = some (.branch 3 .bnz (.d8 0xFB)) ∧
    decodeTableWord 16 0xD004 = some (.shl 3 4) ∧ decodeTableWord 16 0xE000 = some (.nop 3) ∧
    decodeTableWord 16 0xFFFF = some (.reservedOpcodeTrap 3 0xFFFF) := by decide +kernel

/-- The encoder gives those words back. -/
theorem test_encodeWords : ∀ w ∈ [0x00010030, 0x00002430, 0x5510, 0x5910, 0x00003430, 0xC2FB, 0xD004, 0xE000],
    (decodeGosor 3 w).bind encodeGosor = some (3, w) := by decide +kernel

/-- The turnarounds at 50 Hz and 60 Hz (02_meridian_timebase.md, converting the turnarounds). -/
theorem test_turnarounds : w0.convUs 40 = 138 ∧ w0.convUs 24 = 83 ∧ (w0.wr MER_CFG_NOMFREQ 1).convUs 40 = 166 ∧
    (w0.wr MER_CFG_NOMFREQ 1).convUs 24 = 100 := by decide +kernel

/-- The 60-byte Timed frame in SG, in 2.4 GHz and with the full preamble (04_modem.md). -/
theorem test_airtime : slAirtime .sg true 60 2 (List.replicate 96 4) = 600 ∧ slAirtime .g24 true 60 2 (List.replicate 96 4) = 300 ∧
    slAirtime .sg false 60 2 (List.replicate 96 4) = 1080 := by decide +kernel

/-- The word for 868.3 MHz corrected by +12.5 ppm (03_radio_front_end.md, a router transmits to its parent). -/
theorem test_offset : ({ w0 with rfc := { w0.rfc with cals := { w0.rfc.cals with sg := [(3, { state := 1, freq := 91047854, tcal := 0, codes := 0 })] },
                                                      offsets := [(4, { w0.offset 4 with ofs := 3200, corr := true })] } } : State).txWord .sg 3 (some 4) =
    91048992 := by decide +kernel

/-- A 1 % sub-band preloaded to one half (05_link_layer.md). -/
theorem test_preload : (preloadBins [10000] 50).map (fun l => (l.map (fun p => p.1 * p.2)).sum) = [1123200] := by decide +kernel

/-- The CRC of GET_INFO with SEQ 1, and its first three bytes on the way (19_host_protocol.md). -/
theorem test_crc16 : crc16 [0, 1, 0, 0] = 0xB3F0 ∧ crc16 [0, 1] = 0x0D2E := by decide +kernel

/-- Sheet 5,000 lies in bank 7 block 100 at byte 0x1000 (20_survey_recorder.md). -/
theorem test_sheet : w0.svr.placeWord false 648 = (7 * 128 + 100) * 2048 + 0x1000 / 32 := by decide +kernel

/-- The block of the erase cut by power loss (13_flash_array.md). -/
theorem test_flashAddress : winOff 0x21A80000 / 0x800000 = 3 ∧ winOff 0x21A80000 / 0x10000 % 128 = 40 := by decide +kernel

end Sys2Proof.Machine.Tests
end

section
namespace Sys2Proof.Machine

/-! ### Resets of registers (R6) -/

/-- A register read after the reset of an address range (R6). -/
theorem regGet_regsReset (lo hi : Nat) (m : List (Nat × Word)) (a : Nat) :
    regGet (regsReset lo hi m) a = if lo ≤ a ∧ a < hi then resetWord a else regGet m a := by
  simp [regGet, regsReset, spGet_spClear]

/-- Settles O1: the queue of `step` is matched on its front command. -/
theorem stepTakesTheFrontCommand : Obligations.StepTakesTheFrontCommand := fun _ _ _ => rfl

/-- Settles O5: inside the block's range both copies read as their reset word, outside as before. -/
theorem blockResetValues : Obligations.BlockResetValues := by
  intro s base a
  refine ⟨fun hlo hhi => ?_, fun hout => ?_⟩
  · simp [State.resetBlock, regGet_regsReset, hlo, hhi]
  · have h : ¬ (base ≤ a ∧ a < base + 0x1000) := by omega
    simp only [State.resetBlock, regGet_regsReset, if_neg h, and_self]

/-! ### What a device reset leaves (R6, R473, R476) -/

/-- After power-on every register but SYS_RSTCAUSE reads as its reset word (R476). -/
theorem regGet_reset (a : Nat) (h : a ≠ SYS_RSTCAUSE_CAUSE.addr) : regGet State.reset.regs a = resetWord a := by
  simp [State.reset, regGet, spGet, h.symm]

theorem regGet_resetRegs (m : List (Nat × Word)) (c : Nat) (fc safe : Bool) (a : Nat) (hk : keptReg a = false)
    (hr : a ≠ SYS_RSTCAUSE_CAUSE.addr) (hb : a ≠ SYS_BOOT_SAFE.addr) : regGet (resetRegs m c fc safe) a = resetWord a := by
  simp only [resetRegs]
  rw [regGet_wrF _ SYS_BOOT_SAFE _ _ hb, regGet_wrF _ SYS_BOOT_FORCECOLD _ _ hb, regGet_wrF _ SYS_RSTCAUSE_CAUSE _ _ hr,
    regGet_wrF _ SYS_RSTCAUSE_HIST _ _ hr]
  simp [regGet, spGet_spClear, hk]

theorem rdF_resetRegs_cause (m : List (Nat × Word)) (c : Nat) (fc safe : Bool) (hc : c < 16) :
    rdF (resetRegs m c fc safe) SYS_RSTCAUSE_CAUSE = c := by
  simp only [resetRegs]
  rw [rdF_wrF_apart _ _ _ _ rfl rfl, rdF_wrF_apart _ _ _ _ rfl rfl, rdF_wrF _ _ _ rfl]
  exact Nat.mod_eq_of_lt hc

theorem rdF_resetRegs_hist (m : List (Nat × Word)) (c : Nat) (fc safe : Bool) (hc : c < 10) :
    rdF (resetRegs m c fc safe) SYS_RSTCAUSE_HIST =
      (if powerUpCause c then 0 else rdF m SYS_RSTCAUSE_HIST) ||| 2 ^ c := by
  simp only [resetRegs]
  rw [rdF_wrF_apart _ _ _ _ rfl rfl, rdF_wrF_apart _ _ _ _ rfl rfl, rdF_wrF_apart _ _ _ _ rfl rfl, rdF_wrF _ _ _ rfl]
  refine Nat.mod_eq_of_lt (Nat.or_lt_two_pow ?_ (Nat.pow_lt_pow_right (by decide) hc))
  split
  · exact Nat.two_pow_pos _
  · exact rdF_lt m SYS_RSTCAUSE_HIST

theorem rdF_resetRegs_forcecold (m : List (Nat × Word)) (c : Nat) (fc safe : Bool) :
    rdF (resetRegs m c fc safe) SYS_BOOT_FORCECOLD = b2n fc := by
  simp only [resetRegs]
  rw [rdF_wrF_apart _ _ _ _ rfl rfl, rdF_wrF _ _ _ rfl]
  cases fc <;> rfl

/-- Every engine after a device reset: in RESET, E1 paired with E0, its TCM as it was (R294, R298). -/
theorem resetEngines_get (v : Vector Engine 12) (t : Nat) (e : Fin 12) :
    ((resetEngines v t)[e.val]).st = (if e.val = 1 then .paired else .reset) ∧ ((resetEngines v t)[e.val]).tcm = (v[e.val]).tcm := by
  by_cases h : e.val = 1
  · simp [resetEngines, setEng, h]
  · have h1 : ¬ 1 = e.val := fun x => h x.symm
    simp [resetEngines, setEng, h, h1, Engine.atReset]

/-- With no flash operation and no rollover, a reset only loses the counts and the marks, which the scan brings back (R374, R382). -/
theorem flashInterrupt_idle (s : State) (hop : s.flc.op = none) (hroll : s.flc.roll = none) :
    s.flashInterrupt = { s with flc := { s.flc with counts := [], half := [] }, free := s.free + 3 } := by
  have hg : s.flashGoes = s := by simp [State.flashGoes, hroll]
  simp only [State.flashInterrupt, hg, Flc.interrupt, hop]
  rw [← hop, ← hroll]

/-! ### FLT_STAT and FLT_TIER follow FLT (R481) -/

theorem fltSync_regs (s : State) : s.fltSync = { s with regs := s.fltSync.regs } := rfl

theorem regGet_tiers (l : List Nat) (g : Nat → Nat) (m : List (Nat × Word)) (a : Nat) (h : a ≠ 0x4000E018) :
    regGet (l.foldl (fun m r => wrF m (FLT_TIER r) (g r)) m) a = regGet m a := by
  induction l generalizing m with
  | nil => rfl
  | cons r l ih => rw [List.foldl_cons, ih, regGet_wrF _ _ _ _ h]

/-- Only FLT_STAT and FLT_TIER follow. -/
theorem regGet_fltSync (s : State) (a : Nat) (hs : a ≠ FLT_STAT_BUSY.addr) (ht : a ≠ 0x4000E018) :
    regGet s.fltSync.regs a = regGet s.regs a := by
  simp only [State.fltSync]
  rw [regGet_tiers _ _ _ _ ht]
  split <;> rw [regGet_wrF _ FLT_STAT_AREG _ _ hs, regGet_wrF _ FLT_STAT_ATIER _ _ hs, regGet_wrF _ FLT_STAT_QUEUED _ _ hs,
    regGet_wrF _ FLT_STAT_BUSY _ _ hs]

theorem rd_fltSync (s : State) (f : Field) (hs : f.addr ≠ FLT_STAT_BUSY.addr) (ht : f.addr ≠ 0x4000E018) :
    s.fltSync.rd f = s.rd f := congrArg f.of (regGet_fltSync s f.addr hs ht)

/-- BUSY shows that an action is active. -/
theorem rd_fltSync_busy (s : State) : s.fltSync.rd FLT_STAT_BUSY = b2n s.flt.active.isSome := by
  have h : b2n s.flt.active.isSome < 2 := by cases s.flt.active.isSome <;> decide
  have tiers : ∀ (l : List Nat) (g : Nat → Nat) (m : List (Nat × Word)),
      rdF (l.foldl (fun m r => wrF m (FLT_TIER r) (g r)) m) FLT_STAT_BUSY = rdF m FLT_STAT_BUSY :=
    fun l g m => congrArg FLT_STAT_BUSY.of (regGet_tiers l g m _ (by decide))
  simp only [State.rd, State.fltSync]
  rw [tiers]
  split <;> rw [rdF_wrF_apart _ _ _ _ rfl rfl, rdF_wrF_apart _ _ _ _ rfl rfl, rdF_wrF_apart _ _ _ _ rfl rfl, rdF_wrF _ _ _ rfl] <;>
    exact Nat.mod_eq_of_lt h

end Sys2Proof.Machine
end


section
namespace Sys2Proof.Machine

/-! ### What an LFCLK edge leaves (R410, R416, R421 to R425, R458) -/

/-- `t` differs from `s` in what an LFCLK edge reaches alone: registers and their shadow copies, the fabric, power, calendar, Meridian,
survey and mesh state, the free values and the word that a read returns. -/
def AtEdge (s t : State) : Prop :=
  t = { s with free := t.free, busData := t.busData, regs := t.regs, shadow := t.shadow, evf := t.evf, pwr := t.pwr, rtc := t.rtc,
               mer := t.mer, svr := t.svr, mesh := t.mesh }

theorem AtEdge.refl (s : State) : AtEdge s s := rfl

theorem AtEdge.trans {s t u : State} (h : AtEdge s t) (k : AtEdge t u) : AtEdge s u :=
  Eq.trans k (congrArg (fun x : State => { x with
    free := u.free, busData := u.busData, regs := u.regs, shadow := u.shadow, evf := u.evf, pwr := u.pwr, rtc := u.rtc,
    mer := u.mer, svr := u.svr, mesh := u.mesh }) h)

theorem AtEdge.pending {s t : State} (h : AtEdge s t) : t.pending = s.pending := congrArg (·.pending) h

/-- A choice between two such steps is one. -/
theorem AtEdge.ite {s t u : State} {c : Prop} [Decidable c] (h : AtEdge s t) (k : AtEdge s u) : AtEdge s (if c then t else u) := by
  split <;> assumption

theorem AtEdge.fold {α : Type} (f : State → α → State) (hf : ∀ s a, AtEdge s (f s a)) (l : List α) (s : State) :
    AtEdge s (l.foldl f s) := fold_keeps AtEdge AtEdge.refl (fun _ _ _ => AtEdge.trans) f hf l s

theorem fireStrait_atEdge (s : State) (src : Nat) : AtEdge s (s.fireStrait src) := .ite rfl rfl

theorem fire_atEdge (s : State) (src : Nat) : AtEdge s (s.fire src) := .ite (fireStrait_atEdge s src) (.ite rfl rfl)

theorem wakeSignal_atEdge (s : State) (k : Nat) : AtEdge s (s.wakeSignal k) := .ite rfl rfl

theorem svrClose_atEdge (s : State) (fin start : Calendar) (w : CloseWhy) : AtEdge s (s.svrClose fin start w) := by
  unfold State.svrClose
  split <;> rfl

theorem svrSample_atEdge (s : State) (src par : Nat) (r : Int) : AtEdge s (s.svrSample src par r) :=
  .fold (fun t k => t.svrTake k (t.svrValue k (t.rd (SVR_M_CFG_SGN k) == 1) r)) (fun _ _ => rfl) _ s

theorem svrCount_atEdge (s : State) (src par : Nat) : AtEdge s (s.svrCount src par) :=
  .fold (fun t k => t.setSlot k (fun x => x.count 1)) (fun _ _ => rfl) _ s

theorem svrSecondSamples_atEdge (s : State) : AtEdge s s.svrSecondSamples :=
  (((AtEdge.fold _ (fun _ _ => svrSample_atEdge ..) _ _).trans (.fold _ (fun _ _ => svrSample_atEdge ..) _ _)).trans
    (.fold _ (fun _ _ => .ite (svrCount_atEdge ..) (.refl _)) _ _)).trans (.fold _ (fun _ _ => .ite (svrCount_atEdge ..) (.refl _)) _ _)

theorem svrSecond_atEdge (s : State) (running set : Bool) (c : Calendar) : AtEdge s (s.svrSecond running set c) := by
  refine .ite (.refl s) (.ite (.ite rfl (.refl s)) (.ite (svrSecondSamples_atEdge s) (.trans ?_ (svrSecondSamples_atEdge _))))
  split
  · exact (svrClose_atEdge ..).trans rfl
  · exact .ite (svrClose_atEdge ..) (.refl s)

theorem svrCalset_atEdge (s : State) (old new : Calendar) : AtEdge s (s.svrCalset old new) :=
  .ite ((svrClose_atEdge ..).trans rfl) (.refl s)

theorem edgeCount_atEdge (s : State) : AtEdge s s.edgeCount := .ite rfl rfl

theorem edgeRecord_atEdge (s : State) : AtEdge s s.edgeRecord := .ite rfl (.refl s)

theorem fireAlarm_atEdge (s : State) : AtEdge s s.fireAlarm := (fire_atEdge s 17).trans (wakeSignal_atEdge _ 4)

theorem edgeInterval_atEdge (s : State) : AtEdge s s.edgeInterval :=
  have count (n : Nat) : AtEdge s { s with rtc := { s.rtc with almCount := n } } := rfl
  .ite (.ite (((count 0).trans (fireAlarm_atEdge _)).trans (.ite rfl (.refl _))) (count _)) (.refl s)

theorem edgeSet_atEdge (s : State) : AtEdge s s.edgeSet := by
  simp only [State.edgeSet]
  split
  · exact .refl s
  · split <;> split <;> rfl

theorem edgeSecond_atEdge (s : State) (set quiet : Bool) (old : Calendar) : AtEdge s (s.edgeSecond set quiet old) :=
  have second := ((fire_atEdge s 16).trans (wakeSignal_atEdge _ 6)).trans (svrSecond_atEdge _ s.tclkOn set s.rtc.cal)
  .ite (second.trans (fireAlarm_atEdge _)) second

theorem edgeTimer_atEdge (s : State) : AtEdge s s.edgeTimer := .ite (wakeSignal_atEdge s 5) (.refl s)

theorem plainWrite_atEdge (s : State) (a : Nat) (v : Word) : AtEdge s (s.plainWrite a v) := by
  unfold State.plainWrite
  split <;> rfl

theorem writeSetcmd_atEdge (s : State) (m : Master) (v : Word) : AtEdge s (s.writeSetcmd m v) := .ite rfl (.refl s)

theorem bkupWrite_atEdge (s : State) (m : Master) (n : Nat) (v : Word) : AtEdge s (s.bkupWrite m n v) := .ite rfl (.refl s)

theorem AtEdge.read (s : State) (d : Word) (r : List (Nat × Word)) (c : Rtc) :
    AtEdge s { s with busData := d, regs := r, rtc := c } := rfl

theorem timeRead_atEdge (s : State) : AtEdge s s.timeRead := .read s _ _ _

theorem stampRead_atEdge (s : State) : AtEdge s s.stampRead := .read s _ _ _

theorem writeAtoll_atEdge (s : State) (m : Master) (a : Nat) (v : Word) : AtEdge s (s.writeAtoll m a v) := by
  have plain (x : Word) := plainWrite_atEdge s a x
  unfold State.writeAtoll
  split
  · exact writeSetcmd_atEdge s m v
  split
  · exact .ite (plain v) (.refl s)
  split
  · exact plain _
  split
  · exact .ite (plain v) (.refl s)
  split
  · exact plain _
  split
  · exact bkupWrite_atEdge s m _ v
  · exact plain v

theorem takeItem_atEdge (s : State) (x : HeldItem) : AtEdge s (s.takeItem x) := by
  cases x with
  | write m a v => exact writeAtoll_atEdge s m a v
  | record bs => rfl
  | read a =>
    unfold State.takeItem
    exact .ite (timeRead_atEdge s) (.ite (stampRead_atEdge s) (.refl s))

theorem takeFirst_atEdge (s : State) : ∀ l : List HeldItem, AtEdge s (s.takeFirst l)
  | [] => .refl s
  | x :: _ => takeItem_atEdge s x

/-- One LFCLK edge changes nothing else. -/
theorem lfEdge_atEdge (s : State) : AtEdge s s.lfEdge := by
  have count : AtEdge s (({ s with rtc := s.rtc.sample } : State).edgeCount).edgeRecord :=
    (AtEdge.trans (t := { s with rtc := s.rtc.sample }) rfl (edgeCount_atEdge _)).trans (edgeRecord_atEdge _)
  have set := (count.trans (edgeInterval_atEdge _)).trans (edgeSet_atEdge _)
  refine .ite (.trans (.trans ?_ (edgeTimer_atEdge _)) (takeFirst_atEdge _ _)) (.refl s)
  exact .ite ((AtEdge.ite (set.trans (svrCalset_atEdge ..)) set).trans (edgeSecond_atEdge ..))
    (.ite (set.trans (svrCalset_atEdge ..)) set)

theorem lfRun_atEdge : ∀ (n : Nat) (s : State), AtEdge s (s.lfRun n)
  | 0, s => .refl s
  | n + 1, s => .ite (.refl s) ((lfEdge_atEdge s).trans (lfRun_atEdge n s.lfEdge))

/-- The record of R69 is written by LFCLK edges alone. -/
theorem writeRecord_atEdge (s : State) : AtEdge s s.writeRecord :=
  .ite ((AtEdge.trans (t := s.recordDue) rfl (lfEdge_atEdge _)).trans (lfRun_atEdge _ _)) (.refl s)

end Sys2Proof.Machine
end


section
namespace Sys2Proof.Machine

/-! ### A device reset, command by command (R473, R476, R480) -/

/-- What a device reset of cause `c` leaves in `t`, for the state `u` that it ends. -/
structure ResetLeaves (u : State) (c : Nat) (t : State) : Prop where
  cause : t.rd SYS_RSTCAUSE_CAUSE = c
  hist : t.rd SYS_RSTCAUSE_HIST = if c ≤ 1 then 2 ^ c else u.rd SYS_RSTCAUSE_HIST ||| 2 ^ c
  start : t.start = .clocks
  pending : t.pending = u.pending
  rtc : t.rtc = { u.rtc with held := [] }
  flc : t.flc = { u.flc with counts := [], half := [] }
  engines : ∀ e : Fin 12, (t.eng e.val).st = (if e.val = 1 then .paired else .reset) ∧ (t.eng e.val).tcm = (u.eng e.val).tcm
  words : ∀ a, keptReg a = false → a ≠ SYS_RSTCAUSE_CAUSE.addr → a ≠ SYS_BOOT_SAFE.addr → a ≠ FLT_STAT_BUSY.addr →
    regGet t.regs a = regGet State.reset.regs a
  busy : t.rd FLT_STAT_BUSY = b2n t.flt.active.isSome
  kept : 2 ≤ c → t.flt.log = u.flt.endBlocks.log ∧ t.sram = u.sram
  powerUp : c ≤ 1 → t.flt.log = Flt.atPowerUp.log ∧ t.rd SYS_BOOT_FORCECOLD = 0

theorem eng_eq_getElem (s : State) (e : Fin 12) : s.eng e.val = s.engs[e.val] := by
  have h : min e.val 11 = e.val := by omega
  simp only [State.eng, h]

/-- A reset at which the main domain powers up. -/
theorem deviceReset_powerUp (u : State) (c : Nat) (hc : c ≤ 1) (hop : u.flc.op = none) (hroll : u.flc.roll = none) :
    ResetLeaves u c (u.deviceReset c false false) := by
  have hp : powerUpCause c = true := by
    obtain rfl | rfl : c = 0 ∨ c = 1 := by omega
    all_goals rfl
  have hregs (a : Nat) (hk : keptReg a = false) (hr : a ≠ SYS_RSTCAUSE_CAUSE.addr) (hb : a ≠ SYS_BOOT_SAFE.addr) :
      regGet (u.deviceReset c false false).regs a = resetWord a := regGet_resetRegs _ _ _ _ _ hk hr hb
  constructor
  case cause => exact rdF_resetRegs_cause _ _ _ _ (by omega)
  case hist =>
    refine (rdF_resetRegs_hist _ _ _ _ (by omega)).trans ?_
    simp [hp, hc]
  case start => rfl
  case pending => simp [State.deviceReset, flashInterrupt_idle u hop hroll, hp, State.loseBanks]
  case rtc => simp [State.deviceReset, flashInterrupt_idle u hop hroll, hp, State.loseBanks]
  case flc => simp [State.deviceReset, flashInterrupt_idle u hop hroll, hp, State.loseBanks]
  case engines =>
    intro e
    rw [eng_eq_getElem, eng_eq_getElem]
    simpa [State.deviceReset, flashInterrupt_idle u hop hroll, hp, State.loseBanks] using resetEngines_get u.engs _ e
  case words => exact fun a hk hr hb _ => (hregs a hk hr hb).trans (regGet_reset a hr).symm
  case busy =>
    have h : (u.deviceReset c false false).flt = .atPowerUp := by simp [State.deviceReset, Flt.afterReset, hp]
    rw [h]
    exact congrArg FLT_STAT_BUSY.of (hregs _ rfl (by decide) (by decide))
  case kept => exact fun h => absurd h (by omega)
  case powerUp =>
    refine fun _ => ⟨?_, rdF_resetRegs_forcecold _ _ _ _⟩
    simp [State.deviceReset, Flt.afterReset, hp]

/-- A reset at which the main domain stays powered, with FLT_STAT showing what goes on. -/
theorem deviceReset_fltSync (u : State) (c : Nat) (fc safe : Bool) (hc : c = 2 ∨ c = 8) (hop : u.flc.op = none)
    (hroll : u.flc.roll = none) : ResetLeaves u c (u.deviceReset c fc safe).fltSync := by
  have hp : powerUpCause c = false := by
    obtain rfl | rfl := hc
    all_goals rfl
  have h2 : ¬ c ≤ 1 := by omega
  have hregs : (u.deviceReset c fc safe).regs = resetRegs u.regs c fc safe := by
    simp [State.deviceReset, flashInterrupt_idle u hop hroll, hp]
  rw [fltSync_regs]
  constructor
  case cause =>
    refine (rd_fltSync _ _ (by decide) (by decide)).trans ?_
    exact rdF_resetRegs_cause _ _ _ _ (by omega)
  case hist =>
    refine (rd_fltSync _ _ (by decide) (by decide)).trans ?_
    rw [if_neg h2, State.rd, hregs, rdF_resetRegs_hist _ _ _ _ (by omega), hp]
    rfl
  case start => rfl
  case pending => simp [State.deviceReset, flashInterrupt_idle u hop hroll, hp]
  case rtc => simp [State.deviceReset, flashInterrupt_idle u hop hroll, hp]
  case flc => simp [State.deviceReset, flashInterrupt_idle u hop hroll, hp]
  case engines =>
    intro e
    rw [eng_eq_getElem, eng_eq_getElem]
    simpa [State.deviceReset, flashInterrupt_idle u hop hroll, hp] using resetEngines_get u.engs _ e
  case words =>
    intro a hk hr hb hs
    have ht : a ≠ 0x4000E018 := by rintro rfl; exact absurd hk (by decide)
    rw [regGet_fltSync _ a hs ht, hregs, regGet_resetRegs _ _ _ _ _ hk hr hb, regGet_reset a hr]
  case busy => exact rd_fltSync_busy _
  case kept => simp [State.deviceReset, flashInterrupt_idle u hop hroll, hp, Flt.afterReset, Flt.endBlocks]
  case powerUp => exact fun h => absurd h h2

/-- The registers that a command sets before a reset at power-up do not outlast it. -/
theorem ResetLeaves.of_took {s t : State} {r : List (Nat × Word)} (h : ResetLeaves ({ s with regs := r } : State).took 1 t) :
    ResetLeaves s 1 t :=
  { h with hist := h.hist, kept := fun x => absurd x (by decide) }

/-- A write of SYS_RESET that is taken resets the device once the record is written (R69, R480). -/
theorem softReset_leaves (s : State) (m : Master) (cold : Bool) (h : s.e2OrExpert m = true ∧ s.tclkOn = true)
    (hop : s.writeRecord.flc.op = none) (hroll : s.writeRecord.flc.roll = none) :
    ResetLeaves s.writeRecord 8 (s.softReset m cold) := by
  rw [State.softReset, if_pos h]
  exact deviceReset_fltSync _ _ _ _ (.inr rfl) hop hroll

theorem writes_unbarred {s : State} {m : Master} {blk : Nat} (h : s.barred m blk = false) (t : State) : s.writes m blk t = t := by
  simp [State.writes, h]

/-- The state that a reset by command `i` of cause `c` ends: with the record written where SYS_RESET asks for the reset. -/
def State.resetFrom (s : State) (c : Nat) : State := if c = 8 then s.writeRecord else s

/-- Every command that resets the device completes with what a reset of its cause leaves. -/
theorem exec_resetForm {i : Instr} {c : Nat} {s : State} (hi : resetForm i s = some c) (hb : ∀ m : Master, s.barred m 0 = false)
    (hop : (s.resetFrom c).flc.op = none) (hroll : (s.resetFrom c).flc.roll = none) :
    ∃ t, exec i s = .next t ∧ ResetLeaves (s.resetFrom c) c t := by
  cases i
  case powerOn testEn =>
    obtain rfl : 0 = c := Option.some.inj hi
    have h := deviceReset_powerUp s 0 (by decide) hop hroll
    exact ⟨_, rfl, { h with }⟩
  case vbatReturn =>
    simp only [resetForm, Option.ite_none_right_eq_some, Option.some.injEq] at hi
    obtain ⟨hst, rfl⟩ := hi
    have h := deviceReset_powerUp ({ s with regs := wrF (wrF s.regs PWR_WAKESRC_FIRST (s.freeBelow 16)) PWR_WAKESRC_FROM 4 } : State).took
      1 (by decide) hop hroll
    refine ⟨_, ?_, h.of_took⟩
    show execVbatReturn s = _
    rw [execVbatReturn, if_pos hst]
  case resetN =>
    simp only [resetForm, Option.ite_none_right_eq_some, Option.some.injEq] at hi
    obtain ⟨hst, rfl⟩ := hi
    have h := deviceReset_fltSync s 2 (s.coldKept 2) (s.safeKept 2) (.inl rfl) hop hroll
    refine ⟨_, ?_, h⟩
    show execResetN s = _
    unfold execResetN
    obtain hst | hst | hst := hst <;> rw [hst] <;> rfl
  case softReset m =>
    simp only [resetForm, Option.ite_none_right_eq_some, Option.some.injEq] at hi
    obtain ⟨hm, rfl⟩ := hi
    exact ⟨_, congrArg Host.Outcome.next (writes_unbarred (hb m) _), softReset_leaves s m false hm hop hroll⟩
  case softResetCold m =>
    simp only [resetForm, Option.ite_none_right_eq_some, Option.some.injEq] at hi
    obtain ⟨hm, rfl⟩ := hi
    exact ⟨_, congrArg Host.Outcome.next (writes_unbarred (hb m) _), softReset_leaves s m true hm hop hroll⟩
  all_goals cases hi

theorem resetFrom_pending (s : State) (c : Nat) : (s.resetFrom c).pending = s.pending := by
  unfold State.resetFrom
  split
  · exact (writeRecord_atEdge s).pending
  · rfl

/-- Settles O33: each command's reset is `deviceReset` of its cause, and the record before SYS_RESET is LFCLK edges alone. -/
theorem deviceReset : Obligations.DeviceReset := by
  intro i c s hi hb u hop hroll
  obtain ⟨t, ht, h⟩ := exec_resetForm hi hb hop hroll
  exact ⟨t, ht, h.cause, h.hist, h.start, h.pending.trans (resetFrom_pending s c), h.rtc, h.flc, h.engines, h.words, h.busy, h.kept,
    h.powerUp⟩

end Sys2Proof.Machine
end


section
namespace Sys2Proof.Machine

/-! ### A write by bus to a plain register (R4, R5, R33) -/

/-- A plain write of a register with the row `r`: RW bits take the value, W1C bits written 1 end, the others stay (R4, R5). -/
theorem plainActive_bits {a : Nat} {r : RegRow} (h : regRow a = some r) (v old : Word) :
    let rw := BitVec.ofNat 32 r.rw
    let w1c := BitVec.ofNat 32 r.w1c
    plainActive a v old &&& ~~~(rw ||| w1c) = old &&& ~~~(rw ||| w1c) ∧
    plainActive a v old &&& rw &&& ~~~w1c = v &&& rw &&& ~~~w1c ∧
    plainActive a v old &&& w1c &&& ~~~rw = old &&& w1c &&& ~~~rw &&& ~~~v := by
  simp only [plainActive, h]
  generalize BitVec.ofNat 32 r.rw = rw
  generalize BitVec.ofNat 32 r.w1c = w1c
  refine ⟨?_, ?_, ?_⟩ <;> ext i hi <;>
    simp only [BitVec.getElem_and, BitVec.getElem_or, BitVec.getElem_not] <;>
    cases rw[i] <;> cases w1c[i] <;> cases v[i] <;> cases old[i] <;> rfl

/-- The SH bits of a plain write go to the shadow copy (R4). -/
theorem plainShadow_bits (a : Nat) (v old : Word) : plainShadow a v old &&& shMask a = v &&& shMask a := by
  ext i hi
  simp only [plainShadow, BitVec.getElem_and, BitVec.getElem_or, BitVec.getElem_not]
  cases (shMask a)[i] <;> simp

/-- The register blocks are one place for every master (R27). -/
theorem place_block (s : State) (m : Master) {a : Nat} (h : 0x40000000 ≤ a ∧ a < 0x40012000) : s.place m a = .reg := by
  have h1 : ¬ a < 0x10000 := by omega
  have h2 : inWindow a = false := by simp only [inWindow, decide_eq_false_iff_not]; omega
  simp only [State.place, h1, h2, h, and_self, if_true, if_false, Bool.false_eq_true]

/-- A write of an aligned word of a register block is a register write (R27, R32). -/
theorem busWrite_block (s : State) (m : Master) {a : Nat} (v : Word) (h : 0x40000000 ≤ a ∧ a < 0x40012000) (h4 : a % 4 = 0) :
    s.busWrite m a 4 v = s.regWrite m a v := by
  have hok : badAccess .reg a 4 = false := by simp [badAccess, h4]
  simp only [State.busWrite, place_block s m h, hok, Bool.false_eq_true, if_false]

/-- With no write of its master held, a register write outside the Atoll domain acts at once (R22). -/
theorem regWrite_main (s : State) (m : Master) {a : Nat} (v : Word) (hatoll : isAtoll a = false) (hheld : s.writesHeld m = false)
    (hreply : a ≠ HIF_REPLY_GO.addr) (hereq : a ≠ HIF_EREQ_DESC.addr) : s.regWrite m a v = (.ok 0, s.writeReg m a v) := by
  simp only [State.regWrite, State.busReg, hatoll, hheld, Bool.false_eq_true, if_false, if_neg hereq, if_neg hreply]

/-- The registers of MER and CLK that are no commit have no effect of their own. -/
theorem writeReg_merClk (s : State) (m : Master) {a : Nat} (v : Word) (hblk : a / 0x1000 = 0x4000C ∨ a / 0x1000 = 0x40002)
    (hcommit : commitBlk a = none) : s.writeReg m a v = s.plainWrite a v := by
  unfold State.writeReg
  rw [hcommit]
  obtain h | h := hblk <;> rw [h] <;> rfl

/-- A write of MER or CLK that is neither a commit nor bound for the Atoll domain, with none of its master held ahead, is the plain
write of its register (R22, R27, R33). -/
theorem registerWrite_plain (m : Master) (reg : Fin 18432) (v : Word) (s : State) (hclk : s.tclkOn = true)
    (hblk : (0x40000000 + 4 * reg.val) / 0x1000 = 0x4000C ∨ (0x40000000 + 4 * reg.val) / 0x1000 = 0x40002)
    (hcommit : commitBlk (0x40000000 + 4 * reg.val) = none) (hatoll : isAtoll (0x40000000 + 4 * reg.val) = false)
    (hlost : s.heldWrite m (0x40000000 + 4 * reg.val) = false) (hheld : s.writesHeld m = false) :
    exec (.registerWrite m reg v) s = .next (s.plainWrite (0x40000000 + 4 * reg.val) v) := by
  have hreply : 0x40000000 + 4 * reg.val ≠ HIF_REPLY_GO.addr := by simp only []; omega
  have hereq : 0x40000000 + 4 * reg.val ≠ HIF_EREQ_DESC.addr := by simp only []; omega
  have hgo : s.tclkOn = true ∧ (!s.heldWrite m (0x40000000 + 4 * reg.val)) = true := ⟨hclk, by rw [hlost]; rfl⟩
  refine congrArg Host.Outcome.next ((if_pos hgo).trans ?_)
  rw [busWrite_block s m v (by omega) (by omega), regWrite_main s m v hatoll hheld hreply hereq, writeReg_merClk s m v hblk hcommit]

theorem plainWrite_of_row {a : Nat} {r : RegRow} (h : regRow a = some r) (s : State) (v : Word) :
    s.plainWrite a v = { s with regs := regSet s.regs a (plainActive a v (regGet s.regs a)),
                                shadow := regSet s.shadow a (plainShadow a v (regGet s.shadow a)) } := by
  simp only [State.plainWrite, h]

/-! ### The status of a commit (R9) -/

theorem firstStatus_lt {n : Nat} (h0 : 0 < n) (l : List (Bool × Nat)) (h : ∀ p ∈ l, p.2 < n) : firstStatus l < n := by
  induction l with
  | nil => exact h0
  | cons p l ih =>
    rw [firstStatus]
    split
    · exact h p List.mem_cons_self
    · exact ih (fun q hq => h q (List.mem_cons_of_mem _ hq))

/-- A commit's status fits STATUS. -/
theorem blkStatus_lt (s : State) (b : Blk) : s.blkStatus b < 256 := by
  have two (c d : Bool) : firstStatus [(c, stBadParam), (d, stMismatch)] < 256 := firstStatus_lt (by decide) _ (by decide +revert)
  cases b
  case pwr =>
    show (if _ then stMismatch else stOK) < 256
    split <;> decide
  all_goals exact two _ _

theorem rd_wr_status (s : State) (b : Blk) {v : Nat} (h : v < 256) : (s.wr b.status v).rd b.status = v := by
  have hf : b.status.fits = true := by cases b <;> rfl
  rw [State.rd_wr _ _ _ hf]
  exact Nat.mod_eq_of_lt (by cases b <;> exact h)

/-! ### The copy of the shadow set (R9) -/

/-- After the copy the SH fields of every register of the set are those of the shadow set. -/
theorem copyShadow_bits (regs shadow : List (Nat × Word)) {as : List Nat} {a : Nat} (h : a ∈ as) :
    regGet (copyShadow regs shadow as) a &&& shMask a = regGet shadow a &&& shMask a := by
  induction as with
  | nil => cases h
  | cons b as ih =>
    rw [copyShadow, regGet_regSet]
    split
    next hab =>
      subst hab
      exact plainShadow_bits a _ _
    next hab => exact ih ((List.mem_cons.mp h).resolve_left hab)

end Sys2Proof.Machine
end


section
namespace Sys2Proof.Machine

/-! ### What an accepted commit leaves of the set that it copied (R9) -/

/-- `t` has the shadow copies of `s`, and the active words of the registers of the set `as`. -/
def KeepsSet (as : List Nat) (s t : State) : Prop := t.shadow = s.shadow ∧ ∀ a ∈ as, regGet t.regs a = regGet s.regs a

theorem KeepsSet.refl (as : List Nat) (s : State) : KeepsSet as s s := ⟨rfl, fun _ _ => rfl⟩

theorem KeepsSet.trans {as : List Nat} {s t u : State} (h : KeepsSet as s t) (k : KeepsSet as t u) : KeepsSet as s u :=
  ⟨k.1.trans h.1, fun a ha => (k.2 a ha).trans (h.2 a ha)⟩

/-- A step that writes neither a register nor a shadow copy keeps every set. -/
theorem KeepsSet.of_eq {as : List Nat} {s t : State} (hr : t.regs = s.regs) (hs : t.shadow = s.shadow) : KeepsSet as s t :=
  ⟨hs, fun _ _ => by rw [hr]⟩

theorem KeepsSet.ite {as : List Nat} {s t u : State} {c : Prop} [Decidable c] (h : KeepsSet as s t) (k : KeepsSet as s u) :
    KeepsSet as s (if c then t else u) := by
  split <;> assumption

theorem KeepsSet.fold {α : Type} {as : List Nat} (f : State → α → State) (hf : ∀ s a, KeepsSet as s (f s a)) (l : List α)
    (s : State) : KeepsSet as s (l.foldl f s) :=
  fold_keeps (KeepsSet as) (KeepsSet.refl as) (fun _ _ _ => KeepsSet.trans) f hf l s

/-- A field outside the set is written. -/
theorem KeepsSet.wr {as : List Nat} (s : State) (f : Field) (v : Nat) (h : f.addr ∉ as) : KeepsSet as s (s.wr f v) :=
  ⟨rfl, fun _ ha => regGet_wrF _ _ _ _ (fun e => h (e ▸ ha))⟩

/-- A source pulse writes registers of EVF alone. -/
theorem KeepsSet.fire {as : List Nat} (h : ∀ a ∈ as, ¬ inEvf a) (s : State) (src : Nat) : KeepsSet as s (s.fire src) :=
  ⟨s.fire_shadow src, fun a ha => s.fire_keeps src a (h a ha)⟩

/-! ### Completing frames writes no set of MER (R168, R204, R216) -/

/-- The registers of MER that hold SH fields. -/
abbrev merSet : List Nat := shAddrs Blk.mer.base

theorem merSet_inMer : ∀ a ∈ merSet, 0x4000C000 ≤ a ∧ a < 0x4000D000 := by decide

theorem not_mem_merSet {a : Nat} (h : a < 0x4000C000 ∨ 0x4000D000 ≤ a) : a ∉ merSet := fun ha => by
  have := merSet_inMer a ha
  omega

theorem KeepsSet.merFire (s : State) (src : Nat) : KeepsSet merSet s (s.fire src) :=
  .fire (fun a ha e => by have := merSet_inMer a ha; obtain ⟨-, h⟩ := e; omega) s src

/-- A field of a block below MER is written. -/
theorem KeepsSet.merWr (s : State) (f : Field) (v : Nat) (h : f.addr < 0x4000C000) : KeepsSet merSet s (s.wr f v) :=
  .wr s f v (not_mem_merSet (.inl h))

theorem KeepsSet.merInc (s : State) (f : Field) (k : Nat) (h : f.addr < 0x4000C000) : KeepsSet merSet s (s.inc f k) :=
  .merWr s f _ h

theorem KeepsSet.relink {as : List Nat} : ∀ (l : List Frame) (s : State), KeepsSet as s (s.relink l)
  | [], s => .refl as s
  | [_], s => .refl as s
  | f :: g :: r, s => by
    have link : KeepsSet as s (if s.sramNat (f.desc + 20) 4 = g.desc then s else s.sramWrite (f.desc + 20) (natLE 4 g.desc)) :=
      .ite (.refl as s) (.of_eq rfl rfl)
    exact link.trans (KeepsSet.relink (g :: r) _)

theorem KeepsSet.completeFrame (s : State) (b : Band) (f : Frame) (st : Nat) : KeepsSet merSet s (s.completeFrame b f st) := by
  have linked (u : State) (l : List Frame) (h : KeepsSet merSet s u) : KeepsSet merSet s ((u.relink l).fire 81) :=
    (h.trans (.relink l u)).trans (.merFire _ 81)
  have late : (SHP_CNT_MISSDL b).addr < 0x4000C000 := by cases b <;> decide
  simp only [State.completeFrame]
  split
  · refine .trans (.trans (linked _ _ ?_) (.merInc _ (SHP_CNT_MISSDL b) _ late)) (.merFire _ 99)
    exact .of_eq rfl rfl
  · refine linked _ _ ?_
    exact .of_eq rfl rfl

theorem KeepsSet.completeEach (b : Band) (st : Frame → Nat) : ∀ (l : List Frame) (s : State), KeepsSet merSet s (s.completeEach b st l)
  | [], s => .refl _ s
  | f :: r, s => (KeepsSet.completeFrame s b f (st f)).trans (KeepsSet.completeEach b st r _)

theorem KeepsSet.stopWalking (s : State) : KeepsSet merSet s s.stopWalking :=
  ((KeepsSet.completeEach .sg _ _ s).trans (KeepsSet.completeEach .g24 _ _ _)).trans (.of_eq rfl rfl)

/-! ### Reception that follows MER writes no set of MER (R91, R204) -/

theorem KeepsSet.rechan (s : State) (b : Band) : KeepsSet merSet s (s.rechan b) := by
  have blanked : (MAC_CNT0_BLANKED b).addr < 0x4000C000 := by cases b <;> decide
  simp only [State.rechan]
  exact (KeepsSet.of_eq (s := s) rfl rfl).trans (.merInc _ (MAC_CNT0_BLANKED b) _ blanked)

theorem KeepsSet.rssiOff (s : State) (b : Band) : KeepsSet merSet s (s.rssiOff b) := by
  have ha : (RFC_RSSI_RSSIA b).addr < 0x4000C000 := by cases b <;> decide
  have hb : (RFC_RSSI_RSSIB b).addr < 0x4000C000 := by cases b <;> decide
  have chainA (c : Prop) [Decidable c] : KeepsSet merSet s (if c then s.wr (RFC_RSSI_RSSIA b) 0x80 else s) :=
    .ite (.merWr s _ _ ha) (.refl _ s)
  exact .ite ((chainA _).trans (.merWr _ _ _ hb)) (chainA _)

theorem KeepsSet.radio (s : State) (b : Band) (r : BandRadio) : KeepsSet merSet s (s.radio b r) :=
  ((KeepsSet.of_eq (t := s.setRfc b (r.timed (s.rfcB b) s.mer.tstamp)) rfl rfl).trans (.rechan _ b)).trans (.rssiOff _ b)

theorem KeepsSet.tryCal (s : State) (b : Band) : KeepsSet merSet s (s.tryCal b) := by
  unfold State.tryCal
  split
  · refine .ite ?_ (.refl _ s)
    split
    · exact (KeepsSet.of_eq rfl rfl).trans (.radio _ b _)
    · exact (((KeepsSet.of_eq rfl rfl).trans (.merWr _ RFC_CALSTAT_STATUS _ (by decide))).trans
        (.merWr _ RFC_CALSTAT_BUSY _ (by decide))).trans (.merFire _ 52)
  · exact .refl _ s

theorem KeepsSet.updateRx (s : State) (b : Band) : KeepsSet merSet s (s.updateRx b) :=
  .ite (.radio s b _) (.ite ((KeepsSet.radio s b _).trans (.tryCal _ b)) (.ite ((KeepsSet.radio s b _).trans (.tryCal _ b)) (.refl _ s)))

theorem KeepsSet.followWalk (s : State) (was : Bool) : KeepsSet merSet s (s.followWalk was) :=
  .ite (.refl _ s) ((KeepsSet.updateRx s .sg).trans (.updateRx _ .g24))

/-! ### An accepted commit (R9, R52, R75, R195, R284, R433) -/

theorem KeepsSet.setMer (s : State) (st : Nat) : KeepsSet merSet s (s.setMer st) := by
  have walk (t : State) (v w x : Nat) (m : Mer) : KeepsSet merSet t
      { t with regs := wrF (wrF (wrF t.regs MER_STAT_STATE v) SHP_STAT_SGWALK w) SHP_STAT_G24WALK x, mer := m } :=
    ((KeepsSet.wr t MER_STAT_STATE v (by decide)).trans (.merWr _ SHP_STAT_SGWALK w (by decide))).trans
      ((KeepsSet.merWr _ SHP_STAT_G24WALK x (by decide)).trans (.of_eq rfl rfl))
  exact .ite (.refl _ s) ((KeepsSet.ite ((walk s st _ _ _).trans (.stopWalking _)) (walk s st _ _ _)).trans (.merFire _ 115))

theorem KeepsSet.enterSynth (s : State) : KeepsSet merSet s s.enterSynth :=
  .ite (.setMer s 4) ((KeepsSet.setMer s 4).trans (.wr _ MER_INC_INC _ (by decide)))

theorem KeepsSet.sourceChange (s : State) (old new : Nat) : KeepsSet merSet s (s.sourceChange old new) :=
  .ite (.refl _ s) (.ite ((KeepsSet.setMer s 0).trans (.of_eq rfl rfl))
    (.ite (.ite (.enterSynth s) ((KeepsSet.setMer s 1).trans (.of_eq rfl rfl))) (.ite (.enterSynth s) (.of_eq rfl rfl))))

theorem KeepsSet.merCommitted (s : State) (old : List (Nat × Word)) : KeepsSet merSet s (s.merCommitted old) :=
  ((KeepsSet.ite (.refl _ s) (.wr s MER_INC_INC _ (by decide))).trans (.sourceChange _ _ _)).trans (.followWalk _ _)

theorem KeepsSet.levelCommitted (s : State) : KeepsSet (shAddrs Blk.pwr.base) s s.levelCommitted := by
  have chg (v : Nat) (p : Pwr) : KeepsSet (shAddrs Blk.pwr.base) s { s with regs := wrF s.regs PWR_STAT_CHG v, pwr := p } :=
    (KeepsSet.wr s PWR_STAT_CHG v (by decide)).trans (.of_eq rfl rfl)
  unfold State.levelCommitted
  split
  · exact .of_eq rfl rfl
  · exact .ite (chg _ _) (chg _ _)

theorem KeepsSet.macCommitted (s : State) (old : List (Nat × Word)) : KeepsSet (shAddrs Blk.mac.base) s (s.macCommitted old) :=
  .ite (.refl _ s) ((KeepsSet.wr s MAC_RXWR_WR 0 (by decide)).trans (.wr _ MAC_RXRD_RD 0 (by decide)))

theorem KeepsSet.snsCommitted (s : State) : KeepsSet (shAddrs Blk.sns.base) s s.snsCommitted := by
  have evf : ∀ a ∈ shAddrs Blk.sns.base, 0x40005000 ≤ a := by decide
  have starts (t : State) (n : Nat) (p : Pwm) (x : Nat) : KeepsSet (shAddrs Blk.sns.base) t (t.pwmBegin n p x) :=
    .ite (.trans (t := t.putPwm n { p with duty := t.dutySeen n p, start := some x, pin := p.level (t.dutySeen n p != 0) }) (.of_eq rfl rfl)
      (.fire (fun a ha e => absurd e.2 (Nat.not_lt.mpr (evf a ha))) _ 148)) (.of_eq rfl rfl)
  have now (t : State) (n : Nat) (p : Pwm) : KeepsSet (shAddrs Blk.sns.base) t (t.pwmStartNow n p) :=
    .ite (starts t n p _) (.ite (.ite (.of_eq rfl rfl) (starts t n p _)) (.of_eq rfl rfl))
  exact .fold _ (fun t n => .ite (now t n _) (.refl _ t)) _ s

end Sys2Proof.Machine
end


section
namespace Sys2Proof.Machine

/-! ### COMMIT (R7 to R12) -/

/-- The commit registers in the order of COMMIT's operand: operand, block, and the number of the block (R7, R18). -/
def commitTargets : List (Nat × Blk × Nat) :=
  [(0, .pwr, 1), (1, .svr, 6), (2, .cip, 7), (3, .rfc, 8), (4, .mdm, 9), (5, .mac, 10), (6, .shp, 11), (7, .mer, 12), (8, .sns, 17)]

/-- COMMIT acts on its block where no write of its master stands before it. -/
theorem exec_commit {m : Master} {s : State} (k : Fin 9) {blk : Blk} {n : Nat} (hk : (k.val, blk, n) ∈ commitTargets)
    (h : s.barred m n = false) : exec (.commit m k) s = .next (s.commit m blk) := by
  have hops : ∀ (k : Fin 9) (x : Nat × Blk × Nat), x ∈ commitTargets → x.1 = k.val →
      [Blk.pwr, .svr, .cip, .rfc, .mdm, .mac, .shp, .mer, .sns].getD k .pwr = x.2.1 ∧
        [1, 6, 7, 8, 9, 10, 11, 12, 17].getD k 1 = x.2.2 := by
    decide
  obtain ⟨hb, hn⟩ := hops k _ hk rfl
  show execCommit m k s = _
  rw [execCommit, hb, hn, writes_unbarred h]

/-- The status of a commit of block `b`: OK for an equal set (R10). -/
def State.commitStatus (s : State) (b : Blk) : Nat := if shadowEq s.regs s.shadow (shAddrs b.base) = true then stOK else s.blkStatus b

theorem commitStatus_lt (s : State) (b : Blk) : s.commitStatus b < 256 := by
  unfold State.commitStatus
  split
  · decide
  · exact blkStatus_lt s b

/-- `t` has nothing of a commit of block `b` but its status (R9). -/
def OnlyStatus (s t : State) (b : Blk) : Prop := t.shadow = s.shadow ∧ ∀ a, a ≠ b.status.addr → regGet t.regs a = regGet s.regs a

theorem onlyStatus_wr (s : State) (b : Blk) (v : Nat) : OnlyStatus s (s.wr b.status v) b := ⟨rfl, fun a ha => regGet_wrF _ _ _ a ha⟩

/-- `t` shows status `st` of a commit of block `b`, and nothing else of it where it was refused. -/
def Judged (s t : State) (b : Blk) (st : Nat) : Prop := t.rd b.status = st ∧ (st ≠ stOK → OnlyStatus s t b)

theorem judged_refused (s : State) (b : Blk) {st : Nat} (h : st < 256) : Judged s (s.wr b.status st) b st :=
  ⟨rd_wr_status s b h, fun _ => onlyStatus_wr s b st⟩

theorem judged_accepted (s u : State) (b : Blk) : Judged s (u.wr b.status stOK) b stOK :=
  ⟨rd_wr_status u b (by decide), fun h => absurd rfl h⟩

theorem plainCommit_equal {s : State} {b : Blk} (h : shadowEq s.regs s.shadow (shAddrs b.base) = true) :
    s.plainCommit b = s.wr b.status stOK := if_pos h

theorem plainCommit_refused {s : State} {b : Blk} (h : shadowEq s.regs s.shadow (shAddrs b.base) = false) (hst : s.blkStatus b ≠ stOK) :
    s.plainCommit b = s.wr b.status (s.blkStatus b) := by
  simp only [State.plainCommit, h, Bool.false_eq_true, if_false, if_neg hst]

theorem plainCommit_accepted {s : State} {b : Blk} (h : shadowEq s.regs s.shadow (shAddrs b.base) = false) (hst : s.blkStatus b = stOK) :
    s.plainCommit b =
      (({ s with regs := copyShadow s.regs s.shadow (shAddrs b.base) } : State).blkAccepted s b).wr b.status stOK := by
  simp only [State.plainCommit, h, Bool.false_eq_true, if_false, if_pos hst]

/-- A commit of the plain form is judged by its status (R9, R10). -/
theorem plainCommit_judged (s : State) (b : Blk) : Judged s (s.plainCommit b) b (s.commitStatus b) := by
  unfold State.commitStatus
  split
  next h => rw [plainCommit_equal h]; exact judged_accepted s s b
  next h =>
    have h : shadowEq s.regs s.shadow (shAddrs b.base) = false := by simpa using h
    by_cases hst : s.blkStatus b = stOK
    · rw [plainCommit_accepted h hst, hst]; exact judged_accepted s _ b
    · rw [plainCommit_refused h hst]; exact judged_refused s b (blkStatus_lt s b)

/-- The blocks whose accepted commit the statement follows field by field. -/
def plainBlks : List Blk := [.pwr, .mac, .mer, .sns]

theorem plainBlks_targets : ∀ x ∈ [(0, Blk.pwr, 1), (5, Blk.mac, 10), (7, Blk.mer, 12), (8, Blk.sns, 17)],
    x.2.1 ∈ plainBlks ∧ x ∈ commitTargets := by decide

/-- What an accepted commit does beside the copy leaves the copied set. -/
theorem blkAccepted_keepsSet (s old : State) {b : Blk} (h : b ∈ plainBlks) : KeepsSet (shAddrs b.base) s (s.blkAccepted old b) := by
  cases b
  case pwr => exact .levelCommitted s
  case mac => exact .macCommitted s old.regs
  case mer => exact .merCommitted s old.regs
  case sns => exact .snsCommitted s
  all_goals exact absurd h (by decide)

theorem status_not_mem {b : Blk} (h : b ∈ plainBlks) : b.status.addr ∉ shAddrs b.base := by
  revert b
  decide

/-- An accepted commit makes every SH field of its block active, and leaves the shadow set (R9). -/
theorem plainCommit_copies {s : State} {b : Blk} (hb : b ∈ plainBlks) (h : shadowEq s.regs s.shadow (shAddrs b.base) = false)
    (hst : s.blkStatus b = stOK) : (s.plainCommit b).shadow = s.shadow ∧
      ∀ a ∈ shAddrs b.base, regGet (s.plainCommit b).regs a &&& shMask a = regGet s.shadow a &&& shMask a := by
  rw [plainCommit_accepted h hst]
  obtain ⟨hsh, hregs⟩ := (blkAccepted_keepsSet ({ s with regs := copyShadow s.regs s.shadow (shAddrs b.base) } : State) s hb).trans
    (.wr _ b.status stOK (status_not_mem hb))
  exact ⟨hsh, fun a ha => by rw [hregs a ha]; exact copyShadow_bits _ _ ha⟩

theorem commit_plain {m : Master} {s : State} {b : Blk} (h : b ∈ plainBlks) : s.commit m b = s.plainCommit b := by
  cases b
  case pwr | mac | mer | sns => rfl
  all_goals exact absurd h (by decide)

/-! ### The blocks with a commit of their own (R107, R224, R512, R522, R533) -/

/-- The blocks other than CIP whose commit has rules of its own. -/
def ownBlks : List Blk := [.svr, .rfc, .mdm, .shp]

theorem ownBlks_targets : ∀ x ∈ [(1, Blk.svr, 6), (3, Blk.rfc, 8), (4, Blk.mdm, 9), (6, Blk.shp, 11)],
    x.2.1 ∈ ownBlks ∧ x ∈ commitTargets := by decide

theorem rfcCommit_judged (s : State) : Judged s s.rfcCommit .rfc (s.commitStatus .rfc) := by
  by_cases h : shadowEq s.regs s.shadow (shAddrs Blk.rfc.base) = true
  · rw [State.rfcCommit, if_pos h, State.commitStatus, if_pos h]
    exact ⟨(judged_accepted s s .rfc).1, fun x => absurd rfl x⟩
  · rw [State.rfcCommit, if_neg h]
    exact plainCommit_judged s .rfc

theorem judged_ite {s u : State} {b : Blk} {st : Nat} (h : st < 256) :
    Judged s (if st = stOK then u.wr b.status stOK else s.wr b.status st) b st := by
  split
  next hst => rw [hst]; exact judged_accepted s u b
  next hst => exact judged_refused s b h

theorem commitShp_judged (s : State) : Judged s s.commitShp .shp (s.commitStatus .shp) := by
  have h := fun u => judged_ite (s := s) (u := u) (b := .shp) (commitStatus_lt s .shp)
  simp only [State.commitStatus, Blk.base, State.blkStatus, Blk.status] at h ⊢
  exact h _

theorem svrCommit_judged (s : State) : Judged s s.svrCommit .svr (s.commitStatus .svr) := by
  have h := judged_ite (s := s) (u := s.svrCommitted) (b := .svr) (commitStatus_lt s .svr)
  simp only [State.commitStatus, Blk.base, State.blkStatus, Blk.status, State.svrCommit, svrGroup] at h ⊢
  exact h

theorem mdmCommit_judged (s : State) (hbusy : s.rdB MDM_COMMIT_BUSY = false) (hheld : s.mdmHeld = false) :
    Judged s s.mdmCommit .mdm (s.commitStatus .mdm) := by
  simp only [State.mdmCommit, hbusy, hheld, Bool.false_eq_true, if_false]
  exact plainCommit_judged s .mdm

/-! ### The key load of CIP (R385, R386) -/

theorem cipCommit_buffer (s : State) :
    s.cipCommit.cip.buf = List.replicate 8 0 ∧ s.cipCommit.cip.wrote = List.replicate 8 false := ⟨rfl, rfl⟩

theorem cipCommit_status (s : State) : s.cipCommit.rd CIP_COMMIT_STATUS =
    if s.cip.wrote.any id = false ∧ shadowEq s.regs s.shadow keyGroup = true then stOK else s.cipCommitStatus := by
  have hlt := blkStatus_lt s .cip
  have hst : (!s.cip.wrote.any id && shadowEq s.regs s.shadow keyGroup) = true ↔
      s.cip.wrote.any id = false ∧ shadowEq s.regs s.shadow keyGroup = true := by simp
  refine (rdF_wrF _ CIP_COMMIT_STATUS _ rfl).trans ?_
  simp only [hst]
  split
  · rfl
  · exact Nat.mod_eq_of_lt hlt

/-! ### Register writes and commits together -/

/-- A write to a block with a flushed write of its engine has no effect (R305). -/
theorem registerWrite_lost (m : Master) (reg : Fin 18432) (v : Word) (s : State)
    (h : s.heldWrite m (0x40000000 + 4 * reg.val) = true) : exec (.registerWrite m reg v) s = .next s := by
  show execRegisterWrite m reg v s = _
  simp [execRegisterWrite, h]

/-- A commit of SVR, RFC, MDM or SHP is judged by its status. -/
theorem commit_judged {m : Master} {s : State} {b : Blk} (hb : b ∈ ownBlks)
    (hmdm : b = .mdm → s.rdB MDM_COMMIT_BUSY = false ∧ s.mdmHeld = false) : Judged s (s.commit m b) b (s.commitStatus b) := by
  cases b
  case svr => exact svrCommit_judged s
  case rfc => exact rfcCommit_judged s
  case shp => exact commitShp_judged s
  case mdm => exact mdmCommit_judged s (hmdm rfl).1 (hmdm rfl).2
  all_goals exact absurd hb (by decide)

/-- Settles O6: a write by bus is the plain write of its register, and every commit is judged by its status. -/
theorem registerWrites : Obligations.RegisterWrites := by
  intro m s
  refine ⟨?_, fun reg v => registerWrite_lost m reg v s, ?_, ?_, ?_⟩
  · intro reg v row hclk a hblk hrow hcommit hatoll hlost hheld
    obtain ⟨hkeep, hrw, hw1c⟩ := plainActive_bits hrow v (regGet s.regs a)
    refine ⟨_, registerWrite_plain m reg v s hclk hblk hcommit hatoll hlost hheld, ?_⟩
    rw [plainWrite_of_row hrow]
    simp only [regGet_regSet_same]
    exact ⟨hkeep, hrw, hw1c, plainShadow_bits a v _, fun b hb => regGet_regSet_other _ _ hb⟩
  · intro k blk n hk hbar as
    obtain ⟨hb, hk⟩ := plainBlks_targets _ hk
    have hexec := exec_commit (m := m) k hk hbar
    rw [commit_plain hb] at hexec
    refine ⟨fun heq => ?_, fun hne => ⟨fun hst => ?_, fun hst => ?_⟩⟩
    · rw [plainCommit_equal heq] at hexec
      exact ⟨_, hexec, rd_wr_status s blk (by decide), onlyStatus_wr s blk stOK⟩
    · rw [plainCommit_refused hne hst] at hexec
      exact ⟨_, hexec, rd_wr_status s blk (blkStatus_lt s blk), onlyStatus_wr s blk _⟩
    · obtain ⟨hsh, hcopy⟩ := plainCommit_copies hb hne hst
      refine ⟨_, hexec, ?_, hsh, hcopy⟩
      rw [plainCommit_accepted hne hst]
      exact rd_wr_status _ blk (by decide)
  · intro k blk n hk hbar hmdm st
    obtain ⟨hb, hk⟩ := ownBlks_targets _ hk
    exact ⟨_, exec_commit k hk hbar, commit_judged hb hmdm⟩
  · intro hbar
    have hexec := exec_commit (m := m) (s := s) 2 (blk := .cip) (n := 7) (by decide) hbar
    refine ⟨fun hm => ?_, fun hm => ?_⟩
    · rw [hexec, State.commit, hm]
      rfl
    · rw [State.commit, hm] at hexec
      obtain ⟨hbuf, hwrote⟩ := cipCommit_buffer s
      exact ⟨_, hexec, hbuf, hwrote, cipCommit_status s⟩

end Sys2Proof.Machine
end


section
namespace Sys2Proof.Machine

/-! ### Commands that store nothing (R27, R66, R288, R306, R509) -/

/-- `t` differs from `s` in registers and their shadow copies, in the fabric, power, Meridian, Survey, luminaire, link-test and host
state, in time and the watchdogs, and in the free values alone: no memory, no engine, no key, no calendar and no table. -/
def LeavesStores (s t : State) : Prop :=
  t = { s with free := t.free, busData := t.busData, tclk := t.tclk, regs := t.regs, shadow := t.shadow, evf := t.evf, flt := t.flt,
               pwr := t.pwr, mer := t.mer, svr := t.svr, sns := t.sns, tst := t.tst, hif := t.hif }

theorem LeavesStores.refl (s : State) : LeavesStores s s := rfl

theorem LeavesStores.trans {s t u : State} (h : LeavesStores s t) (k : LeavesStores t u) : LeavesStores s u :=
  Eq.trans k (congrArg (fun x : State => { x with
    free := u.free, busData := u.busData, tclk := u.tclk, regs := u.regs, shadow := u.shadow, evf := u.evf, flt := u.flt,
    pwr := u.pwr, mer := u.mer, svr := u.svr, sns := u.sns, tst := u.tst, hif := u.hif }) h)

/-- A step on from `t` that replaces none of the stores. -/
theorem LeavesStores.on {s t u : State} (h : LeavesStores s t) (k : LeavesStores t u := by exact rfl) : LeavesStores s u := h.trans k

theorem LeavesStores.ite {s t u : State} {c : Prop} [Decidable c] (h : LeavesStores s t) (k : LeavesStores s u) :
    LeavesStores s (if c then t else u) := by
  split <;> assumption

theorem LeavesStores.fold {α : Type} (f : State → α → State) (hf : ∀ s a, LeavesStores s (f s a)) (l : List α) (s : State) :
    LeavesStores s (l.foldl f s) := fold_keeps LeavesStores LeavesStores.refl (fun _ _ _ => LeavesStores.trans) f hf l s

/-- What stays of the stores and of the engines. -/
theorem LeavesStores.same {s t : State} (h : LeavesStores s t) :
    t.sram = s.sram ∧ t.sramGen = s.sramGen ∧ t.resvs = s.resvs ∧ t.flc = s.flc ∧ t.cip = s.cip ∧ t.rtc = s.rtc ∧ t.fw = s.fw ∧
      t.mac = s.mac ∧ t.shp = s.shp ∧ t.rfc = s.rfc ∧ t.pending = s.pending ∧ t.engs = s.engs := by
  rw [h]
  exact ⟨rfl, rfl, rfl, rfl, rfl, rfl, rfl, rfl, rfl, rfl, rfl, rfl⟩

theorem LeavesStores.mesh {s t : State} (h : LeavesStores s t) : t.mesh = s.mesh := by rw [h]

theorem LeavesStores.shp {s t : State} (h : LeavesStores s t) : t.shp = s.shp := by rw [h]

/-! Shared operations: each leads on from a state `t` that differs from `s` in no store. -/

section
variable {s t : State}

theorem LeavesStores.fire (h : LeavesStores s t) {src : Nat} : LeavesStores s (t.fire src) :=
  h.trans (.ite (.ite rfl rfl) (.ite rfl rfl))

theorem LeavesStores.wr (h : LeavesStores s t) {f : Field} {v : Nat} : LeavesStores s (t.wr f v) := h.on

theorem LeavesStores.sns (h : LeavesStores s t) {x : Sns} : LeavesStores s { t with sns := x } := h.on

theorem LeavesStores.enterSources (h : LeavesStores s t) {n : Nat} : LeavesStores s (t.enterSources n) := by
  have pulses (l : List SrcPulse) : LeavesStores t (l.foldl (fun u x => u.enterSource (x.enter - t.tclk) x.src) t) :=
    .fold (fun u (x : SrcPulse) => u.enterSource (x.enter - t.tclk) x.src) (fun _ _ => rfl) l t
  exact h.trans (.ite (.refl t) (pulses _).on)

theorem LeavesStores.tick (h : LeavesStores s t) {n : Nat} : LeavesStores s (t.tick n) := by
  have slew (u : State) : LeavesStores u u.slewSynth := .ite rfl (.refl u)
  exact h.enterSources.on.trans (slew _)

theorem LeavesStores.plainWrite (h : LeavesStores s t) {a : Nat} {v : Word} : LeavesStores s (t.plainWrite a v) := by
  refine h.trans ?_
  unfold State.plainWrite
  split <;> rfl

theorem LeavesStores.svrSample (h : LeavesStores s t) {src par : Nat} {r : Int} : LeavesStores s (t.svrSample src par r) :=
  h.trans (.fold (fun u k => u.svrTake k (u.svrValue k (u.rd (SVR_M_CFG_SGN k) == 1) r)) (fun _ _ => rfl) _ t)

theorem LeavesStores.svrClose (h : LeavesStores s t) {fin start : Calendar} {w : CloseWhy} :
    LeavesStores s (t.svrClose fin start w) := by
  refine h.trans ?_
  unfold State.svrClose
  split <;> rfl

/-- The bytes of a packet, with no entry to SLEEP under way, touch the power state alone (R437, R439). -/
theorem LeavesStores.hifBytes (h : s.pwr.entering = false) : LeavesStores s s.hifBytes := by
  have doze (u : State) : LeavesStores u u.checkDoze := .ite rfl (.refl u)
  rw [State.hifBytes, h]
  exact .ite ((LeavesStores.refl s).on.trans (doze _)) (.refl s)

/-! The luminaire and the zones (R269, R270, R277 to R288) -/

theorem LeavesStores.pdLevel (h : LeavesStores s t) {k : Nat} : LeavesStores s (t.pdLevel k) := .ite h (.fire h.on)

theorem LeavesStores.pdTake (h : LeavesStores s t) {k charge len : Nat} : LeavesStores s (t.pdTake k charge len) :=
  .pdLevel (.svrSample h.on)

theorem LeavesStores.pirDetect (h : LeavesStores s t) {mag : Nat} : LeavesStores s (t.pirDetect mag) :=
  .ite h.on (.ite h.on (.ite (.fire (.wr h.on)) (.ite (.wr h.on) h.on)))

theorem LeavesStores.pirFilter (h : LeavesStores s t) {x : Int} : LeavesStores s (t.pirFilter x) := .pirDetect (.fire h.on)

theorem LeavesStores.pwmBegin (h : LeavesStores s t) {n start : Nat} {p : Pwm} : LeavesStores s (t.pwmBegin n p start) :=
  .ite (.fire h.on) h.on

theorem LeavesStores.pwmStartNow (h : LeavesStores s t) {n : Nat} {p : Pwm} : LeavesStores s (t.pwmStartNow n p) :=
  .ite h.pwmBegin (.ite (.ite h.on h.pwmBegin) h.on)

theorem LeavesStores.zoneDuty (h : LeavesStores s t) {z : Nat} : LeavesStores s (t.zoneDuty z) := by
  have move (u : State) (n : Nat) : LeavesStores u (u.moveDuty n) := .ite (.refl u) (.ite (.fire (.on (.refl _))) rfl)
  exact h.trans (.fold (fun u n => u.moveDuty n) move _ t)

theorem LeavesStores.zoneChange (h : LeavesStores s t) {z : Nat} {occ : Bool} : LeavesStores s (t.zoneChange z occ) :=
  .zoneDuty (.fire h.on)

theorem LeavesStores.detect (h : LeavesStores s t) {z index : Nat} : LeavesStores s (t.detect z index) :=
  .ite (.ite (.ite h.wr.zoneChange h.wr) h.wr) (.ite (.ite h.wr.wr.zoneChange h.wr) h.wr)

theorem LeavesStores.writeZoneIndex (m : Master) (z : Nat) (v : Word) : LeavesStores s (s.writeZoneIndex m z v) := by
  have write := LeavesStores.plainWrite (.refl s) (a := (SNS_SZ_IDX_INDEX z).addr) (v := v)
  exact .ite (.refl s) (.ite (.ite write.on (.svrSample write.on))
    (.detect (.ite write.on (.svrSample write.on))))

theorem LeavesStores.writeZoneCfg (z : Nat) (v : Word) : LeavesStores s (s.writeZoneCfg z v) := by
  have write : LeavesStores s (((s.plainWrite (SNS_SZ_CFG_EN z).addr v).wr (SNS_SZ_STAT_ABOVE z) 0).wr (SNS_SZ_STAT_HELD z) 0) :=
    .wr (.wr (.plainWrite (.refl s)))
  exact .ite (.wr (.refl s)) (.ite (.zoneDuty (.wr (.wr write.sns))) write.sns)

end

/-! ### The quiet commands -/

/-- Where the outcome is a next state, no store differs. -/
def EndsQuiet (s : State) (o : Host.Outcome State Fault Refusal) : Prop := ∀ t, o = .next t → LeavesStores s t

theorem EndsQuiet.next {s t : State} (h : LeavesStores s t) : EndsQuiet s (.next t) := by
  rintro _ ⟨⟩
  exact h

theorem EndsQuiet.ite {s : State} {o p : Host.Outcome State Fault Refusal} {c : Prop} [Decidable c] (h : EndsQuiet s o)
    (k : EndsQuiet s p) : EndsQuiet s (if c then o else p) := by
  split <;> assumption

theorem EndsQuiet.same {s : State} : EndsQuiet s (.next s) := .next (.refl s)

theorem LeavesStores.writes {s t : State} (m : Master) (blk : Nat) (h : LeavesStores s t) : LeavesStores s (s.writes m blk t) :=
  .ite (.refl s) h

theorem execGpioEdge_quiet (k : Fin 2) (rising : Bool) (s : State) : EndsQuiet s (execGpioEdge k rising s) := by
  have hold (pin : Nat) : LeavesStores s (s.gpioHold pin rising) := .ite (.refl s) rfl
  exact .ite .same (.next (.ite (.fire (hold _).on) (hold _).on))

theorem execPdConversion_quiet (k : Fin 2) (charge : Nat) (s : State) : EndsQuiet s (execPdConversion k charge s) := by
  have ticked {n : Nat} : LeavesStores s (s.tick n) := .tick (.refl s)
  refine .ite .same ?_
  split
  · exact .next (.ite rfl (.pdTake (.on (.refl s))))
  · split
    · exact .ite (.next (.pdTake ticked.on)) .same
    · exact .same

theorem execPirSample_quiet (x : BitVec 16) (s : State) : EndsQuiet s (execPirSample x s) := by
  have ticked {n : Nat} : LeavesStores s (s.tick n) := .tick (.refl s)
  exact .ite .same (.next (.pirFilter ticked.on))

theorem execPwmPeriodStart_quiet (n : Fin 4) (s : State) : EndsQuiet s (execPwmPeriodStart n s) := by
  have ticked {n : Nat} : LeavesStores s (s.tick n) := .tick (.refl s)
  exact .ite .same (.ite (.next ticked.pwmBegin) (.ite (.next ticked.pwmBegin) (.next ticked.pwmStartNow)))

theorem execPwmInactiveEdge_quiet (n : Fin 4) (s : State) : EndsQuiet s (execPwmInactiveEdge n s) := by
  have ticked {n : Nat} : LeavesStores s (s.tick n) := .tick (.refl s)
  simp only [execPwmInactiveEdge]
  split
  · exact .same
  · exact .ite .same (.next ticked.on)

theorem execPolicerCfgWrite_quiet (p : Fin 64) (burst : Bool) (v : Word) (s : State) : EndsQuiet s (execPolicerCfgWrite p burst v s) := by
  have write {a : Nat} : LeavesStores s (s.plainWrite a v) := .plainWrite (.refl s)
  exact .next (.ite write.on (.ite write.on write))

theorem execUnlockTimeout_quiet (s : State) : EndsQuiet s (execUnlockTimeout s) := by
  have ticked {n : Nat} : LeavesStores s (s.tick n) := .tick (.refl s)
  exact .ite (.next ticked.on) .same

theorem execBaudRevert_quiet (s : State) : EndsQuiet s (execBaudRevert s) := by
  have ticked {n : Nat} : LeavesStores s (s.tick n) := .tick (.refl s)
  unfold execBaudRevert
  split
  · exact .ite (.next ticked.on) .same
  · exact .same

/-- The quiet commands but for the doorbell, which reaches an engine's state. -/
theorem exec_quiet (i : Instr) (s : State) (hq : quiet i = true) (hd : ∀ e bits, i ≠ .engDbell e bits) (he : s.pwr.entering = false) :
    EndsQuiet s (exec i s) := by
  cases i
  case gpioSet v => exact .next rfl
  case gpioClr v => exact .next rfl
  case gpioEdge k rising => exact execGpioEdge_quiet k rising s
  case pdConversion k charge => exact execPdConversion_quiet k charge s
  case pirSample x => exact execPirSample_quiet x s
  case pwmPeriodStart n => exact execPwmPeriodStart_quiet n s
  case pwmInactiveEdge n => exact execPwmInactiveEdge_quiet n s
  case zoneIndexWrite m z v => exact .next (.writes m 17 (.writeZoneIndex m z v))
  case zoneCfgWrite z v => exact .next (.writeZoneCfg z v)
  case metricSample k v => exact .next (.ite rfl (.refl s))
  case metricAdd k v => exact .next (.ite (.refl s) (.ite rfl rfl))
  case found m => exact .next (.writes m 6 (.ite rfl (.refl s)))
  case close m => exact .next (.writes m 6 (.ite (.svrClose (.refl s)) (.refl s)))
  case stop => exact .next rfl
  case policerCfgWrite p burst v => exact execPolicerCfgWrite_quiet p burst v s
  case enqresRead k => exact .next rfl
  case engDbell e bits => exact absurd rfl (hd e bits)
  case merPhaseRead => exact .next rfl
  case packetCrcError spi len => exact .next (.ite ((LeavesStores.hifBytes he).on) (.refl s))
  case packetGapTimeout spi => exact .next (.ite ((LeavesStores.hifBytes he).on) (.refl s))
  case unlockTimeout => exact execUnlockTimeout_quiet s
  case baudRevert => exact execBaudRevert_quiet s
  all_goals cases hq

/-! ### The doorbell (R306) -/

/-- The registers, the load in its delay and the TCM of an engine. -/
def Engine.held (g : Engine) : GRegs × Option PendLoad × List Host.Cell := (g.g, g.load, g.tcm)

/-- An engine that leaves WAIT keeps what it holds (R298, R303). -/
theorem wakeEngine_held (regs : List (Nat × Word)) (e : Nat) (g : Engine) : (wakeEngine regs e g).held = g.held := by
  unfold wakeEngine
  split <;> rfl

theorem setPend_held (s : State) (e : Nat) (pend ovf : Field) (bits k : Nat) :
    ((s.setPend e pend ovf bits).eng k).held = (s.eng k).held := by
  simp only [State.setPend, State.eng, Machine.setEng, Vector.getElem_set]
  split
  next h => simp only [wakeEngine_held, h]
  next => rfl

/-- A doorbell leaves what every engine holds. -/
theorem doorbell_held (s : State) (e bits k : Nat) : ((s.doorbell e bits).eng k).held = (s.eng k).held := by
  unfold State.doorbell
  split
  · rfl
  · exact setPend_held s _ _ _ _ k

/-- Settles O7: every quiet command but the doorbell leaves each store as a whole, and the doorbell ends a WAIT at most. -/
theorem quietCommandsStoreNothing : Obligations.QuietCommandsStoreNothing := by
  intro i s t hq he ht
  by_cases hd : ∃ e bits, i = .engDbell e bits
  · obtain ⟨e, bits, rfl⟩ := hd
    obtain rfl : s.doorbell e.val bits.toNat = t := Host.Outcome.next.inj ht
    refine ⟨s.doorbell_sram .., s.doorbell_sramGen .., s.doorbell_resvs .., s.doorbell_flc .., s.doorbell_cip .., s.doorbell_rtc ..,
      s.doorbell_fw .., s.doorbell_mac .., s.doorbell_shp .., s.doorbell_rfc .., s.doorbell_pending .., fun k => ?_⟩
    simpa [Engine.held] using doorbell_held s e.val bits.toNat k.val
  · obtain ⟨hsram, hgen, hresvs, hflc, hcip, hrtc, hfw, hmac, hshp, hrfc, hpending, hengs⟩ :=
      (exec_quiet i s hq (fun e bits h => hd ⟨e, bits, h⟩) he t ht).same
    refine ⟨hsram, hgen, hresvs, hflc, hcip, hrtc, hfw, hmac, hshp, hrfc, hpending, fun k => ?_⟩
    simp only [State.g, State.load, State.eng, hengs, and_self]

end Sys2Proof.Machine
end


section
namespace Sys2Proof.Machine

/-! ### The read window of the flash (R29) -/

/-- The offset of an address in the window. -/
theorem winOff_add (x : Nat) : winOff (0x20000000 + x) = x := Nat.add_sub_cancel_left 0x20000000 x

/-- Settles O26: the address lies in the window, and its offset is written in banks of 8 MB, blocks of 64 KB and bytes. -/
theorem flashWindow : Obligations.FlashWindow := by
  intro m s b k o a
  have ha : a = 0x20000000 + (b.val * 0x800000 + k.val * 0x10000 + o.val) := by omega
  clear_value a
  have hlow : ¬ a < 0x10000 := by omega
  have hwin : inWindow a = true := by
    simp only [inWindow, decide_eq_true_eq]
    omega
  have hoff : winOff a = b.val * 0x800000 + k.val * 0x10000 + o.val := by rw [ha, winOff_add]
  refine ⟨?_, ?_, ?_, ?_⟩
  · simp only [State.place, if_neg hlow, hwin, if_true]
  all_goals
    rw [hoff]
    omega

/-! ### Reads that latch (R66, R344) -/

/-- A field that is its whole register, read from the word of a number. -/
theorem of_ofNat_whole (a v : Nat) : (⟨a, 0, 32⟩ : Field).of (BitVec.ofNat 32 v) = v % 2 ^ 32 := by
  simp [Field.of]

/-- A whole register read after it took the word of a number. -/
theorem rdF_regSet_whole (m : List (Nat × Word)) (a v : Nat) : rdF (regSet m a (BitVec.ofNat 32 v)) ⟨a, 0, 32⟩ = v % 2 ^ 32 := by
  simp only [rdF, regGet_regSet_same, of_ofNat_whole]

/-- A write of another register leaves a field. -/
theorem rdF_regSet_other (m : List (Nat × Word)) {a : Nat} {f : Field} (v : Word) (h : f.addr ≠ a) : rdF (regSet m a v) f = rdF m f := by
  simp only [rdF, regGet_regSet_other m v h]

theorem getElem?_modifyNth {α : Type} (f : α → α) : ∀ (k : Nat) (l : List α), (modifyNth f k l)[k]? = l[k]?.map f
  | k, [] => by cases k <;> rfl
  | 0, _ :: _ => rfl
  | k + 1, _ :: l => getElem?_modifyNth f k l

/-- A read of EVF_CAPk_PHASE gives the capture and latches its other words (R344). -/
theorem capRead_latches (s : State) (k : Nat) (c : Capture) (h : s.evf.caps[k]? = some c) :
    (s.capRead k).busData = capWord c ∧ (s.capRead k).rd (EVF_CAP_CYCLE_CYCLE k) = c.cyc % 2 ^ 32 ∧
      (s.capRead k).rd (EVF_CAP_TSLO_TS k) = c.ts % 2 ^ 32 ∧ (s.capRead k).rd (EVF_CAP_TSHI_TS k) = c.ts / 2 ^ 32 % 2 ^ 32 ∧
      (s.capRead k).evf.caps[k]? = some { c with new := false, ovr := false } := by
  have hc : s.evf.caps.getD k .empty = c := by simp [List.getD_eq_getElem?_getD, h]
  simp only [State.capRead, hc, State.rd, true_and]
  refine ⟨?_, ?_, rdF_regSet_whole _ _ _, ?_⟩
  · rw [rdF_regSet_other _ _ (by simp), rdF_regSet_other _ _ (by simp), rdF_regSet_whole]
  · rw [rdF_regSet_other _ _ (by simp), rdF_regSet_whole]
  · rw [getElem?_modifyNth, h]
    rfl

/-- A read of MER_PHASE latches the cycle count and TSTAMP (R66). -/
theorem phaseRead_latches (s : State) :
    s.phaseRead.rd MER_CYCLE_CYCLE = merCycle s.mer.now % 2 ^ 32 ∧ s.phaseRead.rd MER_TSTAMP_LO_TSLO = s.mer.tstamp % 2 ^ 32 ∧
      s.phaseRead.rd MER_TSTAMP_HI_TSHI = s.mer.tstamp / 2 ^ 32 % 2 ^ 32 := by
  simp only [State.phaseRead, State.rd]
  refine ⟨?_, ?_, rdF_regSet_whole _ _ _⟩
  · rw [rdF_regSet_other _ _ (by decide), rdF_regSet_other _ _ (by decide), rdF_regSet_whole]
  · rw [rdF_regSet_other _ _ (by decide), rdF_regSet_whole]

/-! ### Reads through the Strait into the Atoll domain (R20, R418, R428, R460) -/

/-- With LFCLK stopped no edge comes. -/
theorem lfRun_off {s : State} (h : s.lfOn = false) : ∀ n, s.lfRun n = s
  | 0 => rfl
  | n + 1 => by simp [State.lfRun, h]

/-- With nothing ahead of it in the Strait a read takes effect at once (R20). -/
theorem farRead_alone {s : State} (a : Nat) (hlf : s.lfOn = true) (hheld : s.rtc.held = []) :
    s.farRead a = s.takeItem (.read a) := by
  have hpow : s.rtc.powered = true := by
    simp only [State.lfOn, Bool.and_eq_true] at hlf
    exact hlf.1.1
  have hdrain : s.drain = s := by
    rw [State.drain, hheld]
    rfl
  simp [State.farRead, hpow, hdrain, hlf, hheld]

/-- With LFCLK stopped a read is held (R460). -/
theorem farRead_stopped {s : State} (a : Nat) (hpow : s.rtc.powered = true) (hlf : s.rtc.lf = false) :
    s.farRead a = s.holdItem (.read a) := by
  have hoff : s.lfOn = false := by simp [State.lfOn, hlf]
  simp [State.farRead, State.drain, lfRun_off hoff, hpow, hoff]

theorem takeItem_time (s : State) : s.takeItem (.read 0x40005004) = s.timeRead := by
  simp [State.takeItem]

theorem takeItem_stamp (s : State) : s.takeItem (.read 0x40005048) = s.stampRead := by
  simp [State.takeItem]

/-- A step on registers and the bus alone leaves the calendar. -/
theorem rtc_of_regs (s : State) (r : List (Nat × Word)) (d : Word) : ({ s with regs := r, busData := d } : State).rtc = s.rtc := rfl

/-- A read of RTC_TIME latches the other four registers of R418. -/
theorem timeRead_latches (s : State) :
    s.timeRead.rtc = s.rtc ∧ regGet s.timeRead.regs 0x40005008 = s.rtc.cal.dateWord ∧
      regGet s.timeRead.regs 0x4000500C = BitVec.ofNat 32 (s.rtc.sub % 65536) ∧
      regGet s.timeRead.regs 0x40005010 = BitVec.ofNat 32 s.rtc.tick ∧
      regGet s.timeRead.regs 0x40005014 = BitVec.ofNat 32 (s.rtc.tick / 2 ^ 32) := by
  refine ⟨rtc_of_regs s _ _, ?_⟩
  simp [State.timeRead, regGet_regSet]

theorem b2n_le (b : Bool) : b2n b ≤ 1 := by cases b <;> decide

/-- A read of RTC_STMP_SUB latches the stamp (R428). -/
theorem stampRead_latches (s : State) :
    regGet s.stampRead.regs 0x40005040 = s.rtc.stamp.1.timeWord ∧ regGet s.stampRead.regs 0x40005044 = s.rtc.stamp.1.dateWord ∧
      RTC_STMP_SUB_SUB.of s.stampRead.busData = s.rtc.stamp.2 % 65536 ∧ RTC_STMP_SUB_NEW.of s.stampRead.busData = b2n s.rtc.stampNew := by
  have hnew := b2n_le s.rtc.stampNew
  have hovr := b2n_le s.rtc.stampOvr
  refine ⟨by simp [State.stampRead, regGet_regSet], by simp [State.stampRead], ?_, ?_⟩ <;>
    simp only [State.stampRead, Field.of, BitVec.toNat_ofNat] <;>
    omega

theorem exec_rtcTimeRead (s : State) : exec .rtcTimeRead s = .next (s.farRead 0x40005004) := rfl

theorem exec_stmpSubRead (s : State) : exec .stmpSubRead s = .next (s.farRead 0x40005048) := rfl

/-- Settles O23: each read's latches, and for the Atoll domain its passage through the Strait. -/
theorem latchedReads : Obligations.LatchedReads := by
  refine ⟨fun k c s hc => ⟨_, rfl, capRead_latches s k.val c hc⟩, fun s => ?_, fun s => ⟨fun hlf hheld => ?_, fun hpow hlf => ?_⟩⟩
  · obtain ⟨hcyc, hlo, hhi⟩ := phaseRead_latches s
    exact ⟨_, rfl, rfl, hcyc, hlo, hhi, rfl⟩
  · obtain ⟨hrtc, hdate, hsub, hlo, hhi⟩ := timeRead_latches s
    obtain ⟨htime, hstamp, hpre, hnew⟩ := stampRead_latches s
    rw [exec_rtcTimeRead, exec_stmpSubRead, farRead_alone _ hlf hheld, farRead_alone _ hlf hheld, takeItem_time, takeItem_stamp]
    exact ⟨⟨_, rfl, rfl, hdate, hsub, hlo, hhi, hrtc⟩, ⟨_, rfl, htime, hstamp, hpre, hnew, rfl⟩⟩
  · rw [exec_rtcTimeRead, exec_stmpSubRead, farRead_stopped _ hpow hlf, farRead_stopped _ hpow hlf]
    exact ⟨⟨_, rfl, rfl⟩, ⟨_, rfl, rfl⟩⟩

end Sys2Proof.Machine
end


section
namespace Sys2Proof.Machine

/-! ### What an enqueue by firmware leaves (R211 to R213) -/

/-- `t` differs from `s` in what an enqueue reaches alone: registers, shared SRAM, the fabric, SHP and the free values. -/
def OnlyEnqueues (s t : State) : Prop :=
  t = { s with free := t.free, regs := t.regs, sram := t.sram, resvs := t.resvs, evf := t.evf, shp := t.shp }

section
variable {s t u : State}

theorem OnlyEnqueues.refl (s : State) : OnlyEnqueues s s := rfl

theorem OnlyEnqueues.trans (h : OnlyEnqueues s t) (k : OnlyEnqueues t u) : OnlyEnqueues s u :=
  Eq.trans k (congrArg (fun x : State => { x with
    free := u.free, regs := u.regs, sram := u.sram, resvs := u.resvs, evf := u.evf, shp := u.shp }) h)

theorem OnlyEnqueues.ite {c : Prop} [Decidable c] (h : OnlyEnqueues s t) (k : OnlyEnqueues s u) :
    OnlyEnqueues s (if c then t else u) := by
  split <;> assumption

theorem OnlyEnqueues.fold {α : Type} (f : State → α → State) (hf : ∀ s a, OnlyEnqueues s (f s a)) (l : List α) (s : State) :
    OnlyEnqueues s (l.foldl f s) := fold_keeps OnlyEnqueues OnlyEnqueues.refl (fun _ _ _ => OnlyEnqueues.trans) f hf l s

theorem OnlyEnqueues.mesh (h : OnlyEnqueues s t) : t.mesh = s.mesh := by rw [h]

theorem OnlyEnqueues.mac (h : OnlyEnqueues s t) : t.mac = s.mac := by rw [h]

theorem OnlyEnqueues.mdm (h : OnlyEnqueues s t) : t.mdm = s.mdm := by rw [h]

theorem OnlyEnqueues.wr (h : OnlyEnqueues s t) {f : Field} {v : Nat} : OnlyEnqueues s (t.wr f v) := h.trans rfl

theorem OnlyEnqueues.sramWrite (h : OnlyEnqueues s t) {a : Nat} {bs : List Byte} : OnlyEnqueues s (t.sramWrite a bs) := h.trans rfl

theorem OnlyEnqueues.fire (h : OnlyEnqueues s t) {src : Nat} : OnlyEnqueues s (t.fire src) :=
  h.trans (.ite (.ite rfl rfl) (.ite rfl rfl))

theorem OnlyEnqueues.relink : ∀ (l : List Frame) {t : State}, OnlyEnqueues s t → OnlyEnqueues s (t.relink l)
  | [], _, h => h
  | [_], _, h => h
  | _ :: g :: r, _, h => OnlyEnqueues.relink (g :: r) (.ite h h.sramWrite)

theorem OnlyEnqueues.putQueue (h : OnlyEnqueues s t) {b : Band} {q : Nat} {v : Word} {adm : Option (List Nat × List Nat × Nat)} :
    OnlyEnqueues s (t.putQueue b q v adm) := by
  have link (w : State) (h : OnlyEnqueues s w) (a : Nat) (x y : List Byte) (l : List Frame) :
      OnlyEnqueues s (((w.sramWrite (a + 24) x).sramWrite (a + 20) y).took.relink l) :=
    .relink l (h.sramWrite.sramWrite.trans rfl)
  have queued (x : Shp) : OnlyEnqueues s { t with shp := x } := h.trans rfl
  exact link _ (queued _) _ _ _ _

theorem OnlyEnqueues.setEnqres (h : OnlyEnqueues s t) {m q st : Nat} {b : Band} {claims : Option Nat} :
    OnlyEnqueues s (t.setEnqres m b q st claims) := by
  have result : OnlyEnqueues s (((t.wr (SHP_ENQRES_STATUS m) st).wr (SHP_ENQRES_QUEUE m) q).wr (SHP_ENQRES_BAND m) b.idx) := h.wr.wr.wr
  cases claims with
  | none => exact result
  | some c => exact result.wr

theorem OnlyEnqueues.enqueue (h : OnlyEnqueues s t) {m q : Nat} {b : Band} {v : Word} : OnlyEnqueues s (t.enqueue m b q v) :=
  .ite (.setEnqres (.putQueue (.ite h.wr h))) (.setEnqres (.ite (.fire h.sramWrite.wr) (.ite (.fire h.sramWrite.wr) h.sramWrite)))

/-- A frame of the firmware changes what an enqueue reaches (R35). -/
theorem OnlyEnqueues.fwSend (h : OnlyEnqueues s t) {m q : Nat} {b : Band} {f : FwFrame} {tx : FwTx} :
    OnlyEnqueues s (t.fwSend m b q f tx) := .enqueue (.sramWrite (.sramWrite h))

/-- So does an FWD (R240). -/
theorem OnlyEnqueues.sendFwd (h : OnlyEnqueues s t) {b : Band} {to_ dir : Nat} {path : List Nat} {cmd : List Byte} {tx : FwTx} :
    OnlyEnqueues s (t.sendFwd b to_ dir path cmd tx) := by
  unfold State.sendFwd
  split
  · exact h
  · exact h.fwSend

theorem OnlyEnqueues.fwdUp (h : OnlyEnqueues s t) {b : Band} {path : List Nat} {cmd : List Byte} {tx : FwTx} :
    OnlyEnqueues s (t.fwdUp b path cmd tx) := by
  refine .ite h ?_
  split
  · exact h.sendFwd
  · exact h

end

/-! ### FWD (R227, R238, R240) -/

/-- A node that is not in PATH has no place there. -/
theorem pathIdx_of_notMem {a : Nat} : ∀ {l : List Nat} (k : Nat), a ∉ l → pathIdx a l k = none
  | [], _, _ => rfl
  | x :: l, k, h => by
    obtain ⟨hx, hl⟩ := not_or.mp (mt List.mem_cons.mpr h)
    rw [pathIdx, if_neg (fun e => hx e.symm), pathIdx_of_notMem (k + 1) hl]

/-- The place of a node's first occurrence in PATH. -/
theorem pathIdx_append {a : Nat} (r : List Nat) : ∀ {l : List Nat} (k : Nat), a ∉ l → pathIdx a (l ++ a :: r) k = some (k + l.length)
  | [], _, _ => if_pos rfl
  | x :: l, k, h => by
    obtain ⟨hx, hl⟩ := not_or.mp (mt List.mem_cons.mpr h)
    rw [List.cons_append, pathIdx, if_neg (fun e => hx e.symm), pathIdx_append r (k + 1) hl, List.length_cons]
    congr 1
    omega

section
variable {s : State} {b : Band} {nb : Fin 256} {flags : Byte} {frame : List Byte} {tx : FwTx}

/-- A node that is in PATH already, or finds it full, discards an upward FWD. -/
theorem fwdUp_discards {path : List Nat} (cmd : List Byte) (h : 16 ≤ path.length ∨ path.contains (s.rd MAC_ADDR_SHORT) = true) :
    s.fwdUp b path cmd tx = s := by
  rw [State.fwdUp, if_pos]
  exact h.imp_right .inl

/-- Any other relay sends it to its parent, with its own address at the end of PATH. -/
theorem fwdUp_relays {path : List Nat} {i : Nat} (cmd : List Byte) (hlen : path.length < 16)
    (hown : path.contains (s.rd MAC_ADDR_SHORT) = false) (hdet : s.isDetached = false) (hpar : s.parentIdx = some i) :
    s.fwdUp b path cmd tx = s.sendFwd b (s.nbr i).short 0 (path ++ [s.rd MAC_ADDR_SHORT]) cmd tx := by
  have hgo : ¬ (16 ≤ path.length ∨ path.contains (s.rd MAC_ADDR_SHORT) = true ∨ s.isDetached = true) := by
    rw [hown, hdet]
    simpa using hlen
  rw [State.fwdUp, if_neg hgo, hpar]

/-- What a node itself has to say starts with an empty PATH. -/
theorem fwdUp_own {i : Nat} (cmd : List Byte) (hdet : s.isDetached = false) (hpar : s.parentIdx = some i) :
    s.fwdUp b [] cmd tx = s.sendFwd b (s.nbr i).short 0 [s.rd MAC_ADDR_SHORT] cmd tx := fwdUp_relays cmd (by decide) rfl hdet hpar

theorem exec_fwd_relay (hframe : frame ≠ []) (hid : bytesAt (meshPayload frame) 0 1 = 0x12) :
    exec (.fwd b nb ⟨flags, frame⟩ tx) s = .next (s.takeFwd b nb flags frame (meshPayload frame) tx) :=
  (if_neg hframe).trans (if_pos hid)

theorem exec_fwd_noFrame : exec (.fwd b nb ⟨flags, []⟩ tx) s = .next (s.sendOwed b tx) := by
  show execFwd b nb ⟨flags, []⟩ tx s = _
  simp [execFwd]

theorem exec_fwd_joinReq (hframe : frame ≠ []) (hid : bytesAt (meshPayload frame) 0 1 = 0x10)
    (hnamed : bytesAt (meshPayload frame) 9 2 = s.rd MAC_ADDR_SHORT) (hman : s.isManager = false) (hleaf : s.isLeaf = false) :
    exec (.fwd b nb ⟨flags, frame⟩ tx) s = .next (s.fwdUp b [] (meshPayload frame) tx) := by
  refine (if_neg hframe).trans ((if_neg ?_).trans (if_pos ?_))
  · exact fun e => absurd (hid.symm.trans e) (by decide)
  · exact ⟨hid, hnamed, by rw [hman]; rfl, by rw [hleaf]; rfl⟩

theorem exec_fwd_handOver (hframe : frame ≠ []) (hlow : 0x10 < bytesAt (meshPayload frame) 0 1)
    (hhigh : bytesAt (meshPayload frame) 0 1 ≤ 0x3F) (hid : bytesAt (meshPayload frame) 0 1 ≠ 0x12) :
    exec (.fwd b nb ⟨flags, frame⟩ tx) s = .next (s.handOver nb flags frame) := by
  refine (if_neg hframe).trans ((if_neg hid).trans ((if_neg ?_).trans (if_pos ⟨Nat.le_of_lt hlow, hhigh⟩)))
  rintro ⟨e, -⟩
  exact absurd e (Nat.ne_of_gt hlow)

theorem exec_fwd_noEffect (hframe : frame ≠ [])
    (hid : bytesAt (meshPayload frame) 0 1 < 0x10 ∨ 0x3F < bytesAt (meshPayload frame) 0 1) :
    exec (.fwd b nb ⟨flags, frame⟩ tx) s = .next s := by
  refine (if_neg hframe).trans ((if_neg ?_).trans ((if_neg ?_).trans (if_neg ?_)))
  · intro (e : bytesAt (meshPayload frame) 0 1 = 0x12)
    omega
  · rintro ⟨(e : bytesAt (meshPayload frame) 0 1 = 0x10), -⟩
    omega
  · rintro ⟨(hlow : 0x10 ≤ bytesAt (meshPayload frame) 0 1), (hhigh : bytesAt (meshPayload frame) 0 1 ≤ 0x3F)⟩
    omega

/-- An upward FWD is for the manager's mesh firmware; any other node relays it. -/
theorem takeFwd_up {p : List Byte} (hdir : bytesAt p 1 1 = 0) : s.takeFwd b nb flags frame p tx =
    if s.isManager then s.handOver nb flags frame else s.fwdUp b (fwdPath p) (fwdCmd p) tx := if_pos hdir

theorem takeFwd_down_foreign {p : List Byte} (hdir : bytesAt p 1 1 ≠ 0) (hown : (fwdPath p).contains (s.rd MAC_ADDR_SHORT) = false) :
    s.takeFwd b nb flags frame p tx = s := by
  have hmem : s.rd MAC_ADDR_SHORT ∉ fwdPath p := by simpa using hown
  simp only [State.takeFwd, if_neg hdir, pathIdx_of_notMem 0 hmem]

theorem takeFwd_down_arrives {p : List Byte} {r : List Nat} (hdir : bytesAt p 1 1 ≠ 0)
    (hpath : fwdPath p = s.rd MAC_ADDR_SHORT :: r) : s.takeFwd b nb flags frame p tx = s.handOver nb flags frame := by
  have hidx : pathIdx (s.rd MAC_ADDR_SHORT) (fwdPath p) 0 = some 0 := by
    rw [hpath]
    exact pathIdx_append r (l := []) 0 List.not_mem_nil
  simp only [State.takeFwd, if_neg hdir, hidx]

/-- A downward FWD goes on to the node before this one in PATH. -/
theorem takeFwd_down_relays {p : List Byte} {l r : List Nat} {a : Nat} (hdir : bytesAt p 1 1 ≠ 0)
    (hpath : fwdPath p = l ++ a :: s.rd MAC_ADDR_SHORT :: r) (hfirst : s.rd MAC_ADDR_SHORT ∉ l ++ [a]) :
    s.takeFwd b nb flags frame p tx = s.sendFwd b a 1 (fwdPath p) (fwdCmd p) tx := by
  have hsplit : fwdPath p = (l ++ [a]) ++ s.rd MAC_ADDR_SHORT :: r := by simp [hpath]
  have hidx : pathIdx (s.rd MAC_ADDR_SHORT) (fwdPath p) 0 = some (l.length + 1) := by
    rw [hsplit, pathIdx_append r 0 hfirst]
    simp
  have hprev : (fwdPath p).getD l.length 0 = a := by simp [hpath]
  simp only [State.takeFwd, if_neg hdir, hidx, hprev]

/-- The oldest command that a worker owes leaves the list (R241, R249). -/
theorem sendOwed_owed {d : Nat × List Byte} {r : List (Nat × List Byte)} (hman : s.isManager = false) (howed : s.mesh.owed = d :: r) :
    (s.sendOwed b tx).mesh.owed = r := by
  obtain ⟨dst, cmd⟩ := d
  have hsent : s.sendOwed b tx = ({ s with mesh := { s.mesh with owed := r } } : State).fwdUp b [] cmd tx := by
    simp [State.sendOwed, hman, howed]
  rw [hsent, (OnlyEnqueues.fwdUp (.refl _)).mesh]

end

end Sys2Proof.Machine
end


section
namespace Sys2Proof.Machine

/-! ### Beacons, reports and LEAVE (R234, R243, R249) -/

/-- A beacon leaves its record, and a router's first one makes it operational (R234, R243). -/
theorem beaconSend_records {b : Band} {tx : FwTx} {s : State} (hmay : s.mayBeacon = true) (hclk : s.tclkOn = true)
    (hband : ¬(s.mesh.startup = true ∧ b = .g24)) :
    ∃ t : State, exec (.beaconSend b tx) s = .next t ∧ t.mesh.beaconed = true ∧
      t.mesh.lastBeacon = some (s.nextBeacon b (beaconEntry (joinHash 0xFF))) ∧
      t.mesh.phase = (if s.mesh.phase = .joined then .operational else s.mesh.phase) := by
  have hgo : ¬ ((!s.mayBeacon) = true ∨ (!s.tclkOn) = true ∨ (s.mesh.startup = true ∧ b = .g24)) := by
    rw [hmay, hclk]
    simpa using hband
  have hwait (n : Nat) (c : Prop) [Decidable c] : (if c then s else s.tick n).mesh = s.mesh := by
    split
    · rfl
    · exact tick_mesh s n
  refine ⟨_, if_neg hgo, ?_⟩
  simp only [(OnlyEnqueues.fwSend (.refl _)).mesh, State.advanceMer, hwait, and_self]

theorem beaconSend_silent {b : Band} {tx : FwTx} {s : State} (hmay : s.mayBeacon = false) : exec (.beaconSend b tx) s = .next s :=
  if_pos (.inl (by rw [hmay]; rfl))

section
variable {b : Band} {which : List (Fin 256)} {tx : FwTx} {s : State}

/-- A report is due, and 256 cycles have passed since the last (R249). -/
def State.ReportsNow (s : State) : Prop :=
  s.isManager = false ∧ s.mesh.phase = .operational ∧ s.mesh.reportDue = true ∧ s.tclkOn = true ∧
    ∀ c, s.mesh.reported = some c → 256 ≤ (merCycle s.mer.now + 2 ^ 32 - c) % 2 ^ 32

/-- What a report that SHP takes leaves in the records. -/
def Mesh.afterReport (m : Mesh) (cycle : Nat) (bytes : List Byte) : Mesh :=
  { m with reported := some cycle, reportDue := false, swapFail := m.swapFail && bytesAt bytes 1 1 == 0 }

theorem afterReport_swapFail (m : Mesh) (cycle : Nat) {bytes : List Byte} (h : bytesAt bytes 1 1 ≠ 0) :
    (m.afterReport cycle bytes).swapFail = false := by
  simp [Mesh.afterReport, h]

/-- A report that is due now goes up, unless the node is detached; the records change when SHP takes it. -/
theorem exec_nbrReport (h : s.ReportsNow) : exec (.nbrReport b which tx) s =
    if s.isDetached ∨ s.parentIdx.isNone then .next s
    else
      let u := s.fwdUp b [] (s.reportBytesOf which) tx
      if u.rd (SHP_ENQRES_STATUS 2) ≠ stOK then .next u
      else .next { u with mesh := u.mesh.afterReport (merCycle s.mer.now) (s.reportBytesOf which) } := by
  obtain ⟨hman, hphase, hdue, hclk, hgap⟩ := h
  show execNbrReport b which tx s = _
  have hgo : ¬ (s.isManager = true ∨ s.mesh.phase ≠ .operational ∨ (!s.mesh.reportDue) = true ∨ (!s.tclkOn) = true) := by
    simp [hman, hphase, hdue, hclk]
  rw [execNbrReport, if_neg hgo]
  cases hrep : s.mesh.reported with
  | none => rfl
  | some c =>
    simp only [if_neg (Nat.not_lt.mpr (hgap c hrep))]
    rfl

theorem nbrReport_detached (h : s.ReportsNow) (hdet : s.isDetached = true ∨ s.parentIdx = none) :
    exec (.nbrReport b which tx) s = .next s := by
  rw [exec_nbrReport h, if_pos]
  exact hdet.imp_right (fun e => by rw [e]; rfl)

theorem nbrReport_sent {i : Nat} (h : s.ReportsNow) (hdet : s.isDetached = false) (hpar : s.parentIdx = some i) :
    let bytes := s.reportBytesOf which
    let u := s.sendFwd b (s.nbr i).short 0 [s.rd MAC_ADDR_SHORT] bytes tx
    ∃ t : State, exec (.nbrReport b which tx) s = .next t ∧ t.sram = u.sram ∧ t.regs = u.regs ∧ t.shp = u.shp ∧
      (u.rd (SHP_ENQRES_STATUS 2) ≠ stOK → t.mesh = s.mesh) ∧
      (u.rd (SHP_ENQRES_STATUS 2) = stOK → t.mesh.reported = some (merCycle s.mer.now) ∧ t.mesh.reportDue = false ∧
        (bytesAt bytes 1 1 ≠ 0 → t.mesh.swapFail = false)) := by
  intro bytes u
  have hgo : ¬ (s.isDetached = true ∨ s.parentIdx.isNone = true) := by simp [hdet, hpar]
  have hexec := exec_nbrReport (b := b) (which := which) (tx := tx) h
  simp only [if_neg hgo, fwdUp_own _ hdet hpar] at hexec
  by_cases hres : u.rd (SHP_ENQRES_STATUS 2) = stOK
  · rw [if_neg (fun hne => hne hres)] at hexec
    refine ⟨_, hexec, rfl, rfl, rfl, fun hne => absurd hres hne, fun _ => ⟨rfl, rfl, fun hsome => afterReport_swapFail _ _ hsome⟩⟩
  · rw [if_pos hres] at hexec
    exact ⟨u, hexec, rfl, rfl, rfl, fun _ => (OnlyEnqueues.sendFwd (.refl s)).mesh, fun hok => absurd hok hres⟩

end

theorem nbr_of_nbrs {s t : State} {i : Nat} {n : Nbr} (h : t.mac.nbrs = spSet (fun _ => Nbr.empty) s.mac.nbrs i n) :
    t.nbr i = n ∧ ∀ k, k ≠ i → t.nbr k = s.nbr k := by
  simp only [State.nbr, h]
  exact ⟨spGet_spSet_same _ _ _, fun k hk => spGet_spSet_other _ _ hk⟩

/-- The parent that takes a LEAVE invalidates the child's entry and drops the child (R249). -/
theorem leave_dropsChild {s : State} {cmd : List Byte} {i : Nat} (hid : bytesAt cmd 0 1 = 0x13)
    (hnbr : s.nbrOf (bytesAt cmd 1 8, true) = some i) (hchild : s.mesh.children.any (fun c => c.2 == i) = true) :
    ∃ t : State, exec (.leave cmd) s = .next t ∧ (t.nbr i).valid = false ∧ (∀ c ∈ t.mesh.children, c.2 ≠ i) ∧ t.regs = s.regs := by
  have hexec : exec (.leave cmd) s = .next (s.childLeaves (bytesAt cmd 1 8)) := congrArg Host.Outcome.next (if_pos hid)
  rw [State.childLeaves, hnbr] at hexec
  simp only [if_pos hchild] at hexec
  refine ⟨_, hexec, ?_, fun c hc => ?_, rfl⟩
  · rw [(nbr_of_nbrs (s := s) (i := i) rfl).1]
  · simpa using (List.mem_filter.mp hc).2

/-! ### Map updates and Assured requests (R39, R40, R140) -/

/-- The number of the map update that comes next on a link: the one after the newest RX slot's, any one where none is present (R140). -/
def State.nextMapId (s : State) (nb : Nat) (b : Band) : Nat :=
  let x := (s.fetchSlot (s.mapSlot nb b 1 0)).1
  let y := (s.fetchSlot (s.mapSlot nb b 1 1)).1
  match if olderSlot x y = 0 then y else x with
  | some p => (p.1 + 1) % 16
  | none => s.freeBelow 16

theorem nextMapId_lt (s : State) (nb : Nat) (b : Band) : s.nextMapId nb b < 16 := by
  unfold State.nextMapId
  simp only
  split <;> exact Nat.mod_lt _ (by decide)

/-- The update `x` of the link `key` is under way. -/
def State.putUpdate (s : State) (key : Nat) (x : Nat × Option Nat) : State :=
  { s with mdm := { s.mdm with updates := (key, x) :: s.mdm.updates.filter (fun p => p.1 ≠ key) } }

/-- A map update that may start is kept, and its frame is sent. -/
theorem exec_mapUpdateStart {nb : Fin 256} {b via : Band} {q : Fin 8} {tx : FwTx} {s : State} {m : List Nat}
    (hmap : s.newMap nb b = some m) (hmay : s.mayUpdate nb b = true) (hvalid : mapValid m = true) :
    ∃ (u : State) (f : FwFrame), exec (.mapUpdateStart nb b via q tx) s =
      .next ((u.putUpdate (nb.val * 2 + b.idx) (merCycle s.mer.now, some (s.nextMapId nb b))).fwSend 0 via q f tx) := by
  have hgo : ¬ ((!s.mayUpdate nb b) = true ∨ (!mapValid m) = true) := by simp [hmay, hvalid]
  have hexec : exec (.mapUpdateStart nb b via q tx) s = execMapUpdateStart nb b via q tx s := rfl
  rw [execMapUpdateStart, hmap] at hexec
  exact ⟨_, _, hexec.trans (if_neg hgo)⟩

/-- A map update leaves its number with its link (R140). -/
theorem mapUpdateStart_records {nb : Fin 256} {b via : Band} {q : Fin 8} {tx : FwTx} {s : State} {m : List Nat}
    (hmap : s.newMap nb b = some m) (hmay : s.mayUpdate nb b = true) (hvalid : mapValid m = true) :
    ∃ (t : State) (id : Nat), exec (.mapUpdateStart nb b via q tx) s = .next t ∧ id < 16 ∧
      t.mdm.updates.lookup (nb.val * 2 + b.idx) = some (merCycle s.mer.now, some id) := by
  obtain ⟨u, f, hexec⟩ := exec_mapUpdateStart (via := via) (q := q) (tx := tx) hmap hmay hvalid
  refine ⟨_, s.nextMapId nb b, hexec, nextMapId_lt s nb b, ?_⟩
  rw [(OnlyEnqueues.fwSend (.refl _)).mdm]
  exact List.lookup_cons_self

/-- The entry of flow `id` that an Assured request reads: the one kept, or a new one with the hops `a` and `b`. -/
def Mesh.srcFor (m : Mesh) (id a b : Nat) : AssuredSrc :=
  (m.srcs.find? (fun x => x.id == id)).getD { id := id, seq := 0, hopA := a, hopB := b }

/-- That entry after the request: the hops of the copies, but at the manager, and the next sequence number (R40, R250). -/
def State.nextSrc (s : State) (id a b : Nat) : AssuredSrc :=
  let y := s.mesh.srcFor id a b
  let x := if s.isManager then y else { y with hopA := a, hopB := b }
  { x with seq := (x.seq + 1) % 65536 }

theorem assuredRequest_srcs (id : Nat) (ba bb : Band) (fa fb : FlowCopy) (ta tb : FwTx) (s : State) :
    ∃ t : State, exec (.assuredRequest id ba bb fa fb ta tb) s = .next t ∧
      t.mesh.srcs = s.mesh.srcs.filter (fun y => y.id ≠ id) ++ [s.nextSrc id fa.hop fb.hop] := by
  refine ⟨_, rfl, ?_⟩
  rw [(OnlyEnqueues.fwSend (.fwSend (.refl _))).mesh]
  rfl

/-- The entry that was kept moves on. -/
theorem nextSrc_kept {s : State} {id a b : Nat} {x : AssuredSrc} (h : s.mesh.srcs.find? (fun x => x.id == id) = some x) :
    let hops := if s.isManager then (x.hopA, x.hopB) else (a, b)
    s.nextSrc id a b = { id := x.id, seq := (x.seq + 1) % 65536, hopA := hops.1, hopB := hops.2 } := by
  simp only [State.nextSrc, Mesh.srcFor, h, Option.getD_some]
  split <;> rfl

/-- A new entry begins at sequence number 1. -/
theorem nextSrc_new {s : State} {id a b : Nat} (h : s.mesh.srcs.find? (fun x => x.id == id) = none) :
    s.nextSrc id a b = { id := id, seq := 1, hopA := a, hopB := b } := by
  simp only [State.nextSrc, Mesh.srcFor, h, Option.getD_none]
  split <;> rfl

/-! ### Neighbour writes (R165) -/

/-- The fields of an entry that MAC_NBCFG holds are those of the word `v`, and its EUI-64 is `eui`. -/
def Nbr.Configured (n : Nbr) (v : Word) (eui : Nat) : Prop :=
  n.valid = v.getLsbD 31 ∧ n.parent = v.getLsbD 30 ∧ n.cls = v.toNat / 2 ^ 28 % 4 ∧ n.key1 = v.toNat / 2 ^ 24 % 16 ∧
    n.key0 = v.toNat / 2 ^ 20 % 16 ∧ n.short = v.toNat % 65536 ∧ n.eui = eui

theorem Nbr.Configured.touch {n : Nbr} {v : Word} {eui : Nat} (h : n.Configured v eui) (now : Nat) : (n.touch now).Configured v eui := h

/-- Entry `i` with the fields of MAC_NBCFG from the word `v`. -/
def State.nbConfigured (s : State) (i : Nat) (v : Word) : Nbr :=
  { s.nbr i with valid := v.getLsbD 31, parent := v.getLsbD 30, cls := v.toNat / 2 ^ 28 % 4, key1 := v.toNat / 2 ^ 24 % 16,
                 key0 := v.toNat / 2 ^ 20 % 16, short := v.toNat % 65536, eui := (s.nbr i).euiNew }

theorem nbConfigured_configured (s : State) (i : Nat) (v : Word) (w : DupWin) :
    ({ s.nbConfigured i v with win := w } : Nbr).Configured v (s.nbr i).euiNew := ⟨rfl, rfl, rfl, rfl, rfl, rfl, rfl⟩

theorem clearSlots_mac (s : State) (i : Nat) : (s.clearSlots i).mac = s.mac :=
  (OnlyEnqueues.fold (fun t j => t.sramWrite (t.mapSlot i .sg 0 0 + j * 64) [0]) (fun _ _ => .sramWrite (.refl _)) _ s).mac

theorem putOffset_mac (s : State) (i : Nat) (o : Offset) : (s.putOffset i o).mac = s.mac := rfl

theorem forgetNbr_mac (s : State) (i : Nat) : (s.forgetNbr i).mac = s.mac := rfl

theorem sndDropIndex_mac (s : State) (i : Nat) : (s.sndDropIndex i).mac = s.mac := rfl

theorem putNbr_nbrs (s : State) (i : Nat) (n : Nbr) : (s.putNbr i n).mac.nbrs = spSet (fun _ => Nbr.empty) s.mac.nbrs i n := rfl

/-- A write of MAC_NBCFG replaces the entry of its index alone, whether or not the identity is new. -/
theorem nbWrite_entry (s : State) (i : Nat) (v : Word) : ∃ n : Nbr, n.Configured v (s.nbr i).euiNew ∧
    (s.nbWrite i v).mac.nbrs = spSet (fun _ => Nbr.empty) s.mac.nbrs i n := by
  have hconf := nbConfigured_configured s i v
  unfold State.nbWrite
  simp only
  split
  · rw [sndDropIndex_mac, forgetNbr_mac, clearSlots_mac, putOffset_mac]
    exact ⟨_, (hconf ⟨false, 0, 0, 0⟩).touch s.mer.now, putNbr_nbrs s i _⟩
  · split
    · exact ⟨_, (hconf (s.nbr i).win).touch s.mer.now, putNbr_nbrs s i _⟩
    · exact ⟨_, hconf (s.nbr i).win, putNbr_nbrs s i _⟩

end Sys2Proof.Machine
end


section
namespace Sys2Proof.Machine

/-! ### Chart sets (R247, R248) -/

theorem PerBand.get_set {α : Type} (p : PerBand α) (b c : Band) (v : α) : (p.set b v).get c = if c = b then v else p.get c := by
  cases b <;> cases c <;> rfl

/-- The writes of a fragment's items reach registers alone. -/
theorem plainWrites_leave (l : List (Nat × Word)) (s : State) : LeavesStores s (l.foldl (fun t w => t.plainWrite w.1 w.2) s) :=
  .fold (fun t (w : Nat × Word) => t.plainWrite w.1 w.2) (fun t _ => .plainWrite (.refl t)) l s

/-- After a fragment the set is that of its SWAPCYC. -/
theorem chartSet_with_swap (c : ChartSet) (p : List Byte) : (c.with p).swap = some (bytesAt p 4 4) := by
  simp only [ChartSet.with]
  split
  next h => exact h
  next => rfl

/-- A fragment leaves the Charts in service, and its swap cycle is kept (R248). -/
theorem chartSet_takes {s : State} {p : List Byte} (hlen : 8 ≤ p.length) (hid : bytesAt p 0 1 = 0x15)
    (hfits : bytesAt p 2 1 + bytesAt p 3 1 ≤ 256) :
    ∃ t : State, exec (.chartSet p) s = .next t ∧ t.shp = s.shp ∧ t.mesh.swapCyc = bytesAt p 4 4 ∧
      (t.mesh.sets.get (ctlBand (bytesAt p 1 1))).swap = some (bytesAt p 4 4) := by
  have hgo : ¬ (p.length < 8 ∨ bytesAt p 0 1 ≠ 0x15 ∨ 256 < bytesAt p 2 1 + bytesAt p 3 1) := by omega
  refine ⟨_, congrArg Host.Outcome.next (if_neg hgo), (plainWrites_leave _ s).shp, rfl, ?_⟩
  rw [PerBand.get_set, if_pos rfl]
  exact chartSet_with_swap _ p

/-- The sets of the bands `l` are used up. -/
def useUp (l : List Band) (sets : PerBand ChartSet) : PerBand ChartSet := l.foldl (fun x b => x.set b ChartSet.none) sets

theorem useUp_get {b : Band} : ∀ (l : List Band) (sets : PerBand ChartSet), b ∈ l ∨ sets.get b = ChartSet.none →
    (useUp l sets).get b = ChartSet.none
  | [], _, h => h.resolve_left List.not_mem_nil
  | c :: l, sets, h => by
    refine useUp_get l _ ?_
    rw [PerBand.get_set]
    split
    next => exact .inr rfl
    next hbc => exact h.imp_left (fun hb => (List.mem_cons.mp hb).resolve_left hbc)

/-- `t` is what a swap that fails leaves: every Chart register as it was, and the failure to be reported. -/
def SwapFailed (s t : State) : Prop := t.shp = s.shp ∧ t.regs = s.regs ∧ t.mesh.swapFail = true ∧ t.mesh.swapCyc = 0

/-- At the cycle before the swap the sets that are due are used up; whole ones are committed, unless a fragment is missing, and others
fail (R248). -/
theorem chartSetCommit_due {s : State} (hdue : s.setsDue (s.mer.cyc % 2 ^ 32) ≠ []) :
    ∃ t : State, exec .chartSetCommit s = .next t ∧
      (∀ b ∈ s.setsDue (s.mer.cyc % 2 ^ 32), t.mesh.sets.get b = ChartSet.none) ∧
      ((s.setsDue (s.mer.cyc % 2 ^ 32)).all s.setWhole = true → s.took.commitShp.rd SHP_COMMIT_STATUS = stOK →
        if s.freeBelow 2 = 0 then t.shp = s.took.commitShp.shp ∧ t.regs = s.took.commitShp.regs else SwapFailed s t) ∧
      ((s.setsDue (s.mer.cyc % 2 ^ 32)).all s.setWhole = false → SwapFailed s t) := by
  have hused (b : Band) (hb : b ∈ s.setsDue (s.mer.cyc % 2 ^ 32)) (sets : PerBand ChartSet) :
      (useUp (s.setsDue (s.mer.cyc % 2 ^ 32)) sets).get b = ChartSet.none := useUp_get _ sets (.inl hb)
  by_cases hwhole : (s.setsDue (s.mer.cyc % 2 ^ 32)).all s.setWhole = true
  · have hnot : ¬ (s.setsDue (s.mer.cyc % 2 ^ 32)).all s.setWhole = false := by simp only [hwhole, Bool.true_eq_false, not_false_eq_true]
    by_cases hfree : s.freeBelow 2 = 0
    · by_cases hok : s.took.commitShp.rd SHP_COMMIT_STATUS = stOK
      · refine ⟨_, (if_neg hdue).trans ((if_pos ⟨hwhole, hfree⟩).trans (if_pos hok)), fun b hb => hused b hb _, fun _ _ => ?_,
          fun h => absurd h hnot⟩
        rw [if_pos hfree]
        exact ⟨rfl, rfl⟩
      · exact ⟨_, (if_neg hdue).trans ((if_pos ⟨hwhole, hfree⟩).trans (if_neg hok)), fun b hb => hused b hb _, fun _ h => absurd h hok,
          fun h => absurd h hnot⟩
    · refine ⟨_, (if_neg hdue).trans (if_neg (fun h => hfree h.2)), fun b hb => hused b hb _, fun _ _ => ?_,
        fun h => absurd h hnot⟩
      rw [if_neg hfree]
      exact ⟨rfl, rfl, rfl, rfl⟩
  · exact ⟨_, (if_neg hdue).trans (if_neg (fun h => hwhole h.1)), fun b hb => hused b hb _, fun h => absurd h hwhole,
      fun _ => ⟨rfl, rfl, rfl, rfl⟩⟩

theorem chartSetCommit_notDue {s : State} (hdue : s.setsDue (s.mer.cyc % 2 ^ 32) = []) : exec .chartSetCommit s = .next s := if_pos hdue

/-! ### The mesh firmware together -/

/-- Settles O51, clause by clause: what FWD does by the identity and PATH of its frame, and the record that each command leaves. -/
theorem meshTraffic : Obligations.MeshTraffic := by
  refine ⟨fun b nb flags tx s => ⟨fun frame hframe => ⟨fun hid hdir => ⟨fun hman => ?_, fun hman hpath => ?_, ?_⟩,
      fun hid hdir => ⟨fun hown => ?_, fun r hpath => ?_, fun l r a hpath hfirst => ?_⟩, fun i hid hnamed hman hleaf hdet hpar => ?_,
      fun hlow hhigh hid => exec_fwd_handOver hframe hlow hhigh hid, fun hid => exec_fwd_noEffect hframe hid⟩,
      fun d r hman howed => ⟨_, exec_fwd_noFrame, sendOwed_owed hman howed⟩⟩,
    fun b nb tx s => ⟨fun hmay hclk hband => beaconSend_records hmay hclk hband, beaconSend_silent, ?_,
      fun cmd i hid hnbr hchild => leave_dropsChild hid hnbr hchild, fun via q m hmap hmay hvalid => mapUpdateStart_records hmap hmay hvalid,
      ?_, fun v => ?_⟩,
    fun s => ⟨fun p hlen hid hfits => chartSet_takes hlen hid hfits, chartSetCommit_due, chartSetCommit_notDue⟩⟩
  · rw [exec_fwd_relay hframe hid, takeFwd_up hdir, if_pos hman]
  · rw [exec_fwd_relay hframe hid, takeFwd_up hdir, hman, if_neg Bool.false_ne_true, fwdUp_discards _ hpath]
  · intro i hman hlen hown hdet hpar
    rw [exec_fwd_relay hframe hid, takeFwd_up hdir, hman, if_neg Bool.false_ne_true, fwdUp_relays _ hlen hown hdet hpar]
  · rw [exec_fwd_relay hframe hid, takeFwd_down_foreign hdir hown]
  · rw [exec_fwd_relay hframe hid, takeFwd_down_arrives hdir hpath]
  · rw [exec_fwd_relay hframe hid, takeFwd_down_relays hdir hpath hfirst]
  · rw [exec_fwd_joinReq hframe hid hnamed hman hleaf, fwdUp_own _ hdet hpar]
  · intro which hman hphase hdue hclk hgap
    have hnow : s.ReportsNow := ⟨hman, hphase, hdue, hclk, hgap⟩
    exact ⟨nbrReport_detached hnow, fun i hdet hpar => nbrReport_sent hnow hdet hpar⟩
  · intro id ba bb fa fb tb
    obtain ⟨t, ht, hsrcs⟩ := assuredRequest_srcs id ba bb fa fb tx tb s
    refine ⟨t, ht, fun x hx => ?_, fun hnone => ?_, fun y hy hne => ?_⟩ <;> rw [hsrcs]
    · exact List.mem_append_right _ (List.mem_singleton.mpr (nextSrc_kept hx).symm)
    · exact List.mem_append_right _ (List.mem_singleton.mpr (nextSrc_new hnone).symm)
    · exact List.mem_append_left _ (List.mem_filter.mpr ⟨hy, by simpa using hne⟩)
  · obtain ⟨n, ⟨hvalid, hparent, hcls, hkey1, hkey0, hshort, heui⟩, hnbrs⟩ := nbWrite_entry s (s.rd MAC_NBIDX_INDEX) v
    obtain ⟨hsame, hother⟩ := nbr_of_nbrs hnbrs
    refine ⟨s.nbWrite (s.rd MAC_NBIDX_INDEX) v, rfl, ?_⟩
    rw [hsame]
    exact ⟨hvalid, hparent, hcls, hkey1, hkey0, hshort, heui, hother⟩

end Sys2Proof.Machine
end


section
namespace Sys2Proof.Machine

-- One declaration at a time: the check's memory limit holds few threads.
set_option Elab.async false

/-! ### An LFCLK edge counts one tick (R69, R416) -/

/-- `t` has the RTC_TICK and the Meridian state of `s`. -/
def SameClocks (s t : State) : Prop := t.rtc.tick = s.rtc.tick ∧ t.mer = s.mer

theorem SameClocks.refl (s : State) : SameClocks s s := ⟨rfl, rfl⟩

theorem SameClocks.trans {s t u : State} (h : SameClocks s t) (k : SameClocks t u) : SameClocks s u :=
  ⟨k.1.trans h.1, k.2.trans h.2⟩

theorem SameClocks.ite {s t u : State} {c : Prop} [Decidable c] (h : SameClocks s t) (k : SameClocks s u) :
    SameClocks s (if c then t else u) := by
  split <;> assumption

section
variable {s t : State}

/-- A step on from `t` that replaces neither. -/
theorem SameClocks.on {u : State} (h : SameClocks s t) (htick : u.rtc.tick = t.rtc.tick := by exact rfl)
    (hmer : u.mer = t.mer := by exact rfl) : SameClocks s u := h.trans ⟨htick, hmer⟩

theorem SameClocks.fold {α : Type} (h : SameClocks s t) (f : State → α → State) (hf : ∀ u a, SameClocks u (f u a)) (l : List α) :
    SameClocks s (l.foldl f t) :=
  h.trans (fold_keeps SameClocks SameClocks.refl (fun _ _ _ => SameClocks.trans) f hf l t)

theorem SameClocks.fire (h : SameClocks s t) {src : Nat} : SameClocks s (t.fire src) :=
  h.on (congrArg (·.tick) (t.fire_rtc src)) (t.fire_mer src)

theorem SameClocks.wakeSignal (h : SameClocks s t) {k : Nat} : SameClocks s (t.wakeSignal k) := .ite h.on h

theorem SameClocks.fireAlarm (h : SameClocks s t) : SameClocks s t.fireAlarm := h.fire.wakeSignal

theorem SameClocks.svrClose (h : SameClocks s t) {fin start : Calendar} {w : CloseWhy} : SameClocks s (t.svrClose fin start w) := by
  unfold State.svrClose
  split
  · exact h
  · exact h.on

theorem SameClocks.svrSample (h : SameClocks s t) {src par : Nat} {r : Int} : SameClocks s (t.svrSample src par r) :=
  h.fold (fun u k => u.svrTake k (u.svrValue k (u.rd (SVR_M_CFG_SGN k) == 1) r)) (fun u _ => (SameClocks.refl u).on) _

theorem SameClocks.svrCount (h : SameClocks s t) {src par : Nat} : SameClocks s (t.svrCount src par) :=
  h.fold (fun u k => u.setSlot k (fun x => x.count 1)) (fun u _ => (SameClocks.refl u).on) _

theorem SameClocks.svrSecondSamples (h : SameClocks s t) : SameClocks s t.svrSecondSamples := by
  have same (u : State) := SameClocks.refl u
  exact (((h.fold _ (fun u _ => (same u).svrSample) _).fold _ (fun u _ => (same u).svrSample) _).fold _
    (fun u _ => .ite (same u).svrCount (same u)) _).fold _ (fun u _ => .ite (same u).svrCount (same u)) _

theorem SameClocks.svrSecond (h : SameClocks s t) {running set : Bool} {c : Calendar} : SameClocks s (t.svrSecond running set c) := by
  refine .ite h (.ite (.ite h.on h) (.ite h.svrSecondSamples (.svrSecondSamples ?_)))
  split
  · exact h.svrClose.on
  · exact .ite h.svrClose h

theorem SameClocks.svrCalset (h : SameClocks s t) {old new : Calendar} : SameClocks s (t.svrCalset old new) := .ite h.svrClose.on h

theorem SameClocks.edgeInterval (h : SameClocks s t) : SameClocks s t.edgeInterval := by
  have alarm : SameClocks s ({ t with rtc := { t.rtc with almCount := 0 } } : State).fireAlarm := SameClocks.fireAlarm h.on
  exact .ite (.ite (.ite alarm.on alarm) h.on) h

theorem SameClocks.edgeSet (h : SameClocks s t) : SameClocks s t.edgeSet := by
  simp only [State.edgeSet]
  split
  · exact h
  · have applied (c : Prop) [Decidable c] (p : RtcSet) : SameClocks s (if c then t.applySetParts p else t) := .ite h.on h
    refine .ite ?_ ?_
    all_goals exact (applied _ _).on

theorem SameClocks.edgeSecond (h : SameClocks s t) {set quiet : Bool} {old : Calendar} : SameClocks s (t.edgeSecond set quiet old) := by
  have second : SameClocks s (((t.fire 16).wakeSignal 6).svrSecond t.tclkOn set t.rtc.cal) := h.fire.wakeSignal.svrSecond
  exact .ite second.fireAlarm second

theorem SameClocks.edgeTimer (h : SameClocks s t) : SameClocks s t.edgeTimer := .ite h.wakeSignal h

theorem SameClocks.plainWrite (h : SameClocks s t) {a : Nat} {v : Word} : SameClocks s (t.plainWrite a v) := by
  unfold State.plainWrite
  split
  · exact h.on
  · exact h

theorem SameClocks.writeSetcmd (h : SameClocks s t) {m : Master} {v : Word} : SameClocks s (t.writeSetcmd m v) := .ite h.on h

theorem SameClocks.bkupWrite (h : SameClocks s t) {m : Master} {n : Nat} {v : Word} : SameClocks s (t.bkupWrite m n v) := .ite h.on h

theorem SameClocks.writeAtoll (h : SameClocks s t) {m : Master} {a : Nat} {v : Word} : SameClocks s (t.writeAtoll m a v) := by
  unfold State.writeAtoll
  split
  · exact h.writeSetcmd
  split
  · exact .ite h.plainWrite h
  split
  · exact h.plainWrite
  split
  · exact .ite h.plainWrite h
  split
  · exact h.plainWrite
  split
  · exact h.bkupWrite
  · exact h.plainWrite

/-- A read into the domain reaches the bus, registers and the marks of the stamp. -/
theorem SameClocks.read (h : SameClocks s t) (d : Word) (r : List (Nat × Word)) (c : Rtc) (hc : c.tick = t.rtc.tick) :
    SameClocks s { t with busData := d, regs := r, rtc := c } := h.on hc

theorem SameClocks.timeRead (h : SameClocks s t) : SameClocks s t.timeRead := h.read _ _ t.rtc rfl

theorem SameClocks.stampRead (h : SameClocks s t) : SameClocks s t.stampRead := h.read _ _ _ rfl

theorem SameClocks.takeItem (h : SameClocks s t) (x : HeldItem) : SameClocks s (t.takeItem x) := by
  cases x with
  | write m a v => exact h.writeAtoll
  | record bs => exact h.on
  | read a =>
    unfold State.takeItem
    exact .ite h.timeRead (.ite h.stampRead h)

theorem SameClocks.takeFirst (h : SameClocks s t) : ∀ l : List HeldItem, SameClocks s (t.takeFirst l)
  | [] => h
  | x :: _ => h.takeItem x

end

theorem edgeCount_tick (s : State) : s.edgeCount.rtc.tick = (s.rtc.tick + 1) % 2 ^ 48 := by
  simp only [State.edgeCount]
  split <;> rfl

theorem edgeCount_mer (s : State) : s.edgeCount.mer = s.mer := by
  simp only [State.edgeCount]
  split <;> rfl

/-- An edge leaves no snapshot of MER due (R414). -/
theorem edgeRecord_mer (s : State) : s.edgeRecord.mer = { s.mer with recDue := false } := by
  simp only [State.edgeRecord]
  split
  next => rfl
  next h => rw [← Bool.eq_false_iff.mpr h]

theorem edgeRecord_tick (s : State) : s.edgeRecord.rtc.tick = s.rtc.tick := by
  simp only [State.edgeRecord]
  split <;> rfl

/-- An LFCLK edge that comes counts one tick, and of Meridian it takes the snapshot that is due alone. -/
theorem lfEdge_clocks {s : State} (h : s.lfOn = true) :
    s.lfEdge.rtc.tick = (s.rtc.tick + 1) % 2 ^ 48 ∧ s.lfEdge.mer = { s.mer with recDue := false } := by
  let s1 := (({ s with rtc := s.rtc.sample } : State).edgeCount).edgeRecord
  have set : SameClocks s1 s1.edgeInterval.edgeSet := (SameClocks.refl s1).edgeInterval.edgeSet
  have counted : SameClocks s1 s.lfEdge := by
    rw [State.lfEdge, if_pos h]
    exact .takeFirst (.edgeTimer (.ite (.edgeSecond (.ite set.svrCalset set)) (.ite set.svrCalset set))) _
  obtain ⟨htick, hmer⟩ := counted
  rw [htick, hmer, edgeRecord_tick, edgeCount_tick, edgeRecord_mer, edgeCount_mer]
  exact ⟨rfl, rfl⟩

/-! ### A step with no command (R43, R65, R410, R416) -/

theorem step_idle {s : State} (h : s.pending = []) : step s = .next s.idleStep := by
  rw [step, h]

/-- With no power-off wanted, PWR waits for nothing. -/
theorem tryOff_of_notWanted {s : State} (h : s.pwr.offWanted = false) : s.tryOff = s := by
  simp [State.tryOff, h]

/-- With no scan of SVR owed, the die is not asked for one. -/
theorem svrLate_of_sheet {s : State} (h : s.rd SVR_CFG_EN = 1 → s.svr.sheet.isSome = true) : s.svrLate = s := by
  have hlt : s.rd SVR_CFG_EN < 2 := rdF_lt s.regs SVR_CFG_EN
  by_cases hen : s.rd SVR_CFG_EN = 1
  · simp [State.svrLate, Option.isSome_iff_ne_none.mp (h hen)]
  · have hoff : s.rd SVR_CFG_EN = 0 := by omega
    simp [State.svrLate, State.rdB, hoff]

theorem nextOwner_nil (last : Nat) : nextOwner last [] = none := by
  simp [nextOwner]

/-- With no request waiting, the interpreter has none to work on. -/
theorem hostLate_of_idle {s : State} (hparked : s.hif.parked = none) (hreqs : s.hif.ereqs = []) : s.hostLate = s := by
  simp [State.hostLate, hparked, State.serve, hreqs, nextOwner_nil]

/-- With TCLK running an idle step is one TCLK cycle where nothing waits. -/
theorem idleStep_tclk {s : State} (htclk : s.tclkOn = true) (hoff : s.pwr.offWanted = false)
    (hsvr : s.rd SVR_CFG_EN = 1 → s.svr.sheet.isSome = true) (hparked : s.hif.parked = none) (hreqs : s.hif.ereqs = []) :
    s.idleStep = s.tick 1 := by
  have hen : (s.tick 1).rd SVR_CFG_EN = s.rd SVR_CFG_EN := tick_rd s 1 SVR_CFG_EN (by decide) (by simp [inEvf])
  rw [State.idleStep, if_pos htclk, tryOff_of_notWanted (by simpa using hoff), svrLate_of_sheet (by simpa [hen] using hsvr),
    hostLate_of_idle (by simpa using hparked) (by simpa using hreqs)]

theorem idleStep_lfclk {s : State} (htclk : s.tclkOn = false) (hlf : s.lfOn = true) : s.idleStep = s.lfEdge := by
  simp [State.idleStep, htclk, hlf]

/-- With neither clock running nothing happens. -/
theorem idleStep_stopped {s : State} (htclk : s.tclkOn = false) (hlf : s.rtc.powered = false ∨ s.rtc.lf = false) :
    s.idleStep = s := by
  have hand : (s.rtc.powered && s.rtc.lf) = false := Bool.and_eq_false_iff.mpr hlf
  have hoff : s.lfOn = false := by rw [State.lfOn, hand, Bool.false_and]
  simp [State.idleStep, htclk, hoff, hand]

/-- Settles O36: an idle step is one TCLK cycle, one LFCLK edge, or nothing, by the clocks that run. -/
theorem idleStepCountsTime : Obligations.IdleStepCountsTime := by
  intro s hpending
  rw [step_idle hpending]
  refine ⟨fun htclk hoff hsvr hparked hreqs => ?_, fun htclk hlf => ?_, fun htclk hlf => ?_⟩
  · rw [idleStep_tclk htclk hoff hsvr hparked hreqs]
    exact ⟨_, rfl, by simp, by simp, tick_rtc s 1, tick_sram s 1, tick_engs s 1⟩
  · rw [idleStep_lfclk htclk hlf]
    exact ⟨_, rfl, lfEdge_clocks hlf⟩
  · rw [idleStep_stopped htclk hlf]

end Sys2Proof.Machine
end


section
namespace Sys2Proof.Machine

-- One declaration at a time: the check's memory limit holds few threads.
set_option Elab.async false

/-! ### OFF with a write in the Strait (R447, R458) -/

/-- TCLK and LFCLK run with both bands off, and the Strait into the Atoll domain holds a write of HIF that sets SGEN of RFC_CTRL. No
transfer to a register outside the domain gets there, but the obligation speaks of every state. -/
def strayHeldWrite : State :=
  { State.reset with start := .none, rtc := { State.reset.rtc with lf := true, held := [.write .hif RFC_CTRL_SGEN.addr 1] } }

theorem strayHeldWrite_tclkOn : strayHeldWrite.tclkOn = true := by decide

/-- The held write is HIF's, so that it keeps none of E2's back (R22). -/
theorem strayHeldWrite_not_barred : strayHeldWrite.barred (.eng 2) 1 = false := by decide

/-- OFF disables the band, then the LFCLK edges that store MER's record take the held write, which enables it again. -/
theorem powerOff_strayHeldWrite_enables : (strayHeldWrite.powerOff (.eng 2)).rd (rfcEn .sg) = 1 := by decide +kernel

theorem exec_pwrOffCmd {s : State} {m : Master} (h : s.barred m 1 = false) : exec (.pwrOffCmd m) s = .next (s.powerOff m) :=
  congrArg Host.Outcome.next (writes_unbarred h _)

/-- Refutes O31 by the clause of OFF: at `strayHeldWrite` the 2.4 GHz band stays disabled and the SG band does not. -/
theorem not_supplyEvents : ¬ Obligations.SupplyEvents := by
  rintro ⟨-, hpower⟩
  obtain ⟨hoff, -⟩ := hpower strayHeldWrite
  obtain ⟨t, ht, hdisabled, -⟩ := hoff (.eng 2) rfl strayHeldWrite_tclkOn strayHeldWrite_not_barred
  obtain rfl : strayHeldWrite.powerOff (.eng 2) = t :=
    Host.Outcome.next.inj ((exec_pwrOffCmd strayHeldWrite_not_barred).symm.trans ht)
  exact absurd (powerOff_strayHeldWrite_enables.symm.trans hdisabled) (by decide)

end Sys2Proof.Machine
end


section
namespace Sys2Proof.Machine

-- One declaration at a time: the check's memory limit holds few threads.
set_option Elab.async false

/-! ### Radio, scheduler and luminaire leave Meridian (R43, R91, R168, R204, R287) -/

/-- A register of SYS, of MER or of a policer. -/
abbrev timeReg (a : Nat) : Prop := a < 0x40001000 ∨ (0x4000B100 ≤ a ∧ a < 0x4000B500) ∨ (0x4000C000 ≤ a ∧ a < 0x4000D000)

/-- `t` has the Meridian state of `s`, and the registers of SYS, of MER and of the policers. -/
def KeepsTime (s t : State) : Prop := t.mer = s.mer ∧ ∀ a, timeReg a → regGet t.regs a = regGet s.regs a

theorem KeepsTime.refl (s : State) : KeepsTime s s := ⟨rfl, fun _ _ => rfl⟩

theorem KeepsTime.trans {s t u : State} (h : KeepsTime s t) (k : KeepsTime t u) : KeepsTime s u :=
  ⟨k.1.trans h.1, fun a ha => (k.2 a ha).trans (h.2 a ha)⟩

theorem KeepsTime.ite {s t u : State} {c : Prop} [Decidable c] (h : KeepsTime s t) (k : KeepsTime s u) :
    KeepsTime s (if c then t else u) := by
  split <;> assumption

section
variable {s t : State}

theorem KeepsTime.rd (h : KeepsTime s t) (f : Field) (hf : timeReg f.addr) : t.rd f = s.rd f := congrArg f.of (h.2 f.addr hf)

/-- A step on from `t` that replaces neither registers nor Meridian. -/
theorem KeepsTime.on {u : State} (h : KeepsTime s t) (hregs : u.regs = t.regs := by exact rfl)
    (hmer : u.mer = t.mer := by exact rfl) : KeepsTime s u := h.trans ⟨hmer, fun _ _ => by rw [hregs]⟩

theorem KeepsTime.fold {α : Type} (h : KeepsTime s t) (f : State → α → State) (hf : ∀ u a, KeepsTime u (f u a)) (l : List α) :
    KeepsTime s (l.foldl f t) :=
  h.trans (fold_keeps KeepsTime KeepsTime.refl (fun _ _ _ => KeepsTime.trans) f hf l t)

/-- A field of another register is written. -/
theorem KeepsTime.wr (h : KeepsTime s t) (f : Field) (v : Nat) (hf : ¬ timeReg f.addr) : KeepsTime s (t.wr f v) :=
  h.trans ⟨rfl, fun _ ha => regGet_wrF _ _ _ _ (fun e => hf (e ▸ ha))⟩

theorem KeepsTime.inc (h : KeepsTime s t) (f : Field) (k : Nat) (hf : ¬ timeReg f.addr) : KeepsTime s (t.inc f k) := h.wr f _ hf

theorem KeepsTime.fire (h : KeepsTime s t) {src : Nat} : KeepsTime s (t.fire src) :=
  h.trans ⟨t.fire_mer src, fun a ha => t.fire_keeps src a (fun ⟨hlo, hhi⟩ => by omega)⟩

/-! Frames complete. -/

theorem KeepsTime.relink : ∀ (l : List Frame) {t : State}, KeepsTime s t → KeepsTime s (t.relink l)
  | [], _, h => h
  | [_], _, h => h
  | _ :: g :: r, _, h => KeepsTime.relink (g :: r) (.ite h h.on)

theorem KeepsTime.completeFrame (h : KeepsTime s t) {b : Band} {f : Frame} {st : Nat} : KeepsTime s (t.completeFrame b f st) := by
  have late : ¬ timeReg (SHP_CNT_MISSDL b).addr := by cases b <;> decide
  have linked (u : State) (l : List Frame) (h : KeepsTime s u) : KeepsTime s ((u.relink l).fire 81) := .fire (.relink l h)
  simp only [State.completeFrame]
  split
  · exact ((linked _ _ h.on).inc _ _ late).fire
  · exact linked _ _ h.on

theorem KeepsTime.completeEach {b : Band} {st : Frame → Nat} : ∀ (l : List Frame) {t : State}, KeepsTime s t →
    KeepsTime s (t.completeEach b st l)
  | [], _, h => h
  | _ :: r, _, h => KeepsTime.completeEach r h.completeFrame

theorem KeepsTime.completeWhere (h : KeepsTime s t) {b : Band} {p : Frame → Bool} {st : Frame → Nat} :
    KeepsTime s (t.completeWhere b p st) := .completeEach _ h

theorem KeepsTime.stopWalking (h : KeepsTime s t) : KeepsTime s t.stopWalking :=
  have completed : KeepsTime s ((t.completeWhere .sg (fun f => decide (f.queue ≤ 4)) (fun _ => stBadState)).completeWhere .g24
    (fun f => decide (f.queue ≤ 4)) (fun _ => stBadState)) := h.completeWhere.completeWhere
  completed.on

/-! The radio changes, and its channels with it. -/

theorem KeepsTime.rssiOff (h : KeepsTime s t) {b : Band} : KeepsTime s (t.rssiOff b) := by
  have chainA : ¬ timeReg (RFC_RSSI_RSSIA b).addr := by cases b <;> decide
  have chainB : ¬ timeReg (RFC_RSSI_RSSIB b).addr := by cases b <;> decide
  have offA (c : Prop) [Decidable c] : KeepsTime s (if c then t.wr (RFC_RSSI_RSSIA b) 0x80 else t) := .ite (h.wr _ _ chainA) h
  exact .ite ((offA _).wr _ _ chainB) (offA _)

theorem KeepsTime.radio (h : KeepsTime s t) {b : Band} {r : BandRadio} : KeepsTime s (t.radio b r) := by
  have blanked : ¬ timeReg (MAC_CNT0_BLANKED b).addr := by cases b <;> decide
  have set : KeepsTime s (t.setRfc b (r.timed (t.rfcB b) t.mer.tstamp)) := h.on
  exact .rssiOff (.inc set.on (MAC_CNT0_BLANKED b) _ blanked)

theorem KeepsTime.endCalcmd (h : KeepsTime s t) {st : Nat} : KeepsTime s (t.endCalcmd st) := by
  have ended : KeepsTime s { t with rfc := { t.rfc with cmd := none } } := h.on
  exact ((ended.wr RFC_CALSTAT_STATUS st (by decide)).wr RFC_CALSTAT_BUSY 0 (by decide)).fire

theorem KeepsTime.tryCal (h : KeepsTime s t) {b : Band} : KeepsTime s (t.tryCal b) := by
  have runs (c : CalCmd) : KeepsTime s { t with rfc := { t.rfc with cmd := some c } } := h.on
  unfold State.tryCal
  split
  · refine .ite ?_ h
    split
    · exact (runs _).radio
    · exact h.endCalcmd
  · exact h

theorem KeepsTime.updateRx (h : KeepsTime s t) {b : Band} : KeepsTime s (t.updateRx b) :=
  .ite h.radio (.ite h.radio.tryCal (.ite h.radio.tryCal h))

theorem KeepsTime.followWalk (h : KeepsTime s t) {was : Bool} : KeepsTime s (t.followWalk was) := .ite h h.updateRx.updateRx

/-- A step of Meridian moves the dimming outputs alone (R285). -/
theorem KeepsTime.pwmStepped (h : KeepsTime s t) : KeepsTime s t.pwmStepped := by
  refine h.fold _ (fun u n => ?_) _
  simp only
  split
  · exact .refl u
  · exact .ite (.refl u) (KeepsTime.refl u).on

end

end Sys2Proof.Machine
end


section
namespace Sys2Proof.Machine

-- One declaration at a time: the check's memory limit holds few threads.
set_option Elab.async false

/-! ### What TCLK cycles leave of Meridian (R43, R59) -/

theorem slewSynth_mer (s : State) : ∃ r, s.slewSynth.mer = { s.mer with rateAt := r } := by
  simp only [State.slewSynth]
  split
  · exact ⟨_, rfl⟩
  · exact ⟨_, rfl⟩

/-- Of MER, the passage of time moves the accumulator, TSTAMP and the point that the rate is counted from. -/
theorem tick_mer (s : State) (n : Nat) : ∃ r, (s.tick n).mer =
    { s.mer with time := (s.mer.time + n * s.rd MER_INC_INC) % 2 ^ 80, tstamp := (s.mer.tstamp + n) % 2 ^ 64, rateAt := r } := by
  have hinc : (s.enterSources n).rd MER_INC_INC = s.rd MER_INC_INC := rd_enterSources s n _ (by simp [inEvf])
  obtain ⟨r, h⟩ := slewSynth_mer { s.enterSources n with
    tclk := (s.enterSources n).tclk + n,
    mer := { (s.enterSources n).mer with time := ((s.enterSources n).mer.time + n * (s.enterSources n).rd MER_INC_INC) % 2 ^ 80,
                                         tstamp := ((s.enterSources n).mer.tstamp + n) % 2 ^ 64 },
    flt := { (s.enterSources n).flt with wdg := (List.range (s.enterSources n).flt.wdg.length).map (fun r =>
               (s.enterSources n).flt.wdg.getD r 0 + (if (s.enterSources n).wdgRuns r then n else 0)) } }
  refine ⟨r, h.trans ?_⟩
  simp only [hinc, State.enterSources_mer]

@[simp] theorem tick_refEdge (s : State) (n : Nat) : (s.tick n).mer.refEdge = s.mer.refEdge := by
  obtain ⟨r, h⟩ := tick_mer s n
  rw [h]

@[simp] theorem tick_ivals (s : State) (n : Nat) : (s.tick n).mer.ivals = s.mer.ivals := by
  obtain ⟨r, h⟩ := tick_mer s n
  rw [h]

/-- A field of MER other than the increment reads as before. -/
theorem tick_rd_mer (s : State) (n : Nat) (f : Field) (hlo : 0x4000C000 ≤ f.addr) (h : f.addr ≠ MER_INC_INC.addr) :
    (s.tick n).rd f = s.rd f := tick_rd s n f h (fun ⟨_, hhi⟩ => by omega)

theorem tick_period (s : State) (n : Nat) : (s.tick n).period = s.period := by
  simp only [State.period, tick_rd_mer s n MER_PERIOD_PERIOD (by decide) (by decide),
    tick_rd_mer s n MER_CFG_NOMFREQ (by decide) (by decide)]

theorem tick_perLow (s : State) (n : Nat) : (s.tick n).perLow = s.perLow := by
  simp only [State.perLow, tick_rd_mer s n MER_CFG_NOMFREQ (by decide) (by decide)]

theorem tick_perHigh (s : State) (n : Nat) : (s.tick n).perHigh = s.perHigh := by
  simp only [State.perHigh, tick_rd_mer s n MER_CFG_NOMFREQ (by decide) (by decide)]

/-! ### The states of MER (R51, R52, R60) -/

/-- MER in state `st` with the counts of the state begun, before what its entry does to the rest. -/
def State.merEntered (s : State) (st : Nat) : State :=
  { s with regs := walkBits (wrF s.regs MER_STAT_STATE st),
           mer := { s.mer with valid := 0, good := 0, stepped := false, since := s.mer.tstamp, sinceCyc := s.mer.time / 2 ^ 48,
                               rateAt := s.mer.tstamp, wasLocked := s.mer.wasLocked || st == 2 } }

theorem setMer_of_state {s : State} {st : Nat} (h : s.rd MER_STAT_STATE = st) : s.setMer st = s := if_pos h

/-- A change of state stops the walking and fires, no more. -/
theorem setMer_keeps {s : State} {st : Nat} (h : s.rd MER_STAT_STATE ≠ st) : KeepsTime (s.merEntered st) (s.setMer st) := by
  have entered := KeepsTime.refl (s.merEntered st)
  rw [State.setMer, if_neg h]
  exact .fire (.ite entered.stopWalking entered)

/-- The walk bits stand in SHP_STAT. -/
theorem regGet_walkBits (m : List (Nat × Word)) (a : Nat) (h : a ≠ SHP_STAT_SGWALK.addr) : regGet (walkBits m) a = regGet m a :=
  (regGet_wrF _ SHP_STAT_G24WALK _ a h).trans (regGet_wrF _ SHP_STAT_SGWALK _ a h)

theorem rd_merEntered (s : State) (st : Nat) (f : Field) (h : f.addr ≠ SHP_STAT_SGWALK.addr) :
    (s.merEntered st).rd f = rdF (wrF s.regs MER_STAT_STATE st) f := congrArg f.of (regGet_walkBits _ _ h)

/-- MER_STAT shows the state entered. -/
theorem rd_setMer_state (s : State) {st : Nat} (hst : st < 8) : (s.setMer st).rd MER_STAT_STATE = st := by
  by_cases h : s.rd MER_STAT_STATE = st
  · rw [setMer_of_state h, h]
  · rw [(setMer_keeps h).rd _ (by decide), rd_merEntered s st _ (by decide)]
    exact (rdF_wrF _ _ _ rfl).trans (Nat.mod_eq_of_lt hst)

theorem rd_enterSynth_state (s : State) : s.enterSynth.rd MER_STAT_STATE = 4 := by
  have hset := rd_setMer_state s (st := 4) (by decide)
  simp only [State.enterSynth]
  split
  · exact hset
  · exact (rdF_wrF_apart _ MER_INC_INC MER_STAT_STATE _ rfl rfl).trans hset

end Sys2Proof.Machine
end


section
namespace Sys2Proof.Machine

-- One declaration at a time: the check's memory limit holds few threads.
set_option Elab.async false

/-! ### What a change of state or rate leaves of the mains edges (R55, R56) -/

/-- `t` has the reference edge and the intervals of `s`, and shows its MISSED and ZCVALID. -/
def KeepsEdges (s t : State) : Prop :=
  t.mer.refEdge = s.mer.refEdge ∧ t.mer.ivals = s.mer.ivals ∧ t.rd MER_STAT_MISSED = s.rd MER_STAT_MISSED ∧
    t.rd MER_STAT_ZCVALID = s.rd MER_STAT_ZCVALID

theorem KeepsEdges.refl (s : State) : KeepsEdges s s := ⟨rfl, rfl, rfl, rfl⟩

theorem KeepsEdges.ite {s t u : State} {c : Prop} [Decidable c] (h : KeepsEdges s t) (k : KeepsEdges s u) :
    KeepsEdges s (if c then t else u) := by
  split <;> assumption

theorem KeepsTime.edges {s t : State} (h : KeepsTime s t) : KeepsEdges s t :=
  ⟨congrArg (·.refEdge) h.1, congrArg (·.ivals) h.1, h.rd _ (by decide), h.rd _ (by decide)⟩

section
variable {s t : State}

theorem KeepsEdges.trans {u : State} (h : KeepsEdges s t) (k : KeepsEdges t u) : KeepsEdges s u := by
  obtain ⟨href, hivals, hmissed, hvalid⟩ := h
  obtain ⟨kref, kivals, kmissed, kvalid⟩ := k
  exact ⟨kref.trans href, kivals.trans hivals, kmissed.trans hmissed, kvalid.trans hvalid⟩

/-- The increment is written and the counts of the state move. -/
theorem KeepsEdges.wrInc (h : KeepsEdges s t) (v : Nat) (m : Mer) (href : m.refEdge = t.mer.refEdge) (hivals : m.ivals = t.mer.ivals) :
    KeepsEdges s { t with regs := wrF t.regs MER_INC_INC v, mer := m } :=
  h.trans ⟨href, hivals, rdF_wrF_apart _ _ _ _ rfl rfl, rdF_wrF_apart _ _ _ _ rfl rfl⟩

theorem KeepsEdges.setMer (h : KeepsEdges s t) {st : Nat} : KeepsEdges s (t.setMer st) := by
  by_cases hst : t.rd MER_STAT_STATE = st
  · rwa [setMer_of_state hst]
  · have shown (f : Field) (hf : f.addr ≠ SHP_STAT_SGWALK.addr) (hapart : MER_STAT_STATE.apart f = true) :
        (t.merEntered st).rd f = t.rd f := (rd_merEntered t st f hf).trans (rdF_wrF_apart _ _ _ _ rfl hapart)
    have entered : KeepsEdges t (t.merEntered st) := ⟨rfl, rfl, shown _ (by decide) rfl, shown _ (by decide) rfl⟩
    exact (h.trans entered).trans (setMer_keeps hst).edges

theorem KeepsEdges.enterSynth (h : KeepsEdges s t) : KeepsEdges s t.enterSynth := .ite h.setMer (h.setMer.wrInc _ _ rfl rfl)

theorem KeepsEdges.enterHoldover (h : KeepsEdges s t) : KeepsEdges s t.enterHoldover := .ite h.setMer.enterSynth h.setMer

theorem KeepsEdges.mainsRules (h : KeepsEdges s t) {edge : Nat} : KeepsEdges s (t.mainsRules edge) :=
  .ite (.ite (.ite h.setMer h) (.ite (h.wrInc _ _ rfl rfl) h)) (.ite (h.wrInc _ _ rfl rfl) (.ite h.setMer h))

end

/-! ### MAINS_EDGE and MAINS_EDGE_MISSING (R54 to R56) -/

theorem missEdges_zero (s : State) : s.missEdges 0 = s := by
  unfold State.missEdges
  split <;> rfl

/-- The reference and the counts after one missed edge, before what it does to the state of MER. -/
def State.edgeMissed (s : State) (r : Nat) : State :=
  { s with regs := incF s.regs MER_STAT_MISSED,
           mer := { s.mer with refEdge := some (r + 1 * s.period), valid := 0, good := if s.mainsSteers then 0 else s.mer.good } }

/-- One missed edge moves the reference on by a period and counts (R55). -/
theorem missEdges_one {s : State} {r : Nat} (h : s.mer.refEdge = some r) :
    (s.missEdges 1).mer.refEdge = some (r + s.period) ∧
      (s.missEdges 1).rd MER_STAT_MISSED = min (s.rd MER_STAT_MISSED + 1) 255 := by
  have same := KeepsEdges.refl (s.edgeMissed r)
  have missed : KeepsEdges (s.edgeMissed r) (s.missEdges 1) := by
    simp only [State.missEdges, h, Nat.one_ne_zero, if_false]
    exact .ite same.enterHoldover same
  obtain ⟨href, -, hmissed, -⟩ := missed
  refine ⟨href.trans ?_, hmissed.trans (rdF_incF _ _ _ rfl)⟩
  rw [State.edgeMissed, Nat.one_mul]

/-- The first edge is the reference and shows the phase (R55). -/
theorem firstEdge_shows (s : State) (edge : Nat) : (s.firstEdge edge).mer.refEdge = some edge ∧
    (s.firstEdge edge).rd MER_ZCERR_ZCERR = s.merAt edge % 65536 ∧ (s.firstEdge edge).rd MER_STAT_MISSED = 0 ∧
    (s.firstEdge edge).rd MER_STAT_ZCVALID = 1 := by
  refine ⟨rfl, ?_, ?_, rdF_wrF _ _ _ rfl⟩
  · refine (rdF_wrF_apart _ _ _ _ rfl rfl).trans ((rdF_wrF_apart _ _ _ _ rfl rfl).trans ((rdF_wrF _ _ _ rfl).trans ?_))
    exact Nat.mod_mod _ _
  · exact (rdF_wrF_apart _ _ _ _ rfl rfl).trans (rdF_wrF _ _ _ rfl)

/-- A valid edge is the reference and its interval enters the last eight (R55, R56). -/
theorem validEdge_shows (s : State) (edge d : Nat) : (s.validEdge edge d).mer.refEdge = some edge ∧
    (s.validEdge edge d).mer.ivals = (d :: s.mer.ivals).take 8 ∧ (s.validEdge edge d).rd MER_STAT_MISSED = 0 ∧
    (s.validEdge edge d).rd MER_STAT_ZCVALID = 1 :=
  ⟨rfl, rfl, (rdF_wrF_apart _ _ _ _ rfl rfl).trans (rdF_wrF _ _ _ rfl), rdF_wrF _ _ _ rfl⟩

/-- TSTAMP of the edge that the filter has passed at TSTAMP `t` (R54). -/
def State.edgeAt (s : State) (t : Nat) : Nat := t - zcFilter (s.rd MER_CFG_ZCFILT) - s.rd MER_ZCDLY_ZCDLY

section
variable {s : State} {t r : Nat} {rising : Bool}

theorem exec_mainsEdge_first (htclk : s.tclkOn = true) (hedge : rising ≠ s.rdB MER_CFG_ZCEDGE) (href : s.mer.refEdge = none) :
    exec (.mainsEdge t rising) s = .next (((s.advanceTo t).firstEdge (s.edgeAt t)).fire 114) := by
  have href' : (s.advanceTo t).mer.refEdge = none := (tick_refEdge s _).trans href
  show execMainsEdge t rising s = _
  simp only [execMainsEdge, htclk, beq_false_of_ne hedge, href']
  rfl

/-- What an edge whose interval is valid leaves, from the state `s` that time has reached. -/
def State.edgeTaken (s : State) (edge d : Nat) : State :=
  let s2 := (s.validEdge edge d).fire 114
  let s3 := s2.mainsRules edge
  if s2.mainsSteers then (if s3.mer.stepped ∧ !s2.mer.stepped then s3.pwmStepped else s3).followWalk s2.merWalks else s2

/-- An edge within 125 % of the period after the reference: too early it is ignored, valid it is taken (R55). -/
theorem exec_mainsEdge_window (htclk : s.tclkOn = true) (hedge : rising ≠ s.rdB MER_CFG_ZCEDGE) (href : s.mer.refEdge = some r)
    (hwindow : 4 * (s.edgeAt t - r) ≤ 5 * (s.advanceTo t).period) :
    exec (.mainsEdge t rising) s =
      if 4 * (s.edgeAt t - r) < 3 * (s.advanceTo t).period then .next (s.advanceTo t)
      else if s.edgeAt t - r < s.perLow ∨ s.perHigh < s.edgeAt t - r then .next (((s.advanceTo t).missEdges 1).wr MER_STAT_ZCVALID 0)
      else .next ((s.advanceTo t).edgeTaken (s.edgeAt t) (s.edgeAt t - r)) := by
  have href' : (s.advanceTo t).mer.refEdge = some r := (tick_refEdge s _).trans href
  have hmissed : missedBefore (s.advanceTo t).period (s.edgeAt t - r) = 0 := if_pos hwindow
  have hlow : (s.advanceTo t).perLow = s.perLow := tick_perLow s _
  have hhigh : (s.advanceTo t).perHigh = s.perHigh := tick_perHigh s _
  show execMainsEdge t rising s = _
  simp only [State.edgeAt] at hmissed
  simp only [execMainsEdge, htclk, beq_false_of_ne hedge, href', hmissed, missEdges_zero, Option.getD_some, hlow, hhigh,
    State.edgeAt, Bool.not_true, Bool.or_self, Bool.false_eq_true, if_false]
  rfl

theorem exec_mainsEdge_early (htclk : s.tclkOn = true) (hedge : rising ≠ s.rdB MER_CFG_ZCEDGE) (href : s.mer.refEdge = some r)
    (hwindow : 4 * (s.edgeAt t - r) ≤ 5 * (s.advanceTo t).period) (hearly : 4 * (s.edgeAt t - r) < 3 * (s.advanceTo t).period) :
    exec (.mainsEdge t rising) s = .next (s.advanceTo t) := by
  rw [exec_mainsEdge_window htclk hedge href hwindow, if_pos hearly]

theorem exec_mainsEdge_valid (htclk : s.tclkOn = true) (hedge : rising ≠ s.rdB MER_CFG_ZCEDGE) (href : s.mer.refEdge = some r)
    (hwindow : 4 * (s.edgeAt t - r) ≤ 5 * (s.advanceTo t).period) (hlate : 3 * (s.advanceTo t).period ≤ 4 * (s.edgeAt t - r))
    (hlow : s.perLow ≤ s.edgeAt t - r) (hhigh : s.edgeAt t - r ≤ s.perHigh) :
    exec (.mainsEdge t rising) s = .next ((s.advanceTo t).edgeTaken (s.edgeAt t) (s.edgeAt t - r)) := by
  have hrange : ¬ (s.edgeAt t - r < s.perLow ∨ s.perHigh < s.edgeAt t - r) := by omega
  rw [exec_mainsEdge_window htclk hedge href hwindow, if_neg (Nat.not_lt.mpr hlate), if_neg hrange]

end

/-- What the rules of the manager's state do after it leaves the edge as it was taken. -/
theorem edgeTaken_keeps (s : State) (edge d : Nat) : KeepsEdges (s.validEdge edge d) (s.edgeTaken edge d) := by
  have taken := (KeepsTime.refl (s.validEdge edge d)).fire (src := 114) |>.edges
  have ruled := taken.mainsRules (edge := edge)
  have same (u : State) := KeepsTime.refl u
  have stepped (u : State) (c : Prop) [Decidable c] : KeepsTime u (if c then u.pwmStepped else u) := .ite (same u).pwmStepped (same u)
  exact .ite (ruled.trans (stepped _ _).followWalk.edges) taken

theorem exec_mainsEdgeMissing {s : State} {r : Nat} (htclk : s.tclkOn = true) (href : s.mer.refEdge = some r) :
    exec .mainsEdgeMissing s = .next ((s.advanceTo (r + s.period * 5 / 4)).missEdges 1) := by
  show execMainsEdgeMissing s = _
  simp only [execMainsEdgeMissing, href, htclk, if_true]

/-! ### ACQUIRE_TIMEOUT and HOLDOVER_TIMEOUT (R52, R60) -/

section
variable {s : State} (htclk : s.tclkOn = true) (hsteers : s.mainsSteers = true) (hauto : s.rdB MER_CFG_AUTOSYNTH = true)
include htclk hsteers hauto

theorem exec_acquireTimeout (hst : s.rd MER_STAT_STATE = 1) :
    exec .acquireTimeout s = .next ((s.advanceTo (s.mer.since + 2 * tclkHz)).enterSynth.followWalk false) :=
  if_pos ⟨htclk, hsteers, hst, hauto⟩

theorem exec_holdoverTimeout (hst : s.rd MER_STAT_STATE = 3) :
    exec .holdoverTimeout s = .next (s.advanceMer ((s.mer.sinceCyc + s.rd MER_HOLDCYC_HOLDCYC) * 65536)).enterSynth :=
  if_pos ⟨htclk, hsteers, hst, hauto⟩

end

/-- Settles O37: an edge is the first, early or valid by its distance from the reference, and no rule of a manager's state undoes it. -/
theorem mainsEdges : Obligations.MainsEdges := by
  refine ⟨fun s htclk => ⟨fun t rising hedge => ⟨fun href => ?_, fun r href hwindow => ⟨fun hearly => ?_, fun hlate hlow hhigh => ?_⟩⟩,
    fun r href => ?_⟩, fun s htclk hsteers hauto => ⟨fun hst => ?_, fun hst => ?_⟩⟩
  · obtain ⟨hnew, hphase, hmissed, hvalid⟩ := firstEdge_shows (s.advanceTo t) (s.edgeAt t)
    have fired := (KeepsTime.refl ((s.advanceTo t).firstEdge (s.edgeAt t))).fire (src := 114)
    obtain ⟨kref, -, kmissed, kvalid⟩ := fired.edges
    exact ⟨_, exec_mainsEdge_first htclk hedge href, kref.trans hnew, (fired.rd _ (by decide)).trans hphase, kmissed.trans hmissed,
      kvalid.trans hvalid⟩
  · exact exec_mainsEdge_early htclk hedge href hwindow hearly
  · obtain ⟨hnew, hivals, hmissed, hvalid⟩ := validEdge_shows (s.advanceTo t) (s.edgeAt t) (s.edgeAt t - r)
    obtain ⟨kref, kivals, kmissed, kvalid⟩ := edgeTaken_keeps (s.advanceTo t) (s.edgeAt t) (s.edgeAt t - r)
    have hsame : (s.advanceTo t).mer.ivals = s.mer.ivals := tick_ivals s _
    rw [hsame] at hivals
    exact ⟨_, exec_mainsEdge_valid htclk hedge href hwindow hlate hlow hhigh, kref.trans hnew, kivals.trans hivals,
      kmissed.trans hmissed, kvalid.trans hvalid⟩
  · have href' : (s.advanceTo (r + s.period * 5 / 4)).mer.refEdge = some r := (tick_refEdge s _).trans href
    obtain ⟨hnew, hmissed⟩ := missEdges_one href'
    refine ⟨_, exec_mainsEdgeMissing htclk href, hnew.trans ?_, hmissed.trans ?_⟩
    · rw [State.advanceTo, tick_period]
    · rw [State.advanceTo, tick_rd_mer s _ _ (by decide) (by decide)]
  · exact ⟨_, exec_acquireTimeout htclk hsteers hauto hst,
      ((KeepsTime.refl _).followWalk.rd _ (by decide)).trans (rd_enterSynth_state _)⟩
  · exact ⟨_, exec_holdoverTimeout htclk hsteers hauto hst, rd_enterSynth_state _⟩

end Sys2Proof.Machine
end


section
namespace Sys2Proof.Machine

-- One declaration at a time: the check's memory limit holds few threads.
set_option Elab.async false

/-! ### What follows a boundary leaves of Meridian (R88, R191, R201, R217, R218, R277, R287) -/

section
variable {s t : State}

/-! A hopping band takes the entry of the slot, and late frames complete. -/

theorem KeepsTime.preempt (h : KeepsTime s t) {b : Band} : KeepsTime s (t.preempt b) := by
  have hop : KeepsTime s (t.preemptHop b) := .ite h.radio h
  unfold State.preempt State.preemptCal
  dsimp only
  split
  · exact hop
  · exact .radio (.inc hop.on RFC_CALSTAT_ABORTS _ (by decide))

theorem KeepsTime.macHop (h : KeepsTime s t) {b : Band} {e : Nat} : KeepsTime s (t.macHop b e) := by
  have moved : KeepsTime s (t.setWin b e) := h.wr (RFC_RXWIN_ENTRY b) e (by cases b <;> decide)
  refine .ite h ?_
  dsimp only
  split
  · exact moved.radio
  · exact moved.radio
  · exact moved.preempt.radio
  · exact moved.preempt.radio
  · exact moved.on
  · exact moved
  · exact moved
  · exact moved

theorem KeepsTime.slotHop (h : KeepsTime s t) : KeepsTime s t.slotHop := .ite h.macHop h

theorem KeepsTime.sweep (h : KeepsTime s t) : KeepsTime s t.sweep := h.completeWhere.completeWhere

/-! Charts that are due enter service, and CHPOS shows the cycle. -/

theorem KeepsTime.setShp (h : KeepsTime s t) {b : Band} {x : BandShp} : KeepsTime s (t.setShp b x) := h.on

theorem KeepsTime.closeOcc (h : KeepsTime s t) {b : Band} : KeepsTime s (t.closeOcc b) := .ite h.setShp.completeWhere h.setShp

theorem KeepsTime.readmit (h : KeepsTime s t) {b : Band} {f : Frame} : KeepsTime s (t.readmit b f) := by
  unfold State.readmit
  split
  · exact h
  · dsimp only
    split
    · exact h.setShp.setShp
    · split
      · exact h.setShp.completeFrame
      · exact h.setShp

theorem KeepsTime.swapChart (h : KeepsTime s t) {b : Band} : KeepsTime s (t.swapChart b) := by
  have pend : ¬ timeReg (pendField b).addr := by cases b <;> decide
  exact (h.closeOcc.setShp.wr _ 0 pend).fire.fold _ (fun u _ => (KeepsTime.refl u).readmit) _

theorem KeepsTime.swapCharts (h : KeepsTime s t) {c : Nat} : KeepsTime s (t.swapCharts c) := by
  have first : KeepsTime s (if t.swapDue .sg c then t.swapChart .sg else t) := .ite h.swapChart h
  exact .ite first.swapChart first

theorem KeepsTime.showCycle (h : KeepsTime s t) {b : Band} {c : Nat} : KeepsTime s (t.showCycle b c) :=
  .ite (h.wr (SHP_CHPOS_CYCIDX b) _ (by cases b <;> decide)) h

/-! The zones and the photodiodes count the cycle. -/

theorem KeepsTime.moveDuty (h : KeepsTime s t) {n : Nat} : KeepsTime s (t.moveDuty n) := by
  have duty : ¬ timeReg (SNS_PWM_DUTY_DUTY n).addr := by
    dsimp only [timeReg]
    omega
  have set (v : Nat) : KeepsTime s (t.setDuty n v) := (h.wr _ v duty).on
  have moved (v : Nat) (p : Pwm) : KeepsTime s ((t.setDuty n v).putPwm n p) := (set v).on
  exact .ite h (.ite (moved _ _).fire (moved _ _))

theorem KeepsTime.zonesCycle (h : KeepsTime s t) : KeepsTime s t.zonesCycle := by
  have age (z : Nat) : ¬ timeReg (SNS_SZ_AGE_AGE z).addr := by
    dsimp only [timeReg]
    omega
  exact (h.fold _ (fun u z => (KeepsTime.refl u).inc _ _ (age z)) _).fold _ (fun u _ => (KeepsTime.refl u).moveDuty) _

theorem KeepsTime.pdCycle (h : KeepsTime s t) : KeepsTime s t.pdCycle := by
  refine h.fold _ (fun u k => ?_) _
  have put (p : Pd) : KeepsTime u (u.putPd k p) := (KeepsTime.refl u).on
  dsimp only
  refine .ite (.refl u) ?_
  split
  · exact put _
  · exact .ite (put _) (put _)

end

/-- The end of a start is none of Meridian's (R466, R476). -/
theorem startDone_mer (s : State) : s.startDone.mer = s.mer := by
  have doze (u : State) : u.checkDoze.mer = u.mer := by
    unfold State.checkDoze
    split <;> rfl
  have sign (u : State) : u.signCold.mer = u.mer := by
    unfold State.signCold
    split <;> rfl
  unfold State.startDone
  rw [doze, fltSync_regs]
  exact sign _

theorem slotStart_mer (s : State) : s.slotStart.mer = s.mer := by
  unfold State.slotStart
  split
  · exact startDone_mer s
  · rfl

end Sys2Proof.Machine
end


section
namespace Sys2Proof.Machine

-- One declaration at a time: the check's memory limit holds few threads.
set_option Elab.async false

/-! ### Fields written in turn -/

/-- A field that no step of a fold writes reads as before. -/
theorem rd_foldl_unwritten {α : Type} (f : State → α → State) (g : Field) : ∀ (l : List α) (s : State),
    (∀ t, ∀ a ∈ l, (f t a).rd g = t.rd g) → (l.foldl f s).rd g = s.rd g
  | [], _, _ => rfl
  | a :: l, s, h => (rd_foldl_unwritten f g l _ (fun t b hb => h t b (List.mem_cons_of_mem a hb))).trans (h s a List.mem_cons_self)

/-- A field that step `p` alone of a fold over a range writes. -/
theorem rd_foldl_range (f : State → Nat → State) (g : Field) (s : State) {p n : Nat} (hp : p < n)
    (h : ∀ t q, q ≠ p → (f t q).rd g = t.rd g) :
    ((List.range n).foldl f s).rd g = (f ((List.range p).foldl f s) p).rd g := by
  induction n with
  | zero => exact absurd hp (Nat.not_lt_zero p)
  | succ n ih =>
    rw [List.range_succ, List.foldl_append, List.foldl_cons, List.foldl_nil]
    obtain hlt | rfl := Nat.lt_succ_iff_lt_or_eq.mp hp
    · rw [h _ n (Nat.ne_of_gt hlt), ih hlt]
    · rfl

/-! ### Policers (R220) -/

/-- The refill of policer `p` for `k` cycle boundaries. -/
def State.refillOne (s : State) (k p : Nat) : State :=
  if s.rdB (SHP_POL_CFG_EN p) then
    s.wr (SHP_POL_TOK_TOKENS p) (min (s.rd (SHP_POL_BURST_BURST p)) (s.rd (SHP_POL_TOK_TOKENS p) + k * s.rd (SHP_POL_CFG_RATE p)))
  else s

theorem refill_eq (s : State) (k : Nat) : s.refill k = (List.range 64).foldl (fun t p => t.refillOne k p) s := rfl

theorem refillOne_mer (s : State) (k p : Nat) : (s.refillOne k p).mer = s.mer := by
  unfold State.refillOne
  split <;> rfl

theorem refill_mer (s : State) (k : Nat) : (s.refill k).mer = s.mer :=
  fold_keeps (fun t u : State => u.mer = t.mer) (fun _ => rfl) (fun _ _ _ htu huv => huv.trans htu) _ (fun t p => refillOne_mer t k p) _ s

/-- A refill writes the tokens alone. -/
theorem rd_refillOne (s : State) (k p : Nat) (g : Field) (h : (SHP_POL_TOK_TOKENS p).apart g = true) :
    (s.refillOne k p).rd g = s.rd g := by
  unfold State.refillOne
  split
  · exact rdF_wrF_apart _ _ _ _ rfl h
  · rfl

/-- The registers of a policer apart from its tokens, and those outside the policers, stay. -/
theorem rd_refill_other (s : State) (k : Nat) (g : Field) (h : ∀ p, (SHP_POL_TOK_TOKENS p).apart g = true) :
    (s.refill k).rd g = s.rd g :=
  rd_foldl_unwritten _ g _ s (fun t p _ => rd_refillOne t k p g (h p))

theorem tokens_apart_of_addr {p : Nat} {g : Field} (h : g.addr ≠ 0x4000B108 + 16 * p) : (SHP_POL_TOK_TOKENS p).apart g = true :=
  decide_eq_true (.inl h.symm)

/-- An enabled policer gains its rate for each boundary, up to its burst (R220). -/
theorem rd_refill_tokens (s : State) (k : Nat) (p : Fin 64) (hen : s.rdB (SHP_POL_CFG_EN p.val) = true) :
    (s.refill k).rd (SHP_POL_TOK_TOKENS p.val) = min (s.rd (SHP_POL_BURST_BURST p.val))
      (s.rd (SHP_POL_TOK_TOKENS p.val) + k * s.rd (SHP_POL_CFG_RATE p.val)) := by
  have before (g : Field) (h : ∀ q < p.val, g.addr ≠ 0x4000B108 + 16 * q) :
      ((List.range p.val).foldl (fun t q => t.refillOne k q) s).rd g = s.rd g :=
    rd_foldl_unwritten _ g _ s (fun t q hq => rd_refillOne t k q g (tokens_apart_of_addr (h q (List.mem_range.mp hq))))
  rw [refill_eq, rd_foldl_range _ _ s p.isLt (fun t q hq => rd_refillOne t k q _ (tokens_apart_of_addr (by dsimp only; omega))),
    State.refillOne]
  have hen' := before (SHP_POL_CFG_EN p.val) (fun q _ => by dsimp only; omega)
  have hburst := before (SHP_POL_BURST_BURST p.val) (fun q _ => by dsimp only; omega)
  have hrate := before (SHP_POL_CFG_RATE p.val) (fun q _ => by dsimp only; omega)
  have htok := before (SHP_POL_TOK_TOKENS p.val) (fun q _ => by dsimp only; omega)
  rw [State.rdB, hen', ← State.rdB, if_pos hen, hburst, hrate, htok]
  have hlt : s.rd (SHP_POL_BURST_BURST p.val) < 2 ^ 24 := rdF_lt _ (SHP_POL_BURST_BURST p.val)
  exact (rdF_wrF _ _ _ rfl).trans (Nat.mod_eq_of_lt (Nat.lt_of_le_of_lt (Nat.min_le_left _ _) hlt))

/-! ### Duty-cycle accounts (R187) -/

/-- DCSUM of an accumulator shows the sum of its bins. -/
theorem rd_syncSums (s : State) (b : Band) (n : Fin 8) :
    (s.syncSums b).rd (MAC_DCSUM_SUM b n.val) = binSum ((s.macB b).bins.getD n.val []) % 2 ^ (MAC_DCSUM_SUM b n.val).width := by
  refine (rd_foldl_range _ _ s n.isLt (fun t q hq => ?_)).trans (rdF_wrF _ _ _ rfl)
  refine rdF_wrF_apart _ _ _ _ rfl (decide_eq_true (.inl ?_))
  dsimp only
  omega

/-- The sums of one band are shown apart from those of the other. -/
theorem rd_syncSums_other (s : State) (n : Fin 8) : (s.syncSums .g24).rd (MAC_DCSUM_SUM .sg n.val) = s.rd (MAC_DCSUM_SUM .sg n.val) := by
  refine rd_foldl_unwritten _ _ _ s (fun t q _ => rdF_wrF_apart _ _ _ _ rfl (decide_eq_true (.inl ?_)))
  dsimp only [Band.idx]
  omega

theorem syncSums_mac (s : State) (b : Band) : (s.syncSums b).mac = s.mac :=
  fold_keeps (fun t u : State => u.mac = t.mac) (fun _ => rfl) (fun _ _ _ htu huv => huv.trans htu)
    (fun t n => t.wr (MAC_DCSUM_SUM b n) (binSum ((s.macB b).bins.getD n []))) (fun _ _ => rfl) _ s

/-- A second of TSTAMP passes in every accumulator of the band. -/
def BandMac.retire (m : BandMac) : BandMac := { m with bins := m.bins.map (fun l => binPush (binDrop l)) }

/-- A second of TSTAMP passes in the accounts of both bands. -/
def State.dutyRetired (s : State) : State :=
  { s with mac := { s.mac with binSec := s.mac.binSec + 1, bands := { sg := s.mac.bands.sg.retire, g24 := s.mac.bands.g24.retire } } }

theorem dutyRetired_bins (s : State) (b : Band) : (s.dutyRetired.macB b).bins = (s.macB b).bins.map (fun l => binPush (binDrop l)) := by
  cases b <;> rfl

/-- Time passes to the end of the second, at which one bin retires. -/
theorem exec_dutyBinRetire {s : State} (htclk : s.tclkOn = true) (hpast : s.mer.tstamp ≤ (s.mac.binSec + 1) * 400000000)
    (hfits : (s.mac.binSec + 1) * 400000000 < 2 ^ 64) :
    exec .dutyBinRetire s =
      .next (((s.advanceTo ((s.mac.binSec + 1) * tclkHz)).dutyRetired.syncSums .sg).syncSums .g24) := by
  have hnow : (s.advanceTo ((s.mac.binSec + 1) * tclkHz)).mer.tstamp = (s.mac.binSec + 1) * tclkHz := by
    rw [State.advanceTo, tick_tstamp, tclkHz, Nat.add_sub_of_le hpast, Nat.mod_eq_of_lt hfits]
  have hmac : (s.advanceTo ((s.mac.binSec + 1) * tclkHz)).mac = s.mac := tick_mac s _
  have hsec : (s.mac.binSec + 1) * tclkHz / tclkHz = s.mac.binSec + 1 := Nat.mul_div_cancel _ (by decide)
  have hone : min (s.mac.binSec + 1 - s.mac.binSec) 3600 = 1 := by omega
  have hmax : max (s.mac.binSec + 1) s.mac.binSec = s.mac.binSec + 1 := by omega
  show execDutyBinRetire s = _
  simp only [execDutyBinRetire, htclk, if_true, hnow, hmac, hsec, hone, hmax, State.dutyRetired]
  rfl

end Sys2Proof.Machine
end


section
namespace Sys2Proof.Machine

-- One declaration at a time: the check's memory limit holds few threads.
set_option Elab.async false

/-! ### Time passes to a boundary (R46, R63) -/

theorem le_ceilDiv_mul (d : Nat) {k : Nat} (hk : 0 < k) : d ≤ ceilDiv d k * k := by
  rw [ceilDiv, if_neg (Nat.ne_of_gt hk), Nat.mul_comm]
  have h := Nat.div_add_mod (d + k - 1) k
  have hlt := Nat.mod_lt (d + k - 1) hk
  omega

theorem ceilDiv_sub_one_mul_lt {d k : Nat} (hd : 0 < d) (hk : 0 < k) : (ceilDiv d k - 1) * k < d := by
  have h := Nat.div_add_mod (d + k - 1) k
  rw [ceilDiv, if_neg (Nat.ne_of_gt hk), Nat.sub_mul, Nat.mul_comm, Nat.one_mul]
  omega

/-- The cycles to an instant that lies less than half the range ahead (R46). -/
theorem cyclesTo_ahead {s : State} {t : Nat} (htime : s.mer.time < 2 ^ 80) (hd : (t + 2 ^ 80 - s.mer.time) % 2 ^ 80 < 2 ^ 79) :
    s.cyclesTo t = ceilDiv ((t + 2 ^ 80 - s.mer.time) % 2 ^ 80) (s.rd MER_INC_INC) := by
  simp only [State.cyclesTo, Nat.mod_eq_of_lt htime]
  exact if_pos hd

theorem toBoundary_ahead {s : State} {t : Nat} (mate : Bool) (h : s.passed t = false) : s.toBoundary t mate = s.advanceMer t := by
  rw [State.toBoundary, h, if_neg Bool.false_ne_true]

theorem toBoundary_skipped {s : State} {t : Nat} (h : s.passed t = true) : s.toBoundary t false = s.tick 1 := by
  rw [State.toBoundary, h, if_pos rfl, if_neg Bool.false_ne_true]

/-- What no TCLK cycle changes stands at the boundary too. -/
theorem toBoundary_keeps {α : Type} (p : State → α) (h : ∀ u n, p (State.tick u n) = p u) (s : State) (t : Nat) (mate : Bool) :
    p (s.toBoundary t mate) = p s := by
  unfold State.toBoundary
  split
  · split
    · rfl
    · exact h s 1
  · exact h s _

theorem tick_pendSet (s : State) (n : Nat) : (s.tick n).mer.pendSet = s.mer.pendSet := by
  obtain ⟨r, h⟩ := tick_mer s n
  rw [h]

theorem tick_pendStep (s : State) (n : Nat) : (s.tick n).mer.pendStep = s.mer.pendStep := by
  obtain ⟨r, h⟩ := tick_mer s n
  rw [h]

/-! ### Slot boundaries (R45, R62) -/

/-- With no sync point pending, a slot boundary is raised and noted, and moves Meridian no further. -/
theorem slotAt_mer {s : State} (n : Nat) (hset : s.mer.pendSet = none) (hstep : s.mer.pendStep = none) :
    (s.slotAt n).mer = { s.mer with slot := n } := by
  let s1 := ({ s with mer := { s.mer with slot := n } } : State).fire 113
  have hmer : s1.mer = { s.mer with slot := n } := State.fire_mer _ _
  have hsync : s1.slotSync = s1 := by
    simp only [State.slotSync, hmer, hset, hstep]
  have resumed : KeepsTime s1 s1.slotResume := (KeepsTime.refl s1).on
  show ((s1.slotSync.slotResume.slotHop.sweep).slotStart).mer = _
  rw [slotStart_mer, hsync, resumed.slotHop.sweep.1, hmer]

theorem exec_slotBoundary {s : State} (htclk : s.tclkOn = true) : exec .slotBoundary s =
    .next ((s.toBoundary ((s.mer.slot + 1) % 2 ^ 35 * 8192) (s.mer.cyc * 8 == (s.mer.slot + 1) % 2 ^ 35)).slotAt
      ((s.mer.slot + 1) % 2 ^ 35)) := congrArg Host.Outcome.next (if_pos htclk)

/-! ### Cycle boundaries (R42, R201, R220) -/

/-- What the boundary of cycle `c` does in MER and SHP, before the firmware and the luminaire follow. -/
def State.cycleServed (s : State) (c : Nat) : State :=
  let s1 := ({ s with mer := { s.mer with cyc := c } } : State).fire 112
  let s2 := if c % 256 = 0 then s1.recordDue else s1
  (((s2.swapCharts c).showCycle .sg c).showCycle .g24 c).refill 1

theorem cycleAt_eq (s : State) (c : Nat) : s.cycleAt c = (((s.cycleServed c).meshCycle c).zonesCycle).pdCycle := rfl

/-- What the boundary leaves of Meridian and of the registers that it does not refill. -/
theorem cycleServed_base (s : State) (c : Nat) : ∃ u : State, s.cycleServed c = u.refill 1 ∧ u.mer.cyc = c ∧ u.mer.time = s.mer.time ∧
    ∀ f : Field, timeReg f.addr → u.rd f = s.rd f := by
  let s1 := ({ s with mer := { s.mer with cyc := c } } : State).fire 112
  have hmer : s1.mer = { s.mer with cyc := c } := State.fire_mer _ _
  have fired : KeepsTime { s with mer := { s.mer with cyc := c } } s1 := (KeepsTime.refl _).fire
  have shown (v : State) : KeepsTime v (((v.swapCharts c).showCycle .sg c).showCycle .g24 c) :=
    (KeepsTime.refl v).swapCharts.showCycle.showCycle
  refine ⟨_, rfl, ?_⟩
  split
  · have kept := shown s1.recordDue
    refine ⟨?_, ?_, fun f hf => (kept.rd f hf).trans (fired.rd f hf)⟩
    · rw [kept.1]
      exact congrArg (·.cyc) hmer
    · rw [kept.1]
      exact congrArg (·.time) hmer
  · have kept := shown s1
    refine ⟨?_, ?_, fun f hf => (kept.rd f hf).trans (fired.rd f hf)⟩ <;> rw [kept.1, hmer]

theorem exec_cycleBoundary {s : State} (htclk : s.tclkOn = true) : exec .cycleBoundary s =
    .next ((s.toBoundary ((s.mer.cyc + 1) % 2 ^ 32 * 65536) (s.mer.slot == (s.mer.cyc + 1) % 2 ^ 32 * 8)).cycleAt
      ((s.mer.cyc + 1) % 2 ^ 32)) := congrArg Host.Outcome.next (if_pos htclk)

end Sys2Proof.Machine
end


section
namespace Sys2Proof.Machine

-- One declaration at a time: the check's memory limit holds few threads.
set_option Elab.async false

/-! ### The boundaries together -/

/-- A slot boundary is raised once, and time passes to it as R46 and R63 say. -/
theorem slotBoundary_raised {s : State} (htclk : s.tclkOn = true) (hset : s.mer.pendSet = none) (hstep : s.mer.pendStep = none) :
    let n := (s.mer.slot + 1) % 2 ^ 35
    ∃ t : State, exec .slotBoundary s = .next t ∧ t.mer.slot = n ∧
      (s.passed (n * 8192) = false → t.mer.time = (s.advanceMer (n * 8192)).mer.time) ∧
      (s.passed (n * 8192) = true → s.mer.cyc * 8 ≠ n → t.mer.time = (s.tick 1).mer.time) := by
  intro n
  have hmer := slotAt_mer (s := s.toBoundary (n * 8192) (s.mer.cyc * 8 == n)) n
    ((toBoundary_keeps (·.mer.pendSet) tick_pendSet s _ _).trans hset)
    ((toBoundary_keeps (·.mer.pendStep) tick_pendStep s _ _).trans hstep)
  refine ⟨_, exec_slotBoundary htclk, congrArg (·.slot) hmer, fun hahead => ?_, fun hpassed hmate => ?_⟩
  · rw [hmer, toBoundary_ahead _ hahead]
  · rw [hmer, beq_false_of_ne hmate, toBoundary_skipped hpassed]

/-- Before step 8 of a start the mesh firmware has no part in a cycle, and what follows a boundary leaves Meridian and the policers. -/
theorem KeepsTime.cycleFollowed {u : State} {c : Nat} (h : u.rd SYS_BOOT_STEP < 8) :
    KeepsTime u (((u.meshCycle c).zonesCycle).pdCycle) := by
  have hmesh : u.meshCycle c = u := if_pos (.inl h)
  rw [hmesh]
  exact (KeepsTime.refl u).zonesCycle.pdCycle

/-- The registers of a policer lie between 0x4000_B100 and 0x4000_B500. -/
theorem timeReg_of_policer {a : Nat} (hlo : 0x4000B100 ≤ a) (hhi : a < 0x4000B500) : timeReg a := .inr (.inl ⟨hlo, hhi⟩)

/-- A cycle boundary is raised once, the policers are refilled at it, and the firmware and the luminaire follow. -/
theorem cycleBoundary_raised {s : State} (htclk : s.tclkOn = true) :
    let c := (s.mer.cyc + 1) % 2 ^ 32
    ∃ t u : State, exec .cycleBoundary s = .next t ∧ t = ((u.meshCycle c).zonesCycle).pdCycle ∧ u.mer.cyc = c ∧
      (s.passed (c * 65536) = false → u.mer.time = (s.advanceMer (c * 65536)).mer.time) ∧
      (s.passed (c * 65536) = true → s.mer.slot ≠ c * 8 → u.mer.time = (s.tick 1).mer.time) ∧
      (∀ p : Fin 64, s.rdB (SHP_POL_CFG_EN p.val) = true → u.rd (SHP_POL_TOK_TOKENS p.val) =
        min (s.rd (SHP_POL_BURST_BURST p.val)) (s.rd (SHP_POL_TOK_TOKENS p.val) + s.rd (SHP_POL_CFG_RATE p.val))) ∧
      (s.rd SYS_BOOT_STEP < 8 → t.mer = u.mer ∧ ∀ p : Fin 64, t.rd (SHP_POL_TOK_TOKENS p.val) = u.rd (SHP_POL_TOK_TOKENS p.val)) := by
  intro c
  obtain ⟨u, hu, hcyc, htime, hrd⟩ := cycleServed_base (s.toBoundary (c * 65536) (s.mer.slot == c * 8)) c
  have hkept (f : Field) (hf : timeReg f.addr) (hlow : f.addr < MER_INC_INC.addr) : u.rd f = s.rd f :=
    (hrd f hf).trans (toBoundary_keeps (·.rd f)
      (fun v n => tick_rd v n f (Nat.ne_of_lt hlow) (fun ⟨hlo, hhi⟩ => by omega)) s _ _)
  have hpol (f : Field) (hlo : 0x4000B100 ≤ f.addr) (hhi : f.addr < 0x4000B500) : u.rd f = s.rd f :=
    hkept f (timeReg_of_policer hlo hhi) (Nat.lt_of_lt_of_le hhi (by decide))
  rw [exec_cycleBoundary htclk, cycleAt_eq, hu]
  refine ⟨_, u.refill 1, rfl, rfl, ?_, fun hahead => ?_, fun hpassed hmate => ?_, fun p hen => ?_, fun hstep => ?_⟩
  · rw [refill_mer, hcyc]
  · rw [refill_mer, htime, toBoundary_ahead _ hahead]
  · rw [refill_mer, htime, beq_false_of_ne hmate, toBoundary_skipped hpassed]
  · have hen' : u.rdB (SHP_POL_CFG_EN p.val) = true := by
      rw [State.rdB, hpol _ (by dsimp only; omega) (by dsimp only; omega)]
      exact hen
    rw [rd_refill_tokens u 1 p hen', Nat.one_mul, hpol (SHP_POL_BURST_BURST p.val) (by dsimp only; omega) (by dsimp only; omega),
      hpol (SHP_POL_TOK_TOKENS p.val) (by dsimp only; omega) (by dsimp only; omega),
      hpol (SHP_POL_CFG_RATE p.val) (by dsimp only; omega) (by dsimp only; omega)]
  · have hboot : (u.refill 1).rd SYS_BOOT_STEP = s.rd SYS_BOOT_STEP :=
      (rd_refill_other u 1 _ (fun p => tokens_apart_of_addr (by dsimp only; omega))).trans (hkept _ (by decide) (by decide))
    have followed : KeepsTime (u.refill 1) (((u.refill 1).meshCycle c).zonesCycle.pdCycle) := .cycleFollowed (hboot ▸ hstep)
    exact ⟨followed.1, fun p => followed.rd _ (timeReg_of_policer (by dsimp only; omega) (by dsimp only; omega))⟩

/-- The nearest TCLK cycle (R46): the cycles to an instant ahead reach it, and one fewer do not. -/
theorem cyclesTo_nearest {s : State} {t : Nat} (htime : s.mer.time < 2 ^ 80) (hinc : 0 < s.rd MER_INC_INC)
    (hpos : 0 < (t + 2 ^ 80 - s.mer.time) % 2 ^ 80) (hd : (t + 2 ^ 80 - s.mer.time) % 2 ^ 80 < 2 ^ 79) :
    (t + 2 ^ 80 - s.mer.time) % 2 ^ 80 ≤ s.cyclesTo t * s.rd MER_INC_INC ∧
      (s.cyclesTo t - 1) * s.rd MER_INC_INC < (t + 2 ^ 80 - s.mer.time) % 2 ^ 80 := by
  rw [cyclesTo_ahead htime hd]
  exact ⟨le_ceilDiv_mul _ hinc, ceilDiv_sub_one_mul_lt hpos hinc⟩

/-- A second ends: every accumulator drops its oldest bin and begins an empty one, and the registers show the sums. -/
theorem dutyBinRetire_shows {s : State} (htclk : s.tclkOn = true) (hpast : s.mer.tstamp ≤ (s.mac.binSec + 1) * 400000000)
    (hfits : (s.mac.binSec + 1) * 400000000 < 2 ^ 64) :
    ∃ u : State, exec .dutyBinRetire s = .next u ∧ u.mac.binSec = s.mac.binSec + 1 ∧ ∀ b : Band,
      (u.macB b).bins = (s.macB b).bins.map (fun l => binPush (binDrop l)) ∧
      ∀ n : Fin 8, u.rd (MAC_DCSUM_SUM b n.val) = binSum ((u.macB b).bins.getD n.val []) % 2 ^ (MAC_DCSUM_SUM b n.val).width := by
  let s1 := (s.advanceTo ((s.mac.binSec + 1) * tclkHz)).dutyRetired
  have hmac : ((s1.syncSums .sg).syncSums .g24).mac = s1.mac := (syncSums_mac _ _).trans (syncSums_mac _ _)
  have hticked : (s.advanceTo ((s.mac.binSec + 1) * tclkHz)).mac = s.mac := tick_mac s _
  have hband (b : Band) : ((s1.syncSums .sg).syncSums .g24).macB b = s1.macB b := by rw [State.macB, hmac, State.macB]
  refine ⟨_, exec_dutyBinRetire htclk hpast hfits, ?_, fun b => ⟨?_, fun n => ?_⟩⟩
  · rw [hmac]
    exact congrArg (·.binSec + 1) hticked
  · rw [hband, dutyRetired_bins, State.macB, hticked, State.macB]
  · rw [hband]
    cases b with
    | sg => rw [rd_syncSums_other, rd_syncSums]
    | g24 => rw [rd_syncSums, State.macB, syncSums_mac, State.macB]

/-- Settles O38: the boundaries, the nearest TCLK cycle and the seconds of R187, each by its own theorem. -/
theorem boundaries : Obligations.Boundaries :=
  ⟨fun _ htclk => ⟨fun hset hstep => slotBoundary_raised htclk hset hstep, cycleBoundary_raised htclk⟩,
    fun _ _ htime hinc _ hpos hd => cyclesTo_nearest htime hinc hpos hd,
    fun _ htclk hpast hfits => dutyBinRetire_shows htclk hpast hfits⟩

end Sys2Proof.Machine
end

section
namespace Sys2Proof.Machine

-- One declaration at a time: the check's memory limit holds few threads.
set_option Elab.async false

/-! ### What leaves the receptions in progress (R141, R160, R183 to R186, R232, R253) -/

/-- The receptions that MAC holds in either band are as they were. -/
def KeepsRxs (s t : State) : Prop := ∀ b, (t.macB b).rxs = (s.macB b).rxs

theorem KeepsRxs.refl (s : State) : KeepsRxs s s := fun _ => rfl

theorem KeepsRxs.ite {s t u : State} {c : Prop} [Decidable c] (h : KeepsRxs s t) (k : KeepsRxs s u) :
    KeepsRxs s (if c then t else u) := by
  split <;> assumption

section
variable {s t : State}

/-- A step on from `t` that replaces nothing of MAC's bands. -/
theorem KeepsRxs.on {u : State} (h : KeepsRxs s t) (hbands : u.mac.bands = t.mac.bands := by exact rfl) : KeepsRxs s u :=
  fun b => by rw [State.macB, hbands]; exact h b

theorem KeepsRxs.wr (h : KeepsRxs s t) {f : Field} {v : Nat} : KeepsRxs s (t.wr f v) := h.on

theorem KeepsRxs.inc (h : KeepsRxs s t) {f : Field} {k : Nat} : KeepsRxs s (t.inc f k) := h.on

theorem KeepsRxs.fire (h : KeepsRxs s t) {src : Nat} : KeepsRxs s (t.fire src) := h.on (by rw [State.fire_mac])

theorem KeepsRxs.setMac (h : KeepsRxs s t) {b : Band} {m : BandMac} (hm : m.rxs = (t.macB b).rxs) : KeepsRxs s (t.setMac b m) := by
  intro c
  rw [State.macB, State.setMac, PerBand.get_set, ← h c]
  split
  · next hc => rw [hm, hc]
  · rfl

/-! Frames complete. -/

theorem KeepsRxs.relink : ∀ (l : List Frame) {t : State}, KeepsRxs s t → KeepsRxs s (t.relink l)
  | [], _, h => h
  | [_], _, h => h
  | _ :: g :: r, _, h => KeepsRxs.relink (g :: r) (.ite h h.on)

theorem KeepsRxs.completeFrame (h : KeepsRxs s t) {b : Band} {f : Frame} {st : Nat} : KeepsRxs s (t.completeFrame b f st) := by
  have linked (u : State) (l : List Frame) (h : KeepsRxs s u) : KeepsRxs s ((u.relink l).fire 81) := .fire (.relink l h)
  simp only [State.completeFrame]
  split
  · exact (linked _ _ h.on).inc.fire
  · exact linked _ _ h.on

theorem KeepsRxs.completeEach {b : Band} {st : Frame → Nat} : ∀ (l : List Frame) {t : State}, KeepsRxs s t →
    KeepsRxs s (t.completeEach b st l)
  | [], _, h => h
  | _ :: r, _, h => KeepsRxs.completeEach r h.completeFrame

theorem KeepsRxs.completeWhere (h : KeepsRxs s t) {b : Band} {p : Frame → Bool} {st : Frame → Nat} :
    KeepsRxs s (t.completeWhere b p st) := .completeEach _ h

theorem KeepsRxs.completeLost (h : KeepsRxs s t) {nb : Nat} : KeepsRxs s (t.completeLost nb) := h.completeWhere.completeWhere

/-! The radio changes, and reception follows. -/

theorem KeepsRxs.rssiOff (h : KeepsRxs s t) {b : Band} : KeepsRxs s (t.rssiOff b) := by
  have offA (c : Prop) [Decidable c] : KeepsRxs s (if c then t.wr (RFC_RSSI_RSSIA b) 0x80 else t) := .ite h.wr h
  exact .ite (offA _).wr (offA _)

theorem KeepsRxs.radio (h : KeepsRxs s t) {b : Band} {r : BandRadio} : KeepsRxs s (t.radio b r) := by
  have followed : KeepsRxs s ((t.setRfc b (r.timed (t.rfcB b) t.mer.tstamp)).rechan b) := h.on
  exact followed.rssiOff

theorem KeepsRxs.tryCal (h : KeepsRxs s t) {b : Band} : KeepsRxs s (t.tryCal b) := by
  have runs (c : CalCmd) : KeepsRxs s { t with rfc := { t.rfc with cmd := some c } } := h.on
  unfold State.tryCal
  split
  · refine .ite ?_ h
    split
    · exact (runs _).radio
    · exact KeepsRxs.fire h.on
  · exact h

theorem KeepsRxs.updateRx (h : KeepsRxs s t) {b : Band} : KeepsRxs s (t.updateRx b) :=
  .ite h.radio (.ite h.radio.tryCal (.ite h.radio.tryCal h))

theorem KeepsRxs.updateRxs (h : KeepsRxs s t) : KeepsRxs s t.updateRxs := h.updateRx.updateRx

theorem KeepsRxs.followWalk (h : KeepsRxs s t) {was : Bool} : KeepsRxs s (t.followWalk was) := .ite h h.updateRxs

theorem KeepsRxs.endListen (h : KeepsRxs s t) : KeepsRxs s t.endListen :=
  have quiet {u : State} (h : KeepsRxs s u) (b : Band) : KeepsRxs s (u.setMac b { u.macB b with listen := none }) := h.setMac rfl
  (quiet (quiet h .sg) .g24).updateRxs

/-! MER changes its state, and links are kept, renewed and lost. -/

theorem KeepsRxs.stopWalking (h : KeepsRxs s t) : KeepsRxs s t.stopWalking :=
  have completed : KeepsRxs s ((t.completeWhere .sg (fun f => decide (f.queue ≤ 4)) (fun _ => stBadState)).completeWhere .g24
    (fun f => decide (f.queue ≤ 4)) (fun _ => stBadState)) := h.completeWhere.completeWhere
  completed.on

theorem KeepsRxs.setMer (h : KeepsRxs s t) {st : Nat} : KeepsRxs s (t.setMer st) :=
  have entered : KeepsRxs s (t.merEntered st) := h.on
  .ite h (.fire (.ite entered.stopWalking entered))

theorem KeepsRxs.putNbr (h : KeepsRxs s t) {i : Nat} {n : Nbr} : KeepsRxs s (t.putNbr i n) := h.on

theorem KeepsRxs.contact (h : KeepsRxs s t) {i : Nat} : KeepsRxs s (t.contact i) :=
  .ite h (.ite (KeepsRxs.endListen h.putNbr) h.putNbr)

theorem KeepsRxs.loseLink (h : KeepsRxs s t) {i : Nat} : KeepsRxs s (t.loseLink i) :=
  have lost : KeepsRxs s (((t.putNbr i { t.nbr i with link := .lost }).fire 84).completeLost i) := h.putNbr.fire.completeLost
  .ite (.followWalk (.setMer (.ite lost.setMer lost))) lost

theorem KeepsRxs.beginRejoin (h : KeepsRxs s t) : KeepsRxs s t.beginRejoin := .ite h h.on

theorem KeepsRxs.loseParent (h : KeepsRxs s t) {i : Nat} : KeepsRxs s (t.loseParent i) :=
  .ite h.loseLink.endListen.beginRejoin h.loseLink

/-! A frame of the parent steers MER and moves the rank. -/

theorem KeepsRxs.parentBeacon (h : KeepsRxs s t) {body : List Byte} : KeepsRxs s (t.parentBeacon body) := by
  have held (o : List (Nat × List Byte)) : KeepsRxs s ({ t with mesh := { t.mesh with
      parentHold := bytesAt body 9 1 / 4 % 2 == 1, owed := o } } : State).took := h.on
  exact .ite h (.ite h.on (.ite h.on (held _).beginRejoin.on))

theorem KeepsRxs.recordErr (h : KeepsRxs s t) {nb : Nat} {d : Int} : KeepsRxs s (t.recordErr nb d) := .ite h.putNbr h.on

theorem KeepsRxs.syncLater (h : KeepsRxs s t) {e : Int} {ref c : Nat} : KeepsRxs s (t.syncLater e ref c) :=
  .ite (.ite (KeepsRxs.setMer h.on) h.on) h.on

theorem KeepsRxs.steer (h : KeepsRxs s t) {nb typ stamp : Nat} {r : Rx} {body : List Byte} {d : Int} :
    KeepsRxs s (t.steer nb r typ stamp body d).1 := by
  simp only [State.steer]
  split
  · exact h
  · split
    · split
      · exact h.on
      · exact h
    · split
      · exact h.syncLater.followWalk
      · exact h

/-! The contents of a frame are taken. -/

theorem KeepsRxs.offsetUpdate (h : KeepsRxs s t) {nb : Nat} {m : Int} : KeepsRxs s (t.offsetUpdate nb m) :=
  .ite h (.ite h.on (.ite h.on h.on))

theorem KeepsRxs.setWindow (h : KeepsRxs s t) {nb : Nat} {w : DupWin} {restart : Bool} : KeepsRxs s (t.setWindow nb w restart) :=
  .ite h.on h.on

theorem KeepsRxs.takeMap (h : KeepsRxs s t) {nb : Nat} {pay : List Byte} : KeepsRxs s (t.takeMap nb pay) := .ite h (.ite h h.on)

end

end Sys2Proof.Machine
end


section
namespace Sys2Proof.Machine

-- One declaration at a time: the check's memory limit holds few threads.
set_option Elab.async false

/-! ### The judgement of a reception ends its wait (R170, R177, R181, R182) -/

/-- The same reception: that of one channel which ended at one instant. -/
def Rx.SameAs (q r : Rx) : Prop := q.chan = r.chan ∧ q.er = r.er

/-- The work on the reception `r` comes to a state with the receptions that MAC held, and to the same reception. -/
def Treats (s : State) (r : Rx) (z : State × Rx) : Prop := KeepsRxs s z.1 ∧ z.2.SameAs r

/-- The work on `r` ends its wait for CIP. -/
def Concludes (s : State) (r : Rx) (z : State × Rx) : Prop := Treats s r z ∧ z.2.waiting = false

theorem Treats.ite {s : State} {r : Rx} {y z : State × Rx} {c : Prop} [Decidable c] (h : Treats s r y) (k : Treats s r z) :
    Treats s r (if c then y else z) := by
  split <;> assumption

theorem Concludes.ite {s : State} {r : Rx} {y z : State × Rx} {c : Prop} [Decidable c] (h : Concludes s r y) (k : Concludes s r z) :
    Concludes s r (if c then y else z) := by
  split <;> assumption

section
variable {s t : State} {q r : Rx}

theorem Concludes.refused (h : Treats s r (t, q)) {v : Nat} : Concludes s r (t, q.refused v) := ⟨h, rfl⟩

theorem Concludes.offer (h : Treats s r (t, q)) : Concludes s r (t.offer q) :=
  .ite (.refused ⟨h.1.fire (src := 86), h.2⟩) ⟨h, rfl⟩

/-- The time error of the reception is noted. -/
theorem Treats.stamped (h : KeepsRxs s t) {e : Option Int} {synced : Bool} :
    Treats s r (t, { r with err := e, synced := synced }) := ⟨h, rfl, rfl⟩

/-- The effects of acceptance note the time error of the reception, and leave those that MAC holds. -/
theorem Treats.acceptEffects (h : KeepsRxs s t) {b : Band} {nb : Nat} {p : Parsed} {body : List Byte} :
    Treats s r (t.acceptEffects b nb r p body) := by
  unfold State.acceptEffects
  extract_lets s1 s2 s4 x
  have learnt : KeepsRxs s s2 := KeepsRxs.on (t := s1) h.offsetUpdate
  have heard : KeepsRxs s s4 := .ite learnt.parentBeacon learnt
  have taken : Treats s r x := by
    unfold x
    split
    · split
      · exact ⟨heard, rfl, rfl⟩
      · extract_lets d y
        have steered : KeepsRxs s y.1 := KeepsRxs.steer heard.recordErr.putNbr
        exact .stamped steered
    · exact ⟨heard, rfl, rfl⟩
  exact .ite ⟨taken.1.loseParent, taken.2⟩ taken

theorem acceptKnown_concludes (s : State) (b : Band) (nb : Nat) (r : Rx) (p : Parsed) (body : List Byte) :
    Concludes s r (s.acceptKnown b nb r p body) := by
  unfold State.acceptKnown
  extract_lets c s1 id expected x q r1 n y
  have contacted : KeepsRxs s s1 := (KeepsRxs.refl s).contact
  have taken : Treats s r x := .ite (.acceptEffects contacted) ⟨contacted, rfl, rfl⟩
  have named {u : State} (h : KeepsRxs s u) : Treats s r (u, r1) := ⟨h, taken.2⟩
  have offered : Concludes s r y := .offer (named taken.1)
  refine .ite (.refused ⟨(KeepsRxs.refl s).inc, rfl, rfl⟩) (.ite (.refused ⟨contacted.inc, rfl, rfl⟩)
    (.ite (.refused ⟨contacted.inc, rfl, rfl⟩) (.ite (.refused (named taken.1.putNbr.setWindow)) (.ite (.ite ?_ ?_) ?_))))
  · exact .refused (named (taken.1.fire (src := 86)))
  · exact .refused (named (.ite taken.1.takeMap taken.1))
  · exact ⟨⟨.ite offered.1.1.setWindow offered.1.1, offered.1.2⟩, offered.2⟩

theorem acceptUnknown_concludes (s : State) (r : Rx) (p : Parsed) (body : List Byte) : Concludes s r (s.acceptUnknown r p body) := by
  have kept : Treats s r (s, r) := ⟨.refl s, rfl, rfl⟩
  have counted (f : Field) : Treats s r (s.inc f, r) := ⟨kept.1.inc, rfl, rfl⟩
  exact .ite (.refused (counted _)) (.ite (.refused kept) (.ite (.refused (counted _)) (Concludes.offer kept)))

theorem judge_concludes (s : State) (b : Band) (r : Rx) (p : Parsed) (body : List Byte) : Concludes s r (s.judge b r p body) := by
  unfold State.judge
  extract_lets r0 z
  have judged : Concludes s r z := by
    unfold z
    split
    · exact acceptKnown_concludes s b _ r0 p body
    · exact acceptUnknown_concludes s r0 p body
  split
  · exact .ite judged judged
  · exact judged

end

end Sys2Proof.Machine
end


section
namespace Sys2Proof.Machine

-- One declaration at a time: the check's memory limit holds few threads.
set_option Elab.async false

/-! ### What the report of a reception leaves (R145, R148, R169, R171, R207) -/

/-- A register of CIP, or one of a receive channel. -/
abbrev rxCounter (a : Nat) : Prop := a / 0x1000 = 0x40007 ∨ a / 0x100 = 0x400091

/-- The channels, the neighbour table and the counters of receptions and of CIP are as they were. -/
def KeepsCounts (s t : State) : Prop :=
  t.mdm.chans = s.mdm.chans ∧ t.mac.nbrs = s.mac.nbrs ∧ ∀ a, rxCounter a → regGet t.regs a = regGet s.regs a

theorem KeepsCounts.refl (s : State) : KeepsCounts s s := ⟨rfl, rfl, fun _ _ => rfl⟩

theorem KeepsCounts.ite {s t u : State} {c : Prop} [Decidable c] (h : KeepsCounts s t) (k : KeepsCounts s u) :
    KeepsCounts s (if c then t else u) := by
  split <;> assumption

section
variable {s t : State}

theorem KeepsCounts.chan (h : KeepsCounts s t) (b : Band) (n : Nat) : t.chan b n = s.chan b n := by rw [State.chan, h.1, State.chan]

theorem KeepsCounts.rd (h : KeepsCounts s t) (f : Field) (hf : rxCounter f.addr) : t.rd f = s.rd f := congrArg f.of (h.2.2 f.addr hf)

/-- A step on from `t` that replaces no channel, no neighbour and no register. -/
theorem KeepsCounts.on {u : State} (h : KeepsCounts s t) (hregs : u.regs = t.regs := by exact rfl)
    (hchans : u.mdm.chans = t.mdm.chans := by exact rfl) (hnbrs : u.mac.nbrs = t.mac.nbrs := by exact rfl) : KeepsCounts s u :=
  ⟨hchans.trans h.1, hnbrs.trans h.2.1, fun a ha => by rw [hregs, h.2.2 a ha]⟩

theorem KeepsCounts.wr (h : KeepsCounts s t) {f : Field} {v : Nat} (hf : ¬ rxCounter f.addr) : KeepsCounts s (t.wr f v) :=
  ⟨h.1, h.2.1, fun a ha => (regGet_wrF _ _ _ _ (fun e => hf (e ▸ ha))).trans (h.2.2 a ha)⟩

theorem KeepsCounts.inc (h : KeepsCounts s t) {f : Field} {k : Nat} (hf : ¬ rxCounter f.addr) : KeepsCounts s (t.inc f k) := h.wr hf

theorem KeepsCounts.fire (h : KeepsCounts s t) {src : Nat} : KeepsCounts s (t.fire src) :=
  ⟨by rw [State.fire_mdm, h.1], by rw [State.fire_mac, h.2.1],
    fun a ha => (t.fire_keeps src a (fun ⟨_, _⟩ => by unfold rxCounter at ha; omega)).trans (h.2.2 a ha)⟩

/-! A record goes to the ring and is read there. -/

theorem KeepsCounts.writeRecordRing (h : KeepsCounts s t) {bytes : List Byte} : KeepsCounts s (t.writeRecordRing bytes) := by
  have written (m : List Byte) (a : Nat) (x y z : Nat) : KeepsCounts s { t.sramWrite a m with
    mdm := { (t.sramWrite a m).mdm with recs := x, unread0 := y, unread1 := z } } := h.on
  exact .ite h (.ite ((written _ _ _ _ _).wr (by decide)).fire (h.inc (by decide)).fire)

theorem KeepsCounts.readerOne (h : KeepsCounts s t) : KeepsCounts s t.readerOne := by
  have read (c : Prop) [Decidable c] (nb : Nat) (b : Band) (snrs : List Nat) :
      KeepsCounts s (if c then t.takeSnrs nb b snrs else t) := .ite h.on h
  exact .wr (read _ _ _ _).on (by decide)

theorem KeepsCounts.readerOnes : ∀ (k : Nat) {t : State}, KeepsCounts s t → KeepsCounts s (State.readerOnes k t)
  | 0, _, h => h
  | k + 1, _, h => KeepsCounts.readerOnes k h.readerOne

theorem KeepsCounts.exportRecord (h : KeepsCounts s t) {bytes : List Byte} : KeepsCounts s (t.exportRecord bytes) :=
  .ite (.readerOnes _ h.writeRecordRing) h.writeRecordRing

theorem KeepsCounts.windowUnheard (h : KeepsCounts s t) {b : Band} {n : Nat} : KeepsCounts s (t.windowUnheard b n) := h.on

theorem KeepsCounts.flushRecord (h : KeepsCounts s t) {r : Rx} : KeepsCounts s (t.flushRecord r).1 := by
  unfold State.flushRecord
  split
  · exact h.exportRecord
  · exact h

/-! The exchange of an acknowledgement begins, or is refused. -/

theorem KeepsCounts.startExch (h : KeepsCounts s t) {b : Band} {e : AckExch} : KeepsCounts s (t.startExch b e) := by
  have suppressed : KeepsCounts s (t.inc (MAC_CNT1_ACKSUPP b)) := h.inc (by cases b <;> decide)
  have collides : KeepsCounts s (t.inc (MAC_CNT2_ACKCOLL b)) := h.inc (by cases b <;> decide)
  unfold State.startExch
  refine .ite suppressed.fire (.ite suppressed (.ite suppressed ?_))
  split
  · exact .ite collides.on collides
  · exact h.on

theorem KeepsCounts.openExch (h : KeepsCounts s t) {b : Band} {n er : Nat} {c : Chan} {own good : Bool} {bs : List Byte}
    {p : Option Parsed} : KeepsCounts s (t.openExch b n c own good bs p er) := by
  unfold State.openExch
  split
  · exact h
  · exact .ite h h.startExch

end

/-! ### A reception is kept or dropped (R170, R181) -/

theorem writeRecordRing_mac (s : State) (bytes : List Byte) : (s.writeRecordRing bytes).mac = s.mac := by
  simp only [State.writeRecordRing]
  split
  · rfl
  · split <;> rw [State.fire_mac] <;> rfl

theorem readerOne_mac (s : State) : s.readerOne.mac = s.mac := by
  simp only [State.readerOne]
  split <;> rfl

theorem readerOnes_mac : ∀ (k : Nat) (s : State), (State.readerOnes k s).mac = s.mac
  | 0, _ => rfl
  | k + 1, s => (readerOnes_mac k s.readerOne).trans (readerOne_mac s)

theorem exportRecord_mac (s : State) (bytes : List Byte) : (s.exportRecord bytes).mac = s.mac := by
  simp only [State.exportRecord]
  split
  · exact (readerOnes_mac _ _).trans (writeRecordRing_mac s bytes)
  · exact writeRecordRing_mac s bytes

theorem flushRecord_mac (s : State) (r : Rx) : (s.flushRecord r).1.mac = s.mac := by
  unfold State.flushRecord
  split
  · exact exportRecord_mac s _
  · rfl

/-- The record of a reception leaves it, nothing else of it changes. -/
theorem flushRecord_rx (s : State) (r : Rx) : (s.flushRecord r).2.SameAs r ∧ (s.flushRecord r).2.waiting = r.waiting := by
  unfold State.flushRecord
  split
  · exact ⟨⟨rfl, rfl⟩, rfl⟩
  · exact ⟨⟨rfl, rfl⟩, rfl⟩

/-- Beside the reception itself, which keeps its wait, MAC goes on to hold the other receptions of the band alone. -/
theorem keepRx_spec (s : State) (b : Band) (r : Rx) : ∃ (u : State) (l : List Rx), KeepsCounts s u ∧ u.mac = s.mac ∧
    s.keepRx b r = u.setMac b { u.macB b with rxs := l } ∧
    ∀ y ∈ l, y.waiting = r.waiting ∨ y ∈ (s.macB b).rxs ∧ ¬ y.SameAs r := by
  unfold State.keepRx
  extract_lets x m inExch others
  have flushed : KeepsCounts s x.1 ∧ x.1.mac = s.mac ∧ x.2.SameAs r ∧ x.2.waiting = r.waiting := by
    unfold x
    split
    · exact ⟨.refl s, rfl, ⟨rfl, rfl⟩, rfl⟩
    · exact ⟨(KeepsCounts.refl s).windowUnheard.flushRecord, flushRecord_mac _ r, flushRecord_rx _ r⟩
  obtain ⟨hcounts, hmac, hsame, hwait⟩ := flushed
  have other (y : Rx) (hy : y ∈ others) : y ∈ (s.macB b).rxs ∧ ¬ y.SameAs r := by
    obtain ⟨hmem, hdiff⟩ := List.mem_filter.1 hy
    refine ⟨by rwa [State.macB, ← hmac], fun h => ?_⟩
    rcases of_decide_eq_true hdiff with hc | he
    · exact hc (h.1.trans hsame.1.symm)
    · exact he (h.2.trans hsame.2.symm)
  refine ⟨x.1, _, hcounts, hmac, rfl, fun y hy => ?_⟩
  split at hy
  · rcases List.mem_append.1 hy with h | h
    · exact .inr (other y h)
    · exact .inl (by rw [List.mem_singleton.1 h, hwait])
  · exact .inr (other y hy)

theorem KeepsCounts.keepRx {s t : State} (h : KeepsCounts s t) {b : Band} {r : Rx} : KeepsCounts s (t.keepRx b r) := by
  obtain ⟨u, l, ⟨hchans, hnbrs, hregs⟩, hmac, heq, hl⟩ := keepRx_spec t b r
  rw [heq]
  exact ⟨hchans.trans h.1, hnbrs.trans h.2.1, fun a ha => (hregs a ha).trans (h.2.2 a ha)⟩

theorem macB_setMac (s : State) (b : Band) (m : BandMac) : (s.setMac b m).macB b = m := by
  rw [State.macB, State.setMac, PerBand.get_set, if_pos rfl]

/-- The exchange stays. -/
theorem keepRx_exch (s : State) (b : Band) (r : Rx) : ((s.keepRx b r).macB b).exch = (s.macB b).exch := by
  obtain ⟨u, l, hcounts, hmac, heq, hl⟩ := keepRx_spec s b r
  rw [heq, macB_setMac, State.macB, hmac, State.macB]

/-- No reception of a band waits on channel `n` once the one that it held there is judged. -/
theorem keepRx_waitingRx {s : State} {b : Band} {n : Nat} {q r : Rx} (hq : q.SameAs r) (hw : q.waiting = false)
    (hrxs : ∀ y ∈ (s.macB b).rxs, y.SameAs r) : ((s.keepRx b q).macB b).waitingRx n = none := by
  obtain ⟨u, l, hcounts, hmac, heq, hl⟩ := keepRx_spec s b q
  rw [heq, macB_setMac, BandMac.waitingRx, List.find?_eq_none]
  intro y hy hfound
  have hwait : y.waiting = true := (Bool.and_eq_true_iff.1 hfound).2
  rcases hl y hy with h | ⟨hmem, hdiff⟩
  · rw [hwait, hw] at h
    exact Bool.noConfusion h
  · exact hdiff ⟨(hrxs y hmem).1.trans hq.1.symm, (hrxs y hmem).2.trans hq.2.symm⟩

end Sys2Proof.Machine
end


section
namespace Sys2Proof.Machine

-- One declaration at a time: the check's memory limit holds few threads.
set_option Elab.async false

/-! ### A frame whose payload fails (R115, R118, R170) -/

/-- A frame ends on the channel whose payload was not decoded: the channel searches again, and the reception and the failure count. -/
def State.payloadFailed (s : State) (b : Band) (n t : Nat) (m : RxMeas) : State :=
  let c := s.chan b n
  let ended := (s.advanceTo t).setChan b n { c.adapted (m.phr ++ m.eq) with st := .search, lastWon := some c.aerialB }
  (ended.inc (MDM_CH_CNT_DONE b n)).inc (MDM_CH_ERR_FECERR b n)

/-- The channel that was put is there. -/
theorem chan_setChan {s : State} {b : Band} {n : Nat} (c : Chan) (h : n < (s.mdm.chans.get b).length) : (s.setChan b n c).chan b n = c := by
  rw [State.chan, State.setChan, PerBand.get_set, if_pos rfl, List.getD_eq_getElem?_getD, getElem?_modifyNth,
    List.getElem?_eq_getElem h]
  rfl

section
variable {b : Band} {n : Fin 8} {s : State} {t : Nat} {m : RxMeas}

theorem payloadFailed_search (h : (s.mdm.chans.get b).length = 8) : ((s.payloadFailed b n t m).chan b n.val).st = .search :=
  congrArg Chan.st (chan_setChan (s := s.advanceTo t) _ (by rw [State.advanceTo, tick_mdm, h]; exact n.isLt))

theorem payloadFailed_nbrs : (s.payloadFailed b n t m).mac.nbrs = s.mac.nbrs := congrArg Mac.nbrs (tick_mac s _)

/-- Time leaves the counters of a channel. -/
theorem advanceTo_rdF {f : Field} (hf : rxCounter f.addr) : rdF (s.advanceTo t).regs f = s.rd f :=
  tick_rd s _ f (fun e => by rw [e] at hf; exact absurd hf (by decide)) (fun ⟨_, _⟩ => by omega)

theorem rxCounter_chan (b : Band) (n : Fin 8) {a : Nat} (ha : a = (MDM_CH_CNT_DONE b n).addr ∨ a = (MDM_CH_ERR_FECERR b n).addr) :
    rxCounter a := by
  have hb : b.idx ≤ 1 := by cases b <;> decide
  right
  rcases ha with rfl | rfl
  · dsimp only; omega
  · dsimp only; omega

theorem payloadFailed_done : (s.payloadFailed b n t m).rd (MDM_CH_CNT_DONE b n.val) = min (s.rd (MDM_CH_CNT_DONE b n.val) + 1) 65535 := by
  refine (rdF_incF_apart _ _ _ _ rfl (decide_eq_true (.inl (by dsimp only; omega)))).trans ((rdF_incF _ _ _ rfl).trans ?_)
  exact congrArg (fun k => min (k + 1) 65535) (advanceTo_rdF (rxCounter_chan b n (.inl rfl)))

theorem payloadFailed_fecerr :
    (s.payloadFailed b n t m).rd (MDM_CH_ERR_FECERR b n.val) = min (s.rd (MDM_CH_ERR_FECERR b n.val) + 1) 255 := by
  refine (rdF_incF _ _ _ rfl).trans (congrArg (fun k => min (k + 1) 255) ?_)
  exact (rdF_incF_apart _ _ _ _ rfl (decide_eq_true (.inl (by dsimp only; omega)))).trans
    (advanceTo_rdF (rxCounter_chan b n (.inr rfl)))

/-- MAC examines nothing in a frame that is not good: it is refused, and its exchange answers it. -/
theorem examine_bad {r : Rx} (h : r.good = false) (p : Option Parsed) (reservedF : Bool) (keys : List KeySlot) :
    s.examine b r p reservedF keys = s.keepRx b (r.named.refused 3) := by
  simp only [State.examine, h, Bool.not_false, if_true]

/-- What follows the end of a frame that failed leaves its channel, the counters and every duplicate window. -/
theorem exec_rxFrameEnd_failed (hst : (s.chan b n.val).st = .payload) (hdec : m.decoded = false) :
    ∃ u, exec (.rxFrameEnd b n t m) s = .next u ∧ KeepsCounts (s.payloadFailed b n t m) u := by
  show ∃ u, execRxFrameEnd b n t m s = .next u ∧ _
  unfold execRxFrameEnd
  extract_lets c s0 fec adapted s1 s2 mode own psdu four good bs rec_ isAck ackd p s3 r
  have hfec : fec = true := by rw [show fec = (!m.decoded || c.noMap) from rfl, hdec]; rfl
  have hgood : r.good = false := by rw [show r.good = (!fec && fcsGood psdu four) from rfl, hfec]; rfl
  have hs2 : s2 = s.payloadFailed b n t m := if_pos hfec
  have opened : KeepsCounts (s.payloadFailed b n t m) s3 := hs2 ▸ .ite (KeepsCounts.refl s2).openExch (.refl s2)
  rw [if_neg (not_not_intro hst), if_neg (by rw [hfec]; simp)]
  split
  · exact ⟨_, rfl, by rw [examine_bad hgood]; exact opened.keepRx⟩
  · refine ⟨_, rfl, ?_⟩
    cases rec_ with
    | none => exact opened.windowUnheard
    | some bytes => exact opened.windowUnheard.exportRecord

/-- The channel of a failed frame searches, and the failure counts. -/
theorem rxFrameEnd_failed (hlen : (s.mdm.chans.get b).length = 8) (hst : (s.chan b n.val).st = .payload) (hdec : m.decoded = false) :
    ∃ u : State, exec (.rxFrameEnd b n t m) s = .next u ∧ (u.chan b n.val).st = .search ∧ u.mac.nbrs = s.mac.nbrs ∧
      u.rd (MDM_CH_CNT_DONE b n.val) = min (s.rd (MDM_CH_CNT_DONE b n.val) + 1) 65535 ∧
      u.rd (MDM_CH_ERR_FECERR b n.val) = min (s.rd (MDM_CH_ERR_FECERR b n.val) + 1) 255 := by
  obtain ⟨u, hexec, hkept⟩ := exec_rxFrameEnd_failed (t := t) hst hdec
  refine ⟨u, hexec, ?_, hkept.2.1.trans payloadFailed_nbrs, ?_, ?_⟩
  · rw [hkept.chan, payloadFailed_search hlen]
  · rw [hkept.rd _ (rxCounter_chan b n (.inl rfl)), payloadFailed_done]
  · rw [hkept.rd _ (rxCounter_chan b n (.inr rfl)), payloadFailed_fecerr]

end

end Sys2Proof.Machine
end


section
namespace Sys2Proof.Machine

-- One declaration at a time: the check's memory limit holds few threads.
set_option Elab.async false

/-! ### The end of CIP's check (R176, R398, R401, R404) -/

section
variable {b : Band} {n : Fin 8} {s : State} {r : Rx} {nb : Nat} {p : Parsed}

/-- What CIP finds of the reception `r` of neighbour `nb`, parsed as `p`. -/
def State.checked (s : State) (nb : Nat) (r : Rx) (p : Parsed) : List Byte × Bool :=
  openBytes r.key (s.nbr nb).eui p.ctr p.level p.hdr p.body p.mic

/-- The reception whose turn it is has been checked. -/
theorem exec_cipAcceptDone (hwait : (s.macB b).waitingRx n.val = some r) (hnb : r.nb = some nb) (hp : parseFrame r.own r.bytes = some p)
    (htrng : s.cip.trng = 1) (hseal : s.sealing = false) (hturn : s.acceptBefore b r = false) :
    exec (.cipAcceptDone b n false) s = .next (if (s.checked nb r p).2 = false then (s.inc CIP_CNT0_AUTHFAIL).keepRx b (r.refused 3)
      else (s.judge b { r with tagOk := true } p (s.checked nb r p).1).1.keepRx b
        (s.judge b { r with tagOk := true } p (s.checked nb r p).1).2) := by
  show execCipAcceptDone b n false s = _
  simp only [execCipAcceptDone, hwait, hseal, hturn, htrng, hnb, hp]
  cases h : (s.checked nb r p).2 with
  | false => rw [State.checked] at h; simp [h]
  | true => rw [State.checked] at h; simp [h, State.checked]

theorem waitingRx_singleton (hrxs : (s.macB b).rxs = [r]) (hchan : r.chan = n.val) (hwait : r.waiting = true) :
    (s.macB b).waitingRx n.val = some r := by
  rw [BandMac.waitingRx, hrxs]
  exact List.find?_cons_of_pos (by simp [hchan, hwait])

/-- The end of the check ends the wait, and a wrong tag counts and moves no duplicate window. -/
theorem cipAcceptDone_ends (hrxs : (s.macB b).rxs = [r]) (hchan : r.chan = n.val) (hwait : r.waiting = true) (hnb : r.nb = some nb)
    (hp : parseFrame r.own r.bytes = some p) (htrng : s.cip.trng = 1) (hseal : s.sealing = false) (hturn : s.acceptBefore b r = false) :
    ∃ u : State, exec (.cipAcceptDone b n false) s = .next u ∧ (u.macB b).waitingRx n.val = none ∧
      ((s.checked nb r p).2 = false → u.mac.nbrs = s.mac.nbrs ∧
        u.rd CIP_CNT0_AUTHFAIL = min (s.rd CIP_CNT0_AUTHFAIL + 1) 65535) := by
  have alone {t : State} (h : KeepsRxs s t) : ∀ y ∈ (t.macB b).rxs, y.SameAs r := by
    rw [h b, hrxs]
    exact fun y hy => List.mem_singleton.1 hy ▸ ⟨rfl, rfl⟩
  refine ⟨_, exec_cipAcceptDone (waitingRx_singleton hrxs hchan hwait) hnb hp htrng hseal hturn, ?_, fun hbad => ?_⟩
  · split
    · exact keepRx_waitingRx ⟨rfl, rfl⟩ rfl (alone (KeepsRxs.refl s).inc)
    · obtain ⟨⟨hkept, hsame⟩, hended⟩ := judge_concludes s b { r with tagOk := true } p (s.checked nb r p).1
      exact keepRx_waitingRx hsame hended (alone hkept)
  · have kept := (KeepsCounts.refl (s.inc CIP_CNT0_AUTHFAIL)).keepRx (b := b) (r := r.refused 3)
    rw [if_pos hbad]
    exact ⟨kept.2.1, (kept.rd _ (by decide)).trans (rdF_incF _ _ _ rfl)⟩

end

/-! ### The acknowledgement's verdict (R161, R169, R404) -/

/-- What MAC answers the reception `r` with: BUSY while CIP works on it, else its verdict. -/
def Rx.answer (r : Rx) : Nat := if r.waiting then 2 else r.verdict.getD 3

theorem ackDecide_answers {b : Band} {s : State} {x : AckExch} {r : Rx} (hexch : (s.macB b).exch = some x) (hnone : x.ackst = none)
    (hsec : x.secured = false) (hown : x.own = true)
    (hr : (s.macB b).rxs.find? (fun q => q.chan == x.chan && q.er == x.er) = some r) :
    ∃ u : State, exec (.ackDecide b false) s = .next u ∧ (u.macB b).exch =
      some { x with ackst := some r.answer, psdu := withFcs (ackBytes false x.kid x.seq r.answer r.err (s.pendingFor x.nb)) } := by
  have hdecide : ∃ (s1 : State) (q : Rx), exec (.ackDecide b false) s = .next ((s1.setMac b { s1.macB b with
      exch := some { x with ackst := some r.answer,
                            psdu := withFcs (ackBytes false x.kid x.seq r.answer r.err (s.pendingFor x.nb)) } }).keepRx b q) := by
    show ∃ (s1 : State) (q : Rx), execAckDecide b false s = _
    unfold execAckDecide
    simp only [hexch, hnone, hr, hsec, hown, State.ackPsdu]
    cases hw : r.waiting with
    | false => exact ⟨s, r, by simp [Rx.answer, hw]⟩
    | true => exact ⟨s.inc CIP_CNT1_ACCLATE, r.refused 2, by simp [Rx.answer, hw]; rfl⟩
  obtain ⟨s1, q, hexec⟩ := hdecide
  exact ⟨_, hexec, by rw [keepRx_exch, macB_setMac]⟩

/-! ### The hand-off (R41, R181, R182, R236, R249) -/

/-- Firmware that reads the frame changes what it keeps alone. -/
def OnlyMesh (s t : State) : Prop := t = { s with mesh := t.mesh }

theorem OnlyMesh.trans {s t u : State} (h : OnlyMesh s t) (k : OnlyMesh t u) : OnlyMesh s u := by
  rw [OnlyMesh, k, h]

theorem OnlyMesh.ite {s t u : State} {c : Prop} [Decidable c] (h : OnlyMesh s t) (k : OnlyMesh s u) :
    OnlyMesh s (if c then t else u) := by
  split <;> assumption

theorem assuredDeliver_onlyMesh (s : State) (id q : Nat) : OnlyMesh s (s.assuredDeliver id q).1 := by
  unfold State.assuredDeliver
  split
  · rfl
  · extract_lets put
    split <;> rfl

theorem noteSnr_onlyMesh (s : State) (nb : Option Nat) (snr : Nat) : OnlyMesh s (s.noteSnr nb snr) := by
  cases nb with
  | none => rfl
  | some i =>
    exact .ite rfl rfl

theorem candidate_onlyMesh (s : State) (src ts stamp snr : Nat) (body : List Byte) : OnlyMesh s (s.candidate src body ts stamp snr) :=
  .ite rfl (.ite rfl rfl)

/-- The reception leaves MAC for the place of the ring that is written next, and RX_DONE fires. -/
def State.ringTaken (s : State) (b : Band) (r : Rx) (p : Parsed) : State :=
  let left := s.setMac b { s.macB b with rxs := (s.macB b).rxs.filter (fun q => q.chan ≠ r.chan ∨ q.er ≠ r.er) }
  ((left.sramWrite (s.rd MAC_RXBASE_BASE * 64 + s.rd MAC_RXWR_WR * s.slotSize) (ringBytes r p.ctr (p.addrs && p.broadcast))).wr
    MAC_RXWR_WR ((s.rd MAC_RXWR_WR + 1) % s.rd MAC_RXCFG_COUNT)).fire 80

section
variable {b : Band} {n : Fin 8} {assured : Option (Nat × Nat)} {s : State} {r : Rx} {p : Parsed}

theorem ringTaken_sram : (s.ringTaken b r p).sram = (s.sramWrite (s.rd MAC_RXBASE_BASE * 64 + s.rd MAC_RXWR_WR * s.slotSize)
    (ringBytes r p.ctr (p.addrs && p.broadcast))).sram := State.fire_sram _ 80

theorem ringTaken_rxs : ((s.ringTaken b r p).macB b).rxs = (s.macB b).rxs.filter (fun q => q.chan ≠ r.chan ∨ q.er ≠ r.er) := by
  rw [State.macB, State.ringTaken, State.fire_mac]
  exact congrArg BandMac.rxs (macB_setMac s b _)

/-- The write index moves on within COUNT. -/
theorem ringTaken_wr (hcount : s.rd MAC_RXCFG_COUNT ≠ 0) :
    (s.ringTaken b r p).rd MAC_RXWR_WR = (s.rd MAC_RXWR_WR + 1) % s.rd MAC_RXCFG_COUNT := by
  have hfits : (s.rd MAC_RXWR_WR + 1) % s.rd MAC_RXCFG_COUNT < 2 ^ 12 :=
    Nat.lt_trans (Nat.mod_lt _ (Nat.pos_of_ne_zero hcount)) (rdF_lt s.regs MAC_RXCFG_COUNT)
  rw [State.ringTaken, State.rd_fire _ _ _ (by simp [inEvf])]
  exact (rdF_wrF _ _ _ rfl).trans (Nat.mod_eq_of_lt hfits)

/-- After the hand-off firmware reads the frame, and nothing else follows. -/
theorem exec_handOff (hexch : (s.macB b).exch = none) (hr : (s.macB b).rxs.find? (fun q => q.chan == n.val && q.hand) = some r)
    (hp : parseFrame r.own r.bytes = some p) (hcount : s.rd MAC_RXCFG_COUNT ≠ 0) :
    ∃ u, exec (.handOff b n assured) s = .next u ∧ OnlyMesh (s.ringTaken b r p) u := by
  show ∃ u, execHandOff b n assured s = .next u ∧ _
  have delivered : OnlyMesh (s.ringTaken b r p)
      (match assured with | some (f, q) => ((s.ringTaken b r p).assuredDeliver f q).1 | none => s.ringTaken b r p) := by
    cases assured with
    | none => rfl
    | some x => exact assuredDeliver_onlyMesh _ _ _
  have noted := delivered.trans (noteSnr_onlyMesh _ r.nb (r.report.getD 14 0).toNat)
  simp only [execHandOff, hr, hp, if_neg hcount]
  split
  · next hbusy => exact nomatch hexch.symm.trans hbusy
  refine ⟨_, rfl, ?_⟩
  split
  · exact noted.trans (candidate_onlyMesh _ _ _ _ _ _)
  · exact noted

theorem handOff_writes (hexch : (s.macB b).exch = none) (hr : (s.macB b).rxs.find? (fun q => q.chan == n.val && q.hand) = some r)
    (hp : parseFrame r.own r.bytes = some p) (hcount : s.rd MAC_RXCFG_COUNT ≠ 0) :
    ∃ u : State, exec (.handOff b n assured) s = .next u ∧ u.rd MAC_RXWR_WR = (s.rd MAC_RXWR_WR + 1) % s.rd MAC_RXCFG_COUNT ∧
      u.sram = (s.sramWrite (s.rd MAC_RXBASE_BASE * 64 + s.rd MAC_RXWR_WR * s.slotSize)
        (ringBytes r p.ctr (p.addrs && p.broadcast))).sram ∧
      (u.macB b).rxs = (s.macB b).rxs.filter (fun q => q.chan ≠ r.chan ∨ q.er ≠ r.er) := by
  obtain ⟨u, hexec, hmesh⟩ := exec_handOff (assured := assured) hexch hr hp hcount
  refine ⟨u, hexec, ?_, ?_, ?_⟩
  · rw [hmesh]
    exact ringTaken_wr hcount
  · rw [hmesh]
    exact ringTaken_sram
  · rw [hmesh]
    exact ringTaken_rxs

end

/-- Settles O43: the end of a failed frame, of CIP's check, of a decision and of a hand-off, each by its own theorem. -/
theorem receptionsEnd : Obligations.ReceptionsEnd :=
  ⟨fun _ _ _ => ⟨fun _ _ hlen hst hdec => rxFrameEnd_failed hlen hst hdec,
      fun _ _ _ hrxs hchan hwait hnb hp htrng hseal hturn => cipAcceptDone_ends hrxs hchan hwait hnb hp htrng hseal hturn⟩,
    fun _ _ _ _ hexch hnone hsec hown hr => ackDecide_answers hexch hnone hsec hown hr,
    fun _ _ _ _ _ _ hexch hr hp hcount => handOff_writes hexch hr hp hcount⟩

end Sys2Proof.Machine
end


section
namespace Sys2Proof.Machine

-- One declaration at a time: the check's memory limit holds few threads.
set_option Elab.async false

/-! ### The counter of a secured frame against the window (R177) -/

section
variable {w v : DupWin} {seq ctr : Nat} {secured : Bool}

/-- How far a frame's counter stands ahead of the window's, modulo 2^32 (R177). -/
def DupWin.lead (w : DupWin) (ctr : Nat) : Nat := (ctr + 2 ^ 32 - w.ctr % 2 ^ 32) % 2 ^ 32

/-- A counter far behind the window's: a replay (R177). -/
def DupWin.replayed (w : DupWin) (secured : Bool) (ctr : Nat) : Bool :=
  secured && w.valid && decide (2 ^ 31 ≤ w.lead ctr ∧ w.lead ctr ≤ 2 ^ 32 - 1024)

/-- A counter so far ahead that its sender has restarted (R177). -/
def DupWin.restarted (w : DupWin) (secured : Bool) (ctr : Nat) : Bool :=
  secured && w.valid && decide (2 ^ 19 ≤ w.lead ctr ∧ w.lead ctr < 2 ^ 31)

/-- The window that the sequence number meets: a restart empties it first (R177). -/
def DupWin.met (w : DupWin) (secured : Bool) (ctr : Nat) : DupWin := if w.restarted secured ctr then { w with valid := false } else w

/-- The counter that the window keeps after the frame (R178). -/
def DupWin.counted (w : DupWin) (secured : Bool) (ctr : Nat) : Nat :=
  if secured && (!w.valid || w.lead ctr < 2 ^ 31) then ctr else w.ctr

/-- What the window finds of a sequence number, 0 new and 1 duplicate, and the window that has taken it (R177). -/
def DupWin.take (w : DupWin) (seq : Nat) : Nat × DupWin :=
  let ahead := (seq + 256 - w.top % 256) % 256
  let back := (w.top + 256 - seq % 256) % 256
  if !w.valid then (0, { w with valid := true, top := seq % 256, bits := 1 })
  else if 1 ≤ ahead ∧ ahead ≤ 127 then (0, { w with top := seq % 256, bits := (w.bits * 2 ^ ahead ||| 1) % 2 ^ 32 })
  else if back ≤ 31 ∧ w.bits / 2 ^ back % 2 = 0 then (0, { w with bits := w.bits ||| 2 ^ back })
  else (1, w)

theorem DupWin.replayed_iff : w.replayed secured ctr = true ↔
    secured = true ∧ w.valid = true ∧ 2 ^ 31 ≤ w.lead ctr ∧ w.lead ctr ≤ 2 ^ 32 - 1024 := by
  simp only [DupWin.replayed, Bool.and_eq_true, decide_eq_true_eq, and_assoc]

theorem DupWin.restarted_iff : w.restarted secured ctr = true ↔
    secured = true ∧ w.valid = true ∧ 2 ^ 19 ≤ w.lead ctr ∧ w.lead ctr < 2 ^ 31 := by
  simp only [DupWin.restarted, Bool.and_eq_true, decide_eq_true_eq, and_assoc]

theorem DupWin.lead_of_lt (h : w.ctr < 2 ^ 32) : w.lead ctr = (ctr + 2 ^ 32 - w.ctr) % 2 ^ 32 := by
  rw [DupWin.lead, Nat.mod_eq_of_lt h]

/-- No counter is ahead of itself. -/
theorem DupWin.lead_self (h : v.ctr = ctr) (hctr : ctr < 2 ^ 32) : v.lead ctr = 0 := by
  rw [DupWin.lead, h, Nat.mod_eq_of_lt hctr, Nat.add_sub_cancel_left, Nat.mod_self]

theorem DupWin.met_ctr : (w.met secured ctr).ctr = w.ctr := by unfold DupWin.met; split <;> rfl

theorem DupWin.met_top : (w.met secured ctr).top = w.top := by unfold DupWin.met; split <;> rfl

theorem DupWin.met_bits : (w.met secured ctr).bits = w.bits := by unfold DupWin.met; split <;> rfl

theorem DupWin.met_eq_self (h : w.restarted secured ctr = false) : w.met secured ctr = w := by rw [DupWin.met, h]; rfl

theorem DupWin.met_invalid (h : w.valid = false) : w.met secured ctr = w :=
  DupWin.met_eq_self (by rw [DupWin.restarted, h, Bool.and_false, Bool.false_and])

theorem DupWin.take_ctr : (w.take seq).2.ctr = w.ctr := by
  simp only [DupWin.take]
  split
  · rfl
  · split
    · rfl
    · split <;> rfl

/-- To a window that keeps the counter as a frame has left it, the same frame is no replay and no restart. -/
theorem DupWin.counted_again (hctr : ctr < 2 ^ 32) (hw : w.replayed secured ctr = false) (hv : v.ctr = w.counted secured ctr) :
    v.replayed secured ctr = false ∧ v.restarted secured ctr = false := by
  suffices h : secured = true → v.lead ctr < 2 ^ 19 ∨ 2 ^ 32 - 1024 < v.lead ctr by
    rw [← Bool.not_eq_true, ← Bool.not_eq_true, DupWin.replayed_iff, DupWin.restarted_iff]
    exact ⟨fun ⟨hs, _, hlo, hhi⟩ => by rcases h hs <;> omega, fun ⟨hs, _, hlo, hhi⟩ => by rcases h hs <;> omega⟩
  intro hs
  rw [DupWin.counted, hs] at hv
  by_cases hkept : w.valid = false ∨ w.lead ctr < 2 ^ 31
  · left
    rw [if_pos (by simpa using hkept)] at hv
    rw [DupWin.lead_self hv hctr]
    decide
  · right
    rw [if_neg (by simpa using hkept)] at hv
    rw [not_or, Bool.not_eq_false, Nat.not_lt] at hkept
    rw [← Bool.not_eq_true, DupWin.replayed_iff] at hw
    have hlead : v.lead ctr = w.lead ctr := by rw [DupWin.lead, DupWin.lead, hv]
    rw [hlead]
    exact Nat.lt_of_not_le fun hle => hw ⟨hs, hkept.1, hkept.2, hle⟩

/-- A replay leaves the window. -/
theorem classify_replayed (h : w.replayed secured ctr = true) : classify w seq secured ctr = (2, w, false) := if_pos h

/-- A frame that is no replay: the number meets the window, and the counter follows. -/
theorem classify_taken (h : w.replayed secured ctr = false) : classify w seq secured ctr =
    (((w.met secured ctr).take seq).1, { ((w.met secured ctr).take seq).2 with ctr := w.counted secured ctr },
      w.restarted secured ctr) := by
  have hctr : (if secured && (!w.valid || w.lead ctr < 2 ^ 31) then
      { ((w.met secured ctr).take seq).2 with ctr := ctr } else ((w.met secured ctr).take seq).2) =
      { ((w.met secured ctr).take seq).2 with ctr := w.counted secured ctr } := by
    rw [DupWin.counted]
    split
    · rfl
    · rw [← DupWin.met_ctr (w := w) (secured := secured) (ctr := ctr), ← DupWin.take_ctr (seq := seq)]
  rw [← hctr]
  exact if_neg (Bool.not_eq_true _ ▸ h)

/-! ### The window of sequence numbers (R177, R178) -/

/-- The window is valid and holds `seq`, at most 31 behind its top. -/
def DupWin.Holds (w : DupWin) (seq : Nat) : Prop :=
  w.valid = true ∧ w.top < 256 ∧ w.bits < 2 ^ 32 ∧ w.bits.testBit ((w.top + 256 - seq) % 256) = true

/-- A number found new is then held. -/
theorem DupWin.take_new_holds (htop : w.top < 256) (hbits : w.bits < 2 ^ 32) (hseq : seq < 256) (hnew : (w.take seq).1 = 0) :
    (w.take seq).2.Holds seq := by
  have atTop (bits : Nat) (hb : bits < 2 ^ 32) (h0 : bits.testBit 0 = true) (c : Nat) : (DupWin.mk true seq bits c).Holds seq := by
    refine ⟨rfl, hseq, hb, ?_⟩
    rw [show (seq + 256 - seq) % 256 = 0 by omega]
    exact h0
  simp only [DupWin.take, Nat.mod_eq_of_lt htop, Nat.mod_eq_of_lt hseq] at hnew ⊢
  split
  · exact atTop 1 (by decide) rfl _
  · next hvalid =>
    have hvalid : w.valid = true := by simpa using hvalid
    split
    · next hahead =>
      rw [hvalid]
      exact atTop _ (Nat.mod_lt _ (by decide)) (by simp) _
    · next hbehind =>
      rw [if_neg (by simpa using hvalid), if_neg hbehind] at hnew
      split
      · next hback =>
        have hbit : 2 ^ ((w.top + 256 - seq) % 256) < 2 ^ 32 := Nat.pow_lt_pow_right (by decide) (by omega)
        exact ⟨hvalid, htop, Nat.or_lt_two_pow hbits hbit, by simp [Nat.testBit_or]⟩
      · next hheld =>
        rw [if_neg hheld] at hnew
        exact absurd hnew Nat.one_ne_zero

/-- A number that the window holds is a duplicate. -/
theorem DupWin.take_of_holds (h : w.Holds seq) (hseq : seq < 256) : w.take seq = (1, w) := by
  obtain ⟨hvalid, htop, hbits, hheld⟩ := h
  have hback : (w.top + 256 - seq) % 256 < 32 :=
    (Nat.pow_lt_pow_iff_right (a := 2) (by decide)).1 (Nat.lt_of_le_of_lt (Nat.ge_two_pow_of_testBit hheld) hbits)
  simp only [DupWin.take, Nat.mod_eq_of_lt htop, Nat.mod_eq_of_lt hseq]
  rw [if_neg (by simp [hvalid]), if_neg (by omega), if_neg]
  rw [Nat.testBit_eq_decide_div_mod_eq, decide_eq_true_eq] at hheld
  omega

/-- A number is new or a duplicate. -/
theorem DupWin.take_le_one : (w.take seq).1 ≤ 1 := by
  simp only [DupWin.take]
  split
  · exact Nat.zero_le 1
  · split
    · exact Nat.zero_le 1
    · split
      · exact Nat.zero_le 1
      · exact Nat.le_refl 1

/-! ### What `classify` finds (R177, R178) -/

theorem classify_eq_two_iff : (classify w seq secured ctr).1 = 2 ↔ w.replayed secured ctr = true := by
  refine ⟨fun h => ?_, fun h => by rw [classify_replayed h]⟩
  cases hreplay : w.replayed secured ctr with
  | true => rfl
  | false =>
    rw [classify_taken hreplay] at h
    exact absurd (h ▸ DupWin.take_le_one) (by decide : ¬ 2 ≤ 1)

/-- A frame that is new is no replay. -/
theorem not_replayed_of_new (h : (classify w seq secured ctr).1 = 0) : w.replayed secured ctr = false := by
  rw [← Bool.not_eq_true, ← classify_eq_two_iff (seq := seq), h]
  decide

/-- An invalid window takes any number, and holds it alone. -/
theorem classify_invalid (h : w.valid = false) (hseq : seq < 256) :
    (classify w seq secured ctr).1 = 0 ∧ (classify w seq secured ctr).2.1.top = seq ∧
      (classify w seq secured ctr).2.1.bits = 1 ∧ (classify w seq secured ctr).2.1.valid = true := by
  have hno : w.replayed secured ctr = false := by rw [DupWin.replayed, h, Bool.and_false, Bool.false_and]
  have htake : w.take seq = (0, { w with valid := true, top := seq, bits := 1 }) := by
    rw [DupWin.take, if_pos (by rw [h]; rfl), Nat.mod_eq_of_lt hseq]
  rw [classify_taken hno, DupWin.met_invalid h, htake]
  exact ⟨rfl, rfl, rfl, rfl⟩

/-- The window after a new number holds it. -/
theorem classify_new_holds (htop : w.top < 256) (hbits : w.bits < 2 ^ 32) (hseq : seq < 256)
    (hnew : (classify w seq secured ctr).1 = 0) : (classify w seq secured ctr).2.1.Holds seq := by
  have htaken := classify_taken (seq := seq) (not_replayed_of_new hnew)
  rw [htaken] at hnew ⊢
  exact DupWin.take_new_holds (by rwa [DupWin.met_top]) (by rwa [DupWin.met_bits]) hseq hnew

/-- The same frame again is a duplicate. -/
theorem classify_again (htop : w.top < 256) (hbits : w.bits < 2 ^ 32) (hseq : seq < 256) (hctr : ctr < 2 ^ 32)
    (hnew : (classify w seq secured ctr).1 = 0) : (classify (classify w seq secured ctr).2.1 seq secured ctr).1 = 1 := by
  have hno := not_replayed_of_new hnew
  have hcounted : (classify w seq secured ctr).2.1.ctr = w.counted secured ctr := by rw [classify_taken hno]
  obtain ⟨hreplayed, hrestarted⟩ := DupWin.counted_again hctr hno hcounted
  rw [classify_taken hreplayed, DupWin.met_eq_self hrestarted, DupWin.take_of_holds (classify_new_holds htop hbits hseq hnew) hseq]

/-- A restart is counted of a frame in its band, which is no replay. -/
theorem classify_restart_iff : (classify w seq secured ctr).2.2 = true ↔ w.restarted secured ctr = true := by
  cases hreplay : w.replayed secured ctr with
  | true =>
    rw [classify_replayed hreplay]
    refine ⟨fun h => Bool.noConfusion h, fun h => ?_⟩
    obtain ⟨hs, hvalid, hfar, hband⟩ := DupWin.replayed_iff.1 hreplay
    obtain ⟨hs, hvalid, hlo, hhi⟩ := DupWin.restarted_iff.1 h
    omega
  | false => rw [classify_taken hreplay]

end

/-- Settles O42: `classify` splits into a replay, which leaves the window, and a number that the window takes, its counter following. -/
theorem duplicateWindow : Obligations.DuplicateWindow := by
  intro w seq secured ctr hseq hctr htop hbits hwctr
  dsimp only
  rw [← DupWin.lead_of_lt hwctr, classify_eq_two_iff, classify_restart_iff]
  refine ⟨DupWin.replayed_iff, fun h => ?_, fun h => classify_invalid h hseq, fun hnew => ?_,
    classify_again htop hbits hseq hctr, DupWin.restarted_iff⟩
  · rw [classify_replayed h]
    exact ⟨rfl, rfl⟩
  · obtain ⟨hvalid, _, _, hheld⟩ := classify_new_holds htop hbits hseq hnew
    rw [Nat.testBit_eq_decide_div_mod_eq, decide_eq_true_eq] at hheld
    exact ⟨hvalid, hheld⟩

end Sys2Proof.Machine
end


section
namespace Sys2Proof.Machine

-- One declaration at a time: the check's memory limit holds few threads.
set_option Elab.async false

/-! ### The gate of a frame without security (R156, R167) -/

theorem shpB_setShp (s : State) (b : Band) (h : BandShp) : (s.setShp b h).shpB b = h := by
  rw [State.shpB, State.setShp, PerBand.get_set, if_pos rfl]

/-- A queued frame replaced stands in the queue. -/
theorem frameAt_putFrame {s : State} {b : Band} {f g : Frame} (h : s.frameAt b f.desc = some g) :
    (s.putFrame b f).frameAt b f.desc = some f := by
  have hdesc : g.desc = f.desc := by simpa using List.find?_some h
  have hsame : ((fun x : Frame => x.desc == f.desc) ∘ fun x => if x.desc = f.desc then f else x) = fun x => x.desc == f.desc := by
    funext x
    by_cases hx : x.desc = f.desc <;> simp [hx]
  have hqueue : (s.putFrame b f).shpB b = (s.shpB b).putFrame f := shpB_setShp s b _
  change ((s.putFrame b f).shpB b).frames.find? _ = _
  rw [hqueue, BandShp.putFrame, List.find?_map, hsame]
  exact (congrArg _ h).trans (congrArg some (if_pos hdesc))

/-- Taking a number leaves the queues. -/
theorem takeSeq_shp (s : State) (b : Band) (f : Frame) (d : Desc) : (s.takeSeq b f d).1.shp = s.shp := by
  unfold State.takeSeq
  split
  · rfl
  · split <;> rfl

/-- Without security no key and no random number is asked for: the attempt stands, sealed, and its frame is busy with its number. -/
theorem beginSeal_unsecured (s : State) (b : Band) (f : Frame) {d : Desc} (x : TxFrame) (t : TxTimes) (entry : Nat)
    (hsec : d.sec = false) :
    ∃ a, ((s.beginSeal b f d x t entry).macB b).att = some a ∧ a.desc = f.desc ∧ a.sealed = true ∧ a.start = t.start ∧
      a.unicast = !d.broadcast ∧
      (s.beginSeal b f d x t entry).shp = (s.putFrame b { f with seq := some a.seq, busy := true, duty := false }).shp := by
  have hshp := takeSeq_shp s b f d
  simp only [State.beginSeal, hsec, Bool.false_eq_true, false_and, if_false]
  refine ⟨_, congrArg BandMac.att (macB_setMac _ b _), rfl, rfl, rfl, rfl, ?_⟩
  change ((s.takeSeq b f d).1.putFrame b _).shp = _
  rw [State.putFrame, State.setShp, State.shpB, hshp]
  rfl

/-- A gate that every check passes begins a Seal; without a loaded map MDM reports no error of one (R138, R167). The gate is
unfolded as a function: the kernel then compares two bodies as they stand, where an equation of values has it evaluate the checks. -/
theorem gate_go {s : State} {b : Band} {f : Frame} {start : Nat} {d : Desc} {x : TxFrame} {t : TxTimes} {entry : Nat}
    (hd : s.desc f.desc = d) (hx : s.txFrame d = x) (ht : s.txTimes b d x start = t)
    (hentry : s.sendEntry b d.entry (s.merAt start) = entry) (hmap : ¬ (d.mode = 3 ∧ d.mapsel = true))
    (hgo : s.gateCheck b f d x t entry = .go) : s.gate b f start = s.beginSeal b f d x t entry := by
  generalize hbody : State.gate = gate
  delta State.gate at hbody
  subst hbody hd hx ht hentry
  simp only [hgo, if_neg hmap]

theorem txTimes_start (s : State) (b : Band) (d : Desc) (x : TxFrame) (start : Nat) : (s.txTimes b d x start).start = start := rfl

/-- A frame without security that every check of its gate passes: MAC takes it, sealed, and it is busy (R156, R167). -/
theorem gate_unsecured {b : Band} {s : State} {f : Frame} {start : Nat} {d : Desc} {x : TxFrame}
    (hf : s.frameAt b f.desc = some f) (hd : s.desc f.desc = d) (hx : s.txFrame d = x) (hsec : d.sec = false)
    (hmap : d.mode ≠ 3 ∨ d.mapsel = false)
    (hgo : s.gateCheck b f d x (s.txTimes b d x start) (s.sendEntry b d.entry (s.merAt start)) = .go) :
    ∃ a, ((s.gate b f start).macB b).att = some a ∧ a.desc = f.desc ∧ a.sealed = true ∧ a.start = start ∧
      a.unicast = !d.broadcast ∧ ∃ g, (s.gate b f start).frameAt b f.desc = some g ∧ g.busy = true ∧ g.seq = some a.seq := by
  have hnoMap : ¬ (d.mode = 3 ∧ d.mapsel = true) := by
    rintro ⟨hmode, hsel⟩
    rcases hmap with h | h
    · exact h hmode
    · exact Bool.noConfusion (hsel.symm.trans h)
  rw [gate_go hd hx rfl rfl hnoMap hgo]
  obtain ⟨a, hatt, hdesc, hsealed, hstart, huni, hshp⟩ :=
    beginSeal_unsecured s b f x (s.txTimes b d x start) (s.sendEntry b d.entry (s.merAt start)) hsec
  refine ⟨a, hatt, hdesc, hsealed, hstart.trans (txTimes_start ..), huni,
    { f with seq := some a.seq, busy := true, duty := false }, ?_, rfl, rfl⟩
  rw [State.frameAt, hshp]
  exact frameAt_putFrame (f := { f with seq := some a.seq, busy := true, duty := false }) hf

/-! ### The share of an occurrence (R202, R203) -/

theorem endShare_share (h : BandShp) : h.endShare.share = none := by
  unfold BandShp.endShare
  split <;> rfl

/-- SHARE_START in an occurrence that has room left: the frame that SHP chooses begins its share, and with none the
occurrence is spent. -/
theorem exec_shareStart_choice {b : Band} {s : State} {o : Occ} (htclk : s.tclkOn = true) (hshp : s.shpOn b = true)
    (hmac : s.macOn b = true) (hresume : (s.shpB b).resume = false) (hwalks : s.merWalks = true) (hatt : (s.macB b).att = none)
    (hocc : (s.shpB b).occ = some o) (hpos : o.pos < o.len) :
    let s0 := s.advanceMer (merAdd o.start o.pos)
    let s1 := s0.setShp b (s0.shpB b).endShare
    let o1 := { o with pos := max o.pos (merDiff s0.mer.now o.start).toNat }
    merAfter s0.mer.now (merAdd o.start o.len) = false →
    exec (.shareStart b) s = match s1.chooseFrame b o1 with
      | some f => .next (s1.beginShare b f)
      | none => .next (s1.setShp b { s1.shpB b with occ := some { o1 with pos := o.len } }) := by
  intro s0 s1 o1 hroom
  have hserved : ¬ ((!s.tclkOn) = true ∨ (!s.shpOn b) = true ∨ (!s.macOn b) = true ∨ (s.shpB b).resume = true ∨
      (s.macB b).att.isSome = true) := by
    simp [htclk, hshp, hmac, hresume, hatt]
  change execShareStart b s = _
  simp only [execShareStart, if_neg hserved, if_pos hwalks, hocc, if_neg (Nat.not_le.2 hpos)]
  exact if_neg (Bool.not_eq_true _ ▸ hroom)

/-- Settles O44: a gate by what begins without a Seal, a share by SHP's choice. -/
theorem sharesAndGates : Obligations.SharesAndGates := by
  intro b s
  refine ⟨fun f start hf hsec hmap hgo => gate_unsecured hf rfl rfl hsec hmap hgo, ?_⟩
  intro o htclk hshp hmac hresume hwalks hatt hocc hpos s0 hroom s1 o1
  have hexec := exec_shareStart_choice htclk hshp hmac hresume hwalks hatt hocc hpos hroom
  constructor
  · intro f hf
    exact ⟨s1.beginShare b f, hexec.trans (by rw [hf]), rfl⟩
  · intro hnone
    refine ⟨s1.setShp b { s1.shpB b with occ := some { o with pos := o.len } }, hexec.trans (by rw [hnone]), ?_⟩
    have hended : s1.shpB b = (s0.shpB b).endShare := shpB_setShp s0 b _
    rw [shpB_setShp, hended]
    exact ⟨rfl, endShare_share _⟩

end Sys2Proof.Machine
end


section
namespace Sys2Proof.Machine

-- One declaration at a time: the check's memory limit holds few threads.
set_option Elab.async false

/-! ### What leaves SHP and MAC (R91, R168, R216) -/

/-- The register that enables the bands at SHP, or one that shows an occurrence. -/
abbrev walkReg (a : Nat) : Prop := a = 0x4000B000 ∨ a = 0x4000B084 ∨ a = 0x4000B0C4

/-- `t` has the scheduler and the link layer of `s`, the enables of SHP and the occurrences shown. -/
def KeepsWalk (s t : State) : Prop := t.shp = s.shp ∧ t.mac = s.mac ∧ ∀ a, walkReg a → regGet t.regs a = regGet s.regs a

theorem KeepsWalk.refl (s : State) : KeepsWalk s s := ⟨rfl, rfl, fun _ _ => rfl⟩

theorem KeepsWalk.trans {s t u : State} (h : KeepsWalk s t) (k : KeepsWalk t u) : KeepsWalk s u :=
  ⟨k.1.trans h.1, k.2.1.trans h.2.1, fun a ha => (k.2.2 a ha).trans (h.2.2 a ha)⟩

theorem KeepsWalk.ite {s t u : State} {c : Prop} [Decidable c] (h : KeepsWalk s t) (k : KeepsWalk s u) :
    KeepsWalk s (if c then t else u) := by
  split <;> assumption

section
variable {s t : State}

theorem KeepsWalk.shpB (h : KeepsWalk s t) (b : Band) : t.shpB b = s.shpB b := congrArg (fun x : Shp => x.bands.get b) h.1

theorem KeepsWalk.macB (h : KeepsWalk s t) (b : Band) : t.macB b = s.macB b := congrArg (fun x : Mac => x.bands.get b) h.2.1

theorem KeepsWalk.rd (h : KeepsWalk s t) (f : Field) (hf : walkReg f.addr) : t.rd f = s.rd f := congrArg f.of (h.2.2 f.addr hf)

/-- A step on from `t` that replaces neither registers nor SHP nor MAC. -/
theorem KeepsWalk.on {u : State} (h : KeepsWalk s t) (hshp : u.shp = t.shp := by exact rfl) (hmac : u.mac = t.mac := by exact rfl)
    (hregs : u.regs = t.regs := by exact rfl) : KeepsWalk s u :=
  h.trans ⟨hshp, hmac, fun _ _ => by rw [hregs]⟩

/-- A field of another register is written. -/
theorem KeepsWalk.wr (h : KeepsWalk s t) {f : Field} {v : Nat} (hf : ¬ walkReg f.addr) : KeepsWalk s (t.wr f v) :=
  h.trans ⟨rfl, rfl, fun _ ha => regGet_wrF _ _ _ _ (fun e => hf (e ▸ ha))⟩

theorem KeepsWalk.fire (h : KeepsWalk s t) {src : Nat} : KeepsWalk s (t.fire src) :=
  h.trans ⟨t.fire_shp src, t.fire_mac src, fun a ha => t.fire_keeps src a (fun ⟨_, _⟩ => by dsimp only [walkReg] at ha; omega)⟩

theorem KeepsWalk.relink : ∀ (l : List Frame) {t : State}, KeepsWalk s t → KeepsWalk s (t.relink l)
  | [], _, h => h
  | [_], _, h => h
  | _ :: g :: r, _, h => KeepsWalk.relink (g :: r) (.ite h h.on)

/-! The radio changes, and its channels with it. -/

theorem KeepsWalk.rssiOff (h : KeepsWalk s t) {b : Band} : KeepsWalk s (t.rssiOff b) := by
  have chainA : ¬ walkReg (RFC_RSSI_RSSIA b).addr := by cases b <;> decide
  have chainB : ¬ walkReg (RFC_RSSI_RSSIB b).addr := by cases b <;> decide
  have offA (c : Prop) [Decidable c] : KeepsWalk s (if c then t.wr (RFC_RSSI_RSSIA b) 0x80 else t) := .ite (h.wr chainA) h
  exact .ite ((offA _).wr chainB) (offA _)

theorem KeepsWalk.radio (h : KeepsWalk s t) {b : Band} {r : BandRadio} : KeepsWalk s (t.radio b r) := by
  have blanked : ¬ walkReg (MAC_CNT0_BLANKED b).addr := by cases b <;> decide
  have set : KeepsWalk s (t.setRfc b (r.timed (t.rfcB b) t.mer.tstamp)) := h.on
  exact .rssiOff (.wr set.on blanked)

theorem KeepsWalk.endCalcmd (h : KeepsWalk s t) {st : Nat} : KeepsWalk s (t.endCalcmd st) := by
  have ended : KeepsWalk s { t with rfc := { t.rfc with cmd := none } } := h.on
  exact ((ended.wr (f := RFC_CALSTAT_STATUS) (by decide)).wr (f := RFC_CALSTAT_BUSY) (by decide)).fire

theorem KeepsWalk.tryCal (h : KeepsWalk s t) {b : Band} : KeepsWalk s (t.tryCal b) := by
  have runs (c : CalCmd) : KeepsWalk s { t with rfc := { t.rfc with cmd := some c } } := h.on
  unfold State.tryCal
  split
  · refine .ite ?_ h
    split
    · exact (runs _).radio
    · exact h.endCalcmd
  · exact h

theorem KeepsWalk.updateRx (h : KeepsWalk s t) {b : Band} : KeepsWalk s (t.updateRx b) :=
  .ite h.radio (.ite h.radio.tryCal (.ite h.radio.tryCal h))

/-! ### Frames complete (R168, R216, R222) -/

/-- A frame that completes leaves its band's scheduler; nothing else of SHP and of MAC moves. -/
theorem completeFrame_keepsWalk (s : State) (b : Band) (f : Frame) (st : Nat) :
    KeepsWalk (s.setShp b ((s.shpB b).without s.mer.now f)) (s.completeFrame b f st) := by
  have late : ¬ walkReg (SHP_CNT_MISSDL b).addr := by cases b <;> decide
  have linked (w u : State) (l : List Frame) (h : KeepsWalk w u) : KeepsWalk w ((u.relink l).fire 81) := .fire (.relink l h)
  simp only [State.completeFrame]
  split
  · exact .fire (.wr (linked _ _ _ (KeepsWalk.refl _).on) late)
  · exact linked _ _ _ (KeepsWalk.refl _).on

theorem setShp_setShp (s : State) (b : Band) (x y : BandShp) : (s.setShp b x).setShp b y = s.setShp b y := by
  cases b <;> rfl

theorem setShp_self (s : State) (b : Band) : s.setShp b (s.shpB b) = s := by
  cases b <;> rfl

theorem KeepsWalk.setShp (h : KeepsWalk s t) {b : Band} {x : BandShp} : KeepsWalk (s.setShp b x) (t.setShp b x) :=
  ⟨congrArg (fun y : Shp => { y with bands := y.bands.set b x }) h.1, h.2.1, h.2.2⟩

/-- Frames that complete in turn leave their band's scheduler one after the other. -/
theorem completeEach_keepsWalk (b : Band) (st : Frame → Nat) : ∀ (l : List Frame) (s : State),
    KeepsWalk (s.setShp b (l.foldl (BandShp.without · s.mer.now) (s.shpB b))) (s.completeEach b st l)
  | [], s => by rw [List.foldl_nil, setShp_self]; exact .refl s
  | f :: l, s => by
    have first := completeFrame_keepsWalk s b f (st f)
    have rest := completeEach_keepsWalk b st l (s.completeFrame b f (st f))
    have hnow : (s.completeFrame b f (st f)).mer = s.mer := ((KeepsTime.refl s).completeFrame).1
    rw [hnow, first.shpB, shpB_setShp] at rest
    have both := first.setShp (b := b) (x := l.foldl (BandShp.without · s.mer.now) ((s.shpB b).without s.mer.now f))
    rw [setShp_setShp] at both
    exact both.trans rest

/-- A band's scheduler without the frames of a list has the rest of its frames, in the same occurrence. -/
theorem without_foldl (now : Nat) : ∀ (l : List Frame) (h : BandShp),
    (l.foldl (BandShp.without · now) h).frames = h.frames.filter (fun g => l.all (fun f => decide (g.desc ≠ f.desc))) ∧
      (l.foldl (BandShp.without · now) h).occ = h.occ
  | [], h => ⟨(List.filter_eq_self.2 (fun _ _ => rfl)).symm, rfl⟩
  | f :: l, h => by
    obtain ⟨hframes, hocc⟩ := without_foldl now l (h.without now f)
    refine ⟨hframes.trans ?_, hocc⟩
    simp only [BandShp.without, List.filter_filter, List.all_cons, Bool.and_comm]

/-- Whatever frames of a band complete, its occurrence stays. -/
theorem completeWhere_occ (s : State) (b : Band) (p : Frame → Bool) (st : Frame → Nat) :
    ((s.completeWhere b p st).shpB b).occ = (s.shpB b).occ := by
  rw [State.completeWhere, (completeEach_keepsWalk b st _ s).shpB, shpB_setShp]
  exact (without_foldl ..).2

/-- With every frame complete the band holds none (R222). -/
theorem completeWhere_all_frames (s : State) (b : Band) (st : Frame → Nat) :
    ((s.completeWhere b (fun _ => true) st).shpB b).frames = [] := by
  rw [State.completeWhere, (completeEach_keepsWalk b st _ s).shpB, shpB_setShp, (without_foldl ..).1,
    List.filter_eq_nil_iff]
  intro f hf hother
  exact of_decide_eq_true (List.all_eq_true.1 hother f (List.mem_filter.2 ⟨hf, rfl⟩)) rfl

theorem completeWhere_mac (s : State) (b : Band) (p : Frame → Bool) (st : Frame → Nat) : (s.completeWhere b p st).mac = s.mac :=
  (completeEach_keepsWalk b st _ s).2.1

theorem rd_completeWhere (s : State) (b : Band) (p : Frame → Bool) (st : Frame → Nat) {f : Field} (hf : walkReg f.addr) :
    (s.completeWhere b p st).rd f = s.rd f := (completeEach_keepsWalk b st _ s).rd f hf

end

end Sys2Proof.Machine
end


section
namespace Sys2Proof.Machine

-- One declaration at a time: the check's memory limit holds few threads.
set_option Elab.async false

/-! ### A field of a plain register after a bus write (R4) -/

theorem Field.testBit_of (f : Field) (w : Word) (i : Nat) : (f.of w).testBit i = (decide (i < f.width) && w.getLsbD (f.lsb + i)) := by
  rw [Field.of, Nat.testBit_mod_two_pow, Nat.testBit_div_two_pow, Nat.add_comm, BitVec.testBit_toNat]

/-- A field of RW bits takes the value written, in a register that has no W1C bit. -/
theorem of_plainActive {a : Nat} {r : RegRow} {f : Field} (hrow : regRow a = some r) (hw1c : r.w1c = 0)
    (hrw : ∀ i < f.width, (BitVec.ofNat 32 r.rw).getLsbD (f.lsb + i) = true) (v old : Word) :
    f.of (plainActive a v old) = f.of v := by
  refine Nat.eq_of_testBit_eq fun i => ?_
  rw [Field.testBit_of, Field.testBit_of]
  by_cases hi : i < f.width
  · have hbit := hrw i hi
    have hin := BitVec.lt_of_getLsbD hbit
    simp only [plainActive, hrow, hw1c, BitVec.getLsbD_and, BitVec.getLsbD_or, BitVec.getLsbD_not, BitVec.getLsbD_zero, hbit, hin,
      decide_true, Bool.not_true, Bool.not_false, Bool.and_false, Bool.and_true, Bool.false_or]
  · simp only [hi, decide_false, Bool.false_and]

/-- A field at the foot of its register takes the low bits written. -/
theorem rd_plainWrite_low {r : RegRow} {f : Field} (hrow : regRow f.addr = some r) (hw1c : r.w1c = 0) (hlsb : f.lsb = 0)
    (hrw : ∀ i < f.width, (BitVec.ofNat 32 r.rw).getLsbD i = true) (s : State) (v : Word) :
    (s.plainWrite f.addr v).rd f = v.toNat % 2 ^ f.width := by
  have hfield : ∀ i < f.width, (BitVec.ofNat 32 r.rw).getLsbD (f.lsb + i) = true := by simpa only [hlsb, Nat.zero_add] using hrw
  rw [plainWrite_of_row hrow, State.rd, rdF, regGet_regSet_same, of_plainActive hrow hw1c hfield, Field.of, hlsb, Nat.pow_zero,
    Nat.div_one]

/-! ### Writes to a policer (R221) -/

theorem regRow_polCfg (p : Fin 64) : regRow (SHP_POL_CFG_EN p.val).addr = some ⟨0x100, 64, 16, 0x0, 0x8000FFFF, 0x0, 0x0⟩ := by
  decide +revert

theorem regRow_polBurst (p : Fin 64) : regRow (SHP_POL_BURST_BURST p.val).addr = some ⟨0x104, 64, 16, 0x0, 0xFFFFFF, 0x0, 0x0⟩ := by
  decide +revert

theorem exec_policerCfgWrite_burst (p : Fin 64) (v : Word) (s : State) :
    ∃ u : State, exec (.policerCfgWrite p true v) s = .next u ∧ u.rd (SHP_POL_BURST_BURST p.val) = v.toNat % 2 ^ 24 ∧
      u.rd (SHP_POL_TOK_TOKENS p.val) = min (s.rd (SHP_POL_TOK_TOKENS p.val)) (v.toNat % 2 ^ 24) := by
  have hburst : (s.plainWrite (SHP_POL_BURST_BURST p.val).addr v).rd (SHP_POL_BURST_BURST p.val) = v.toNat % 2 ^ 24 :=
    rd_plainWrite_low (regRow_polBurst p) rfl rfl (show ∀ i < 24, _ by decide) s v
  have hmin : min (s.rd (SHP_POL_TOK_TOKENS p.val)) (v.toNat % 2 ^ 24) < 2 ^ 24 :=
    Nat.lt_of_le_of_lt (Nat.min_le_right _ _) (Nat.mod_lt _ (Nat.two_pow_pos 24))
  refine ⟨s.writePolBurst p.val v, rfl, ?_, ?_⟩
  · exact (State.rd_wr_apart _ _ _ _ rfl (tokens_apart_of_addr (by dsimp only; omega))).trans hburst
  · rw [State.writePolBurst, State.rd_wr _ _ _ rfl, hburst]
    exact Nat.mod_eq_of_lt hmin

theorem exec_policerCfgWrite_cfg (p : Fin 64) (v : Word) (s : State) :
    ∃ u : State, exec (.policerCfgWrite p false v) s = .next u ∧ u.rd (SHP_POL_CFG_RATE p.val) = v.toNat % 65536 ∧
      (s.rdB (SHP_POL_CFG_EN p.val) = false → v.getLsbD 31 = true →
        u.rd (SHP_POL_TOK_TOKENS p.val) = s.rd (SHP_POL_BURST_BURST p.val)) := by
  have hrate : (s.plainWrite (SHP_POL_CFG_RATE p.val).addr v).rd (SHP_POL_CFG_RATE p.val) = v.toNat % 65536 :=
    rd_plainWrite_low (f := SHP_POL_CFG_RATE p.val) (regRow_polCfg p) rfl rfl (show ∀ i < 16, _ by decide) s v
  refine ⟨s.writePolCfg p.val v, rfl, ?_, ?_⟩
  · unfold State.writePolCfg
    dsimp only
    split
    · exact (State.rd_wr_apart _ _ _ _ rfl (tokens_apart_of_addr (by dsimp only; omega))).trans hrate
    · exact hrate
  · intro hoff hon
    have henables : (!s.rdB (SHP_POL_CFG_EN p.val)) = true ∧ v.getLsbD 31 = true := ⟨by rw [hoff]; rfl, hon⟩
    simp only [State.writePolCfg, if_pos henables]
    rw [State.rd_wr _ _ _ rfl]
    exact Nat.mod_eq_of_lt (rdF_lt s.regs (SHP_POL_BURST_BURST p.val))

/-! ### Enqueues (R198, R211 to R213) -/

theorem recorded_frames (c : Bool) (h : BandShp) (os accs : List Nat) (n need u : Nat) :
    (if c then h.record os accs n need u else h).frames = h.frames := by
  split <;> rfl

/-- A frame queued stands at the tail, with its count (R198, R209). -/
theorem putQueue_frames (s : State) (b : Band) (q : Nat) (v : Word) (adm : Option (List Nat × List Nat × Nat)) :
    ∃ f, ((s.putQueue b q v adm).shpB b).frames = (s.shpB b).frames ++ [f] ∧ f.desc = enqDesc v ∧ f.queue = q ∧
      f.n = s.count b (s.desc (enqDesc v)) := by
  unfold State.putQueue
  dsimp only
  rw [State.shpB, ((KeepsWalk.refl _).relink _).1]
  have queued (h : BandShp) (f : Frame) : ((s.shp.bands.set b { h with frames := h.frames ++ [f] }).get b).frames = h.frames ++ [f] :=
    congrArg BandShp.frames ((PerBand.get_set ..).trans (if_pos rfl))
  exact ⟨_, (queued _ _).trans (congrArg (· ++ [_]) (recorded_frames _ _ _ _ _ _ _)), rfl, rfl, rfl⟩

/-- The record of a result writes ENQRES alone. -/
theorem setEnqres_leaves (s : State) (m : Nat) (b : Band) (q st : Nat) (claims : Option Nat) :
    LeavesStores s (s.setEnqres m b q st claims) := by
  have result : LeavesStores s (((s.wr (SHP_ENQRES_STATUS m) st).wr (SHP_ENQRES_QUEUE m) q).wr (SHP_ENQRES_BAND m) b.idx) :=
    (LeavesStores.refl s).wr.wr.wr
  cases claims with
  | none => exact result
  | some c => exact result.wr

/-- ENQRES shows the status written: the fields written after it stand above it in the word (R213). -/
theorem rd_setEnqres_status (s : State) (m : Nat) (b : Band) (q : Nat) {st : Nat} (claims : Option Nat) (h : st < 256) :
    (s.setEnqres m b q st claims).rd (SHP_ENQRES_STATUS m) = st := by
  have status_apart (l k : Nat) (h : 8 ≤ l) : Field.apart ⟨(SHP_ENQRES_STATUS m).addr, l, k⟩ (SHP_ENQRES_STATUS m) = true :=
    decide_eq_true (.inr (.inr h))
  have hstatus : (((s.wr (SHP_ENQRES_STATUS m) st).wr (SHP_ENQRES_QUEUE m) q).wr (SHP_ENQRES_BAND m) b.idx).rd (SHP_ENQRES_STATUS m)
      = st := by
    rw [State.rd_wr_apart _ _ _ _ rfl (status_apart 11 1 (by decide)), State.rd_wr_apart _ _ _ _ rfl (status_apart 8 3 (by decide)),
      State.rd_wr _ _ _ rfl]
    exact Nat.mod_eq_of_lt h
  cases claims with
  | none => exact hstatus
  | some c => exact (State.rd_wr_apart _ (SHP_ENQRES_CLAIMS m) _ _ rfl (status_apart 16 8 (by decide))).trans hstatus

/-- An enqueue's status fits STATUS of ENQRES. -/
theorem enqStatus_lt (s : State) (b : Band) (q : Nat) (v : Word) : (s.enqStatus b q v).1 < 256 := by
  refine firstStatus_lt (by decide) _ ?_
  simp only [List.mem_cons, List.not_mem_nil, or_false, forall_eq_or_imp, forall_eq]
  decide

/-- The tokens that an enqueue takes are none of what the count of a frame is made of (R47, R209). -/
theorem count_wr_tokens (s : State) (p n : Nat) (b : Band) (d : Desc) : (s.wr (SHP_POL_TOK_TOKENS p) n).count b d = s.count b d := by
  have hnom : (s.wr (SHP_POL_TOK_TOKENS p) n).rd MER_CFG_NOMFREQ = s.rd MER_CFG_NOMFREQ :=
    State.rd_wr_apart _ _ _ _ rfl (tokens_apart_of_addr (by dsimp only; omega))
  have hk : (s.wr (SHP_POL_TOK_TOKENS p) n).nomK = s.nomK := by rw [State.nomK, hnom, State.nomK]
  simp only [State.count, State.convUs, State.convNs, hk]
  rfl

/-- An enqueue that no check refuses: its frame stands at the tail of the band's queues (R198, R212, R213). -/
theorem enqueue_ok {s : State} {m : Nat} {b : Band} {q : Nat} {v : Word} (h : (s.enqStatus b q v).1 = stOK) :
    (s.enqueue m b q v).rd (SHP_ENQRES_STATUS m) = stOK ∧
      ∃ f, ((s.enqueue m b q v).shpB b).frames = (s.shpB b).frames ++ [f] ∧ f.desc = enqDesc v ∧ f.queue = q ∧
        f.n = s.count b (s.desc (enqDesc v)) := by
  simp only [State.enqueue, if_pos h]
  refine ⟨rd_setEnqres_status _ _ _ _ _ (by decide), ?_⟩
  rw [State.shpB, (setEnqres_leaves ..).shp]
  split
  · obtain ⟨f, hframes, hdesc, hqueue, hn⟩ := putQueue_frames
      (s.wr (SHP_POL_TOK_TOKENS (v.toNat / 2 ^ 24 % 64)) _) b q v (s.enqStatus b q v).2
    exact ⟨f, hframes, hdesc, hqueue, hn.trans (count_wr_tokens ..)⟩
  · exact putQueue_frames s b q v _

/-- A refused enqueue: its status stands in ENQRES and in the descriptor, and nothing is queued (R212, R213). -/
theorem enqueue_refused {s : State} {m : Nat} {b : Band} {q : Nat} {v : Word} (h : (s.enqStatus b q v).1 ≠ stOK) :
    (s.enqueue m b q v).rd (SHP_ENQRES_STATUS m) = (s.enqStatus b q v).1 ∧ (s.enqueue m b q v).shp.bands = s.shp.bands ∧
      (s.enqueue m b q v).sram = (s.sramWrite (enqDesc v + 24) [BitVec.ofNat 8 (s.enqStatus b q v).1]).sram := by
  simp only [State.enqueue, if_neg h]
  refine ⟨rd_setEnqres_status _ _ _ _ _ (enqStatus_lt ..), ?_⟩
  rw [(setEnqres_leaves ..).shp, (setEnqres_leaves ..).same.1]
  split
  · exact ⟨congrArg Shp.bands (State.fire_shp _ 100), State.fire_sram _ 100⟩
  · split
    · exact ⟨congrArg Shp.bands (State.fire_shp _ 98), State.fire_sram _ 98⟩
    · exact ⟨rfl, rfl⟩

/-- Settles O47: an enqueue by the status that it finds, a read of ENQRES, and a policer's writes, each by its own theorem. -/
theorem enqueueAndPolicers : Obligations.EnqueueAndPolicers := by
  refine ⟨fun m b q v s hfree => ?_, fun k s => ⟨_, rfl, rfl, rfl⟩,
    fun p v s => ⟨exec_policerCfgWrite_burst p v s, exec_policerCfgWrite_cfg p v s⟩⟩
  have hexec : exec (.enqueue m b q v) s = .next (s.enqueue (s.code m) b q.val v) :=
    congrArg Host.Outcome.next (writes_unbarred hfree _)
  exact ⟨fun hok => ⟨_, hexec, enqueue_ok hok⟩, fun hrefused => ⟨_, hexec, enqueue_refused hrefused⟩⟩

end Sys2Proof.Machine
end


section
namespace Sys2Proof.Machine

-- One declaration at a time: the check's memory limit holds few threads.
set_option Elab.async false

/-! ### The occurrence of a Chart that contains an instant (R199, R200) -/

/-- Entries that reach past an offset hold it: the entry found is one of theirs, and it spans the offset. -/
theorem findEntry_spans (x : Word) : ∀ (es : List Word) (i base off : Nat), base ≤ off → off < base + (es.map entDur).sum →
    ∃ k start, findEntry es i base off = some (i + k, start, entDur (es.getD k x)) ∧ k < es.length ∧ start ≤ off ∧
      off < start + entDur (es.getD k x)
  | [], i, base, off, hlo, hhi => absurd hhi (Nat.not_lt.2 hlo)
  | w :: es, i, base, off, hlo, hhi => by
    rw [findEntry]
    split
    next hin => exact ⟨0, base, rfl, Nat.zero_lt_succ _, hlo, hin⟩
    next hout =>
      rw [List.map_cons, List.sum_cons] at hhi
      obtain ⟨k, start, hfind, hk, hstart, hend⟩ := findEntry_spans x es (i + 1) (base + entDur w) off (by omega) (by omega)
      exact ⟨k + 1, start, by rw [hfind, Nat.add_right_comm]; rfl, Nat.succ_lt_succ hk, hstart, hend⟩

/-- The start of the period of the Chart that contains an instant. -/
def Chart.periodStart (c : Chart) (t : Nat) : Nat := (merCycle t - merCycle t % c.cycles) * 65536

theorem Chart.period_contains {c : Chart} {t : Nat} (hcycles : 0 < c.cycles) (ht : t < 2 ^ 48) :
    c.periodStart t ≤ t ∧ t < c.periodStart t + c.cycles * 65536 := by
  have hcycle : merCycle t = t / 65536 := Nat.mod_eq_of_lt (by omega)
  have hlt : merCycle t % c.cycles < c.cycles := Nat.mod_lt _ hcycles
  have hle : merCycle t % c.cycles ≤ merCycle t := Nat.mod_le _ _
  unfold Chart.periodStart
  omega

/-- The occurrence of the entry found, cut by the wrap of the cycle count. -/
theorem Chart.at_of_findEntry {c : Chart} {t i base d : Nat} (ht : t < 2 ^ 48)
    (h : findEntry c.entries 0 0 (t - c.periodStart t) = some (i, base, d)) :
    c.at_ t = { start := c.periodStart t + base, entry := i, len := min d (2 ^ 48 - (c.periodStart t + base)) } := by
  have hmod : t % 2 ^ 48 = t := Nat.mod_eq_of_lt ht
  rw [Chart.periodStart] at h
  simp only [Chart.at_, hmod, h]
  rfl

/-- The entries of a Chart that fills its period leave no instant without its occurrence. -/
theorem Chart.at_holds {c : Chart} {t : Nat} (hcycles : 0 < c.cycles) (hfull : (c.entries.map entDur).sum = c.cycles * 65536)
    (ht : t < 2 ^ 48) :
    (c.at_ t).start ≤ t ∧ t < (c.at_ t).start + (c.at_ t).len ∧ (c.at_ t).start + (c.at_ t).len ≤ 2 ^ 48 ∧
      (c.at_ t).entry < c.entries.length ∧ (c.at_ t).len ≤ entDur (c.word (c.at_ t).entry) := by
  obtain ⟨hlo, hhi⟩ := Chart.period_contains hcycles ht
  obtain ⟨k, base, hfind, hk, hstart, hend⟩ := findEntry_spans 0x2000 c.entries 0 0 (t - c.periodStart t) (Nat.zero_le _) (by omega)
  rw [Nat.zero_add] at hfind
  have hend : t - c.periodStart t < base + entDur (c.word k) := hend
  rw [Chart.at_of_findEntry ht hfind]
  refine ⟨?_, ?_, ?_, hk, Nat.min_le_left _ _⟩ <;> dsimp only <;> omega

/-! ### An occurrence enters service (R200, R205) -/

theorem KeepsTime.showPos {s t : State} (h : KeepsTime s t) {b : Band} {o : Place} : KeepsTime s (t.showPos b o) :=
  (h.wr (SHP_CHPOS_ENTRY b) _ (by cases b <;> decide)).wr (SHP_CHPOS_CYCIDX b) _ (by cases b <;> decide)

theorem rd_showPos_entry (s : State) (b : Band) (o : Place) : (s.showPos b o).rd (SHP_CHPOS_ENTRY b) = o.entry % 256 :=
  (State.rd_wr_apart _ _ _ _ rfl (decide_eq_true (.inr (.inr (show 0 + 8 ≤ 24 by decide))))).trans
    (State.rd_wr s (SHP_CHPOS_ENTRY b) _ rfl)

/-- An occurrence as it begins: its shares are laid from its start, or from the present time when that is later (R205). -/
def State.begins (s : State) (o : Place) : Occ :=
  { start := o.start, entry := o.entry, len := o.len, pos := min (merDiff s.mer.now o.start).toNat o.len }

/-- The steps of a beginning: the scheduler takes the occurrence, frames complete, CHPOS shows it, and reception follows. -/
theorem beginOcc_eq (s : State) (b : Band) (o : Place) : ∃ h : BandShp, h.occ = some (s.begins o) ∧
    s.beginOcc b o = (((s.setShp b h).completeSpent b).showPos b o).updateRx b := ⟨_, rfl, rfl⟩

theorem showPos_shp (s : State) (b : Band) (o : Place) : (s.showPos b o).shp = s.shp := (State.wr_shp ..).trans (State.wr_shp ..)

/-- The occurrence that begins is in service and shown, at the same Meridian time. -/
theorem beginOcc_serves (s : State) (b : Band) (o : Place) :
    ((s.beginOcc b o).shpB b).occ = some (s.begins o) ∧ (s.beginOcc b o).rd (SHP_CHPOS_ENTRY b) = o.entry % 256 ∧
      (s.beginOcc b o).mer = s.mer := by
  have hentry : walkReg (SHP_CHPOS_ENTRY b).addr := by cases b <;> decide
  obtain ⟨h, hocc, hbegin⟩ := beginOcc_eq s b o
  have hrx := (KeepsWalk.refl (((s.setShp b h).completeSpent b).showPos b o)).updateRx (b := b)
  rw [hbegin]
  refine ⟨?_, ?_, ?_⟩
  · rw [hrx.shpB, State.shpB, showPos_shp, ← State.shpB, State.completeSpent, completeWhere_occ, shpB_setShp]
    exact hocc
  · rw [hrx.rd _ hentry, rd_showPos_entry]
  · exact ((KeepsTime.refl s).setShp.completeWhere.showPos.updateRx).1

/-- ENTRY_START with no occurrence in service: the one of the present time enters it. -/
theorem exec_entryStart_first {b : Band} {s : State} (hwalk : s.walking b = true) (htclk : s.tclkOn = true)
    (hocc : (s.shpB b).occ = none) : exec (.entryStart b) s = .next (s.beginOcc b (s.here b)) := by
  have hserved : ¬ ((!s.walking b) = true ∨ (!s.tclkOn) = true) := by
    simp only [hwalk, htclk, Bool.not_true, Bool.false_eq_true, or_self, not_false_eq_true]
  change execEntryStart b s = _
  simp only [execEntryStart, if_neg hserved, hocc]

/-- ENTRY_START at the end of an occurrence: the one that contains the time reached, which begins later, enters service. -/
theorem exec_entryStart_next {b : Band} {s : State} {old : Occ} (hwalk : s.walking b = true) (htclk : s.tclkOn = true)
    (hocc : (s.shpB b).occ = some old) :
    let v := s.advanceMer (merAdd old.start old.len)
    merAfter (v.here b).start old.start = true → exec (.entryStart b) s = .next (v.beginOcc b (v.here b)) := by
  intro v hlater
  have hserved : ¬ ((!s.walking b) = true ∨ (!s.tclkOn) = true) := by
    simp only [hwalk, htclk, Bool.not_true, Bool.false_eq_true, or_self, not_false_eq_true]
  change execEntryStart b s = _
  simp only [execEntryStart, if_neg hserved, hocc]
  exact if_pos hlater

/-! ### A band that SHP no longer serves (R222) -/

theorem KeepsWalk.walkBits (s : State) : KeepsWalk s { s with regs := walkBits s.regs } :=
  ⟨rfl, rfl, fun a ha => regGet_walkBits s.regs a (by rintro rfl; revert ha; decide)⟩

/-- Without frames no share outlasts the walk. -/
theorem stopWalk_share {h : BandShp} (hframes : h.frames = []) : h.stopWalk.share = none := by
  simp only [BandShp.stopWalk, hframes, List.any_nil]
  cases h.share with
  | none => rfl
  | some x => rfl

/-- SHP_BAND_DISABLE: no frame, no occurrence and no attempt is left in the band, and its enable is 0. -/
theorem shpDisable_ends (s : State) (b : Band) :
    (s.shpDisable b).rd (shpEn b) = 0 ∧ ((s.shpDisable b).shpB b).frames = [] ∧ ((s.shpDisable b).shpB b).occ = none ∧
      ((s.shpDisable b).shpB b).share = none ∧ ((s.shpDisable b).shpB b).wins = [] ∧ ((s.shpDisable b).macB b).att = none := by
  generalize hoff : (s.wr (shpEn b) 0).setMac b { (s.wr (shpEn b) 0).macB b with att := none, daa := none } = off
  generalize hended : off.completeWhere b (fun _ => true) (fun _ => stBadState) = ended
  have hreg : walkReg (shpEn b).addr := by cases b <;> decide
  have hen : ended.rd (shpEn b) = 0 := by
    rw [← hended, rd_completeWhere _ _ _ _ hreg, ← hoff]
    cases b <;> exact State.rd_wr s _ 0 rfl
  have hatt : (ended.macB b).att = none := by
    rw [← hended, State.macB, completeWhere_mac, ← hoff]
    exact congrArg BandMac.att (macB_setMac _ b _)
  have hframes : (ended.shpB b).frames = [] := by
    rw [← hended]
    exact completeWhere_all_frames ..
  have hrest : KeepsWalk (ended.setShp b (ended.shpB b).stopWalk) (s.shpDisable b) := by
    have hwalk := (KeepsWalk.walkBits (ended.setShp b (ended.shpB b).stopWalk)).updateRx (b := b)
    simp only [State.shpDisable, hoff, hended]
    exact .ite hwalk.tryCal hwalk
  rw [hrest.shpB, hrest.macB, hrest.rd _ hreg, shpB_setShp]
  exact ⟨hen, hframes, rfl, stopWalk_share hframes, rfl, hatt⟩

/-- Settles O48: the Chart's occurrence by its entries, those that enter service and the disabled band each by its own theorem. -/
theorem chartWalk : Obligations.ChartWalk := by
  refine ⟨fun c t hcycles _ hfull ht => Chart.at_holds hcycles hfull ht, fun b s => ⟨?_, ?_, ⟨_, rfl, shpDisable_ends s b⟩⟩⟩
  · intro hwalk htclk hocc
    obtain ⟨hserved, hshown, _⟩ := beginOcc_serves s b (s.here b)
    exact ⟨_, _, exec_entryStart_first hwalk htclk hocc, hserved, rfl, rfl, rfl, hshown⟩
  · intro old hwalk htclk hocc v hlater
    obtain ⟨hserved, hshown, hmer⟩ := beginOcc_serves v b (v.here b)
    exact ⟨_, _, exec_entryStart_next hwalk htclk hocc hlater, hserved, rfl, rfl, rfl, hshown, congrArg Mer.time hmer⟩

end Sys2Proof.Machine
end


section
namespace Sys2Proof.Machine

-- One declaration at a time: the check's memory limit holds few threads.
set_option Elab.async false

/-! ### What a write to the neighbour table leaves of the mesh records (R165, R242, R249) -/

/-- `t` has the mesh records of `s`, but for what the mesh firmware keeps of its own neighbours. -/
def KeepsRecords (s t : State) : Prop :=
  t.mesh = { s.mesh with reportDue := t.mesh.reportDue, newNbrs := t.mesh.newNbrs, snrs := t.mesh.snrs, children := t.mesh.children }

section
variable {s t u : State}

theorem KeepsRecords.refl (s : State) : KeepsRecords s s := rfl

theorem KeepsRecords.trans (h : KeepsRecords s t) (k : KeepsRecords t u) : KeepsRecords s u := by
  rw [KeepsRecords, k, h]

theorem KeepsRecords.members (h : KeepsRecords s t) : t.mesh.members = s.mesh.members := by rw [h]

theorem KeepsRecords.answered (h : KeepsRecords s t) : t.mesh.answered = s.mesh.answered := by rw [h]

theorem KeepsRecords.discarded (h : KeepsRecords s t) : t.mesh.discarded = s.mesh.discarded := by rw [h]

theorem clearSlots_mesh (s : State) (i : Nat) : (s.clearSlots i).mesh = s.mesh :=
  (OnlyEnqueues.fold (fun t j => t.sramWrite (t.mapSlot i .sg 0 0 + j * 64) [0]) (fun _ _ => .sramWrite (.refl _)) _ s).mesh

theorem nbWrite_keepsRecords (s : State) (i : Nat) (v : Word) : KeepsRecords s (s.nbWrite i v) := by
  unfold State.nbWrite
  simp only
  split
  · have forgets (w : State) : KeepsRecords w ((w.forgetNbr i).sndDropIndex i) := rfl
    refine .trans ?_ (forgets _)
    rw [KeepsRecords, clearSlots_mesh]
    rfl
  · split <;> rfl

theorem putChild_keepsRecords (s : State) (nb eui short : Nat) (leaf : Bool) : KeepsRecords s (s.putChild nb eui short leaf) := by
  have named : KeepsRecords s (s.putNbr nb { s.nbr nb with euiNew := eui }) := rfl
  have listed (w : State) (l : List (Nat × Nat)) :
      KeepsRecords w { w.recheck nb with mesh := { (w.recheck nb).mesh with children := l } } := rfl
  exact (named.trans (nbWrite_keepsRecords _ nb _)).trans (listed _ _)

/-- The child stands among the children with its short address and its index. -/
theorem putChild_children (s : State) (nb eui short : Nat) (leaf : Bool) :
    (short, nb) ∈ (s.putChild nb eui short leaf).mesh.children := List.mem_append_right _ (List.mem_singleton_self _)

theorem childLeaves_keepsRecords (s : State) (eui : Nat) : KeepsRecords s (s.childLeaves eui) := by
  unfold State.childLeaves
  split
  · exact .refl s
  · split <;> rfl

end

/-! ### The messages of the join exchange (R239 to R242) -/

theorem OnlyEnqueues.sendRsp {s t : State} (h : OnlyEnqueues s t) {b : Band} {rsp : List Byte} {tx : FwTx} :
    OnlyEnqueues s (t.sendRsp b rsp tx) := h.fwSend

theorem OnlyEnqueues.answer {s t : State} (h : OnlyEnqueues s t) {b : Band} {path : List Nat} {rsp : List Byte} {tx : FwTx} :
    OnlyEnqueues s (t.answer b path rsp tx) := by
  unfold State.answer
  split
  · exact h.sendRsp
  · exact h.sendFwd

/-- A JOIN_RSP carries its RESULT in byte 9 (R239). -/
theorem joinRsp_result {res : Nat} (hres : res < 256) (key : List Byte) (eui short rank parent peui : Nat) (keys : List Byte) :
    bytesAt (joinRsp key eui res short rank parent peui keys) 9 1 = res := by
  have hbyte (rest : List Byte) : bytesAt ([0x11] ++ natLE 8 eui ++ [BitVec.ofNat 8 res] ++ rest) 9 1 = res := by
    show (BitVec.ofNat 8 res).toNat + 256 * 0 = res
    rw [BitVec.toNat_ofNat]
    omega
  unfold joinRsp
  split <;> simp only [List.append_assoc] at hbyte ⊢ <;> exact hbyte _

theorem joinResult_lt (m : Mesh) (eui parent : Nat) : m.joinResult eui parent < 256 := by
  have hite {c : Prop} [Decidable c] {x y : Nat} (hx : x < 256) (hy : y < 256) : (if c then x else y) < 256 := by
    split <;> assumption
  exact hite (by decide) (hite (by decide) (hite (by decide) (by decide)))

/-! ### The manager's decision (R241) -/

section
variable {b : Band} {req : List Byte} {path : List (BitVec 16)} {nb : Fin 256} {tx : FwTx} {s : State} {key : List Byte}

/-- A JOIN_REQ is counted and discarded (R241, row 1). -/
def State.discardsJoin (s : State) : State := { s with mesh := { s.mesh with discarded := s.mesh.discarded + 1 } }

/-- The answer of the last 256 cycles to the worker and attempt of the request `req` (R241, row 2). -/
def State.priorAnswer (s : State) (req : List Byte) : Option (Nat × Nat × Nat × List Byte) :=
  s.mesh.answered.find? (fun x => x.1 == bytesAt req 1 8 && x.2.1 == bytesAt req 12 1 &&
    decide ((merCycle s.mer.now + 2 ^ 32 - x.2.2.1) % 2 ^ 32 ≤ 256))

/-- The RESULT of the request `req` (R241, rows 3 to 6). -/
def State.joinVerdict (s : State) (req : List Byte) : Nat := s.mesh.joinResult (bytesAt req 1 8) (bytesAt req 9 2)

/-- The records after the decision, and the member that the answer speaks of: one without an address where RESULT is not OK. -/
def State.joinDecision (s : State) (req : List Byte) : State × Member :=
  if s.joinVerdict req = stOK then s.admitMember req
  else (s, { eui := bytesAt req 1 8, short := 0, parent := bytesAt req 9 2, rank := 0, leaf := false, detached := false })

/-- The JOIN_RSP to the request `req` (R239). -/
def State.joinReply (s : State) (req key : List Byte) : List Byte :=
  let x := (s.joinDecision req).2
  let parent := bytesAt req 9 2
  joinRsp key (bytesAt req 1 8) (s.joinVerdict req) x.short x.rank parent (s.mesh.euiOf parent) (s.meshKeys.getD [])

/-- The manager keeps the answer to the request `req` beside those of the last 256 cycles. -/
def State.keepAnswer (s : State) (req rsp : List Byte) (now : Nat) : State :=
  let eui := bytesAt req 1 8
  let att := bytesAt req 12 1
  let known := s.mesh.answered.filter (fun a => decide ((now + 2 ^ 32 - a.2.2.1) % 2 ^ 32 ≤ 256) && !(a.1 == eui && a.2.1 == att))
  { s with mesh := { s.mesh with answered := known ++ [(eui, att, now, rsp)] } }

/-- What the decision leaves before the answer goes out. -/
def State.joinDecided (s : State) (req key : List Byte) (nb : Nat) : State :=
  let x := s.joinDecision req
  let kept := x.1.keepAnswer req (s.joinReply req key) (merCycle s.mer.now)
  if s.joinVerdict req = stOK ∧ bytesAt req 9 2 = 0 then kept.putChild nb (bytesAt req 1 8) x.2.short x.2.leaf else kept

/-- A JOIN_REQ of a commissioned worker with its TAG reaches the manager. -/
def State.Genuine (s : State) (req key : List Byte) : Prop :=
  s.isManager = true ∧ s.mesh.joinKeys.lookup (bytesAt req 1 8) = some key ∧ req.length = 23 ∧
    joinTag key (req.take 15) = req.drop 15

/-! The manager decides after the message has left its ring (R228). -/

theorem exec_joinReq_noKey (hman : (s.acted req).isManager = true)
    (hkey : (s.acted req).mesh.joinKeys.lookup (bytesAt req 1 8) = none) :
    exec (.joinReq b req path nb tx) s = .next (s.acted req).discardsJoin := by
  show execJoinReq b req path nb tx s = _
  simp only [execJoinReq, hman, hkey]
  rfl

theorem exec_joinReq_badTag (hman : (s.acted req).isManager = true)
    (hkey : (s.acted req).mesh.joinKeys.lookup (bytesAt req 1 8) = some key)
    (hbad : req.length ≠ 23 ∨ joinTag key (req.take 15) ≠ req.drop 15) :
    exec (.joinReq b req path nb tx) s = .next (s.acted req).discardsJoin := by
  show execJoinReq b req path nb tx s = _
  simp only [execJoinReq, hman, hkey, if_pos hbad]
  rfl

/-- A genuine request with an answer of the last 256 cycles gets it again. -/
theorem exec_joinReq_again {x : Nat × Nat × Nat × List Byte} (h : (s.acted req).Genuine req key)
    (hprior : (s.acted req).priorAnswer req = some x) :
    exec (.joinReq b req path nb tx) s = .next ((s.acted req).answer b (path.map (·.toNat)) x.2.2.2 tx) := by
  obtain ⟨hman, hkey, hlen, htag⟩ := h
  have hsound : ¬ (req.length ≠ 23 ∨ joinTag key (req.take 15) ≠ req.drop 15) := not_or.mpr ⟨fun h => h hlen, fun h => h htag⟩
  rw [State.priorAnswer] at hprior
  show execJoinReq b req path nb tx s = _
  simp only [execJoinReq, hman, hkey, if_neg hsound, hprior]
  rfl

/-- One without such an answer is decided: nothing is answered where an OK finds no mesh keys to wrap. -/
theorem exec_joinReq_new (h : (s.acted req).Genuine req key)
    (hprior : (s.acted req).priorAnswer req = none) : exec (.joinReq b req path nb tx) s =
      if (s.acted req).joinVerdict req = stOK ∧ (s.acted req).meshKeys.isNone then .next (s.acted req).wrapRefused
      else .next (((s.acted req).joinDecided req key nb).answer b (path.map (·.toNat)) ((s.acted req).joinReply req key) tx) := by
  obtain ⟨hman, hkey, hlen, htag⟩ := h
  have hsound : ¬ (req.length ≠ 23 ∨ joinTag key (req.take 15) ≠ req.drop 15) := not_or.mpr ⟨fun h => h hlen, fun h => h htag⟩
  rw [State.priorAnswer] at hprior
  show execJoinReq b req path nb tx s = _
  simp only [execJoinReq, hman, hkey, if_neg hsound, hprior]
  rfl

/-! ### What a decision leaves in the records (R241) -/

theorem joinReply_result : bytesAt (s.joinReply req key) 9 1 = s.joinVerdict req := joinRsp_result (joinResult_lt ..) ..

/-- An OK replaces the worker's record by a new one, whose parent and kind are those of the request. -/
theorem admitMember_members (s : State) (req : List Byte) : (s.admitMember req).1.mesh.members =
    s.mesh.members.filter (fun x => x.eui ≠ bytesAt req 1 8) ++ [(s.admitMember req).2] := rfl

theorem admitMember_discarded (s : State) (req : List Byte) : (s.admitMember req).1.mesh.discarded = s.mesh.discarded := by
  unfold State.admitMember
  simp only [State.took_mesh]
  split
  · split
    · exact (childLeaves_keepsRecords s _).discarded
    · rfl
  · rfl

theorem joinDecision_discarded : (s.joinDecision req).1.mesh.discarded = s.mesh.discarded := by
  unfold State.joinDecision
  split
  · exact admitMember_discarded s req
  · rfl

/-- A joiner that becomes the manager's own child changes none of the kept answers, members and counts. -/
theorem joinDecided_keepsRecords (nb : Nat) : KeepsRecords
    ((s.joinDecision req).1.keepAnswer req (s.joinReply req key) (merCycle s.mer.now)) (s.joinDecided req key nb) := by
  unfold State.joinDecided
  simp only
  split
  · exact putChild_keepsRecords ..
  · exact .refl _

theorem joinDecided_answered (nb : Nat) : (bytesAt req 1 8, bytesAt req 12 1, merCycle s.mer.now, s.joinReply req key) ∈
    (s.joinDecided req key nb).mesh.answered := by
  rw [(joinDecided_keepsRecords nb).answered]
  exact List.mem_append_right _ (List.mem_singleton_self _)

theorem joinDecided_discarded (nb : Nat) : (s.joinDecided req key nb).mesh.discarded = s.mesh.discarded :=
  (joinDecided_keepsRecords nb).discarded.trans joinDecision_discarded

/-- A refusal leaves the member records. -/
theorem joinDecided_members_refused (nb : Nat) (hres : s.joinVerdict req ≠ stOK) :
    (s.joinDecided req key nb).mesh.members = s.mesh.members := by
  rw [(joinDecided_keepsRecords nb).members, State.joinDecision, if_neg hres]
  rfl

theorem joinDecided_members_admitted (nb : Nat) (hres : s.joinVerdict req = stOK) :
    (s.admitMember req).2 ∈ (s.joinDecided req key nb).mesh.members := by
  rw [(joinDecided_keepsRecords nb).members, State.joinDecision, if_pos hres]
  show _ ∈ (s.admitMember req).1.mesh.members
  rw [admitMember_members]
  exact List.mem_append_right _ (List.mem_singleton_self _)

/-- The member that names the manager as its parent becomes its child at index `nb`. -/
theorem joinDecided_children (nb : Nat) (hres : s.joinVerdict req = stOK) (hown : bytesAt req 9 2 = 0) :
    ((s.admitMember req).2.short, nb) ∈ (s.joinDecided req key nb).mesh.children := by
  rw [State.joinDecided, if_pos ⟨hres, hown⟩, State.joinDecision, if_pos hres]
  exact putChild_children ..

end

/-! ### The parent's relay (R242) -/

/-- The parent of a joiner takes it for a child when the JOIN_RSP that it relays says OK, and changes no record otherwise. -/
theorem joinRspRelay_takesChild {b : Band} {rsp : List Byte} {leaf : Bool} {nb : Fin 256} {tx : FwTx} {s : State}
    (hlen : rsp.length = 71) (hid : bytesAt rsp 0 1 = 0x11) : ∃ t : State, exec (.joinRspRelay b rsp leaf nb tx) s = .next t ∧
      (bytesAt rsp 9 1 = stOK → (bytesAt rsp 10 2, nb.val) ∈ t.mesh.children) ∧
      (bytesAt rsp 9 1 ≠ stOK → t.mesh = (s.acted rsp).mesh) := by
  have hgo : ¬ (rsp.length ≠ 71 ∨ bytesAt rsp 0 1 ≠ 0x11) := not_or.mpr ⟨fun h => h hlen, fun h => h hid⟩
  refine ⟨_, if_neg hgo, fun hok => ?_, fun hno => ?_⟩
  · rw [(OnlyEnqueues.sendRsp (.refl _)).mesh, if_pos hok]
    exact putChild_children ..
  · rw [(OnlyEnqueues.sendRsp (.refl _)).mesh, if_neg hno]

/-- Settles O50, by the rows of R241: a request without its key or TAG, one answered before, and one that is decided; and the parent's
relay. -/
theorem managerJoins : Obligations.ManagerJoins := by
  refine ⟨fun b req path nb tx s hman => ⟨fun hkey => ⟨_, exec_joinReq_noKey hman hkey, rfl⟩, fun key hkey =>
      ⟨fun hbad => ⟨_, exec_joinReq_badTag hman hkey hbad, rfl⟩, fun hlen htag => ?_⟩⟩,
    fun b rsp leaf nb tx s hlen hid => joinRspRelay_takesChild hlen hid⟩
  have hgenuine : (s.acted req).Genuine req key := ⟨hman, hkey, hlen, htag⟩
  refine ⟨fun x hprior => exec_joinReq_again hgenuine hprior, fun hprior => ⟨fun hok hnone => ?_, fun hgo => ?_⟩⟩
  · rw [exec_joinReq_new hgenuine hprior, if_pos ⟨hok, Option.isNone_iff_eq_none.mpr hnone⟩]
  · have hanswers : ¬ ((s.acted req).joinVerdict req = stOK ∧ (s.acted req).meshKeys.isNone = true) := fun ⟨hok, hnone⟩ =>
      hgo.elim (fun hno => hno hok) (fun hsome => Option.isSome_iff_ne_none.mp hsome (Option.isNone_iff_eq_none.mp hnone))
    refine ⟨_, (s.acted req).joinReply req key, (exec_joinReq_new hgenuine hprior).trans (if_neg hanswers), ?_⟩
    rw [(OnlyEnqueues.answer (.refl _)).mesh]
    exact ⟨joinDecided_answered _, joinReply_result, joinDecided_discarded _, fun hno => joinDecided_members_refused _ hno,
      fun hok => ⟨((s.acted req).admitMember req).2, joinDecided_members_admitted _ hok, rfl, rfl, rfl, rfl,
        fun hown => joinDecided_children _ hok hown⟩⟩

end Sys2Proof.Machine
end


section
namespace Sys2Proof.Machine

-- One declaration at a time: the check's memory limit holds few threads.
set_option Elab.async false

/-! ### What leaves the registers of the zones (R272) -/

/-- A register SNS_SZz_CFG, SNS_SZz_IDX, SNS_SZz_STAT or SNS_SZz_AGE of a zone. -/
abbrev zoneReg (a : Nat) : Prop := 0x40011400 ≤ a ∧ a < 0x40011480

section
variable {s : State} {a : Nat}

theorem svrSample_regs (s : State) (src par : Nat) (r : Int) : (s.svrSample src par r).regs = s.regs :=
  fold_keeps (fun t u : State => u.regs = t.regs) (fun _ => rfl) (fun _ _ _ htu huv => huv.trans htu)
    (fun t k => t.svrTake k (t.svrValue k (t.rd (SVR_M_CFG_SGN k) == 1) r)) (fun _ _ => rfl) _ s

theorem regGet_fire_zone (ha : zoneReg a) (src : Nat) : regGet (s.fire src).regs a = regGet s.regs a :=
  s.fire_keeps src a (fun ⟨_, hhi⟩ => by omega)

theorem regGet_moveDuty_zone (ha : zoneReg a) {n : Nat} (hn : n < 4) : regGet (s.moveDuty n).regs a = regGet s.regs a := by
  have hduty : a ≠ (SNS_PWM_DUTY_DUTY n).addr := by
    dsimp only
    omega
  have moved (v : Nat) (p : Pwm) : regGet ((s.setDuty n v).putPwm n p).regs a = regGet s.regs a := regGet_wrF _ _ _ _ hduty
  simp only [State.moveDuty]
  split
  · rfl
  · split
    · exact (regGet_fire_zone ha _).trans (moved _ _)
    · exact moved _ _

theorem regGet_moveDuties_zone (ha : zoneReg a) : ∀ (l : List Nat) (s : State), (∀ n ∈ l, n < 4) →
    regGet (l.foldl (fun t n => t.moveDuty n) s).regs a = regGet s.regs a
  | [], _, _ => rfl
  | n :: l, s, h => (regGet_moveDuties_zone ha l (s.moveDuty n) (fun k hk => h k (List.mem_cons_of_mem n hk))).trans
      (regGet_moveDuty_zone ha (h n List.mem_cons_self))

/-- The outputs that follow a zone are no register of a zone (R287). -/
theorem regGet_zoneDuty_zone (ha : zoneReg a) (z : Nat) : regGet (s.zoneDuty z).regs a = regGet s.regs a :=
  regGet_moveDuties_zone ha _ s (fun _ hn => List.mem_range.1 (List.mem_filter.1 hn).1)

/-- STATE and OCC alone show a change. -/
theorem regGet_setZone_zone (ha : zoneReg a) {z : Nat} {occ : Bool} (hstat : a ≠ (SNS_SZ_STAT_STATE z).addr) :
    regGet (s.setZone z occ).regs a = regGet s.regs a := by
  have hocc : a ≠ SNS_SZSUM_OCC.addr := Nat.ne_of_lt ha.2
  exact (regGet_wrF _ SNS_SZSUM_OCC _ _ hocc).trans (regGet_wrF _ (SNS_SZ_STAT_STATE z) _ _ hstat)

/-- The pulse of a change and the outputs that follow it leave the zones as the change has set them. -/
theorem regGet_zoneChange_zone (ha : zoneReg a) (z : Nat) (occ : Bool) :
    regGet (s.zoneChange z occ).regs a = regGet (s.setZone z occ).regs a :=
  (regGet_zoneDuty_zone ha z).trans (regGet_fire_zone ha _)

/-- The detector of a zone writes its SNS_SZz_STAT alone of the registers of the zones (R269). -/
theorem regGet_detect_zone (ha : zoneReg a) {z : Nat} (index : Nat) (hstat : a ≠ (SNS_SZ_STAT_STATE z).addr) :
    regGet (s.detect z index).regs a = regGet s.regs a := by
  have held (t : State) (v : Nat) : regGet (t.wr (SNS_SZ_STAT_HELD z) v).regs a = regGet t.regs a := regGet_wrF _ _ _ _ hstat
  have above (t : State) (v : Nat) : regGet (t.wr (SNS_SZ_STAT_ABOVE z) v).regs a = regGet t.regs a := regGet_wrF _ _ _ _ hstat
  have changed (t : State) (occ : Bool) : regGet (t.zoneChange z occ).regs a = regGet t.regs a :=
    (regGet_zoneChange_zone ha z occ).trans (regGet_setZone_zone ha hstat)
  unfold State.detect
  dsimp only
  split
  · split
    · split
      · exact (changed _ _).trans (held _ _)
      · exact held _ _
    · exact held _ _
  · split
    · split
      · exact (changed _ _).trans ((held _ _).trans (above _ _))
      · exact above _ _
    · exact above _ _

end

/-! ### The table of R269 -/

/-- What SNS_SZz_STAT shows of a zone. -/
structure ZoneStat where
  state : Nat
  above : Nat
  held  : Nat

/-- STATE, ABOVE and HELD of zone `z`. -/
def State.zoneStat (s : State) (z : Nat) : ZoneStat :=
  ⟨s.rd (SNS_SZ_STAT_STATE z), s.rd (SNS_SZ_STAT_ABOVE z), s.rd (SNS_SZ_STAT_HELD z)⟩

/-- The word of SNS_SZz_CFG. -/
def State.zoneCfg (s : State) (z : Nat) : Word := regGet s.regs (SNS_SZ_CFG_EN z).addr

/-- The table of R269: what a write of the index `i` that counts makes of a zone `z` with the configuration `cfg`. -/
def ZoneStat.next (z : Nat) (cfg : Word) (i : Nat) (x : ZoneStat) : ZoneStat :=
  if x.state ≠ 0 then
    if i ≤ (SNS_SZ_CFG_OFF z).of cfg then
      if (SNS_SZ_CFG_HOLD z).of cfg * 4 ≤ x.held + 1 then { x with state := 0, held := 0 }
      else { x with held := (x.held + 1) % 2 ^ 13 }
    else { x with held := 0 }
  else if (SNS_SZ_CFG_ON z).of cfg ≤ i then
    if (SNS_SZ_CFG_ONCNT z).of cfg ≤ x.above + 1 then ⟨1, 0, 0⟩ else { x with above := (x.above + 1) % 2 ^ 4 }
  else { x with above := 0 }

section
variable {s t : State} {z : Nat}

theorem zoneStat_of_regGet (h : regGet t.regs (SNS_SZ_STAT_STATE z).addr = regGet s.regs (SNS_SZ_STAT_STATE z).addr) :
    t.zoneStat z = s.zoneStat z :=
  congrArg (fun w => ZoneStat.mk ((SNS_SZ_STAT_STATE z).of w) ((SNS_SZ_STAT_ABOVE z).of w) ((SNS_SZ_STAT_HELD z).of w)) h

/-- Fields at other bits are apart. -/
theorem Field.apart_of_bits {f g : Field} (h : f.lsb + f.width ≤ g.lsb ∨ g.lsb + g.width ≤ f.lsb) : f.apart g = true :=
  decide_eq_true (.inr h)

theorem zoneStat_wr_held (v : Nat) :
    (s.wr (SNS_SZ_STAT_HELD z) v).zoneStat z = { s.zoneStat z with held := v % 2 ^ 13 } := by
  rw [State.zoneStat, State.rd_wr _ _ _ rfl, State.rd_wr_apart _ _ (SNS_SZ_STAT_STATE z) _ rfl (Field.apart_of_bits (by simp)),
    State.rd_wr_apart _ _ (SNS_SZ_STAT_ABOVE z) _ rfl (Field.apart_of_bits (by simp)), State.zoneStat]

theorem zoneStat_wr_above (v : Nat) :
    (s.wr (SNS_SZ_STAT_ABOVE z) v).zoneStat z = { s.zoneStat z with above := v % 2 ^ 4 } := by
  rw [State.zoneStat, State.rd_wr _ _ _ rfl, State.rd_wr_apart _ _ (SNS_SZ_STAT_STATE z) _ rfl (Field.apart_of_bits (by simp)),
    State.rd_wr_apart _ _ (SNS_SZ_STAT_HELD z) _ rfl (Field.apart_of_bits (by simp)), State.zoneStat]

theorem zoneStat_setZone (occ : Bool) : (s.setZone z occ).zoneStat z = { s.zoneStat z with state := b2n occ } := by
  have hocc : (SNS_SZ_STAT_STATE z).addr ≠ SNS_SZSUM_OCC.addr := by
    dsimp only
    omega
  have hbit : b2n occ % 2 ^ 1 = b2n occ := by cases occ <;> rfl
  refine (zoneStat_of_regGet (regGet_wrF _ SNS_SZSUM_OCC _ _ hocc)).trans ?_
  show (s.wr (SNS_SZ_STAT_STATE z) (b2n occ)).zoneStat z = _
  rw [State.zoneStat, State.rd_wr _ _ _ rfl, State.rd_wr_apart _ _ (SNS_SZ_STAT_ABOVE z) _ rfl (Field.apart_of_bits (by simp)),
    State.rd_wr_apart _ _ (SNS_SZ_STAT_HELD z) _ rfl (Field.apart_of_bits (by simp)), State.zoneStat, hbit]

/-- SNS_SZz_STAT is a register of a zone. -/
theorem zoneReg_stat (hz : z < 8) : zoneReg (SNS_SZ_STAT_STATE z).addr := by
  dsimp only [zoneReg]
  omega

theorem zoneStat_zoneChange (hz : z < 8) (occ : Bool) : (s.zoneChange z occ).zoneStat z = { s.zoneStat z with state := b2n occ } :=
  (zoneStat_of_regGet (regGet_zoneChange_zone (zoneReg_stat hz) z occ)).trans (zoneStat_setZone occ)

/-- The detector makes of a zone what the table says. -/
theorem detect_zoneStat (hz : z < 8) (i : Nat) : (s.detect z i).zoneStat z = (s.zoneStat z).next z (s.zoneCfg z) i := by
  unfold State.detect ZoneStat.next
  simp only [State.rdB, bne_iff_ne, apply_ite (fun t : State => t.zoneStat z), zoneStat_zoneChange hz, zoneStat_wr_held,
    zoneStat_wr_above]
  rfl

end

end Sys2Proof.Machine
end


section
namespace Sys2Proof.Machine

-- One declaration at a time: the check's memory limit holds few threads.
set_option Elab.async false

/-! ### A write of SNS_SZz_IDX (R269, R270) -/

theorem regRow_zoneIdx (z : Fin 8) : regRow (SNS_SZ_IDX_INDEX z.val).addr = some ⟨0x404, 8, 16, 0x0, 0xFFFF01FF, 0x0, 0x0⟩ := by
  decide +revert

theorem regRow_zoneCfg (z : Fin 8) : regRow (SNS_SZ_CFG_EN z.val).addr = some ⟨0x400, 8, 16, 0x10FA1020, 0xFFFFFFFF, 0x0, 0x0⟩ := by
  decide +revert

/-- What every write of E2 to SNS_SZz_IDX does, counted or not: the register and AGE, and the sample that SVR takes (R269, R272, R509). -/
def State.zoneTaken (s : State) (z : Nat) (v : Word) : State :=
  let s1 := (s.plainWrite (SNS_SZ_IDX_INDEX z).addr v).wr (SNS_SZ_AGE_AGE z) 0
  let s2 : State := { s1 with sns := { s1.sns with fresh := modifyNth (fun _ => false) z s1.sns.fresh } }
  if (SNS_SZ_IDX_NODATA z).of v == 1 then s2 else s2.svrSample 2 z ((SNS_SZ_IDX_INDEX z).of v)

/-- The write of `v` counts: the zone is enabled, the write has data, and its cycle is new to the zone (R269). -/
def State.zoneCounts (s : State) (z : Nat) (v : Word) : Prop :=
  s.rdB (SNS_SZ_CFG_EN z) = true ∧ (SNS_SZ_IDX_NODATA z).of v = 0 ∧
    (s.sns.fresh.getD z true = true ∨ s.rd (SNS_SZ_IDX_CYCLE z) ≠ (SNS_SZ_IDX_CYCLE z).of v)

section
variable {s : State} {z : Nat} {v : Word}

theorem zoneTaken_regs : (s.zoneTaken z v).regs = wrF (s.plainWrite (SNS_SZ_IDX_INDEX z).addr v).regs (SNS_SZ_AGE_AGE z) 0 := by
  unfold State.zoneTaken
  dsimp only
  split
  · rfl
  · exact svrSample_regs _ _ _ _

/-- A plain write leaves every other register. -/
theorem regGet_plainWrite_other (s : State) (v : Word) {a b : Nat} (h : b ≠ a) : regGet (s.plainWrite a v).regs b = regGet s.regs b := by
  unfold State.plainWrite
  split
  · exact regGet_regSet_other _ _ h
  · rfl

theorem regGet_zoneTaken {a : Nat} (hidx : a ≠ (SNS_SZ_IDX_INDEX z).addr) (hage : a ≠ (SNS_SZ_AGE_AGE z).addr) :
    regGet (s.zoneTaken z v).regs a = regGet s.regs a := by
  rw [zoneTaken_regs, regGet_wrF _ _ _ _ hage, regGet_plainWrite_other _ _ hidx]

theorem rd_zoneTaken_age : (s.zoneTaken z v).rd (SNS_SZ_AGE_AGE z) = 0 := by
  rw [State.rd, zoneTaken_regs, rdF_wrF _ _ _ rfl, Nat.zero_mod]

theorem zoneTaken_zoneCfg : (s.zoneTaken z v).zoneCfg z = s.zoneCfg z :=
  regGet_zoneTaken (by dsimp only; omega) (by dsimp only; omega)

theorem zoneTaken_zoneStat : (s.zoneTaken z v).zoneStat z = s.zoneStat z :=
  zoneStat_of_regGet (regGet_zoneTaken (by dsimp only; omega) (by dsimp only; omega))

/-- What keeps a write of E2 from the detector is that it does not count. -/
theorem zoneSkips_iff : (!s.sns.fresh.getD z true && s.rd (SNS_SZ_IDX_CYCLE z) == (SNS_SZ_IDX_CYCLE z).of v ||
    (SNS_SZ_IDX_NODATA z).of v == 1 || !(s.zoneTaken z v).rdB (SNS_SZ_CFG_EN z)) = true ↔ ¬ s.zoneCounts z v := by
  have hen : (s.zoneTaken z v).rdB (SNS_SZ_CFG_EN z) = s.rdB (SNS_SZ_CFG_EN z) :=
    congrArg (fun w => (SNS_SZ_CFG_EN z).of w != 0) zoneTaken_zoneCfg
  have hbit : (SNS_SZ_IDX_NODATA z).of v < 2 ^ 1 := Field.of_lt _ v
  have hdata : (SNS_SZ_IDX_NODATA z).of v = 0 ↔ ¬ (SNS_SZ_IDX_NODATA z).of v = 1 := by omega
  rw [hen, State.zoneCounts, hdata]
  simp only [Bool.or_eq_true, Bool.and_eq_true, Bool.not_eq_true', beq_iff_eq, ← Bool.not_eq_true, ne_eq,
    Classical.not_and_iff_not_or_not, not_or, Classical.not_not]
  exact or_comm.trans (or_congr_right or_comm)

/-- The detector takes a write of E2 that counts (R269). -/
theorem writeZoneIndex_counted (h : s.zoneCounts z v) :
    s.writeZoneIndex (.eng 2) z v = (s.zoneTaken z v).detect z ((SNS_SZ_IDX_INDEX z).of v) :=
  (if_neg (by decide)).trans (if_neg (fun hskips => zoneSkips_iff.1 hskips h))

theorem writeZoneIndex_uncounted (h : ¬ s.zoneCounts z v) : s.writeZoneIndex (.eng 2) z v = s.zoneTaken z v :=
  (if_neg (by decide)).trans (if_pos (zoneSkips_iff.2 h))

/-- Counted or not, of the registers of the zones a write leaves SNS_SZz_STAT alone to the detector. -/
theorem regGet_writeZoneIndex {a : Nat} (ha : zoneReg a) (hstat : a ≠ (SNS_SZ_STAT_STATE z).addr) :
    regGet (s.writeZoneIndex (.eng 2) z v).regs a = regGet (s.zoneTaken z v).regs a := by
  by_cases h : s.zoneCounts z v
  · rw [writeZoneIndex_counted h, regGet_detect_zone ha _ hstat]
  · rw [writeZoneIndex_uncounted h]

/-- AGE restarts at every write (R272). -/
theorem rd_writeZoneIndex_age (hz : z < 8) : (s.writeZoneIndex (.eng 2) z v).rd (SNS_SZ_AGE_AGE z) = 0 := by
  have kept := regGet_writeZoneIndex (s := s) (z := z) (v := v) (a := (SNS_SZ_AGE_AGE z).addr)
    (by dsimp only [zoneReg]; omega) (by dsimp only; omega)
  exact (congrArg (SNS_SZ_AGE_AGE z).of kept).trans rd_zoneTaken_age

/-- A write to one zone leaves the age of another. -/
theorem rd_writeZoneIndex_age_other {w : Nat} (hw : w < 8) (h : w ≠ z) :
    (s.writeZoneIndex (.eng 2) z v).rd (SNS_SZ_AGE_AGE w) = s.rd (SNS_SZ_AGE_AGE w) := by
  refine congrArg (SNS_SZ_AGE_AGE w).of ((regGet_writeZoneIndex ?_ ?_).trans (regGet_zoneTaken ?_ ?_)) <;>
    dsimp only [zoneReg] <;> omega

/-- CYCLE shows the cycle written. -/
theorem rd_writeZoneIndex_cycle (z : Fin 8) :
    (s.writeZoneIndex (.eng 2) z.val v).rd (SNS_SZ_IDX_CYCLE z.val) = (SNS_SZ_IDX_CYCLE z.val).of v := by
  have hzone : zoneReg (SNS_SZ_IDX_CYCLE z.val).addr := by
    dsimp only [zoneReg]
    omega
  have kept := regGet_writeZoneIndex (s := s) (v := v) hzone (z := z.val) (by dsimp only; omega)
  have hage : (SNS_SZ_IDX_CYCLE z.val).addr ≠ (SNS_SZ_AGE_AGE z.val).addr := by
    dsimp only
    omega
  have hrw : ∀ i < 16, (BitVec.ofNat 32 0xFFFF01FF).getLsbD (16 + i) = true := by decide
  refine (congrArg (SNS_SZ_IDX_CYCLE z.val).of kept).trans ?_
  rw [zoneTaken_regs, regGet_wrF _ _ _ _ hage, plainWrite_of_row (regRow_zoneIdx z), regGet_regSet_same,
    of_plainActive (regRow_zoneIdx z) rfl hrw]

/-- A write that counts steps the zone by the table of R269. -/
theorem writeZoneIndex_zoneStat (hz : z < 8) (h : s.zoneCounts z v) : (s.writeZoneIndex (.eng 2) z v).zoneStat z =
    (s.zoneStat z).next z (s.zoneCfg z) ((SNS_SZ_IDX_INDEX z).of v) := by
  rw [writeZoneIndex_counted h, detect_zoneStat hz, zoneTaken_zoneStat, zoneTaken_zoneCfg]

theorem writeZoneIndex_zoneStat_same (h : ¬ s.zoneCounts z v) : (s.writeZoneIndex (.eng 2) z v).zoneStat z = s.zoneStat z := by
  rw [writeZoneIndex_uncounted h, zoneTaken_zoneStat]

theorem exec_zoneIndexWrite_foreign {m : Master} (z : Fin 8) (h : isE2 m = false) : exec (.zoneIndexWrite m z v) s = .next s := by
  have hsame : s.writeZoneIndex m z.val v = s := if_pos (by rw [h]; rfl)
  refine congrArg Host.Outcome.next ((congrArg (s.writes m 17) hsame).trans ?_)
  exact ite_self s

theorem exec_zoneIndexWrite_e2 (z : Fin 8) (h : s.barred (.eng 2) 17 = false) :
    exec (.zoneIndexWrite (.eng 2) z v) s = .next (s.writeZoneIndex (.eng 2) z.val v) :=
  congrArg Host.Outcome.next (if_neg (by rw [h]; decide))

end

end Sys2Proof.Machine
end


section
namespace Sys2Proof.Machine

-- One declaration at a time: the check's memory limit holds few threads.
set_option Elab.async false

/-! ### The rows of R269 -/

section
variable {x : ZoneStat} {z i : Nat} {cfg : Word}

theorem ZoneStat.next_vacant (hst : x.state = 0) :
    ((SNS_SZ_CFG_ON z).of cfg ≤ i → (SNS_SZ_CFG_ONCNT z).of cfg ≤ x.above + 1 → (x.next z cfg i).state = 1 ∧
      (x.next z cfg i).above = 0 ∧ (x.next z cfg i).held = 0) ∧
    ((SNS_SZ_CFG_ON z).of cfg ≤ i → x.above + 1 < (SNS_SZ_CFG_ONCNT z).of cfg → (x.next z cfg i).state = 0 ∧
      (x.next z cfg i).above = x.above + 1) ∧
    (i < (SNS_SZ_CFG_ON z).of cfg → (x.next z cfg i).state = 0 ∧ (x.next z cfg i).above = 0) := by
  have hcnt : (SNS_SZ_CFG_ONCNT z).of cfg < 2 ^ 4 := Field.of_lt _ _
  rw [ZoneStat.next, if_neg (fun hocc => hocc hst)]
  refine ⟨fun hon hall => ?_, fun hon hfew => ?_, fun hoff => ?_⟩
  · rw [if_pos hon, if_pos hall]
    exact ⟨rfl, rfl, rfl⟩
  · rw [if_pos hon, if_neg (Nat.not_le.2 hfew)]
    exact ⟨hst, Nat.mod_eq_of_lt (Nat.lt_trans hfew hcnt)⟩
  · rw [if_neg (Nat.not_le.2 hoff)]
    exact ⟨hst, rfl⟩

theorem ZoneStat.next_occupied (hst : x.state = 1) :
    (i ≤ (SNS_SZ_CFG_OFF z).of cfg → (SNS_SZ_CFG_HOLD z).of cfg * 4 ≤ x.held + 1 → (x.next z cfg i).state = 0 ∧
      (x.next z cfg i).held = 0) ∧
    (i ≤ (SNS_SZ_CFG_OFF z).of cfg → x.held + 1 < (SNS_SZ_CFG_HOLD z).of cfg * 4 → (x.next z cfg i).state = 1 ∧
      (x.next z cfg i).held = x.held + 1) ∧
    ((SNS_SZ_CFG_OFF z).of cfg < i → (x.next z cfg i).state = 1 ∧ (x.next z cfg i).held = 0) := by
  have hhold : (SNS_SZ_CFG_HOLD z).of cfg < 2 ^ 11 := Field.of_lt _ _
  rw [ZoneStat.next, if_pos (by rw [hst]; decide)]
  refine ⟨fun hoff hall => ?_, fun hoff hfew => ?_, fun hon => ?_⟩
  · rw [if_pos hoff, if_pos hall]
    exact ⟨rfl, rfl⟩
  · rw [if_pos hoff, if_neg (Nat.not_le.2 hfew)]
    exact ⟨hst, Nat.mod_eq_of_lt (by omega)⟩
  · rw [if_neg (Nat.not_le.2 hon)]
    exact ⟨hst, rfl⟩

end

/-! ### A write of SNS_SZz_CFG (R270) -/

/-- A configuration that the registers take, before a zone that it disables becomes VACANT (R270). -/
def State.zoneConfigured (s : State) (z : Nat) (v : Word) : State :=
  let s1 := ((s.plainWrite (SNS_SZ_CFG_EN z).addr v).wr (SNS_SZ_STAT_ABOVE z) 0).wr (SNS_SZ_STAT_HELD z) 0
  { s1 with sns := { s1.sns with fresh := modifyNth (fun _ => true) z s1.sns.fresh } }

/-- The configuration `v` is refused (R270). -/
def zoneCfgBad (z : Nat) (v : Word) : Prop :=
  ((SNS_SZ_CFG_EN z).of v = 1 ∧ (SNS_SZ_CFG_ONCNT z).of v = 0) ∨ (SNS_SZ_CFG_ON z).of v ≤ (SNS_SZ_CFG_OFF z).of v

section
variable {s : State} {z : Nat} {v : Word}

theorem writeZoneCfg_refused (h : zoneCfgBad z v) : s.writeZoneCfg z v = s.wr SNS_SZSUM_CFGERR 1 := if_pos h

theorem writeZoneCfg_taken (h : ¬ zoneCfgBad z v) : s.writeZoneCfg z v =
    if (SNS_SZ_CFG_EN z).of v = 0 ∧ (s.zoneConfigured z v).rdB (SNS_SZ_STAT_STATE z) then
      ((s.zoneConfigured z v).setZone z false).zoneDuty z
    else s.zoneConfigured z v := if_neg h

theorem zoneConfigured_regs : (s.zoneConfigured z v).regs =
    (((s.plainWrite (SNS_SZ_CFG_EN z).addr v).wr (SNS_SZ_STAT_ABOVE z) 0).wr (SNS_SZ_STAT_HELD z) 0).regs := by
  rw [State.zoneConfigured]

/-- Every bit of SNS_SZz_CFG is RW. -/
theorem plainActive_zoneCfg (z : Fin 8) (v old : Word) : plainActive (SNS_SZ_CFG_EN z.val).addr v old = v := by
  simp only [plainActive, regRow_zoneCfg z]
  show (old &&& ~~~BitVec.allOnes 32 ||| v &&& BitVec.allOnes 32) &&& ~~~(v &&& 0#32) = v
  rw [BitVec.not_allOnes, BitVec.and_zero, BitVec.zero_or, BitVec.and_allOnes, BitVec.and_zero, BitVec.not_zero, BitVec.and_allOnes]

theorem zoneConfigured_zoneCfg (s : State) (z : Fin 8) (v : Word) : (s.zoneConfigured z.val v).zoneCfg z.val = v := by
  have hstat : (SNS_SZ_CFG_EN z.val).addr ≠ (SNS_SZ_STAT_STATE z.val).addr := by
    dsimp only
    omega
  rw [State.zoneCfg, zoneConfigured_regs, State.wr_regs, regGet_wrF _ (SNS_SZ_STAT_HELD z.val) _ _ hstat, State.wr_regs,
    regGet_wrF _ (SNS_SZ_STAT_ABOVE z.val) _ _ hstat, plainWrite_of_row (regRow_zoneCfg z), regGet_regSet_same, plainActive_zoneCfg]

theorem zoneConfigured_zoneStat : (s.zoneConfigured z v).zoneStat z = ⟨s.rd (SNS_SZ_STAT_STATE z), 0, 0⟩ := by
  have hcfg : (SNS_SZ_STAT_STATE z).addr ≠ (SNS_SZ_CFG_EN z).addr := by
    dsimp only
    omega
  rw [zoneStat_of_regGet (congrArg (regGet · _) zoneConfigured_regs), zoneStat_wr_held, zoneStat_wr_above,
    zoneStat_of_regGet (regGet_plainWrite_other s v hcfg)]
  rfl

/-- A configuration that disables its zone leaves it VACANT; the counts start anew (R270). -/
theorem writeZoneCfg_zoneStat (hz : z < 8) (h : ¬ zoneCfgBad z v) : (s.writeZoneCfg z v).zoneStat z =
    ⟨if (SNS_SZ_CFG_EN z).of v = 0 then 0 else s.rd (SNS_SZ_STAT_STATE z), 0, 0⟩ := by
  have hconf := zoneConfigured_zoneStat (s := s) (z := z) (v := v)
  have hstate : (s.zoneConfigured z v).rd (SNS_SZ_STAT_STATE z) = s.rd (SNS_SZ_STAT_STATE z) := congrArg ZoneStat.state hconf
  rw [writeZoneCfg_taken h, State.rdB, hstate]
  split
  next hoff =>
    rw [zoneStat_of_regGet (regGet_zoneDuty_zone (zoneReg_stat hz) z), zoneStat_setZone, hconf, if_pos hoff.1]
    rfl
  next hstays =>
    rw [hconf]
    split
    next hen =>
      have hvacant : s.rd (SNS_SZ_STAT_STATE z) = 0 := by simpa [hen] using hstays
      rw [hvacant]
    next => rfl

/-- The configuration word stands as it was written. -/
theorem writeZoneCfg_zoneCfg (z : Fin 8) (h : ¬ zoneCfgBad z.val v) : (s.writeZoneCfg z.val v).zoneCfg z.val = v := by
  have hzone : zoneReg (SNS_SZ_CFG_EN z.val).addr := by
    dsimp only [zoneReg]
    omega
  have hstat : (SNS_SZ_CFG_EN z.val).addr ≠ (SNS_SZ_STAT_STATE z.val).addr := by
    dsimp only
    omega
  rw [writeZoneCfg_taken h]
  split
  · exact (regGet_zoneDuty_zone hzone _).trans ((regGet_setZone_zone hzone hstat).trans (zoneConfigured_zoneCfg s z v))
  · exact zoneConfigured_zoneCfg s z v

end

end Sys2Proof.Machine
end


section
namespace Sys2Proof.Machine

-- One declaration at a time: the check's memory limit holds few threads.
set_option Elab.async false

/-! ### The close of a Sounding cycle (R264, R267, R272) -/

section
variable {s : State} {a : Nat}

theorem sndRead_regs (s : State) (c : Nat) (r : SndRec) : (s.sndRead c r).regs = s.regs := by
  unfold State.sndRead
  dsimp only
  split
  · rfl
  · split
    · rfl
    · split <;> rfl

/-- The records that the library reads move reader 0 alone of the registers. -/
theorem regGet_sndReads (ha : a ≠ MDM_SBUF_RD0_RD.addr) (c : Nat) : ∀ (n : Nat) (s : State),
    regGet (s.sndReads c n).regs a = regGet s.regs a
  | 0, _ => rfl
  | n + 1, s => by
    rw [State.sndReads]
    refine (regGet_sndReads ha c n _).trans ((regGet_wrF _ _ _ _ ha).trans ?_)
    exact congrArg (regGet · a) (sndRead_regs s c _)

theorem regGet_sndSkip (ha : a ≠ MDM_SBUF_RD0_RD.addr) : regGet s.sndSkip.regs a = regGet s.regs a := by
  unfold State.sndSkip
  dsimp only
  split
  · rfl
  · exact regGet_wrF _ _ _ _ ha

theorem sndSkip_closed (s : State) : s.sndSkip.snd.closed = s.snd.closed := by
  unfold State.sndSkip
  dsimp only
  split <;> rfl

/-- The close of cycle `c` is noted, so that no second one follows. -/
theorem sndClose_closed (s : State) (c n : Nat) : (s.sndClose c n).snd.closed = some c := sndSkip_closed _

/-- Zones written in turn, each among the eight, have their ages restarted. -/
theorem rd_writeZones_age (word : Nat → Word) {z : Nat} (hz : z < 8) : ∀ (l : List Nat) (s : State), (∀ w ∈ l, w < 8) →
    (z ∈ l ∨ s.rd (SNS_SZ_AGE_AGE z) = 0) →
    (l.foldl (fun t w => t.writeZoneIndex (.eng 2) w (word w)) s).rd (SNS_SZ_AGE_AGE z) = 0
  | [], _, _, h => h.resolve_left List.not_mem_nil
  | w :: l, s, hl, h => by
    refine rd_writeZones_age word hz l _ (fun k hk => hl k (List.mem_cons_of_mem w hk)) ?_
    by_cases hw : z = w
    · subst hw
      exact .inr (rd_writeZoneIndex_age hz)
    · exact h.imp (fun hmem => (List.mem_cons.1 hmem).resolve_left hw) (rd_writeZoneIndex_age_other hz hw).trans

/-- The close writes every zone that is enabled (R264). -/
theorem rd_sndClose_age {z : Nat} (hz : z < 8) (c n : Nat) (hen : s.rdB (SNS_SZ_CFG_EN z) = true) :
    (s.sndClose c n).rd (SNS_SZ_AGE_AGE z) = 0 := by
  have hread : (s.sndReads c n).rdB (SNS_SZ_CFG_EN z) = true := by
    rw [State.rdB, State.rd, rdF, regGet_sndReads (by dsimp only; omega)]
    exact hen
  have written := rd_writeZones_age (fun w => zoneWord c ((s.sndReads c n).snd.zone c w)) hz
    ((List.range 8).filter (fun w => (s.sndReads c n).rdB (SNS_SZ_CFG_EN w))) (s.sndReads c n)
    (fun w hw => List.mem_range.1 (List.mem_filter.1 hw).1) (.inl (List.mem_filter.2 ⟨List.mem_range.2 hz, hread⟩))
  exact (congrArg (SNS_SZ_AGE_AGE z).of (regGet_sndSkip (by dsimp only; omega))).trans written

end

/-- Time passes to slot 2 of the present cycle. -/
def State.atSlot2 (s : State) : State := s.advanceMer (merCycle s.mer.now * 65536 + 16384)

/-- The cycle before the present one. -/
def State.cycleBefore (s : State) : Nat := (merCycle s.mer.now + 2 ^ 32 - 1) % 2 ^ 32

/-- How many unread records the library reads when it reaches `done` of those beyond what R265 grants. -/
def State.sndReach (s : State) (done : Nat) : Nat := if s.sndKeepsUp then s.mdm.unread0 else min done s.mdm.unread0

/-- What CYCLE_CLOSE does while Sounding runs: a cycle is closed once (R264). -/
theorem exec_cycleClose {s : State} (done : Nat) (hstarted : s.snd.started = true) (htclk : s.tclkOn = true)
    (hstart : s.start = .none) : exec (.cycleClose done) s =
      if s.snd.closed = some s.cycleBefore then .next s.atSlot2
      else .next (s.atSlot2.sndClose s.cycleBefore (s.atSlot2.sndReach done)) := by
  have hgo : ¬ (!s.snd.started || !s.tclkOn || s.start != .none) = true := by
    rw [hstarted, htclk, hstart]
    decide
  have hsnd : s.atSlot2.snd = s.snd := tick_snd s _
  rw [← hsnd]
  exact if_neg hgo

end Sys2Proof.Machine
end


section
namespace Sys2Proof.Machine

-- One declaration at a time: the check's memory limit holds few threads.
set_option Elab.async false

/-! ### The zone detector and the close together -/

/-- A write of E2 shows its cycle and restarts the age, and steps the zone if it counts. -/
theorem zoneIndexWrite_steps (z : Fin 8) (v : Word) (s : State) (hgo : s.barred (.eng 2) 17 = false) :
    ∃ t : State, exec (.zoneIndexWrite (.eng 2) z v) s = .next t ∧ t.rd (SNS_SZ_AGE_AGE z.val) = 0 ∧
      t.rd (SNS_SZ_IDX_CYCLE z.val) = (SNS_SZ_IDX_CYCLE z.val).of v ∧
      (¬ s.zoneCounts z.val v → t.zoneStat z.val = s.zoneStat z.val) ∧
      (s.zoneCounts z.val v →
        t.zoneStat z.val = (s.zoneStat z.val).next z.val (s.zoneCfg z.val) ((SNS_SZ_IDX_INDEX z.val).of v)) :=
  ⟨_, exec_zoneIndexWrite_e2 z hgo, rd_writeZoneIndex_age z.isLt, rd_writeZoneIndex_cycle z, writeZoneIndex_zoneStat_same,
    writeZoneIndex_zoneStat z.isLt⟩

/-- What a zone's status shows, field by field. -/
theorem zoneStat_fields {t : State} {z : Nat} {x : ZoneStat} (h : t.zoneStat z = x) : t.rd (SNS_SZ_STAT_STATE z) = x.state ∧
    t.rd (SNS_SZ_STAT_ABOVE z) = x.above ∧ t.rd (SNS_SZ_STAT_HELD z) = x.held := by
  subst h
  exact ⟨rfl, rfl, rfl⟩

/-- Settles O52: a counted write steps the zone by the rows of R269, a configuration is refused or taken, and a cycle is closed once. -/
theorem zoneDetector : Obligations.ZoneDetector := by
  refine ⟨fun z v s => ⟨fun m hm => exec_zoneIndexWrite_foreign z hm, fun hgo => ?_, fun hbad => ?_, fun hgood => ?_⟩,
    fun done s hstarted htclk hstart => ⟨fun hopen => ?_, fun hclosed => ?_⟩⟩
  · obtain ⟨t, hexec, hage, hcycle, hsame, hsteps⟩ := zoneIndexWrite_steps z v s hgo
    refine ⟨t, hexec, hage, hcycle, fun hnot => zoneStat_fields (hsame hnot), fun hcounts hvacant => ?_, fun hcounts hocc => ?_⟩
    all_goals
      obtain ⟨hstate, habove, hheld⟩ := zoneStat_fields (hsteps hcounts)
      rw [hstate]
    · rw [habove, hheld]
      exact ZoneStat.next_vacant (x := s.zoneStat z.val) hvacant
    · rw [hheld]
      exact ZoneStat.next_occupied (x := s.zoneStat z.val) hocc
  · have hcfg : (SNS_SZ_CFG_EN z.val).addr ≠ SNS_SZSUM_CFGERR.addr := by
      dsimp only
      omega
    exact ⟨_, congrArg Host.Outcome.next (writeZoneCfg_refused hbad), State.rd_wr _ _ _ rfl, regGet_wrF _ _ _ _ hcfg⟩
  · obtain ⟨hstate, habove, hheld⟩ := zoneStat_fields (writeZoneCfg_zoneStat (s := s) z.isLt hgood)
    exact ⟨_, rfl, writeZoneCfg_zoneCfg z hgood, habove, hheld, fun hoff => hstate.trans (if_pos hoff)⟩
  · refine ⟨_, (exec_cycleClose done hstarted htclk hstart).trans (if_neg hopen), sndClose_closed _ _ _,
      fun z hen => rd_sndClose_age z.isLt _ _ ?_⟩
    have hkept : s.atSlot2.rd (SNS_SZ_CFG_EN z.val) = s.rd (SNS_SZ_CFG_EN z.val) :=
      tick_rd s _ _ (by dsimp only; omega) (fun ⟨_, hhi⟩ => by dsimp only at hhi; omega)
    rw [State.rdB, hkept]
    exact hen
  · exact ⟨_, (exec_cycleClose done hstarted htclk hstart).trans (if_pos hclosed), tick_snd s _, tick_sram s _⟩

end Sys2Proof.Machine
end


section
namespace Sys2Proof.Machine

-- One declaration at a time: the check's memory limit holds few threads.
set_option Elab.async false

/-! ### Values after power-on (R298, R389, R411, R473) -/

/-- A field of a register other than SYS_RSTCAUSE has the value of its reset word. -/
theorem rd_reset (f : Field) (h : f.addr ≠ SYS_RSTCAUSE_CAUSE.addr) : State.reset.rd f = f.of (resetWord f.addr) :=
  congrArg f.of (regGet_reset f.addr h)

/-- The configuration of every zone after power-on (R272). -/
theorem rd_reset_zoneCfg (z : Fin 8) : State.reset.rd (SNS_SZ_CFG_ONCNT z.val) = 2 ∧ State.reset.rd (SNS_SZ_CFG_HOLD z.val) = 250 ∧
    State.reset.rd (SNS_SZ_CFG_OFF z.val) = 16 ∧ State.reset.rd (SNS_SZ_CFG_ON z.val) = 32 := by
  have hapart : (SNS_SZ_CFG_EN z.val).addr ≠ SYS_RSTCAUSE_CAUSE.addr := by
    dsimp only
    omega
  rw [rd_reset (SNS_SZ_CFG_ONCNT z.val) hapart, rd_reset (SNS_SZ_CFG_HOLD z.val) hapart, rd_reset (SNS_SZ_CFG_OFF z.val) hapart,
    rd_reset (SNS_SZ_CFG_ON z.val) hapart]
  decide +revert

/-- After power-on every engine is in RESET but E1, which is paired with E0 (R298, R307). -/
theorem eng_reset (e : Fin 12) : (State.reset.eng e.val).st = if e.val = 1 then .paired else .reset := by
  decide +revert

/-- After power-on slot 15 alone holds a key (R389). -/
theorem slot_reset (k : Fin 16) : (State.reset.slot k.val).loaded = (k.val == 15) := by
  decide +revert

/-- No region has an episode after power-on (R473). -/
theorem episodes_reset (r : Fin 16) : State.reset.flt.episodes.getD r.val none = none := by
  decide +revert

/-- Settles O2: each register field is that of its reset word, and the other stores are the literals of `State.reset`. -/
theorem resetValues : Obligations.ResetValues :=
  ⟨rfl, eng_reset, rd_reset SYS_ID_PART (by decide), rd_reset SYS_ROLE_ROLE (by decide), rd_reset PWR_LEVEL_VCORE (by decide),
    rd_reset PWR_LEVEL_FENG (by decide), rd_reset PWR_ENGIDLE_CYC (by decide), rd_reset PWR_WAKEEN_EN (by decide),
    rd_reset TST_LEN_LEN (by decide), rd_reset TST_FIXED_WORD (by decide), rd_reset ENG_ISAVER_VER (by decide),
    rd_reset SNS_PIR_CFG_HPF (by decide), rd_reset_zoneCfg, rfl, rfl, rd_reset RTC_STAT_TLOST (by decide), slot_reset, rfl,
    episodes_reset⟩

end Sys2Proof.Machine
end


section
namespace Sys2Proof.Machine

-- One declaration at a time: the check's memory limit holds few threads.
set_option Elab.async false

/-! ### Registers of SNS under time and pulses -/

/-- A register of SNS. -/
abbrev snsReg (a : Nat) : Prop := 0x40011000 ≤ a

section
variable {s : State} {f : Field}

theorem rd_fire_sns (hf : snsReg f.addr) (src : Nat) : (s.fire src).rd f = s.rd f :=
  s.rd_fire src f (fun ⟨_, hhi⟩ => by omega)

theorem rd_tick_sns (hf : snsReg f.addr) (n : Nat) : (s.tick n).rd f = s.rd f :=
  tick_rd s n f (fun heq => absurd (heq ▸ hf) (by decide)) (fun ⟨_, hhi⟩ => by omega)

end

/-- A list's place that was replaced. -/
theorem getD_modifyNth {α : Type} (x d : α) {k : Nat} {l : List α} (hk : k < l.length) : (modifyNth (fun _ => x) k l).getD k d = x := by
  rw [List.getD_eq_getElem?_getD, getElem?_modifyNth, List.getElem?_eq_getElem hk]
  rfl

/-! ### A quotient down or up (log entry 58) -/

/-- The quotient is the floor, or one more when the division leaves a rest. -/
theorem looseDiv_eq (a : Int) (b up : Nat) : ∃ r : Nat, r ≤ 1 ∧ looseDiv a b up = a / b + r ∧ (a % b = 0 → r = 0) := by
  by_cases hrest : a % b = 0
  · exact ⟨0, Nat.zero_le 1, by rw [looseDiv, if_pos hrest], fun _ => rfl⟩
  · exact ⟨up % 2, by omega, by rw [looseDiv, if_neg hrest], fun h => absurd h hrest⟩

/-- A quotient that leaves no rest is exact. -/
theorem looseDiv_zero (b up : Nat) : looseDiv 0 b up = 0 := by
  simp [looseDiv]

end Sys2Proof.Machine
end


section
namespace Sys2Proof.Machine

-- One declaration at a time: the check's memory limit holds few threads.
set_option Elab.async false

/-! ### A conversion of a photodiode (R277 to R279) -/

/-- The charge of an integration of `len` TCLK cycles is above the range of DATA (R278). -/
def pdTooMuch (charge len : Nat) : Bool := decide (1600000000 * len < charge)

/-- What a conversion writes to DATA (R278). -/
def State.pdMean (s : State) (charge len : Nat) : Nat :=
  if pdTooMuch charge len then 1600000000 else (looseDiv charge len (s.freeBelow 2)).toNat

/-- DATA, OVER and UNDER as a conversion leaves them. -/
def State.pdConverted (s : State) (k charge len : Nat) : State :=
  ((s.took.wr (SNS_PD_DATA_DATA k) (s.pdMean charge len)).wr (SNS_PD_CFG_OVER k) (b2n (pdTooMuch charge len))).wr
    (SNS_PD_THR_UNDER k) (b2n (decide (charge < 1600 * len)))

/-- The LEVEL that the compare value and LO of photodiode `k` give to DATA bits 31:16 (R279). -/
def State.pdLevelNext (s : State) (k : Nat) : Nat :=
  if 2 * s.rd (SNS_PD_THR_HI k) + 1 ≤ s.rd (SNS_PD_THR_LO k) then s.rd (SNS_PD_CFG_LEVEL k)
  else if 2 * s.rd (SNS_PD_THR_HI k) + 1 ≤ s.rd (SNS_PD_DATA_DATA k) / 65536 then 1
  else if s.rd (SNS_PD_DATA_DATA k) / 65536 ≤ s.rd (SNS_PD_THR_LO k) then 0 else s.rd (SNS_PD_CFG_LEVEL k)

/-- LEVEL becomes `l`, with the pulse of a change. -/
def State.setPdLevel (s : State) (k l : Nat) : State :=
  if l = s.rd (SNS_PD_CFG_LEVEL k) then s else (s.wr (SNS_PD_CFG_LEVEL k) l).fire (144 + k)

theorem pdLevel_eq (s : State) (k : Nat) : s.pdLevel k = s.setPdLevel k (s.pdLevelNext k) := rfl

theorem pdTake_eq (s : State) (k charge len : Nat) :
    s.pdTake k charge len = ((s.pdConverted k charge len).svrSample 3 k (s.pdMean charge len : Nat)).pdLevel k := rfl

section
variable {s : State} {charge len : Nat}

/-- In range, DATA is the quotient down or up, and exact where the division leaves no rest. -/
theorem pdMean_inRange (h : pdTooMuch charge len = false) : charge / len ≤ s.pdMean charge len ∧
    s.pdMean charge len ≤ charge / len + 1 ∧ (charge % len = 0 → s.pdMean charge len = charge / len) := by
  obtain ⟨r, hr, hquot, hexact⟩ := looseDiv_eq charge len (s.freeBelow 2)
  have hmean : s.pdMean charge len = charge / len + r := by
    rw [State.pdMean, h, if_neg Bool.false_ne_true, hquot]
    norm_cast
  refine ⟨by omega, by omega, fun hrest => ?_⟩
  have hr0 : r = 0 := hexact (by exact_mod_cast hrest)
  omega

theorem b2n_mod_two (b : Bool) : b2n b % 2 ^ 1 = b2n b := by cases b <;> rfl

theorem pdMean_tooMuch (h : pdTooMuch charge len = true) : s.pdMean charge len = 1600000000 := if_pos h

/-- DATA holds the mean whole. -/
theorem pdMean_lt (s : State) (charge len : Nat) : s.pdMean charge len < 2 ^ 32 := by
  cases h : pdTooMuch charge len with
  | true =>
    rw [pdMean_tooMuch h]
    decide
  | false =>
    have hcharge : charge ≤ 1600000000 * len := Nat.le_of_not_lt (of_decide_eq_false h)
    have hquot : charge / len ≤ 1600000000 := Nat.div_le_of_le_mul (Nat.mul_comm _ _ ▸ hcharge)
    have hmean := (pdMean_inRange (s := s) h).2.1
    omega

theorem rd_svrSample (s : State) (src par : Nat) (r : Int) (f : Field) : (s.svrSample src par r).rd f = s.rd f :=
  congrArg (rdF · f) (svrSample_regs s src par r)

theorem rd_setPdLevel_apart {k l : Nat} {f : Field} (hf : snsReg f.addr) (hapart : (SNS_PD_CFG_LEVEL k).apart f = true) :
    (s.setPdLevel k l).rd f = s.rd f := by
  rw [State.setPdLevel]
  split
  · rfl
  · exact (rd_fire_sns hf _).trans (State.rd_wr_apart _ _ _ _ rfl hapart)

theorem rd_setPdLevel {k l : Nat} (hl : l < 2) : (s.setPdLevel k l).rd (SNS_PD_CFG_LEVEL k) = l := by
  rw [State.setPdLevel]
  split
  next hsame => exact hsame.symm
  next => rw [rd_fire_sns (Nat.le_add_right _ _), State.rd_wr _ _ _ rfl, Nat.pow_one, Nat.mod_eq_of_lt hl]

theorem pdLevelNext_lt (s : State) (k : Nat) : s.pdLevelNext k < 2 := by
  have hbit : s.rd (SNS_PD_CFG_LEVEL k) < 2 ^ 1 := rdF_lt _ _
  unfold State.pdLevelNext
  split
  · exact hbit
  · split
    · exact Nat.one_lt_two
    · split
      · exact Nat.two_pos
      · exact hbit

/-- A conversion leaves the fields of SNS but DATA, OVER and UNDER to its change of LEVEL. -/
theorem rd_pdConverted_apart {k : Nat} {f : Field} (hdata : (SNS_PD_DATA_DATA k).apart f = true)
    (hover : (SNS_PD_CFG_OVER k).apart f = true) (hunder : (SNS_PD_THR_UNDER k).apart f = true) :
    (s.pdConverted k charge len).rd f = s.rd f :=
  (State.rd_wr_apart _ _ _ _ rfl hunder).trans ((State.rd_wr_apart _ _ _ _ rfl hover).trans (State.rd_wr_apart _ _ _ _ rfl hdata))

theorem rd_pdConverted_data (k : Nat) : (s.pdConverted k charge len).rd (SNS_PD_DATA_DATA k) = s.pdMean charge len := by
  rw [State.pdConverted, State.rd_wr_apart _ _ _ _ rfl (by simp [Field.apart]), State.rd_wr_apart _ _ _ _ rfl (by simp [Field.apart]),
    State.rd_wr _ _ _ rfl, Nat.mod_eq_of_lt (pdMean_lt _ _ _)]

theorem rd_pdConverted_over (k : Nat) : (s.pdConverted k charge len).rd (SNS_PD_CFG_OVER k) = b2n (pdTooMuch charge len) := by
  rw [State.pdConverted, State.rd_wr_apart _ _ _ _ rfl (by simp [Field.apart]), State.rd_wr _ _ _ rfl, b2n_mod_two]

theorem rd_pdConverted_under (k : Nat) :
    (s.pdConverted k charge len).rd (SNS_PD_THR_UNDER k) = b2n (decide (charge < 1600 * len)) := by
  rw [State.pdConverted, State.rd_wr _ _ _ rfl, b2n_mod_two]

/-- After the conversion LEVEL alone may change yet (R279). -/
theorem rd_pdTake_apart {k : Nat} {f : Field} (hf : snsReg f.addr) (hapart : (SNS_PD_CFG_LEVEL k).apart f = true) :
    (s.pdTake k charge len).rd f = (s.pdConverted k charge len).rd f :=
  (rd_setPdLevel_apart hf hapart).trans (rd_svrSample _ _ _ _ _)

/-- LEVEL follows the new DATA when LO is below the compare value (R279). -/
theorem rd_pdTake_level (k : Nat) (hthr : s.rd (SNS_PD_THR_LO k) < 2 * s.rd (SNS_PD_THR_HI k) + 1) :
    (s.pdTake k charge len).rd (SNS_PD_CFG_LEVEL k) = if 2 * s.rd (SNS_PD_THR_HI k) + 1 ≤ s.pdMean charge len / 65536 then 1
      else if s.pdMean charge len / 65536 ≤ s.rd (SNS_PD_THR_LO k) then 0 else s.rd (SNS_PD_CFG_LEVEL k) := by
  have hhi : (s.pdConverted k charge len).rd (SNS_PD_THR_HI k) = s.rd (SNS_PD_THR_HI k) :=
    rd_pdConverted_apart (by simp [Field.apart]) (by simp [Field.apart]) (by simp [Field.apart])
  have hlo : (s.pdConverted k charge len).rd (SNS_PD_THR_LO k) = s.rd (SNS_PD_THR_LO k) :=
    rd_pdConverted_apart (by simp [Field.apart]) (by simp [Field.apart]) (by simp [Field.apart])
  have hlevel : (s.pdConverted k charge len).rd (SNS_PD_CFG_LEVEL k) = s.rd (SNS_PD_CFG_LEVEL k) :=
    rd_pdConverted_apart (by simp [Field.apart]) (by simp [Field.apart]) (by simp [Field.apart])
  rw [pdTake_eq, pdLevel_eq, rd_setPdLevel (pdLevelNext_lt _ _), State.pdLevelNext]
  simp only [rd_svrSample, hhi, hlo, hlevel, rd_pdConverted_data]
  exact if_neg (Nat.not_le.2 hthr)

end

section
variable {s : State} (k : Fin 2) (charge : Nat)

/-- An integration of `len` TCLK cycles of photodiode `k` ends with the next conversion: one that Meridian cycles have measured, or one
of 1 ms (R277). -/
def State.pdEnds (s : State) (k len : Nat) : Prop :=
  (∃ t0, (s.pd k).ended = [] ∧ (s.pd k).start = some t0 ∧ s.rd (SNS_PD_CFG_INT k) = 3 ∧ len = 400000) ∨
    ∃ r, (s.pd k).ended = len :: r ∧ 400000 ≤ len

/-- With TCLK on, the conversion of an integration that measured cycles takes the oldest, or discards it below 1 ms. -/
theorem exec_pdConversion_ended {len : Nat} {r : List Nat} (htclk : s.tclkOn = true) (hended : (s.pd k.val).ended = len :: r) :
    exec (.pdConversion k charge) s = .next (if len < 400000 then s.putPd k.val { s.pd k.val with ended := r }
      else (s.putPd k.val { s.pd k.val with ended := r }).pdTake k.val charge len) := by
  show execPdConversion k charge s = _
  simp only [execPdConversion, htclk, hended, Bool.not_true, Bool.false_eq_true, if_false]

theorem exec_pdConversion_timed {t0 : Nat} (htclk : s.tclkOn = true) (hended : (s.pd k.val).ended = [])
    (hstart : (s.pd k.val).start = some t0) (hint : s.rd (SNS_PD_CFG_INT k.val) = 3) :
    exec (.pdConversion k charge) s = .next (((s.tick (t0 + 400000 - s.tclk)).putPd k.val
      { s.pd k.val with start := some (t0 + 400000) }).pdTake k.val charge 400000) := by
  show execPdConversion k charge s = _
  simp only [execPdConversion, htclk, hended, hstart, hint, Bool.not_true, Bool.false_eq_true, if_false, if_true]

/-- However an integration ends, its conversion takes it in a state with the registers of SNS as they stand. -/
theorem exec_pdConversion_takes {len : Nat} (htclk : s.tclkOn = true) (hends : s.pdEnds k.val len) :
    ∃ u : State, exec (.pdConversion k charge) s = .next (u.pdTake k.val charge len) ∧
      ∀ f : Field, snsReg f.addr → u.rd f = s.rd f := by
  rcases hends with ⟨t0, hended, hstart, hint, rfl⟩ | ⟨r, hended, hlong⟩
  · exact ⟨_, exec_pdConversion_timed k charge htclk hended hstart hint, fun f hf => rd_tick_sns hf _⟩
  · exact ⟨_, (exec_pdConversion_ended k charge htclk hended).trans (congrArg _ (if_neg (Nat.not_lt.2 hlong))), fun _ _ => rfl⟩

/-- The fields of SNS that a conversion leaves. -/
theorem pdConversion_reads {len : Nat} (htclk : s.tclkOn = true) (hends : s.pdEnds k.val len) :
    ∃ t u : State, exec (.pdConversion k charge) s = .next t ∧ t.rd (SNS_PD_DATA_DATA k.val) = u.pdMean charge len ∧
      t.rd (SNS_PD_CFG_OVER k.val) = b2n (pdTooMuch charge len) ∧
      t.rd (SNS_PD_THR_UNDER k.val) = b2n (decide (charge < 1600 * len)) ∧
      (s.rd (SNS_PD_THR_LO k.val) < 2 * s.rd (SNS_PD_THR_HI k.val) + 1 → t.rd (SNS_PD_CFG_LEVEL k.val) =
        if 2 * s.rd (SNS_PD_THR_HI k.val) + 1 ≤ u.pdMean charge len / 65536 then 1
        else if u.pdMean charge len / 65536 ≤ s.rd (SNS_PD_THR_LO k.val) then 0 else s.rd (SNS_PD_CFG_LEVEL k.val)) := by
  obtain ⟨u, hexec, hsame⟩ := exec_pdConversion_takes k charge htclk hends
  have hcfg : snsReg (SNS_PD_CFG_LEVEL k.val).addr := Nat.le_add_right _ _
  have hdata : snsReg (SNS_PD_DATA_DATA k.val).addr := Nat.le_add_right_of_le (by decide)
  have hthr : snsReg (SNS_PD_THR_UNDER k.val).addr := Nat.le_add_right_of_le (by decide)
  refine ⟨_, u, hexec, ?_, ?_, ?_, ?_⟩
  · rw [rd_pdTake_apart hdata (by simp [Field.apart]), rd_pdConverted_data]
  · rw [rd_pdTake_apart (f := SNS_PD_CFG_OVER k.val) hcfg (by simp [Field.apart]), rd_pdConverted_over]
  · rw [rd_pdTake_apart hthr (by simp [Field.apart]), rd_pdConverted_under]
  have hhi : u.rd (SNS_PD_THR_HI k.val) = s.rd (SNS_PD_THR_HI k.val) := hsame _ hthr
  have hlo : u.rd (SNS_PD_THR_LO k.val) = s.rd (SNS_PD_THR_LO k.val) := hsame _ hthr
  have hlevel : u.rd (SNS_PD_CFG_LEVEL k.val) = s.rd (SNS_PD_CFG_LEVEL k.val) := hsame _ hcfg
  rw [← hhi, ← hlo, ← hlevel]
  exact rd_pdTake_level k.val

end

end Sys2Proof.Machine
end


section
namespace Sys2Proof.Machine

-- One declaration at a time: the check's memory limit holds few threads.
set_option Elab.async false

/-! ### A PIR sample (R280, R281) -/

section
variable {s : State} {x : Int}

/-- The detector takes `s` to `t`: the mean of the filter and Y stay, and one sample less is to be waited for in silence (R281). -/
structure PirLeaves (s t : State) : Prop where
  mean : t.sns.pirM = s.sns.pirM
  silent : t.sns.silent = s.sns.silent - 1
  y : t.rd SNS_PIR_DATA_Y = s.rd SNS_PIR_DATA_Y

theorem PirLeaves.arm {t : State} (h : PirLeaves s t) (v : Nat) : PirLeaves s (t.wr SNS_PIR_DATA_ARMED v) :=
  ⟨h.mean, h.silent, (State.rd_wr_apart t _ _ _ rfl (by decide)).trans h.y⟩

theorem PirLeaves.fire {t : State} (h : PirLeaves s t) (src : Nat) : PirLeaves s (t.fire src) :=
  ⟨(congrArg (·.pirM) (State.fire_sns t src)).trans h.mean, (congrArg (·.silent) (State.fire_sns t src)).trans h.silent,
    (rd_fire_sns (by decide) src).trans h.y⟩

/-- A silent detector counts the sample; one that listens moves its counters and then may fire or arm again. -/
theorem pirDetect_leaves (s : State) (mag : Nat) : PirLeaves s (s.pirDetect mag) := by
  refine iteInduction (fun _ => ⟨rfl, rfl, rfl⟩) (fun hlistens => ?_)
  have hnone : s.sns.silent = s.sns.silent - 1 := by omega
  have counted (a b : Nat) : PirLeaves s { s with sns := { s.sns with above := a, below := b } } := ⟨rfl, hnone, rfl⟩
  exact iteInduction (fun _ => counted _ _) (fun _ => iteInduction (fun _ => .fire (.arm (counted _ _) 0) 146)
    (fun _ => iteInduction (fun _ => .arm (counted _ _) 1) (fun _ => counted _ _)))

/-- The mean after the sample `x`: `x` itself at the first, else a quotient nearer to it (R280). -/
def State.pirMean (s : State) (x : Int) : Int :=
  match s.sns.pirM with
  | some m => m + looseDiv (x * 65536 - m) (2 ^ s.rd SNS_PIR_CFG_HPF) (s.freeBelow 2)
  | none => x * 65536

theorem pirFilter_pirM (s : State) (x : Int) : (s.pirFilter x).sns.pirM = some (s.pirMean x) := by
  refine (pirDetect_leaves _ _).mean.trans ?_
  rw [State.fire_sns]
  rfl

/-- The detector stays silent for 4 × 2^HPF samples from the first, which it counts (R281). -/
theorem pirFilter_silent (x : Int) (hfirst : s.sns.pirM = none) :
    (s.pirFilter x).sns.silent = 4 * 2 ^ s.rd SNS_PIR_CFG_HPF - 1 := by
  refine (pirDetect_leaves _ _).silent.trans ?_
  rw [State.fire_sns, State.wr_sns]
  dsimp only
  rw [if_pos hfirst]

/-- The first sample is the mean, and so shows no motion. -/
theorem rd_pirFilter_y (x : Int) (hfirst : s.sns.pirM = none) : (s.pirFilter x).rd SNS_PIR_DATA_Y = 0 := by
  refine (pirDetect_leaves _ _).y.trans ?_
  rw [rd_fire_sns (by decide), State.rd_wr _ _ _ rfl]
  simp only [hfirst, Int.sub_self, looseDiv_zero]
  rfl

/-- A sample passes the filter once its time has come. -/
theorem exec_pirSample (x : BitVec 16) (htclk : s.tclkOn = true) (hen : s.rdB SNS_PIR_CFG_EN = true) :
    ∃ u : State, exec (.pirSample x) s = .next (u.pirFilter x.toInt) ∧ u.sns.pirM = s.sns.pirM ∧
      u.rd SNS_PIR_CFG_HPF = s.rd SNS_PIR_CFG_HPF := by
  refine ⟨_, if_neg ?_, ?_, rd_tick_sns (by decide) _⟩
  · simp [htclk, hen]
  · exact congrArg (·.pirM) (tick_sns s _)

end

end Sys2Proof.Machine
end


section
namespace Sys2Proof.Machine

-- One declaration at a time: the check's memory limit holds few threads.
set_option Elab.async false

/-! ### Periods and edges of a dimming output (R282 to R285) -/

section
variable {s : State} {n : Nat} {p : Pwm}

theorem pwm_putPwm (p : Pwm) (hn : n < s.sns.pwms.length) : (s.putPwm n p).pwm n = p := getD_modifyNth p _ hn

/-- Time leaves an output and its committed set. -/
theorem pwmAdopt_tick (s : State) (m n : Nat) (p : Pwm) : (s.tick m).pwmAdopt n p = s.pwmAdopt n p := by
  have word (a : Nat) (ha : snsReg a) : regGet (s.tick m).regs a = regGet s.regs a :=
    tick_regGet s m a (fun heq => absurd (heq ▸ ha) (by decide)) (fun ⟨_, hhi⟩ => by omega)
  rw [State.pwmAdopt, State.pwmAdopt, word _ (Nat.le_add_right_of_le (by decide)), word _ (Nat.le_add_right_of_le (by decide))]

/-- DUTY of output `n` as a period start in TCLK cycle `c` sees it (R284). -/
def State.dutyAt (s : State) (n : Nat) (p : Pwm) (c : Nat) : Nat :=
  match p.was with
  | some w => if w.1 = c then w.2 else s.rd (SNS_PWM_DUTY_DUTY n)
  | none => s.rd (SNS_PWM_DUTY_DUTY n)

theorem dutySeen_eq (s : State) (n : Nat) (p : Pwm) : s.dutySeen n p = s.dutyAt n p s.tclk := rfl

theorem dutyAt_tick (s : State) (m n : Nat) (p : Pwm) (c : Nat) : (s.tick m).dutyAt n p c = s.dutyAt n p c := by
  rw [State.dutyAt, State.dutyAt, rd_tick_sns (Nat.le_add_right_of_le (by decide))]

/-- A period begins with the DUTY latched and the pin at its level; PWMPER fires at most besides. -/
theorem pwmBegin_pwm (p : Pwm) (t : Nat) (hn : n < s.sns.pwms.length) : (s.pwmBegin n p t).pwm n =
    { p with duty := s.dutySeen n p, start := some t, pin := p.level (s.dutySeen n p != 0) } := by
  have hsns : (s.pwmBegin n p t).sns =
      (s.putPwm n { p with duty := s.dutySeen n p, start := some t, pin := p.level (s.dutySeen n p != 0) }).sns := by
    unfold State.pwmBegin
    dsimp only
    split
    · exact State.fire_sns _ _
    · rfl
  rw [State.pwm, hsns]
  exact pwm_putPwm _ hn

theorem pwmBegin_tclk (s : State) (n : Nat) (p : Pwm) (t : Nat) : (s.pwmBegin n p t).tclk = s.tclk := by
  unfold State.pwmBegin
  dsimp only
  split
  · exact State.fire_tclk _ _
  · rfl

theorem pwmBegin_mer (s : State) (n : Nat) (p : Pwm) (t : Nat) : (s.pwmBegin n p t).mer = s.mer := by
  unfold State.pwmBegin
  dsimp only
  split
  · exact State.fire_mer _ _
  · rfl

end

/-- Time has passed to the next period start of output `n`. -/
def State.atPeriodStart (s : State) (n : Nat) : State := s.tick (s.pwmDue (s.pwm n))

section
variable {s : State} {n : Fin 4} {t0 : Nat}

theorem atPeriodStart_pwmAdopt (s : State) (n : Nat) (p : Pwm) : (s.atPeriodStart n).pwmAdopt n p = s.pwmAdopt n p :=
  pwmAdopt_tick s _ n p

theorem atPeriodStart_length (s : State) (n : Nat) : (s.atPeriodStart n).sns.pwms.length = s.sns.pwms.length :=
  congrArg (·.pwms.length) (tick_sns s _)

/-- In FREE the next period starts one period after the last, where that is still to come (R283). -/
theorem atPeriodStart_tclk (hmode : (s.pwm n.val).mode = 1) (hstart : (s.pwm n.val).start = some t0)
    (hdue : s.tclk ≤ t0 + (s.pwm n.val).span) : (s.atPeriodStart n.val).tclk = t0 + (s.pwm n.val).span := by
  rw [State.atPeriodStart, tick_tclk, State.pwmDue, hstart]
  dsimp only
  rw [if_pos hmode]
  omega

/-- An output in FREE that stays in FREE begins its next period (R283). -/
theorem exec_pwmPeriodStart_free (htclk : s.tclkOn = true) (hmode : (s.pwm n.val).mode = 1) (hstart : (s.pwm n.val).start = some t0)
    (hstays : (s.pwmAdopt n.val (s.pwm n.val)).mode = 1) : exec (.pwmPeriodStart n) s =
      .next ((s.atPeriodStart n.val).pwmBegin n.val (s.pwmAdopt n.val (s.pwm n.val))
        (max (s.atPeriodStart n.val).tclk (t0 + (s.pwm n.val).span))) := by
  rw [← atPeriodStart_pwmAdopt] at hstays ⊢
  show execPwmPeriodStart n s = _
  unfold execPwmPeriodStart
  dsimp only
  rw [if_neg (by rw [htclk, hmode]; decide), hstart]
  exact if_pos ⟨hmode, hstays⟩

/-- An output in ALIGNED with no new set begins its next period (R285). -/
theorem exec_pwmPeriodStart_aligned (htclk : s.tclkOn = true) (hmode : (s.pwm n.val).mode = 2)
    (hset : s.pwmAdopt n.val (s.pwm n.val) = s.pwm n.val) : exec (.pwmPeriodStart n) s =
      .next ((s.atPeriodStart n.val).pwmBegin n.val (s.pwm n.val) ((s.pwm n.val).alignedAt (s.atPeriodStart n.val).mer.now)) := by
  have hsame : (s.atPeriodStart n.val).pwmAdopt n.val (s.pwm n.val) = s.pwm n.val := (atPeriodStart_pwmAdopt _ _ _).trans hset
  show execPwmPeriodStart n s = _
  unfold execPwmPeriodStart
  dsimp only
  rw [if_neg (by rw [htclk, hmode]; decide), if_neg (by rw [hmode]; simp), ← State.atPeriodStart, hsame, if_pos rfl]

/-- An output in OFF has no periods (R282). -/
theorem exec_pwmPeriodStart_off (hmode : (s.pwm n.val).mode = 0) : exec (.pwmPeriodStart n) s = .next s :=
  if_pos (by rw [hmode]; exact Bool.or_true _)

/-- An active output of a period that has an inactive edge takes it (R283). -/
theorem exec_pwmInactiveEdge (htclk : s.tclkOn = true) (hmode : (s.pwm n.val).mode = 1) (hstart : (s.pwm n.val).start = some t0)
    (hsome : (s.pwm n.val).duty ≠ 0) (hfull : (s.pwm n.val).duty ≠ 0xFFFF) (hpin : (s.pwm n.val).pin = (s.pwm n.val).level true) :
    exec (.pwmInactiveEdge n) s = .next ((s.tick (t0 + (s.pwm n.val).duty * (s.pwm n.val).span / 65536 - s.tclk)).putPwm n.val
      { s.pwm n.val with pin := (s.pwm n.val).level false }) := by
  show execPwmInactiveEdge n s = _
  unfold execPwmInactiveEdge
  dsimp only
  rw [hstart]
  dsimp only
  rw [if_neg (by simp [htclk, hmode, hsome, hfull, hpin]), State.pwmEdgeDue, if_pos hmode]

end

end Sys2Proof.Machine
end


section
namespace Sys2Proof.Machine

-- One declaration at a time: the check's memory limit holds few threads.
set_option Elab.async false

/-! ### General pins (R288) -/

/-- The bit `p` of a word as a field. -/
abbrev bitField (p : Nat) : Field := ⟨0, p, 1⟩

theorem bitField_of (p : Nat) (w : Word) : (bitField p).of w = w.toNat / 2 ^ p % 2 := rfl

/-- A bit put into a word is what that bit reads, and no other bit changes. -/
theorem bitField_of_put {p : Nat} (hp : p < 32) (w : Word) (b : Bool) (j : Nat) :
    (bitField j).of ((bitField p).put w (b2n b)) = if j = p then b2n b else (bitField j).of w := by
  split
  next heq =>
    rw [heq, Field.of_put (bitField p) w _ hp]
    exact b2n_mod_two b
  next hne =>
    rcases Nat.lt_or_gt_of_ne hne with hbelow | habove
    · exact Field.of_put_below (bitField p) (bitField j) w _ hp hbelow
    · exact Field.of_put_above (bitField p) (bitField j) w _ hp habove

/-- A bit of a word that is not `up` is put by a sum or a difference. -/
theorem bitField_put_toNat {i p : Nat} {up : Bool} (hi : i < 2 ^ 32) (hp : p < 32) (hbit : i / 2 ^ p % 2 ≠ b2n up) :
    ((bitField p).put (BitVec.ofNat 32 i) (b2n up)).toNat = if up then i + 2 ^ p else i - 2 ^ p := by
  have hword : (BitVec.ofNat 32 i).toNat = i := Nat.mod_eq_of_lt hi
  have hlt : i - i / 2 ^ p % 2 ^ 1 * 2 ^ p + b2n up % 2 ^ 1 * 2 ^ p < 2 ^ 32 := Field.put_lt p 1 i (b2n up) hp hi
  rw [Field.put, bitField_of, hword, BitVec.toNat_ofNat]
  refine (Nat.mod_eq_of_lt hlt).trans ?_
  cases up with
  | false =>
    have hset : i / 2 ^ p % 2 = 1 := Nat.mod_two_ne_zero.1 hbit
    simp [hset, b2n]
  | true =>
    have hclear : i / 2 ^ p % 2 = 0 := Nat.mod_two_ne_one.1 hbit
    simp [hclear, b2n]

/-- Every bit of a word after a pin's bit that is not `up` is made so. -/
theorem bit_of_pin_changed {i p : Nat} {up : Bool} (hi : i < 2 ^ 32) (hp : p < 32) (hbit : i / 2 ^ p % 2 ≠ b2n up) (j : Nat) :
    (if up then i + 2 ^ p else i - 2 ^ p) / 2 ^ j % 2 = if j = p then b2n up else i / 2 ^ j % 2 := by
  have hread := bitField_of_put hp (BitVec.ofNat 32 i) up j
  rwa [bitField_of, bitField_of, bitField_put_toNat hi hp hbit, BitVec.toNat_ofNat, Nat.mod_eq_of_lt hi] at hread

/-- A change of one of the 24 pins stays within 24 bits. -/
theorem pins_lt {v w pin : Nat} {up : Bool} (hv : v < 2 ^ 24) (hpin : pin < 24)
    (hbits : ∀ j, w / 2 ^ j % 2 = if j = pin then b2n up else v / 2 ^ j % 2) : w < 2 ^ 24 := by
  refine Nat.lt_pow_two_of_testBit w (fun j hj => ?_)
  have hne : j ≠ pin := by omega
  have hzero : v / 2 ^ j = 0 := Nat.div_eq_of_lt (Nat.lt_of_lt_of_le hv (Nat.pow_le_pow_right (by decide) hj))
  rw [Nat.testBit_eq_decide_div_mod_eq, hbits j, if_neg hne, hzero]
  rfl

section
variable {s : State} {pin : Nat}

/-- SNS_GPIO_IN after it holds level `up` of a pin: that bit, and every other as before. -/
theorem gpioHold_bits (s : State) (hpin : pin < 24) (up : Bool) (j : Nat) :
    (s.gpioHold pin up).rd SNS_GPIO_IN_PINS / 2 ^ j % 2 = if j = pin then b2n up else s.rd SNS_GPIO_IN_PINS / 2 ^ j % 2 := by
  have hold : s.rd SNS_GPIO_IN_PINS < 2 ^ 24 := rdF_lt _ _
  unfold State.gpioHold
  dsimp only
  split
  next hsame =>
    have hbit := hsame.resolve_left (by omega)
    split
    next heq => rw [heq, hbit]
    next => rfl
  next hdiff =>
    have hbits := bit_of_pin_changed (Nat.lt_trans hold (by decide)) (Nat.lt_trans hpin (by decide)) (not_or.1 hdiff).2
    rw [State.rd_wr _ _ _ rfl, Nat.mod_eq_of_lt (pins_lt hold hpin hbits)]
    exact hbits j

/-- SNS_GPIO_IN alone takes the level of a pin. -/
theorem rd_gpioHold_apart (s : State) (pin : Nat) (up : Bool) {f : Field} (hapart : SNS_GPIO_IN_PINS.apart f = true) :
    (s.gpioHold pin up).rd f = s.rd f := by
  unfold State.gpioHold
  dsimp only
  split
  · rfl
  · exact State.rd_wr_apart _ _ _ _ rfl hapart

/-- SET is an OR of 24 bits. -/
theorem rd_gpioSet (s : State) (v : Word) :
    (s.gpioSet v).rd SNS_GPIO_OUT_PINS = s.rd SNS_GPIO_OUT_PINS ||| v.toNat % 2 ^ 24 := by
  have hpins : s.rd SNS_GPIO_OUT_PINS ||| v.toNat % 2 ^ 24 < 2 ^ 24 :=
    Nat.or_lt_two_pow (rdF_lt _ SNS_GPIO_OUT_PINS) (Nat.mod_lt _ (Nat.two_pow_pos _))
  rw [State.gpioSet, State.rd_wr _ _ _ rfl, Nat.mod_eq_of_lt hpins]

/-- CLR is an AND of 24 bits. -/
theorem rd_gpioClr (s : State) (v : Word) :
    (s.gpioClr v).rd SNS_GPIO_OUT_PINS = s.rd SNS_GPIO_OUT_PINS &&& (2 ^ 24 - 1 - v.toNat % 2 ^ 24) := by
  rw [State.gpioClr, State.rd_wr _ _ _ rfl, Nat.mod_eq_of_lt (Nat.and_lt_two_pow _ (by dsimp only; omega))]

/-- No edge where the level is the one that the detector saw last. -/
theorem exec_gpioEdge_same (k : Fin 2) {rising : Bool} (hlevel : s.sns.levels.getD k.val false = rising) :
    exec (.gpioEdge k rising) s = .next s :=
  if_pos (by rw [hlevel]; simp)

/-- A new level of an input that a detector watches is held by SNS_GPIO_IN; the detector's level and its pulse are no register of SNS. -/
theorem exec_gpioEdge_input (k : Fin 2) {rising : Bool} (htclk : s.tclkOn = true) (hpin : s.rd (Machine.gpioPin k.val) < 24)
    (hlevel : s.sns.levels.getD k.val false ≠ rising) (hinput : s.rd SNS_GPIO_DIR_PINS / 2 ^ s.rd (Machine.gpioPin k.val) % 2 = 0) :
    ∃ t : State, exec (.gpioEdge k rising) s = .next t ∧
      ∀ f : Field, snsReg f.addr → t.rd f = (s.gpioHold (s.rd (Machine.gpioPin k.val)) rising).rd f := by
  have hoff : decide (24 ≤ s.rd (Machine.gpioPin k.val)) = false := decide_eq_false (Nat.not_le.2 hpin)
  have hnew : (s.sns.levels.getD k.val false == rising) = false := beq_eq_false_iff_ne.2 hlevel
  have hout : (s.rd SNS_GPIO_DIR_PINS / 2 ^ s.rd (Machine.gpioPin k.val) % 2 == 1) = false := by rw [hinput]; rfl
  refine ⟨_, if_neg ?_, fun f hf => ?_⟩
  · rw [htclk, hoff, hnew, hout]
    exact Bool.false_ne_true
  · exact iteInduction (motive := fun t : State => t.rd f = (s.gpioHold (s.rd (Machine.gpioPin k.val)) rising).rd f)
      (fun _ => rd_fire_sns hf _) (fun _ => rfl)

end

end Sys2Proof.Machine
end


section
namespace Sys2Proof.Machine

-- One declaration at a time: the check's memory limit holds few threads.
set_option Elab.async false

/-! ### The inputs and outputs of the luminaire together -/

section
variable {s : State}

/-- A conversion shows the mean of its charge, OVER and UNDER beside it, and LEVEL by the thresholds. -/
theorem pdConversion_shows (k : Fin 2) (charge len : Nat) (htclk : s.tclkOn = true) (hends : s.pdEnds k.val len) :
    ∃ (t : State) (d : Nat), exec (.pdConversion k charge) s = .next t ∧ t.rd (SNS_PD_DATA_DATA k.val) = d ∧
      d = (if pdTooMuch charge len then 1600000000 else if charge % len = 0 then charge / len else d) ∧
      (pdTooMuch charge len = false → charge / len ≤ d ∧ d ≤ charge / len + 1) ∧
      t.rd (SNS_PD_CFG_OVER k.val) = b2n (pdTooMuch charge len) ∧
      t.rd (SNS_PD_THR_UNDER k.val) = b2n (decide (charge < 1600 * len)) ∧
      (s.rd (SNS_PD_THR_LO k.val) < 2 * s.rd (SNS_PD_THR_HI k.val) + 1 → t.rd (SNS_PD_CFG_LEVEL k.val) =
        if 2 * s.rd (SNS_PD_THR_HI k.val) + 1 ≤ d / 65536 then 1
        else if d / 65536 ≤ s.rd (SNS_PD_THR_LO k.val) then 0 else s.rd (SNS_PD_CFG_LEVEL k.val)) := by
  obtain ⟨t, u, hexec, hdata, hover, hunder, hlevel⟩ := pdConversion_reads k charge htclk hends
  refine ⟨t, u.pdMean charge len, hexec, hdata, ?_, fun hin => ?_, hover, hunder, hlevel⟩
  · split
    next htoo => exact pdMean_tooMuch htoo
    next hin =>
      split
      next hrest => exact (pdMean_inRange (Bool.eq_false_iff.2 hin)).2.2 hrest
      next => rfl
  · obtain ⟨hfloor, hnext, _⟩ := pdMean_inRange (s := u) hin
    exact ⟨hfloor, hnext⟩

/-- The first sample sets the mean, shows no motion and begins the silence (R280, R281). -/
theorem pirSample_first (x : BitVec 16) (htclk : s.tclkOn = true) (hen : s.rdB SNS_PIR_CFG_EN = true) (hfirst : s.sns.pirM = none) :
    ∃ t : State, exec (.pirSample x) s = .next t ∧ t.sns.pirM = some (x.toInt * 65536) ∧ t.rd SNS_PIR_DATA_Y = 0 ∧
      t.sns.silent = 4 * 2 ^ s.rd SNS_PIR_CFG_HPF - 1 := by
  obtain ⟨u, hexec, hmean, hhpf⟩ := exec_pirSample x htclk hen
  rw [← hmean] at hfirst
  rw [← hhpf]
  refine ⟨_, hexec, ?_, rd_pirFilter_y _ hfirst, pirFilter_silent _ hfirst⟩
  rw [pirFilter_pirM, State.pirMean, hfirst]

/-- A later sample moves the mean by a quotient of its distance (R280). -/
theorem pirSample_later (x : BitVec 16) {m : Int} (htclk : s.tclkOn = true) (hen : s.rdB SNS_PIR_CFG_EN = true)
    (hm : s.sns.pirM = some m) : ∃ (t : State) (up : Nat), exec (.pirSample x) s = .next t ∧ up ≤ 1 ∧
      t.sns.pirM = some (m + (x.toInt * 65536 - m) / 2 ^ s.rd SNS_PIR_CFG_HPF + (up : Int)) := by
  obtain ⟨u, hexec, hmean, hhpf⟩ := exec_pirSample x htclk hen
  obtain ⟨up, hup, hquot, _⟩ := looseDiv_eq (x.toInt * 65536 - m) (2 ^ u.rd SNS_PIR_CFG_HPF) (u.freeBelow 2)
  have hpow : ((2 ^ u.rd SNS_PIR_CFG_HPF : Nat) : Int) = 2 ^ u.rd SNS_PIR_CFG_HPF := Int.natCast_pow 2 _
  refine ⟨_, up, hexec, hup, ?_⟩
  rw [← hmean] at hm
  rw [pirFilter_pirM, State.pirMean, hm, ← hhpf]
  dsimp only
  rw [hquot, hpow, Int.add_assoc]

/-- A period in FREE begins one period after the last, with the set and the DUTY of that TCLK cycle (R283, R284). -/
theorem pwmPeriodStart_free {n : Fin 4} {t0 : Nat} (htclk : s.tclkOn = true) (hlen : s.sns.pwms.length = 4)
    (hmode : (s.pwm n.val).mode = 1) (hstart : (s.pwm n.val).start = some t0)
    (hstays : (s.pwmAdopt n.val (s.pwm n.val)).mode = 1) (hdue : s.tclk ≤ t0 + (s.pwm n.val).span) :
    let q := s.pwmAdopt n.val (s.pwm n.val)
    let d := s.dutyAt n.val q (t0 + (s.pwm n.val).span)
    ∃ t : State, exec (.pwmPeriodStart n) s = .next t ∧ t.tclk = t0 + (s.pwm n.val).span ∧
      t.pwm n.val = { q with duty := d, start := some (t0 + (s.pwm n.val).span), pin := q.level (d != 0) } := by
  have hfour : n.val < (s.atPeriodStart n.val).sns.pwms.length := by
    rw [atPeriodStart_length, hlen]
    exact n.isLt
  have htime := atPeriodStart_tclk hmode hstart hdue
  refine ⟨_, exec_pwmPeriodStart_free htclk hmode hstart hstays, (pwmBegin_tclk _ _ _ _).trans htime, ?_⟩
  rw [pwmBegin_pwm _ _ hfour, dutySeen_eq, htime, Nat.max_self, State.atPeriodStart, dutyAt_tick]

/-- A period in ALIGNED begins at the Meridian time of its start (R285). -/
theorem pwmPeriodStart_aligned {n : Fin 4} (htclk : s.tclkOn = true) (hlen : s.sns.pwms.length = 4)
    (hmode : (s.pwm n.val).mode = 2) (hset : s.pwmAdopt n.val (s.pwm n.val) = s.pwm n.val) :
    ∃ t : State, exec (.pwmPeriodStart n) s = .next t ∧ (t.pwm n.val).start = some ((s.pwm n.val).alignedAt t.mer.now) := by
  have hfour : n.val < (s.atPeriodStart n.val).sns.pwms.length := by
    rw [atPeriodStart_length, hlen]
    exact n.isLt
  refine ⟨_, exec_pwmPeriodStart_aligned htclk hmode hset, ?_⟩
  rw [pwmBegin_pwm _ _ hfour, pwmBegin_mer]

/-- The inactive edge comes when DUTY's share of the period has passed, or at once when it is late (R283). -/
theorem pwmInactiveEdge_free {n : Fin 4} {t0 : Nat} (htclk : s.tclkOn = true) (hlen : s.sns.pwms.length = 4)
    (hmode : (s.pwm n.val).mode = 1) (hstart : (s.pwm n.val).start = some t0) (hsome : (s.pwm n.val).duty ≠ 0)
    (hfull : (s.pwm n.val).duty ≠ 0xFFFF) (hpin : (s.pwm n.val).pin = (s.pwm n.val).level true) :
    ∃ t : State, exec (.pwmInactiveEdge n) s = .next t ∧
      t.tclk = max s.tclk (t0 + (s.pwm n.val).duty * (s.pwm n.val).span / 65536) ∧
      t.pwm n.val = { s.pwm n.val with pin := (s.pwm n.val).level false } := by
  refine ⟨_, exec_pwmInactiveEdge htclk hmode hstart hsome hfull hpin, ?_, pwm_putPwm _ ?_⟩
  · refine (tick_tclk s _).trans ?_
    omega
  · rw [tick_sns, hlen]
    exact n.isLt

/-- An edge of an input shows in SNS_GPIO_IN at its pin alone, and not in SNS_GPIO_OUT (R288). -/
theorem gpioEdge_input (k : Fin 2) {rising : Bool} (htclk : s.tclkOn = true) (hpin : s.rd (Machine.gpioPin k.val) < 24)
    (hlevel : s.sns.levels.getD k.val false ≠ rising) (hinput : s.rd SNS_GPIO_DIR_PINS / 2 ^ s.rd (Machine.gpioPin k.val) % 2 = 0) :
    ∃ t : State, exec (.gpioEdge k rising) s = .next t ∧
      t.rd SNS_GPIO_IN_PINS / 2 ^ s.rd (Machine.gpioPin k.val) % 2 = b2n rising ∧
      t.rd SNS_GPIO_OUT_PINS = s.rd SNS_GPIO_OUT_PINS ∧ ∀ j, j ≠ s.rd (Machine.gpioPin k.val) →
        t.rd SNS_GPIO_IN_PINS / 2 ^ j % 2 = s.rd SNS_GPIO_IN_PINS / 2 ^ j % 2 := by
  obtain ⟨t, hexec, hreads⟩ := exec_gpioEdge_input k htclk hpin hlevel hinput
  refine ⟨t, hexec, ?_, ?_, fun j hj => ?_⟩
  · rw [hreads _ (by decide), gpioHold_bits s hpin, if_pos rfl]
  · rw [hreads _ (by decide), rd_gpioHold_apart _ _ _ (by decide)]
  · rw [hreads _ (by decide), gpioHold_bits s hpin, if_neg hj]

end

/-- Settles O53: the conversion by its mean, the sample by the filter, the period by its start, the edge by the bits of SNS_GPIO_IN. -/
theorem luminaire : Obligations.Luminaire := by
  intro s
  refine ⟨fun k charge len htclk hends => pdConversion_shows k charge len htclk hends, fun k charge len r htclk hended hshort => ?_,
    fun x htclk hen => ⟨pirSample_first x htclk hen, fun m hm => pirSample_later x htclk hen hm⟩,
    fun n t0 htclk hlen hmode hstart => ⟨pwmPeriodStart_free htclk hlen hmode hstart, pwmInactiveEdge_free htclk hlen hmode hstart⟩,
    fun n htclk hlen hmode hset => pwmPeriodStart_aligned htclk hlen hmode hset, fun n hmode => exec_pwmPeriodStart_off hmode,
    fun v => ⟨⟨_, rfl, rd_gpioSet s v⟩, _, rfl, rd_gpioClr s v⟩,
    fun k rising htclk hpin hlevel hinput => gpioEdge_input k htclk hpin hlevel hinput,
    fun k rising hlevel => exec_gpioEdge_same k hlevel⟩
  exact (exec_pdConversion_ended k charge htclk hended).trans (congrArg _ (if_pos hshort))

end Sys2Proof.Machine
end


section
namespace Sys2Proof.Machine

-- One declaration at a time: the check's memory limit holds few threads.
set_option Elab.async false

/-! ### Engines by their place (R297) -/

theorem eng_of_engs {s t : State} (h : t.engs = s.engs) (e : Nat) : t.eng e = s.eng e := by simp only [State.eng, h]

theorem eng_replaced {s t : State} {e : Nat} {g : Engine} (h : t.engs = setEng s.engs e g) : t.eng e = g := by
  simp only [State.eng, h, setEng, Vector.getElem_set_self]

theorem eng_replaced_other {s t : State} {e k : Nat} {g : Engine} (h : t.engs = setEng s.engs e g) (hk : min k 11 ≠ min e 11) :
    t.eng k = s.eng k := by
  simp only [State.eng, h, setEng]
  exact Vector.getElem_set_ne _ _ hk.symm

/-! ### Changes of state (R298, R437, R438) -/

theorem checkDoze_onlyPwr (s : State) : s.checkDoze = { s with pwr := s.checkDoze.pwr } := by
  unfold State.checkDoze
  split <;> rfl

/-- What an engine enters a state with, beside the state and its idle timer, is what it held. -/
theorem enter_keeps {α : Type} (p : Engine → α)
    (h : ∀ (g : Engine) (st : EngState) (n : Nat) (i : Bool), p { g with st := st, idleFrom := n, idle := i } = p g)
    (g : Engine) (st : EngState) (tclk engidle : Nat) : p (g.enter st tclk engidle) = p g := by
  unfold Engine.enter
  split
  · exact h g st g.idleFrom _
  · exact h g st _ _

@[simp] theorem enter_st (g : Engine) (st : EngState) (tclk engidle : Nat) : (g.enter st tclk engidle).st = st := by
  unfold Engine.enter
  split <;> rfl

section
variable (s : State) (e : Nat) (st : EngState)

theorem engTo_engs : (s.engTo e st).engs = setEng s.engs e ((s.eng e).enter st s.tclk (s.rd PWR_ENGIDLE_CYC)) := by
  rw [State.engTo, checkDoze_onlyPwr]

theorem engTo_regs : (s.engTo e st).regs = s.regs := by rw [State.engTo, checkDoze_onlyPwr]

theorem engTo_sram : (s.engTo e st).sram = s.sram := by rw [State.engTo, checkDoze_onlyPwr]

theorem engTo_engJobs : (s.engTo e st).engJobs = s.engJobs := by rw [State.engTo, checkDoze_onlyPwr]

theorem engTo_eng : (s.engTo e st).eng e = (s.eng e).enter st s.tclk (s.rd PWR_ENGIDLE_CYC) := eng_replaced (engTo_engs s e st)

theorem engTo_st : ((s.engTo e st).eng e).st = st := by rw [engTo_eng, enter_st]

/-- Of the engine that changes its state, nothing but the state and the idle timer differs. -/
theorem engTo_keeps {α : Type} (p : Engine → α)
    (h : ∀ (g : Engine) (st : EngState) (n : Nat) (i : Bool), p { g with st := st, idleFrom := n, idle := i } = p g) :
    p ((s.engTo e st).eng e) = p (s.eng e) := by
  rw [engTo_eng, enter_keeps p h]

end

/-! ### Results of commands (R301) -/

section
variable (s : State) (m target status : Nat)

@[simp] theorem cmdResult_engs : (s.cmdResult m target status).engs = s.engs := by
  unfold State.cmdResult
  split <;> simp

@[simp] theorem cmdResult_engJobs : (s.cmdResult m target status).engJobs = s.engJobs := by
  unfold State.cmdResult
  split <;> simp

@[simp] theorem cmdResult_sram : (s.cmdResult m target status).sram = s.sram := by
  unfold State.cmdResult
  split <;> simp

theorem cmdResult_rd (f : Field) (h : ¬ inEvf f.addr) :
    (s.cmdResult m target status).rd f = rdF (wrF (wrF s.regs (ENG_CMDRES_TARGET m) target) (ENG_CMDRES_STATUS m) status) f := by
  unfold State.cmdResult
  dsimp only
  split
  · rfl
  · exact State.rd_fire _ _ f h

variable {m target status}

theorem rd_cmdResult_status (h : status < 256) : (s.cmdResult m target status).rd (ENG_CMDRES_STATUS m) = status := by
  rw [cmdResult_rd _ _ _ _ _ (by simp only [inEvf]; omega), rdF_wrF _ _ _ rfl]
  exact Nat.mod_eq_of_lt h

theorem rd_cmdResult_other {f : Field} (h : f.addr < 0x40010040) (he : ¬ inEvf f.addr) :
    (s.cmdResult m target status).rd f = s.rd f := by
  have apart (g : Field) (hg : 0x40010040 ≤ g.addr) : g.apart f = true := decide_eq_true (.inl (by omega))
  rw [cmdResult_rd _ _ _ _ _ he, rdF_wrF_apart _ _ _ _ rfl (apart _ (Nat.le_add_right _ _)),
    rdF_wrF_apart _ _ _ _ rfl (apart _ (Nat.le_add_right _ _)), State.rd]

end

/-! ### The status of a command (R300, R301) -/

section
variable {s : State} {m : Master} {o : EngOp} {t desc : Nat} {arg : Bool}

/-- With no command outstanding, a permitted one on an engine of its own that is ready for it is accepted. -/
theorem engCmdStatus_ok (hm : s.e2OrExpert m = true) (hp : o.permits (s.code m) t = true) (hr : s.engReady o t arg = true)
    (hodd : s.isOdd t = false) (hjobs : s.engJobs = [])
    (hload : o = .load → badLoad (s.loadDesc desc).1 (s.loadDesc desc).2.1 (s.loadDesc desc).2.2 = false ∧ (s.loadDesc desc).2.2 ≠ 0) :
    s.engCmdStatus m o t desc arg = stOK := by
  have hbad : (o == .load && badLoad (s.loadDesc desc).1 (s.loadDesc desc).2.1 (s.loadDesc desc).2.2) = false := by
    by_cases ho : o = .load
    · rw [(hload ho).1, Bool.and_false]
    · rw [beq_eq_false_iff_ne.2 ho, Bool.false_and]
  have hempty : (o == .load && (s.loadDesc desc).2.2 == 0) = false := by
    by_cases ho : o = .load
    · rw [beq_eq_false_iff_ne.2 (hload ho).2, Bool.and_false]
    · rw [beq_eq_false_iff_ne.2 ho, Bool.false_and]
  simp [State.engCmdStatus, State.mayCommand, firstStatus, hm, hp, hr, hodd, hjobs, hbad, hempty]

/-- An engine in another state than the command asks for answers BAD_STATE, also where ARG or the descriptor is bad (R14, R301). -/
theorem engCmdStatus_notReady (hm : s.e2OrExpert m = true) (hp : o.permits (s.code m) t = true) (hr : s.engReady o t arg = false)
    (hodd : s.isOdd t = false) (hjobs : s.engJobs = []) (ho : o ≠ .load) : s.engCmdStatus m o t desc arg = stBadState := by
  have hload : (o == .load) = false := beq_eq_false_iff_ne.2 ho
  simp only [State.engCmdStatus, State.mayCommand, hm, hp, hr, hodd, hjobs, hload]
  rfl

theorem engCmd_accepted (h : s.engCmdStatus m o t desc arg = stOK) : s.engCmd m o t arg desc = s.engDo (s.code m) o t arg desc := if_pos h

theorem engCmd_refused {st : Nat} (h : s.engCmdStatus m o t desc arg = st) (hst : st ≠ stOK) :
    s.engCmd m o t arg desc = s.cmdResult (s.code m) t st := by
  rw [State.engCmd, h]
  exact if_neg hst

end

end Sys2Proof.Machine
end


section
namespace Sys2Proof.Machine

-- One declaration at a time: the check's memory limit holds few threads.
set_option Elab.async false

/-! ### What each command does (R298 to R302) -/

section
variable (s : State) (owner t desc : Nat) (arg : Bool)

theorem engRelease_st : ((s.engRelease t).eng t).st = .run := engTo_st _ _ _

theorem engRelease_g : ((s.engRelease t).eng t).g = .atRelease := by
  rw [State.engRelease, engTo_keeps _ _ _ (·.g) (fun _ _ _ _ => rfl), eng_replaced rfl]

theorem engRelease_regs : (s.engRelease t).regs = s.regs := engTo_regs _ _ _

/-- RELEASE starts the engine with the registers of R299 and answers OK. -/
theorem engDo_release : let u := s.engDo owner .release t arg desc
    (u.eng t).st = .run ∧ (u.eng t).g = .atRelease ∧ u.rd (ENG_CMDRES_STATUS owner) = stOK := by
  refine ⟨engRelease_st _ _, engRelease_g _ _, ?_⟩
  exact (congrArg (rdF · _) (engRelease_regs _ _)).trans (rd_cmdResult_status _ (by decide))

/-- HALT waits for the boundary. -/
theorem engDo_halt : let u := s.engDo owner .halt t arg desc
    (u.eng t).haltWant = true ∧ u.engJobs = s.engJobs ++ [(owner, .halt t)] ∧ u.rd (ENG_CMDRES_STATUS owner) = stPending := by
  refine ⟨?_, cmdResult_engJobs _ _ _ _, rd_cmdResult_status _ (by decide)⟩
  rw [State.engDo, eng_replaced (cmdResult_engs _ _ _ _)]

/-- RESUME returns to the state that HALT left; one that is no WAIT meets no pending bit. -/
theorem engDo_resume (hleft : (s.eng t).left = .run) : let u := s.engDo owner .resume t arg desc
    (u.eng t).st = .run ∧ (u.eng t).g = (s.eng t).g ∧ u.rd (ENG_CMDRES_STATUS owner) = stOK := by
  let r := s.cmdResult owner t stOK
  have hr : r.eng t = s.eng t := eng_of_engs (cmdResult_engs _ _ _ _) t
  have hst : ((r.engTo t (s.eng t).left).eng t).st = .run := by rw [engTo_st, hleft]
  have hg : ((r.engTo t (s.eng t).left).eng t).g = (s.eng t).g := by
    rw [engTo_keeps _ _ _ (·.g) (fun _ _ _ _ => rfl), hr]
  have hwake : wakeEngine (r.engTo t (s.eng t).left).regs t ((r.engTo t (s.eng t).left).eng t) = (r.engTo t (s.eng t).left).eng t := by
    simp [wakeEngine, hst]
  have heng : (s.engDo owner .resume t arg desc).eng t = (r.engTo t (s.eng t).left).eng t := (eng_replaced rfl).trans hwake
  refine ⟨by rw [heng, hst], by rw [heng, hg], ?_⟩
  exact (congrArg (rdF · _) (engTo_regs r t _)).trans (rd_cmdResult_status _ (by decide))

theorem endHalts_none (status : Nat) (hjobs : s.engJobs = []) : s.endHalts t status = s := by
  simp only [State.endHalts, State.haltOwners, hjobs, List.filter_nil, List.map_nil, List.foldl_nil]
  rw [← hjobs]

/-- RESET holds the engine, with its TCM as it was. -/
theorem engReset_spec (hjobs : s.engJobs = []) :
    ((s.engReset t).eng t).st = .reset ∧ ((s.engReset t).eng t).tcm = (s.eng t).tcm ∧
      ∀ f : Field, CLK_FLUSH_FLUSHES.apart f = true → (s.engReset t).rd f = s.rd f := by
  rw [State.engReset, endHalts_none]
  · refine ⟨engTo_st _ _ _, ?_, fun f hf => ?_⟩
    · rw [engTo_keeps _ _ _ (·.tcm) (fun _ _ _ _ => rfl), eng_replaced rfl]
    · rw [State.rd, engTo_regs]
      exact (rdF_incF_apart _ _ _ _ rfl hf).trans (rdF_incF_apart _ _ _ _ rfl hf)
  · rw [engTo_engJobs]
    exact hjobs

theorem engDo_reset (hjobs : s.engJobs = []) : let u := s.engDo owner .reset t arg desc
    (u.eng t).st = .reset ∧ (u.eng t).tcm = (s.eng t).tcm ∧ u.rd (ENG_CMDRES_STATUS owner) = stOK := by
  obtain ⟨hst, htcm, hrd⟩ := engReset_spec (s.cmdResult owner t stOK) t ((cmdResult_engJobs _ _ _ _).trans hjobs)
  refine ⟨hst, htcm.trans (congrArg Engine.tcm (eng_of_engs (cmdResult_engs _ _ _ _) t)), ?_⟩
  refine (hrd _ (decide_eq_true (.inl ?_))).trans (rd_cmdResult_status _ (by decide))
  show 0x4000200C ≠ 0x40010040 + 4 * owner
  omega

/-- LOAD is outstanding with what its descriptor names. -/
theorem engDo_load : let u := s.engDo owner .load t arg desc
    let d := s.loadDesc desc
    u.engJobs = s.engJobs ++ [(owner, .load t d.1 d.2.1 d.2.2)] ∧ u.rd (ENG_CMDRES_STATUS owner) = stPending :=
  ⟨cmdResult_engJobs _ _ _ _, rd_cmdResult_status _ (by decide)⟩

end

/-! ### Pairs (R307) -/

/-- The even engines of the pairs that PAIR may name (R300). -/
def pairable (t : Nat) : Prop := t = 4 ∨ t = 6 ∨ t = 8 ∨ t = 10

section
variable {s : State} {t : Nat}

theorem paired_iff (ht : pairable t) (u : State) : u.paired t = (u.rd ENG_LSCFG_PAIRED / 2 ^ (t / 2 - 1) % 2 == 1) := by
  obtain rfl | rfl | rfl | rfl := ht <;> rfl

/-- Adding a bit that is not set, and taking one away that is, below the fifth. -/
theorem bit_added {p k : Nat} (hk : k < 5) (h : p / 2 ^ k % 2 ≠ 1) : (p + 2 ^ k) % 32 / 2 ^ k % 2 = 1 := by
  interval_cases k <;> omega

theorem bit_removed {p k : Nat} (hk : k < 5) (hp : p < 32) (h : p / 2 ^ k % 2 = 1) : (p - 2 ^ k) % 32 / 2 ^ k % 2 ≠ 1 := by
  interval_cases k <;> omega

/-- The registers of one engine lie above those that all engines share. -/
theorem rd_regsReset_below {lo hi : Nat} (m : List (Nat × Word)) {f : Field} (h : f.addr < lo) : rdF (regsReset lo hi m) f = rdF m f := by
  rw [rdF, regGet_regsReset, if_neg (by omega), rdF]

/-- Two engines in RESET become a pair, whose odd engine is the shadow of the even one. -/
theorem setPair_locks (ht : pairable t) (hp : s.paired t = false) : (s.setPair t true).paired t = true ∧
    ((s.setPair t true).eng (t + 1)).st = .paired ∧ ∀ f : Field, f.addr < 0x40010200 → ENG_LSCFG_PAIRED.apart f = true →
      (s.setPair t true).rd f = s.rd f := by
  have hk : t / 2 - 1 < 5 := by unfold pairable at ht; omega
  have hbelow : ENG_LSCFG_PAIRED.addr < 0x40010200 + (t + 1) * 0x20 := Nat.lt_of_lt_of_le (by decide) (Nat.le_add_right _ _)
  have hoff : ¬ s.rd ENG_LSCFG_PAIRED / 2 ^ (t / 2 - 1) % 2 = 1 := fun h => by
    rw [paired_iff ht, h] at hp
    cases hp
  rw [State.setPair]
  simp only [if_true, hoff, if_false]
  refine ⟨?_, ?_, fun f hf hap => ?_⟩
  · rw [paired_iff ht, State.rd, rd_regsReset_below _ hbelow, rdF_wrF _ _ _ rfl, beq_iff_eq]
    exact bit_added hk hoff
  · rw [eng_replaced rfl]
  · rw [State.rd, rd_regsReset_below _ (by omega), rdF_wrF_apart _ _ _ _ rfl hap]
    rfl

/-- A pair in RESET becomes two engines in RESET, the odd one with its TCM as it was. -/
theorem setPair_separates (ht : pairable t) (hp : s.paired t = true) : (s.setPair t false).paired t = false ∧
    ((s.setPair t false).eng (t + 1)).st = .reset ∧ ((s.setPair t false).eng (t + 1)).tcm = (s.eng (t + 1)).tcm ∧
      ∀ f : Field, ENG_LSCFG_PAIRED.apart f = true → (s.setPair t false).rd f = s.rd f := by
  have hk : t / 2 - 1 < 5 := by unfold pairable at ht; omega
  have hon : s.rd ENG_LSCFG_PAIRED / 2 ^ (t / 2 - 1) % 2 = 1 := by
    rw [paired_iff ht] at hp
    exact beq_iff_eq.1 hp
  rw [State.setPair]
  simp only [Bool.false_eq_true, if_false, hon, if_true]
  refine ⟨?_, engTo_st _ _ _, engTo_keeps _ _ _ (·.tcm) (fun _ _ _ _ => rfl), fun f hap => ?_⟩
  · rw [paired_iff ht, State.rd, engTo_regs, State.wr_regs, rdF_wrF _ _ _ rfl, beq_eq_false_iff_ne]
    exact bit_removed hk (rdF_lt _ _) hon
  · rw [State.rd, engTo_regs, State.wr_regs, rdF_wrF_apart _ _ _ _ rfl hap, State.rd]

end

end Sys2Proof.Machine
end


section
namespace Sys2Proof.Machine

-- One declaration at a time: the check's memory limit holds few threads.
set_option Elab.async false

/-! ### The commands of R300 as they are written -/

theorem code_le (s : State) (m : Master) : s.code m ≤ 12 := by
  cases m with
  | eng e =>
    simp only [State.code, State.leader]
    split <;> omega
  | hif => exact Nat.le_refl _

/-- The results of the commands stand below the registers of the engines, in registers of their own. -/
theorem cmdres_below {owner : Nat} (h : owner ≤ 12) : (ENG_CMDRES_STATUS owner).addr < 0x40010200 := by
  show 0x40010040 + 4 * owner < 0x40010200
  omega

theorem lscfg_apart_cmdres (owner : Nat) : ENG_LSCFG_PAIRED.apart (ENG_CMDRES_STATUS owner) = true :=
  decide_eq_true (.inl (by show 0x4001000C ≠ 0x40010040 + 4 * owner; omega))

theorem cmdResult_paired (s : State) {t : Nat} (ht : pairable t) (owner target status : Nat) :
    (s.cmdResult owner target status).paired t = s.paired t := by
  rw [paired_iff ht, paired_iff ht, rd_cmdResult_other s (by decide) (by simp [inEvf])]

theorem pairable.permits {t : Nat} (ht : pairable t) (owner : Nat) : EngOp.pair.permits owner t = true := by
  obtain rfl | rfl | rfl | rfl := ht <;> rfl

theorem pairable.notOdd {t : Nat} (ht : pairable t) (s : State) : s.isOdd t = false := by
  obtain rfl | rfl | rfl | rfl := ht <;> exact Bool.and_false _

section
variable {s : State} {m : Master} (hm : s.e2OrExpert m = true) (hjobs : s.engJobs = []) (hbar : s.barred m 16 = false)
include hm hjobs hbar

section
variable {e : Fin 16} (hlow : 3 ≤ e.val) (hhigh : e.val ≤ 11) (hodd : s.isOdd e.val = false)
include hlow hhigh hodd

/-- A command on an engine of its own that is ready for it is carried out. -/
theorem writes_engCmd {o : EngOp} {arg : Bool} {desc : Nat} (ho : o ≠ .pair) (hr : s.engReady o e.val arg = true)
    (hload : o = .load → badLoad (s.loadDesc desc).1 (s.loadDesc desc).2.1 (s.loadDesc desc).2.2 = false ∧ (s.loadDesc desc).2.2 ≠ 0) :
    s.writes m 16 (s.engCmd m o e.val arg desc) = s.engDo (s.code m) o e.val arg desc := by
  have hpermits : o.permits (s.code m) e.val = true := by
    cases o <;> simp_all [EngOp.permits]
  rw [writes_unbarred hbar, engCmd_accepted (engCmdStatus_ok hm hpermits hr hodd hjobs hload)]

theorem exec_release (hst : (s.eng e.val).st = .reset) (hclear : s.clearing e.val = false) :
    exec (.release m e) s = .next (s.engDo (s.code m) .release e.val false 0) :=
  congrArg _ (writes_engCmd hm hjobs hbar hlow hhigh hodd (by decide) (by simp [State.engReady, hst, hclear]) (fun h => by cases h))

theorem exec_halt (hst : (s.eng e.val).st = .run ∨ (s.eng e.val).st = .wait ∨ (s.eng e.val).st = .restart) :
    exec (.halt m e) s = .next (s.engDo (s.code m) .halt e.val false 0) :=
  congrArg _ (writes_engCmd hm hjobs hbar hlow hhigh hodd (by decide)
    (by obtain hst | hst | hst := hst <;> simp [State.engReady, hst]) (fun h => by cases h))

theorem exec_resume (hst : (s.eng e.val).st = .halt) : exec (.resume m e) s = .next (s.engDo (s.code m) .resume e.val false 0) :=
  congrArg _ (writes_engCmd hm hjobs hbar hlow hhigh hodd (by decide) (by simp [State.engReady, hst]) (fun h => by cases h))

theorem exec_engineReset : exec (.engineReset m e) s = .next (s.engDo (s.code m) .reset e.val false 0) :=
  congrArg _ (writes_engCmd hm hjobs hbar hlow hhigh hodd (by decide) rfl (fun h => by cases h))

theorem exec_load {desc : BitVec 19} (hst : (s.eng e.val).st = .reset ∨ (s.eng e.val).st = .halt)
    (hgood : badLoad (s.loadDesc desc.toNat).1 (s.loadDesc desc.toNat).2.1 (s.loadDesc desc.toNat).2.2 = false)
    (hlen : (s.loadDesc desc.toNat).2.2 ≠ 0) :
    exec (.load m e desc) s = .next (s.engDo (s.code m) .load e.val false desc.toNat) :=
  congrArg _ (writes_engCmd hm hjobs hbar hlow hhigh hodd (by decide)
    (by obtain hst | hst := hst <;> simp [State.engReady, hst]) (fun _ => ⟨hgood, hlen⟩))

end

section
variable {e : Fin 16} (he : pairable e.val)
include he

/-- PAIR on engines that are not as ARG asks. -/
theorem exec_pair {lock : Bool} (hst : (s.eng e.val).st = .reset) (hnext : (s.eng (e.val + 1)).st = if lock then .reset else .paired) :
    exec (.pair m e lock) s = .next ((s.cmdResult (s.code m) e.val stOK).setPair e.val lock) := by
  have hready : s.engReady .pair e.val lock = true := by simp [State.engReady, hst, hnext]
  exact congrArg _ ((writes_unbarred hbar _).trans (engCmd_accepted (engCmdStatus_ok hm (he.permits _) hready (he.notOdd s)
    hjobs (fun h => by cases h))))

/-- PAIR on engines that are already as ARG asks (R301, R307). -/
theorem exec_pair_already {lock : Bool} (hnext : (s.eng (e.val + 1)).st = if lock then .paired else .reset) :
    exec (.pair m e lock) s = .next (s.cmdResult (s.code m) e.val stBadState) := by
  have hready : s.engReady .pair e.val lock = false := by cases lock <;> simp_all [State.engReady]
  exact congrArg _ ((writes_unbarred hbar _).trans (engCmd_refused (engCmdStatus_notReady hm (he.permits _) hready (he.notOdd s)
    hjobs (by decide)) (by decide)))

theorem pair_locks (hst : (s.eng e.val).st = .reset) (hnext : (s.eng (e.val + 1)).st = .reset) (hp : s.paired e.val = false) :
    ∃ t : State, exec (.pair m e true) s = .next t ∧ t.paired e.val = true ∧ (t.eng (e.val + 1)).st = .paired ∧
      t.rd (ENG_CMDRES_STATUS (s.code m)) = stOK := by
  obtain ⟨hpaired, hshadow, hrd⟩ := setPair_locks he ((cmdResult_paired s he (s.code m) e.val stOK).trans hp)
  refine ⟨_, exec_pair hm hjobs hbar he hst hnext, hpaired, hshadow, ?_⟩
  exact (hrd _ (cmdres_below (code_le s m)) (lscfg_apart_cmdres _)).trans (rd_cmdResult_status s (by decide))

theorem pair_separates (hst : (s.eng e.val).st = .reset) (hnext : (s.eng (e.val + 1)).st = .paired) (hp : s.paired e.val = true) :
    ∃ t : State, exec (.pair m e false) s = .next t ∧ t.paired e.val = false ∧ (t.eng (e.val + 1)).st = .reset ∧
      (t.eng (e.val + 1)).tcm = (s.eng (e.val + 1)).tcm ∧ t.rd (ENG_CMDRES_STATUS (s.code m)) = stOK := by
  obtain ⟨hpaired, hreset, htcm, hrd⟩ := setPair_separates he ((cmdResult_paired s he (s.code m) e.val stOK).trans hp)
  refine ⟨_, exec_pair hm hjobs hbar he hst hnext, hpaired, hreset, htcm.trans ?_, ?_⟩
  · exact congrArg Engine.tcm (eng_of_engs (cmdResult_engs _ _ _ _) _)
  · exact (hrd _ (lscfg_apart_cmdres _)).trans (rd_cmdResult_status s (by decide))

end

end

/-- Settles O18: each command is carried out on an engine that is ready for it, and PAIR on a pair that is already as asked is not. -/
theorem engineCommands : Obligations.EngineCommands := by
  refine ⟨fun m e s hm hlow hhigh hodd hjobs hbar => ⟨fun hst hclear => ?_, fun hst => ?_, fun hst hleft => ?_, ?_, fun desc hst hgood hlen => ?_⟩,
    fun m e s hm he hjobs hbar hst => ⟨fun hnext hp => pair_locks hm hjobs hbar he hst hnext hp,
      fun hnext hp => pair_separates hm hjobs hbar he hst hnext hp, fun lock hnext => ?_⟩⟩
  · exact ⟨_, exec_release hm hjobs hbar hlow hhigh hodd hst hclear, engDo_release s _ _ _ _⟩
  · obtain ⟨hwant, hjob, hres⟩ := engDo_halt s (s.code m) e.val 0 false
    exact ⟨_, exec_halt hm hjobs hbar hlow hhigh hodd hst, hwant, by rw [hjob, hjobs, List.nil_append], hres⟩
  · exact ⟨_, exec_resume hm hjobs hbar hlow hhigh hodd hst, engDo_resume s _ _ _ _ hleft⟩
  · exact ⟨_, exec_engineReset hm hjobs hbar hlow hhigh hodd, engDo_reset s _ _ _ _ hjobs⟩
  · obtain ⟨hjob, hres⟩ := engDo_load s (s.code m) e.val desc.toNat false
    exact ⟨_, exec_load hm hjobs hbar hlow hhigh hodd hst hgood hlen, by rw [hjob, hjobs, List.nil_append], hres⟩
  · exact ⟨_, exec_pair_already hm hjobs hbar he hnext, cmdResult_engs _ _ _ _, rd_cmdResult_status s (by decide)⟩

/-- Settles O20: the registers of `GRegs.atRelease`. -/
theorem releaseStartsTheRegisters : Obligations.ReleaseStartsTheRegisters := by
  intro m e s hm hbar hlow hodd hjobs hst hclear
  have hval : (Fin.ofNat 16 e.val).val = e.val := Nat.mod_eq_of_lt (by omega)
  rw [← hval] at hlow hodd hst hclear
  have hrel := exec_release hm hjobs hbar hlow (by omega) hodd hst hclear
  rw [hval] at hrel
  have hg : ((s.engDo (s.code m) .release e.val false 0).eng e.val).g = .atRelease := engRelease_g _ _
  refine ⟨_, hrel, ?_⟩
  simp only [State.g, hg]
  exact ⟨rfl, rfl, rfl, rfl, rfl, rfl, rfl⟩

end Sys2Proof.Machine
end


section
namespace Sys2Proof.Machine

-- One declaration at a time: the check's memory limit holds few threads.
set_option Elab.async false

/-! ### The ends of HALT and LOAD (R298, R301, R302, R329) -/

/-- The one HALT that is outstanding ends with its status. -/
theorem endHalts_one {s : State} {m e : Nat} (status : Nat) (hjobs : s.engJobs = [(m, .halt e)]) :
    s.endHalts e status = ({ s with engJobs := [] } : State).cmdResult m e status := by
  simp [State.endHalts, State.haltOwners, hjobs]

/-- An engine whose HALT takes place: RESUME finds the state that it leaves (R298). -/
def Engine.halting (g : Engine) : Engine := { g with haltWant := false, left := g.st }

section
variable {e : Fin 12} {m : Nat} {s : State} (hwant : (s.eng e.val).haltWant = true) (hload : (s.eng e.val).load = none)
  (haccess : (s.eng e.val).access = none) (hentering : (s.eng e.val).entering = none) (hheld : s.noneHeld e.val = true)
  (hst : (s.eng e.val).st = .run)
include hwant hload haccess hentering hheld hst

theorem exec_haltDone :
    exec (.haltDone e) s = .next (((s.setEng e.val (s.eng e.val).halting).engTo e.val .halt).endHalts e.val stOK) := by
  have hboundary : (s.eng e.val).atBoundary = true := by
    unfold Engine.atBoundary
    rw [hst, hload]
    rfl
  show execHaltDone e s = _
  rw [execHaltDone, if_pos ⟨hwant, hboundary, by rw [haccess]; rfl, by rw [hentering]; rfl, hheld⟩]
  rfl

theorem haltDone_ends (hjobs : s.engJobs = [(m, .halt e.val)]) :
    ∃ t : State, exec (.haltDone e) s = .next t ∧ (t.eng e.val).st = .halt ∧ (t.eng e.val).left = .run ∧ t.g e = s.g e ∧
      t.engJobs = [] ∧ t.rd (ENG_CMDRES_STATUS m) = stOK := by
  let u := s.setEng e.val (s.eng e.val).halting
  have hu : u.eng e.val = (s.eng e.val).halting := eng_setEng s e _
  have hdone := exec_haltDone hwant hload haccess hentering hheld hst
  rw [endHalts_one stOK ((engTo_engJobs u _ _).trans hjobs)] at hdone
  refine ⟨_, hdone, ?_⟩
  simp only [State.g, eng_of_engs (cmdResult_engs _ _ _ _)]
  refine ⟨engTo_st u _ _, ?_, ?_, cmdResult_engJobs _ _ _ _, rd_cmdResult_status _ (by decide)⟩
  · exact (engTo_keeps u _ _ (·.left) (fun _ _ _ _ => rfl)).trans ((congrArg (·.left) hu).trans hst)
  · exact (engTo_keeps u _ _ (·.g) (fun _ _ _ _ => rfl)).trans (congrArg (·.g) hu)

end

theorem exec_loadDone {m : Master} {e src dst len st : Nat} {s u : State} (htclk : s.tclkOn = true) (hclear : s.pwr.clearing = [])
    (hjobs : s.engJobs = [(s.code m, .load e src dst len)]) (hcopy : s.loadCopy e src dst (len / 4) = some (st, u)) :
    exec (.loadDone m) s =
      .next (({ u with engJobs := u.engJobs.filter (fun j => j.1 != s.code m) } : State).cmdResult (s.code m) e st) := by
  have hready : s.clearing e = false := by simp [State.clearing, hclear]
  show execLoadDone m s = _
  simp [execLoadDone, hjobs, htclk, hready, hcopy]

/-- Settles O19: each of the two ends takes the one command that is outstanding. -/
theorem engineCommandsEnd : Obligations.EngineCommandsEnd := by
  refine ⟨fun e m s _ hjobs hwant hload haccess hentering hheld hst => haltDone_ends hwant hload haccess hentering hheld hst hjobs,
    fun m e src dst len st s u htclk hclear hjobs hcopy hu hst => ?_⟩
  refine ⟨_, exec_loadDone htclk hclear hjobs hcopy, ?_, rd_cmdResult_status _ hst, cmdResult_sram _ _ _ _⟩
  rw [cmdResult_engJobs, hu, hjobs]
  simp

end Sys2Proof.Machine
end


section
namespace Sys2Proof.Machine

-- One declaration at a time: the check's memory limit holds few threads.
set_option Elab.async false

/-! ### The undo log back into the TCMs (R310) -/

section
variable (s : State) (e a : Nat) (bs : List Byte)

/-- Bytes in a TCM leave the rest of every engine. -/
theorem tcmPut_keeps {α : Type} (p : Engine → α)
    (h : ∀ (g : Engine) (tcm : List Host.Cell) (err : List (Nat × Bool)), p { g with tcm := tcm, tcmErr := err } = p g) (k : Nat) :
    p ((s.tcmPut e a bs).eng k) = p (s.eng k) := by
  by_cases hk : min k 11 = min e 11
  · have heng (t : State) : t.eng k = t.eng e := by simp only [State.eng, hk]
    rw [heng, heng, State.tcmPut, eng_replaced rfl]
    exact (h ((s.eng e).store e a bs) _ _).trans (h (s.eng e) _ (s.eng e).tcmErr)
  · rw [State.tcmPut, eng_replaced_other rfl hk]

theorem tcmPut_bytes : ((s.tcmPut e a bs).eng e).bytes e a bs.length = bs := by
  rw [State.tcmPut, eng_replaced rfl]
  exact readBytes_writeBytes bs _ a

theorem tcmPut_eng_other {k : Nat} (hk : min k 11 ≠ min e 11) : (s.tcmPut e a bs).eng k = s.eng k :=
  eng_replaced_other rfl hk

end

/-- What no change of the engines touches, the undo log leaves. -/
theorem undoAll_leaves {α : Type} (p : State → α) (h : ∀ (u : State) (v : Vector Engine 12), p { u with engs := v } = p u) (t : Nat) :
    ∀ (l : List (Nat × Word × Word)) (s : State), p (s.undoAll t l) = p s
  | [], _ => rfl
  | (w, old, _) :: r, s =>
    (undoAll_leaves p h t r _).trans ((h (s.tcmPut t (4 * w) (wordBytes old)) _).trans (h s _))

theorem undoAll_keeps {α : Type} (p : Engine → α)
    (h : ∀ (g : Engine) (tcm : List Host.Cell) (err : List (Nat × Bool)), p { g with tcm := tcm, tcmErr := err } = p g) (t k : Nat) :
    ∀ (l : List (Nat × Word × Word)) (s : State), p ((s.undoAll t l).eng k) = p (s.eng k)
  | [], _ => rfl
  | (w, old, old1) :: r, s => by
    rw [State.undoAll, undoAll_keeps p h t k r, tcmPut_keeps _ _ _ _ p h, tcmPut_keeps _ _ _ _ p h]

/-- Each engine of the pair has its own old word back. -/
theorem undoAll_one (s : State) {t : Nat} (ht : t < 11) (w : Nat) (old old1 : Word) :
    ((s.undoAll t [(w, old, old1)]).eng t).bytes t (4 * w) 4 = wordBytes old ∧
      ((s.undoAll t [(w, old, old1)]).eng (t + 1)).bytes (t + 1) (4 * w) 4 = wordBytes old1 := by
  refine ⟨?_, tcmPut_bytes (s.tcmPut t (4 * w) (wordBytes old)) (t + 1) (4 * w) (wordBytes old1)⟩
  rw [State.undoAll, State.undoAll, tcmPut_eng_other _ _ _ _ (by omega)]
  exact tcmPut_bytes s t (4 * w) (wordBytes old)

/-! ### A mismatch and the restore (R298, R310) -/

/-- The even engine at its checkpoint, with nothing left to undo. -/
def Engine.restored (g : Engine) : Engine := { g with g := g.ckpt, load := g.ckLoad, undo := [], mmVec := false }

section
variable {e : Fin 12} {s : State}

/-- The pair stops in RESTART: what LOCKSTEP_MISMATCH leaves before its fault is logged. -/
def State.mismatched (s : State) (e : Nat) : State :=
  let k := (pairOf e).getD 0
  let u := (s.inc (ENG_LSCNT_MISMATCH k)).fire 128
  (u.setEng e { u.eng e with mmSince := true, mmVec := s.rd ENG_LSCFG_MMVEC / 2 ^ k % 2 == 1 }).engTo e .restart

/-- The fault of a first mismatch: the pair tries again. -/
def State.mismatchFault (s : State) (e : Nat) : FaultIn :=
  { code := 6, region := s.regionOf (.eng (Fin.ofNat 12 e)), tier := 0, owner := e, addr := (s.eng e).g.p.toNat }

theorem exec_lockstepMismatch (hp : s.paired e.val = true) (heven : e.val % 2 = 0) (hst : (s.eng e.val).st = .run)
    (hfirst : (s.eng e.val).mmSince = false) (hgoes : (s.eng e.val).stalled = false) :
    exec (.lockstepMismatch e) s = .next ((s.mismatched e.val).fault (s.mismatchFault e.val)) := by
  show execLockstepMismatch e s = _
  rw [execLockstepMismatch, if_pos ⟨hp, heven, .inl hst, by rw [hgoes]; rfl⟩, State.mismatch]
  simp only [hfirst]
  rfl

theorem mismatched_st : ((s.mismatched e.val).eng e.val).st = .restart := engTo_st _ _ _

theorem mismatched_count (k : Nat) (hk : k = (pairOf e.val).getD 0) :
    (s.mismatched e.val).rd (ENG_LSCNT_MISMATCH k) = min (s.rd (ENG_LSCNT_MISMATCH k) + 1) 65535 := by
  have hout : ¬ inEvf (ENG_LSCNT_MISMATCH k).addr := by simp only [inEvf]; omega
  rw [State.mismatched, State.rd, engTo_regs, ← hk]
  exact (State.rd_fire _ _ _ hout).trans (State.rd_inc _ _ _ rfl)

theorem exec_restoreDone (hst : (s.eng e.val).st = .restart) (hvec : (s.eng e.val).mmVec = false) :
    exec (.restoreDone e) s = .next (((s.undoAll e.val (s.eng e.val).undo).setEng e.val
      ((s.undoAll e.val (s.eng e.val).undo).eng e.val).restored).engTo e.val .run) := by
  have hnone : ((s.undoAll e.val (s.eng e.val).undo).eng e.val).mmVec = false :=
    (undoAll_keeps (·.mmVec) (fun _ _ _ => rfl) _ _ _ _).trans hvec
  show execRestoreDone e s = _
  simp only [execRestoreDone, hst, hnone]
  rfl

end

/-- Settles O17: the mismatch stops the pair, and the end of the restore finds the checkpoint and the TCMs of the undo log. -/
theorem lockstepRestart : Obligations.LockstepRestart := by
  refine ⟨fun e s hp heven hst hfirst hgoes => ?_, fun e s hst hvec => ?_⟩
  · exact ⟨_, _, exec_lockstepMismatch hp heven hst hfirst hgoes, rfl, rfl, mismatched_st, mismatched_count _ rfl⟩
  · let u := s.undoAll e.val (s.eng e.val).undo
    have kept {α : Type} (p : Engine → α)
        (h : ∀ (g : Engine) (tcm : List Host.Cell) (err : List (Nat × Bool)), p { g with tcm := tcm, tcmErr := err } = p g) :
        p (u.eng e.val) = p (s.eng e.val) := undoAll_keeps p h _ _ _ _
    have entered {α : Type} (p : Engine → α)
        (h : ∀ (g : Engine) (st : EngState) (n : Nat) (i : Bool), p { g with st := st, idleFrom := n, idle := i } = p g) :
        p (((u.setEng e.val (u.eng e.val).restored).engTo e.val .run).eng e.val) = p (u.eng e.val).restored := by
      rw [engTo_keeps _ _ _ p h, eng_setEng]
    have hother (he : e.val < 11) : ((u.setEng e.val (u.eng e.val).restored).engTo e.val .run).eng (e.val + 1) = u.eng (e.val + 1) :=
      (eng_replaced_other (engTo_engs _ _ _) (by omega)).trans (eng_replaced_other rfl (by omega))
    have hsram : u.sram = s.sram := undoAll_leaves (·.sram) (fun _ _ => rfl) _ _ _
    have hregs : u.regs = s.regs := undoAll_leaves (·.regs) (fun _ _ => rfl) _ _ _
    refine ⟨_, exec_restoreDone hst hvec, ?_, ?_, ?_, engTo_st _ _ _, ?_, ?_, ?_, fun w old old1 hundo he => ?_⟩
    · exact (entered (·.g) (fun _ _ _ _ => rfl)).trans (kept (·.ckpt) (fun _ _ _ => rfl))
    · exact (entered (·.load) (fun _ _ _ _ => rfl)).trans (kept (·.ckLoad) (fun _ _ _ => rfl))
    · exact entered (·.undo) (fun _ _ _ _ => rfl)
    · exact (engTo_sram _ _ _).trans hsram
    · exact (engTo_regs _ _ _).trans hregs
    · exact entered (·.tcm) (fun _ _ _ _ => rfl)
    · obtain ⟨hown, hnext⟩ := undoAll_one s he w old old1
      rw [← hundo] at hown hnext
      exact ⟨(entered (·.bytes e.val (4 * w) 4) (fun _ _ _ _ => rfl)).trans hown,
        (congrArg (·.bytes (e.val + 1) (4 * w) 4) (hother he)).trans hnext⟩

end Sys2Proof.Machine
end


section
namespace Sys2Proof.Machine

-- One declaration at a time: the check's memory limit holds few threads.
set_option Elab.async false

/-! ### Checkpoints (R309) -/

/-- What no change of the engines touches, a checkpoint leaves. -/
theorem checkpoint_leaves {α : Type} (p : State → α) (h : ∀ (u : State) (v : Vector Engine 12), p { u with engs := v } = p u) (s : State)
    (t : Nat) : p (s.checkpoint t) = p s := by
  unfold State.checkpoint
  dsimp only
  split
  · exact h _ _
  · rfl

/-- A checkpoint leaves the engine as it is. -/
theorem checkpoint_keeps {α : Type} (p : Engine → α) (h : ∀ (g : Engine) (c : GRegs) (l : Option PendLoad) (u : List (Nat × Word × Word)) (m : Bool),
    p { g with ckpt := c, ckLoad := l, undo := u, mmSince := m } = p g) (s : State) (t : Nat) : p ((s.checkpoint t).eng t) = p (s.eng t) := by
  unfold State.checkpoint
  dsimp only
  split
  · rw [eng_replaced rfl]
    exact h _ _ _ _ _
  · rfl

/-! ### Vector entries (R303, R304) -/

/-- The registers once P and F are pushed and the vector is entered (R304). -/
def GRegs.vectored (g : GRegs) (vec : Word) : GRegs := { g with s := g.s - 8, p := vec, f := setFlag (setFlag g.f fI true) fT false }

/-- ENG_CAUSE, ENG_FADDR and ENG_TRAPOP of an engine that has entered by the cause `c` of priority `pri` (R304, R312). -/
theorem rdF_causeRegs (m : List (Nat × Word)) (t : Nat) {pri : Nat} {c : VecCause} (hpri : pri < 16) (hcode : c.code < 16) :
    rdF (causeRegs m t pri c) (ENG_CAUSE_VEC t) = pri ∧ rdF (causeRegs m t pri c) (ENG_CAUSE_CODE t) = c.code ∧
      rdF (causeRegs m t pri c) (ENG_FADDR_ADDR t) = c.faddr.toNat ∧
      ∀ w, c.op = some w → rdF (causeRegs m t pri c) (ENG_TRAPOP_WORD t) = w.toNat := by
  have hfaddr : c.faddr.toNat % 4294967296 = c.faddr.toNat := Nat.mod_eq_of_lt c.faddr.isLt
  have hword (w : BitVec 16) : w.toNat % 65536 = w.toNat := Nat.mod_eq_of_lt w.isLt
  cases hop : c.op with
  | none => simp [causeRegs, hop, rdF_wrF, rdF_wrF_apart, Field.fits, Field.apart, Nat.mod_eq_of_lt, hpri, hcode, hfaddr]
  | some w =>
    simp [causeRegs, hop, rdF_wrF, rdF_wrF_apart, Field.fits, Field.apart, Nat.mod_eq_of_lt, hpri, hcode, hfaddr, hword]

section
variable {s x y : State} {e : Fin 12} {g : GRegs} {pri : Nat} {vec : Word} {c : Option VecCause}

/-- Both pushes of an entry succeed. -/
theorem enterVector_pushed (hg : s.g e = g) (hp : s.busWrite (.eng e) (g.s - 4).toNat 4 g.p = (.ok 0, x)) (hx : x.g e = g)
    (hf : x.busWrite (.eng e) (g.s - 8).toNat 4 g.f = (.ok 0, y)) :
    s.enterVector e.val pri vec c = y.entered e.val { pri := pri, vec := vec, cause := c, pushed := false } := by
  have hgs : (s.eng e.val).g = g := hg
  have hgx : (x.eng e.val).g = g := hx
  simp only [State.enterVector, State.enterOn, Bool.false_eq_true, if_false, fin12_ofNat, hgs, hp, State.pushF, hgx, hf]

theorem entered_g (hy : y.g e = g) : (y.entered e.val ⟨pri, vec, c, false⟩).g e = g.vectored vec := by
  rw [State.g, State.entered, checkpoint_keeps (·.g) (fun _ _ _ _ _ => rfl), eng_replaced rfl, ← hy]
  rfl

theorem entered_load : (y.entered e.val ⟨pri, vec, c, false⟩).load e = y.load e := by
  rw [State.load, State.entered, checkpoint_keeps (·.load) (fun _ _ _ _ _ => rfl), eng_replaced rfl]

theorem entered_tcm : ((y.entered e.val ⟨pri, vec, c, false⟩).eng e.val).tcm = (y.eng e.val).tcm := by
  rw [State.entered, checkpoint_keeps (·.tcm) (fun _ _ _ _ _ => rfl), eng_replaced rfl]

theorem entered_sram : (y.entered e.val ⟨pri, vec, c, false⟩).sram = y.sram := checkpoint_leaves (·.sram) (fun _ _ => rfl) _ _

theorem entered_flt : (y.entered e.val ⟨pri, vec, c, false⟩).flt = y.flt := checkpoint_leaves (·.flt) (fun _ _ => rfl) _ _

/-- The entry by an event or an interrupt writes no register. -/
theorem entered_regs_none : (y.entered e.val ⟨pri, vec, none, false⟩).regs = y.regs := checkpoint_leaves (·.regs) (fun _ _ => rfl) _ _

/-- The entry by a cause writes the registers that tell of it. -/
theorem entered_regs_some (c : VecCause) : (y.entered e.val ⟨pri, vec, some c, false⟩).regs = causeRegs y.regs e.val pri c :=
  checkpoint_leaves (·.regs) (fun _ _ => rfl) _ _

/-- What an entry by the cause `c` leaves of the state `y` in which both words have been pushed. -/
theorem entered_cause {c : VecCause} (hy : y.g e = g) (hpri : pri < 16) (hcode : c.code < 16) :
    let t := y.entered e.val ⟨pri, vec, some c, false⟩
    t.g e = g.vectored vec ∧ t.load e = y.load e ∧ t.sram = y.sram ∧ t.flt = y.flt ∧ t.rd (ENG_CAUSE_VEC e.val) = pri ∧
      t.rd (ENG_CAUSE_CODE e.val) = c.code ∧ t.rd (ENG_FADDR_ADDR e.val) = c.faddr.toNat ∧
      ∀ w, c.op = some w → t.rd (ENG_TRAPOP_WORD e.val) = w.toNat := by
  simp only [State.rd, entered_regs_some]
  exact ⟨entered_g hy, entered_load, entered_sram, entered_flt, rdF_causeRegs _ _ hpri hcode⟩

end

/-! ### WAIT (R298, R303, R328) -/

/-- An engine with the registers `r`, no load in its delay and no access held. -/
def Engine.retired (g : Engine) (r : GRegs) : Engine := { g with g := r, load := none, access := none }

/-- An engine that WAIT brings to its end goes on where a pending bit stands whose mask bit is set, and else stops. -/
theorem retire_wait {u : State} {e : Fin 12} (l : Option PendLoad) (g : GRegs) (hst : (u.eng e.val).st = .run) :
    let t := u.retire e.val l { g := g, wait := true }
    t.g e = withLoad g l ∧ t.load e = none ∧
      (t.eng e.val).st = (if u.pendEvents e.val = 0 ∧ u.pendInterrupts e.val = 0 then .wait else .run) ∧ t.sram = u.sram ∧ t.regs = u.regs := by
  let v := u.setEng e.val ((u.eng e.val).retired (withLoad g l))
  have hretire : u.retire e.val l { g := g, wait := true } =
      if u.pendEvents e.val = 0 ∧ u.pendInterrupts e.val = 0 then v.engTo e.val .wait else v := by
    refine (if_neg (not_not.2 hst)).trans ?_
    simp only [Bool.false_eq_true, if_false, true_and]
    rfl
  have hv : v.eng e.val = (u.eng e.val).retired (withLoad g l) := eng_setEng u e _
  rw [hretire]
  split
  · refine ⟨?_, ?_, engTo_st _ _ _, engTo_sram _ _ _, engTo_regs _ _ _⟩
    · exact (engTo_keeps _ _ _ (·.g) (fun _ _ _ _ => rfl)).trans (congrArg (·.g) hv)
    · exact (engTo_keeps _ _ _ (·.load) (fun _ _ _ _ => rfl)).trans (congrArg (·.load) hv)
  · exact ⟨congrArg (·.g) hv, congrArg (·.load) hv, (congrArg (·.st) hv).trans hst, rfl, rfl⟩

theorem exec_wait {s u : State} {e : Fin 12} (h : s.Fetches e 2 u) :
    exec (.wait e) s = .next (u.retire e.val (u.load e) { g := { s.g e with p := (s.g e).p + 2 }, wait := true }) :=
  congrArg _ (instr_spec h rfl h.2.2.2.1)

/-! ### VECTOR_ENTRY (R303, R304) -/

theorem exec_vectorEntry {s : State} {e : Fin 12} (htclk : s.tclkOn = true) (hst : (s.eng e.val).st = .run) (hload : (s.eng e.val).load = none)
    (hhalt : (s.eng e.val).haltWant = false) (haccess : (s.eng e.val).access = none) (hentering : (s.eng e.val).entering = none) :
    exec (.vectorEntry e) s = .next (s.takeVector e.val) := by
  show execVectorEntry e s = _
  simp [execVectorEntry, htclk, hst, hload, hhalt, haccess, hentering]

/-- With no flushed write, an event comes before an interrupt (R303). -/
theorem takeVector_due {s : State} {e : Fin 12} (hflushed : (s.eng e.val).flushed = []) (hI : getFlag (s.g e).f fI = false)
    (hdue : s.pendEvents e.val ≠ 0 ∨ s.pendInterrupts e.val ≠ 0) :
    s.takeVector e.val = s.enterVector e.val (if s.pendEvents e.val ≠ 0 then 5 else 6) (if s.pendEvents e.val ≠ 0 then 0x18 else 0x10) none := by
  have hI : getFlag (s.eng e.val).g.f fI = false := hI
  simp only [State.takeVector, hflushed, hI, Bool.false_eq_true, if_false]
  by_cases hevent : s.pendEvents e.val ≠ 0
  · simp only [if_pos hevent]
  · simp only [if_neg hevent, if_pos (hdue.resolve_left hevent)]

/-- Settles O15: WAIT retires with its slot's load, and the entry pushes P and F before the vector. -/
theorem waitsAndVectors : Obligations.WaitsAndVectors := by
  refine ⟨fun e s u h => ⟨_, exec_wait h, retire_wait _ _ h.2.2.1⟩,
    fun e s u v htclk hst hload hhalt haccess hentering hflushed hI hdue hp hu hf hv => ?_⟩
  have hexec := exec_vectorEntry htclk hst hload hhalt haccess hentering
  rw [takeVector_due hflushed hI hdue, enterVector_pushed rfl hp hu hf] at hexec
  exact ⟨_, hexec, entered_sram, entered_tcm, entered_regs_none, entered_g hv⟩

end Sys2Proof.Machine
end


section
namespace Sys2Proof.Machine

-- One declaration at a time: the check's memory limit holds few threads.
set_option Elab.async false

/-! ### The registers that a trap or fault pushes (R329) -/

theorem settleLoad_g (s : State) (e : Fin 12) : (s.settleLoad e.val).g e = withLoad (s.g e) (s.load e) := by
  rw [State.g, State.settleLoad, eng_setEng]

/-! ### The reserved-opcode trap (R334) -/

theorem exec_reservedOpcodeTrap {e : Fin 12} {w : BitVec 16} {s u : State} (hw : reservedWord w = true) (hmay : s.mayExecute e.val = true)
    (hfail : s.failedAt e.val = none) (hfetch : s.fetchWords (.eng e) (s.g e).p 1 = .ok () u) :
    exec (.reservedOpcodeTrap e w) s =
      .next ((u.settleLoad e.val).enterVector e.val 4 0x20 (some { code := 8, faddr := (s.g e).p, op := some w })) := by
  have hfetch : s.fetchWords (.eng e) (s.eng e.val).g.p 1 = .ok () u := hfetch
  show execReservedOpcodeTrap e w s = _
  rw [execReservedOpcodeTrap, if_pos ⟨hw, hmay⟩]
  simp only [State.reservedTrap, fin12_ofNat, hfail, hfetch]

theorem reservedOpcodeTrap_enters {e : Fin 12} {w : BitVec 16} {s u x y : State} {r : GRegs} (hw : reservedWord w = true)
    (hmay : s.mayExecute e.val = true) (hfail : s.failedAt e.val = none) (hfetch : s.fetchWords (.eng e) (s.g e).p 1 = .ok () u)
    (hr : (u.settleLoad e.val).g e = r) (hp : (u.settleLoad e.val).busWrite (.eng e) (r.s - 4).toNat 4 r.p = (.ok 0, x)) (hx : x.g e = r)
    (hf : x.busWrite (.eng e) (r.s - 8).toNat 4 r.f = (.ok 0, y)) (hy : y.g e = r) :
    ∃ t : State, exec (.reservedOpcodeTrap e w) s = .next t ∧ t.g e = r.vectored 0x20 ∧ t.load e = y.load e ∧
      t.rd (ENG_CAUSE_VEC e.val) = 4 ∧ t.rd (ENG_CAUSE_CODE e.val) = 8 ∧ t.rd (ENG_FADDR_ADDR e.val) = (s.g e).p.toNat ∧
      t.rd (ENG_TRAPOP_WORD e.val) = w.toNat ∧ t.sram = y.sram := by
  have hexec := exec_reservedOpcodeTrap hw hmay hfail hfetch
  rw [enterVector_pushed hr hp hx hf] at hexec
  obtain ⟨hg, hload, hsram, -, hvec, hcode, hfaddr, hop⟩ :=
    entered_cause (vec := 0x20) (c := { code := 8, faddr := (s.g e).p, op := some w }) hy (show 4 < 16 by decide) (show 8 < 16 by decide)
  exact ⟨_, hexec, hg, hload, hvec, hcode, hfaddr, hop w rfl, hsram⟩

/-! ### An access that fails (R303, R319) -/

theorem code_lt (err : BusErr) : err.code < 16 := by cases err <;> decide

theorem exec_ld_err {e : Fin 12} {r : GReg} {o : Opnd} {s u w : State} {err : BusErr} {a : Word} (hop : assignedM 0x00 r o = true)
    (h : s.Fetches e (2 + extBytes o.ext) u)
    (herr : u.operand (.eng e) (s.g e) o ((s.g e).p + BitVec.ofNat 32 (2 + extBytes o.ext)) false = .err err a w) :
    exec (.ld e r o) s = .next (w.faultVector e.val err a) := by
  have hwork : workLd r o u (.eng e) (s.g e) ((s.g e).p + BitVec.ofNat 32 (2 + extBytes o.ext)) = .err err a w := by
    rw [workLd, herr]
    rfl
  exact congrArg _ ((if_pos hop).trans (instr_err h hwork))

/-- The fault is logged, and the engine that it leaves running enters its vector. -/
theorem faultVector_running {w : State} {e : Fin 12} {err : BusErr} {a : Word} (hst : ((w.busFault (.eng e) a.toNat err).eng e.val).st = .run) :
    w.faultVector e.val err a =
      ((w.busFault (.eng e) a.toNat err).settleLoad e.val).enterVector e.val 2 0x08 (some { code := err.code, faddr := a }) := by
  rw [State.faultVector, fin12_ofNat]
  exact if_pos hst

theorem faultVector_enters {w x y : State} {e : Fin 12} {err : BusErr} {a : Word} {q : GRegs}
    (hst : ((w.busFault (.eng e) a.toNat err).eng e.val).st = .run) (hq : ((w.busFault (.eng e) a.toNat err).settleLoad e.val).g e = q)
    (hp : ((w.busFault (.eng e) a.toNat err).settleLoad e.val).busWrite (.eng e) (q.s - 4).toNat 4 q.p = (.ok 0, x)) (hx : x.g e = q)
    (hf : x.busWrite (.eng e) (q.s - 8).toNat 4 q.f = (.ok 0, y)) (hy : y.g e = q) :
    let t := w.faultVector e.val err a
    t.flt = y.flt ∧ t.sram = y.sram ∧ t.g e = q.vectored 0x08 ∧ t.load e = y.load e ∧ t.rd (ENG_CAUSE_VEC e.val) = 2 ∧
      t.rd (ENG_CAUSE_CODE e.val) = err.code ∧ t.rd (ENG_FADDR_ADDR e.val) = a.toNat := by
  rw [faultVector_running hst, enterVector_pushed hq hp hx hf]
  obtain ⟨hg, hload, hsram, hflt, hvec, hcode, hfaddr, -⟩ :=
    entered_cause (vec := 0x08) (c := { code := err.code, faddr := a }) hy (show 2 < 16 by decide) (code_lt err)
  exact ⟨hflt, hsram, hg, hload, hvec, hcode, hfaddr⟩

/-! ### A flushed register write (R305, R461) -/

/-- The fault of a flushed write of `e` at `a`. -/
def State.flushFault (s : State) (e : Fin 12) (a : Nat) : FaultIn :=
  { code := 5, region := s.regionOf (.eng e), tier := 0, owner := s.leader e.val, addr := a, conseq := s.byRestart a }

theorem noteFlush_first {s : State} {e : Fin 12} {a : Word} (hlead : s.leader e.val = e.val) (hflushed : (s.eng e.val).flushed = []) :
    s.noteFlush (.eng e) a.toNat =
      ((s.setEng e.val { s.eng e.val with flushed := [a] }).inc CLK_FLUSH_FLUSHES).fault (s.flushFault e a.toNat) := by
  simp only [State.noteFlush, State.flushFault, hlead, hflushed, BitVec.ofNat_toNat, BitVec.setWidth_eq, List.nil_append]

theorem exec_flushedFault {s : State} {e : Fin 12} {a : Word} (htclk : s.tclkOn = true) (hst : (s.eng e.val).st = .run)
    (hblock : blockWord a = true) : exec (.flushedFault e a) s = .next (s.flushWrite e.val a) := by
  have hlive : s.engLive e.val = true := by simp [State.engLive, hst]
  obtain ⟨hlow, hhigh, hword⟩ := of_decide_eq_true hblock
  show execFlushedFault e a s = _
  rw [execFlushedFault, if_pos ⟨htclk, hlive, hlow, hhigh, hword⟩]

/-- An engine that the fault leaves at a boundary enters the vector of its flushed write at once. -/
theorem flushWrite_atBoundary {s b : State} {e : Fin 12} {a : Word} (hb : s.noteFlush (.eng e) a.toNat = b)
    (hst : (b.eng e.val).st = .run) (hload : (b.eng e.val).load = none)
    (hhalt : (b.eng e.val).haltWant = false) (haccess : (b.eng e.val).access = none) (hentering : (b.eng e.val).entering = none)
    (hflushed : (b.eng e.val).flushed = [a]) :
    s.flushWrite e.val a = b.enterVector e.val 2 0x08 (some { code := 5, faddr := a }) := by
  rw [State.flushWrite, fin12_ofNat, hb]
  simp [hst, hload, hhalt, haccess, hentering, State.takeVector, hflushed]

/-- Settles O16: each cause enters its vector with the registers before it, once its fault, if it has one, is logged. -/
theorem trapsAndFaults : Obligations.TrapsAndFaults := by
  refine ⟨fun e w s u x y hw hmay hfail hfetch hug => ?_, fun e r o s u w x y err a hop hfetch _ herr => ?_,
    fun e a s x y htclk hst hlead hflushed hblock => ⟨⟨_, noteFlush_first hlead hflushed, rfl, rfl, rfl⟩, ?_⟩⟩
  · intro r hp hx hf hy hload
    have hr : (u.settleLoad e.val).g e = r := (settleLoad_g u e).trans (congrArg (withLoad · _) hug)
    obtain ⟨t, hexec, hg, hl, hreads⟩ := reservedOpcodeTrap_enters hw hmay hfail hfetch hr hp hx hf hy
    exact ⟨t, hexec, hg, hl.trans hload, hreads⟩
  · intro b hst hg hl q hp hx hf hy hload
    have hq : (b.settleLoad e.val).g e = q := by rw [settleLoad_g, hg, hl]
    obtain ⟨hflt, hsram, hgt, hlt, hreads⟩ := faultVector_enters hst hq hp hx hf hy
    exact ⟨_, exec_ld_err hop hfetch herr, hflt, hsram, hgt, hlt.trans hload, hreads⟩
  · intro hrun hload hhalt haccess hentering hone hg hp hx hf hy
    have hexec := exec_flushedFault htclk hst hblock
    rw [flushWrite_atBoundary rfl hrun hload hhalt haccess hentering hone, enterVector_pushed hg hp hx hf] at hexec
    obtain ⟨hgt, -, hsram, hflt, -, hcode, hfaddr, -⟩ :=
      entered_cause (vec := 0x08) (c := { code := 5, faddr := a }) hy (show 2 < 16 by decide) (show 5 < 16 by decide)
    exact ⟨_, hexec, hflt, hsram, hgt, hcode, hfaddr⟩

end Sys2Proof.Machine
end


section
namespace Sys2Proof.Machine

-- One declaration at a time: the check's memory limit holds few threads.
set_option Elab.async false

/-! ### Engine inputs (R306) -/

section
variable (s : State)

/-- The bits of an input are set beside those that stand. -/
theorem rd_setPend (e : Nat) {pend ovf : Field} {bits : Nat} (hpend : pend.fits = true) (hovf : ovf.fits = true)
    (hap : ovf.apart pend = true) (hbits : bits < 2 ^ pend.width) : (s.setPend e pend ovf bits).rd pend = s.rd pend ||| bits := by
  have hor : s.rd pend ||| bits < 2 ^ pend.width := Nat.or_lt_two_pow (rdF_lt _ _) hbits
  refine (rdF_incF_apart _ _ _ _ hovf hap).trans ((rdF_wrF _ _ _ hpend).trans (Nat.mod_eq_of_lt hor))

/-- A bit that stands already is counted. -/
theorem rd_setPend_ovf (e : Nat) {pend ovf : Field} (bits : Nat) (hpend : pend.fits = true) (hovf : ovf.fits = true)
    (hap : pend.apart ovf = true) :
    (s.setPend e pend ovf bits).rd ovf = min (s.rd ovf + bitCount (s.rd pend &&& bits)) (2 ^ ovf.width - 1) := by
  refine (rdF_incF _ _ _ hovf).trans ?_
  rw [rdF_wrF_apart _ _ _ _ hpend hap]
  rfl

/-- Other fields stay. -/
theorem rd_setPend_other (e : Nat) {pend ovf f : Field} (bits : Nat) (hpend : pend.fits = true) (hovf : ovf.fits = true)
    (hp : pend.apart f = true) (ho : ovf.apart f = true) : (s.setPend e pend ovf bits).rd f = s.rd f :=
  (rdF_incF_apart _ _ _ _ hovf ho).trans (rdF_wrF_apart _ _ _ _ hpend hp)

/-- The counters of R306 stand in a register of their own. -/
theorem cnt_apart_pend (t lsb width lsb' width' : Nat) :
    (⟨0x40010214 + 32 * t, lsb, width⟩ : Field).apart ⟨0x4001020C + 32 * t, lsb', width'⟩ = true :=
  decide_eq_true (.inl (by dsimp only; omega))

theorem pend_apart_cnt (t lsb width lsb' width' : Nat) :
    (⟨0x4001020C + 32 * t, lsb, width⟩ : Field).apart ⟨0x40010214 + 32 * t, lsb', width'⟩ = true :=
  decide_eq_true (.inl (by dsimp only; omega))

/-- A doorbell sets the bits of its byte (R306). -/
theorem rd_doorbell (e bits : Nat) :
    (s.doorbell e bits).rd (ENG_PEND_IPEND (s.leader e)) = s.rd (ENG_PEND_IPEND (s.leader e)) ||| bits % 256 := by
  unfold State.doorbell
  dsimp only
  split
  next h => rw [h, Nat.or_zero]
  next => exact rd_setPend s _ rfl rfl (cnt_apart_pend ..) (Nat.mod_lt _ (by decide))

theorem engDbell_rings (e : Fin 12) {bits : Byte} (hbits : bits ≠ 0) :
    ∃ t : State, exec (.engDbell e bits) s = .next t ∧
      t.rd (ENG_PEND_IPEND (s.leader e.val)) = s.rd (ENG_PEND_IPEND (s.leader e.val)) ||| bits.toNat ∧
      t.rd (ENG_PEND_EPEND (s.leader e.val)) = s.rd (ENG_PEND_EPEND (s.leader e.val)) ∧
      t.rd (ENG_CNT_IOVF (s.leader e.val)) = min (s.rd (ENG_CNT_IOVF (s.leader e.val)) +
        bitCount (s.rd (ENG_PEND_IPEND (s.leader e.val)) &&& bits.toNat)) 255 := by
  have hmod : bits.toNat % 256 = bits.toNat := Nat.mod_eq_of_lt bits.isLt
  have hrings : s.doorbell e.val bits.toNat =
      s.setPend (s.leader e.val) (ENG_PEND_IPEND (s.leader e.val)) (ENG_CNT_IOVF (s.leader e.val)) bits.toNat := by
    have hne : ¬ bits.toNat % 256 = 0 := by
      rw [hmod]
      exact fun h => hbits (BitVec.eq_of_toNat_eq h)
    rw [State.doorbell, if_neg hne, hmod]
  refine ⟨s.doorbell e.val bits.toNat, rfl, (rd_doorbell s _ _).trans (by rw [hmod]), ?_, ?_⟩
  · rw [hrings]
    exact rd_setPend_other s _ _ rfl rfl (decide_eq_true (.inr (.inr (Nat.le_refl _)))) (cnt_apart_pend ..)
  · rw [hrings]
    exact rd_setPend_ovf s _ _ rfl rfl (pend_apart_cnt ..)

/-- An event task sets one bit of EPEND (R306, R341). -/
theorem rd_eventIn (e : Nat) {k : Nat} (hk : k < 8) :
    (s.eventIn e k).rd (ENG_PEND_EPEND (s.leader e)) = s.rd (ENG_PEND_EPEND (s.leader e)) ||| 2 ^ k :=
  rd_setPend s _ rfl rfl (cnt_apart_pend ..) (Nat.pow_lt_pow_right (by decide) hk)

end

/-! ### The read buffer (R295) -/

theorem readBufferInvalidate_empties {s : State} (e : Fin 12) (hbar : s.barred (.eng e) 16 = false) :
    ∃ t : State, exec (.readBufferInvalidate (.eng e)) s = .next t ∧ (t.eng (s.leader e.val)).rbuf = [] ∧ t.regs = s.regs ∧ t.sram = s.sram := by
  refine ⟨s.rbinv (.eng e), congrArg _ (writes_unbarred hbar _), ?_, rfl, rfl⟩
  rw [State.rbinv, eng_replaced rfl]

/-! ### Tasks of the fabric (R341, R342, R347, R348) -/

section
variable {s : State} {k : Fin 128} {p : Pulse}

/-- A pulse leaves the fabric 1 or 2 TCLK cycles after its entry (R342). -/
theorem leaveFabric_tstamp (h : s.mer.tstamp ≤ p.ts) :
    (s.leaveFabric p).mer.tstamp = (p.ts + (if p.task < 64 then 1 else 2)) % 2 ^ 64 := by
  rw [State.leaveFabric, State.advanceTo, tick_tstamp]
  congr 1
  omega

/-- The pulse has left the fabric for its task, whose acknowledge is on its way (R342, R345). -/
def State.pulseOut (u : State) (k : Nat) : State :=
  { u.took with evf := afterDeliver u.evf k (u.mer.tstamp + 1 + u.freeBelow 2),
                pwr := { u.pwr with failed := u.pwr.failed || (u.pwr.entering && decide (k < 96)) } }

theorem exec_eventTaskDeliver (htclk : s.tclkOn = true) (hlf : k.val = 120 → s.lfOn = true) (hfly : flyOf s.evf k.val = some p) :
    exec (.eventTaskDeliver k) s =
      .next (((s.leaveFabric p).pulseOut k.val).taskAct k.val p (grpdisTogether (s.leaveFabric p).evf (k.val - 96) p)) := by
  have hgate : (!s.tclkOn || (k.val == 120 && !s.lfOn)) = false := by
    by_cases hk : k.val = 120
    · simp [htclk, hlf hk]
    · simp [htclk, hk]
  have hack : s.awaitAck k.val = s := by simp [State.awaitAck, hfly]
  show execEventTaskDeliver k s = _
  simp only [execEventTaskDeliver, hgate, hack, hfly, Bool.false_eq_true, if_false]
  rfl

theorem inCycle_grpClr (evf : Evf) (ts : Nat) : (evf.inCycle ts).grpClr = if evf.at_ = ts then evf.grpClr else 0 := by
  unfold Evf.inCycle
  split <;> rfl

theorem inCycle_afterDeliver (evf : Evf) (k ack ts : Nat) : ((afterDeliver evf k ack).inCycle ts).grpClr = (evf.inCycle ts).grpClr :=
  (inCycle_grpClr _ _).trans (inCycle_grpClr evf ts).symm

theorem rd_setGrp (u : State) {g : Nat} (hg : g < 256) : (u.setGrp g).rd EVF_GRPEN_GRP = g :=
  (rdF_wrF _ _ _ rfl).trans (Nat.mod_eq_of_lt hg)

/-- A group task that opens its group, with none in the cycle that closes it (R347, R348). -/
theorem groupTask_opens {u : State} {g : Nat} (hg : g < 8) (hclr : (u.evf.inCycle u.mer.tstamp).grpClr / 2 ^ g % 2 = 0) :
    (u.groupTask g false).mer = u.mer ∧ (u.groupTask g false).rd EVF_GRPEN_GRP = u.rd EVF_GRPEN_GRP ||| 2 ^ g := by
  have hor : u.rd EVF_GRPEN_GRP ||| 2 ^ g < 2 ^ 8 := Nat.or_lt_two_pow (rdF_lt _ _) (Nat.pow_lt_pow_right (by decide) hg)
  have hne : ¬ (u.evf.inCycle u.mer.tstamp).grpClr / 2 ^ g % 2 = 1 := by omega
  simp only [State.groupTask, Bool.false_eq_true, if_false, hne]
  exact ⟨rfl, rd_setGrp u hor⟩

/-- A group task that closes its group (R348). -/
theorem groupTask_closes (u : State) (g : Nat) :
    (u.groupTask g true).mer = u.mer ∧ (u.groupTask g true).rd EVF_GRPEN_GRP = u.rd EVF_GRPEN_GRP &&& (255 - 2 ^ g) := by
  have hand : u.rd EVF_GRPEN_GRP &&& (255 - 2 ^ g) < 256 := Nat.lt_of_le_of_lt Nat.and_le_left (rdF_lt _ EVF_GRPEN_GRP)
  simp only [State.groupTask, if_true]
  exact ⟨rfl, rd_setGrp u hand⟩

/-! What a task does, by its number. -/

theorem taskAct_event {u : State} {n : Nat} {off : Bool} (h : n < 96) : u.taskAct n p off = u.eventIn (n / 8) (n % 8) := if_pos h

theorem taskAct_opens {u : State} {n : Nat} (hlow : 96 ≤ n) (hhigh : n < 104) : u.taskAct n p false = u.groupTask (n - 96) false := by
  rw [State.taskAct, if_neg (by omega), if_pos hhigh, if_neg Bool.false_ne_true]

theorem taskAct_closes {u : State} {n : Nat} {off : Bool} (hlow : 104 ≤ n) (hhigh : n < 112) :
    u.taskAct n p off = u.groupTask (n - 104) true := by
  rw [State.taskAct, if_neg (by omega), if_neg (by omega), if_pos hhigh]

theorem taskAct_captures {u : State} {n : Nat} {off : Bool} (hlow : 112 ≤ n) (hhigh : n < 116) :
    u.taskAct n p off = { u with evf := { u.evf with caps := modifyNth (fun c => captureInto c p) (n - 112) u.evf.caps } } := by
  rw [State.taskAct, if_neg (by omega), if_neg (by omega), if_neg (by omega), if_pos hhigh]

/-! The pulse arrives. -/

section
variable (htclk : s.tclkOn = true) (hfly : flyOf s.evf k.val = some p)
include htclk hfly

theorem deliver_event (h : k.val < 96) : let u := s.leaveFabric p
    let e := u.leader (k.val / 8)
    ∃ t : State, exec (.eventTaskDeliver k) s = .next t ∧ t.mer = u.mer ∧
      t.rd (ENG_PEND_EPEND e) = u.rd (ENG_PEND_EPEND e) ||| 2 ^ (k.val % 8) := by
  have hexec := exec_eventTaskDeliver htclk (fun hk => by omega) hfly
  rw [taskAct_event h] at hexec
  exact ⟨_, hexec, State.setPend_mer _ _ _ _ _, rd_eventIn ((s.leaveFabric p).pulseOut k.val) _ (Nat.mod_lt _ (by decide))⟩

theorem deliver_opens (hlow : 96 ≤ k.val) (hhigh : k.val < 104) (hoff : grpdisTogether (s.leaveFabric p).evf (k.val - 96) p = false)
    (hclr : ((s.leaveFabric p).evf.inCycle (s.leaveFabric p).mer.tstamp).grpClr / 2 ^ (k.val - 96) % 2 = 0) :
    ∃ t : State, exec (.eventTaskDeliver k) s = .next t ∧ t.mer = (s.leaveFabric p).mer ∧
      t.rd EVF_GRPEN_GRP = (s.leaveFabric p).rd EVF_GRPEN_GRP ||| 2 ^ (k.val - 96) := by
  have hexec := exec_eventTaskDeliver htclk (fun hk => by omega) hfly
  rw [hoff, taskAct_opens hlow hhigh] at hexec
  refine ⟨_, hexec, groupTask_opens (u := (s.leaveFabric p).pulseOut k.val) (by omega) ?_⟩
  exact (congrArg (· / 2 ^ (k.val - 96) % 2) (inCycle_afterDeliver _ _ _ _)).trans hclr

theorem deliver_closes (hlow : 104 ≤ k.val) (hhigh : k.val < 112) :
    ∃ t : State, exec (.eventTaskDeliver k) s = .next t ∧ t.mer = (s.leaveFabric p).mer ∧
      t.rd EVF_GRPEN_GRP = (s.leaveFabric p).rd EVF_GRPEN_GRP &&& (255 - 2 ^ (k.val - 104)) := by
  have hexec := exec_eventTaskDeliver htclk (fun hk => by omega) hfly
  rw [taskAct_closes hlow hhigh] at hexec
  exact ⟨_, hexec, groupTask_closes ((s.leaveFabric p).pulseOut k.val) _⟩

theorem deliver_captures (hlow : 112 ≤ k.val) (hhigh : k.val < 116) (hlen : k.val - 112 < (s.leaveFabric p).evf.caps.length) :
    ∃ t : State, exec (.eventTaskDeliver k) s = .next t ∧ ∃ c, t.evf.caps[k.val - 112]? = some c ∧ c.new = true ∧ c.src = p.src ∧
      c.ts = p.ts ∧ c.cyc = p.cyc ∧ c.ph = p.ph := by
  have hexec := exec_eventTaskDeliver htclk (fun hk => by omega) hfly
  rw [taskAct_captures hlow hhigh] at hexec
  refine ⟨_, hexec, captureInto (s.leaveFabric p).evf.caps[k.val - 112] p, ?_, rfl, rfl, rfl, rfl, rfl⟩
  exact (getElem?_modifyNth _ _ _).trans (congrArg (Option.map _) (List.getElem?_eq_getElem hlen))

theorem deliver_hifIrq (h : k.val = 121) : ∃ t : State, exec (.eventTaskDeliver k) s = .next t ∧ t.rd HIF_EVPEND_FABRIC = 1 := by
  have hexec := exec_eventTaskDeliver htclk (fun hk => by omega) hfly
  rw [h] at hexec
  exact ⟨_, hexec, State.rd_wr _ _ _ rfl⟩

end

theorem deliver_stamp (htclk : s.tclkOn = true) (hlf : s.lfOn = true) (hfly : flyOf s.evf 120 = some p) :
    ∃ t : State, exec (.eventTaskDeliver 120) s = .next t ∧ t.rtc.stamp = (s.rtc.cal, s.rtc.sub) ∧ t.rtc.stampNew = true := by
  have hrtc : (s.leaveFabric p).rtc = s.rtc := tick_rtc _ _
  refine ⟨_, exec_eventTaskDeliver (k := 120) htclk (fun _ => hlf) hfly, ?_, rfl⟩
  show ((s.leaveFabric p).rtc.cal, (s.leaveFabric p).rtc.sub) = _
  rw [hrtc]

end

/-- Settles O21: the doorbell by `setPend`, and a pulse by the act of the task that it reaches. -/
theorem doorbellsAndTasks : Obligations.DoorbellsAndTasks :=
  ⟨⟨fun e _ s hbits => engDbell_rings s e hbits, fun e _ hbar => readBufferInvalidate_empties e hbar⟩,
    fun _ _ _ htclk hfly => ⟨leaveFabric_tstamp, deliver_event htclk hfly, deliver_opens htclk hfly, deliver_closes htclk hfly,
      deliver_captures htclk hfly, deliver_hifIrq htclk hfly⟩,
    fun _ _ htclk hlf hfly => deliver_stamp htclk hlf hfly⟩

end Sys2Proof.Machine
end


section
namespace Sys2Proof.Machine

-- One declaration at a time: the check's memory limit holds few threads.
set_option Elab.async false

/-! ### What does not choose the path of a start (R476) -/

/-- `t` has the path of `s`. -/
def KeepsPath (s t : State) : Prop := t.path = s.path

theorem KeepsPath.refl (s : State) : KeepsPath s s := rfl

theorem KeepsPath.trans {s t u : State} (h : KeepsPath s t) (k : KeepsPath t u) : KeepsPath s u := Eq.trans k h

theorem KeepsPath.ite {s t u : State} {c : Prop} [Decidable c] (h : KeepsPath s t) (k : KeepsPath s u) :
    KeepsPath s (if c then t else u) := by
  split <;> assumption

section
variable {s t : State}

/-- A step on from `t` that replaces no path. -/
theorem KeepsPath.on {u : State} (h : KeepsPath s t) (hpath : u.path = t.path := by exact rfl) : KeepsPath s u := hpath.trans h

theorem KeepsPath.fold {α : Type} (h : KeepsPath s t) (f : State → α → State) (hf : ∀ u a, KeepsPath u (f u a)) (l : List α) :
    KeepsPath s (l.foldl f t) :=
  h.trans (fold_keeps KeepsPath KeepsPath.refl (fun _ _ _ => KeepsPath.trans) f hf l t)

theorem KeepsPath.wr (h : KeepsPath s t) {f : Field} {v : Nat} : KeepsPath s (t.wr f v) := h

theorem KeepsPath.inc (h : KeepsPath s t) {f : Field} {k : Nat} : KeepsPath s (t.inc f k) := h

theorem KeepsPath.took (h : KeepsPath s t) {k : Nat} : KeepsPath s (t.took k) := h

theorem KeepsPath.setEng (h : KeepsPath s t) {e : Nat} {g : Engine} : KeepsPath s (t.setEng e g) := h

theorem KeepsPath.sramWrite (h : KeepsPath s t) {a : Nat} {bs : List Byte} : KeepsPath s (t.sramWrite a bs) := h

theorem KeepsPath.fire (h : KeepsPath s t) {src : Nat} : KeepsPath s (t.fire src) := h.on (t.fire_path src)

/-! The flash and its counters. -/

theorem KeepsPath.waitState (h : KeepsPath s t) : KeepsPath s t.waitState := .ite h.on h

theorem KeepsPath.eccCount (h : KeepsPath s t) {cor uncor : Nat} : KeepsPath s (t.eccCount cor uncor) :=
  h.inc.inc.fold _ (fun u _ => (KeepsPath.refl u).fire) _

theorem KeepsPath.flashScan (h : KeepsPath s t) {erased : Bool} : KeepsPath s (t.flashScan erased) := by
  have waited : KeepsPath s (t.took 1024).waitState := KeepsPath.waitState h.on
  have counted (f : Flc) : KeepsPath s ((t.took 1024).waitState.scanEcc f) := KeepsPath.eccCount waited.on
  exact (counted _).on

theorem KeepsPath.flashSettle (h : KeepsPath s t) : KeepsPath s t.flashSettle := by
  unfold State.flashSettle
  split
  · exact .ite h h.on
  · exact h

theorem KeepsPath.flashGoes (h : KeepsPath s t) : KeepsPath s t.flashGoes := .ite h (.ite h.flashSettle (.ite h.on h.on))

theorem KeepsPath.eraseGoes (h : KeepsPath s t) : KeepsPath s t.eraseGoes := by
  simp only [State.eraseGoes]
  split
  · exact .ite h.flashGoes.on h.flashGoes
  · exact h.flashGoes

theorem KeepsPath.suspendErase (h : KeepsPath s t) {bank : Nat} : KeepsPath s (t.suspendErase bank) := by
  unfold State.suspendErase
  split
  · exact .ite (.fire h.on) h
  · exact h

theorem KeepsPath.noteRead (h : KeepsPath s t) {bank : Nat} : KeepsPath s (t.noteRead bank) := .ite h.on h

theorem KeepsPath.programGoes (h : KeepsPath s t) {bank : Nat} : KeepsPath s (t.programGoes bank) := by
  unfold State.programGoes
  split
  · exact .ite h.on h
  · exact h

theorem KeepsPath.dieRead (h : KeepsPath s t) {off : Nat} : KeepsPath s (t.dieRead off).2 := by
  have ready := h.flashGoes.suspendErase (bank := off / 0x800000) |>.noteRead (bank := off / 0x800000)
    |>.programGoes (bank := off / 0x800000) |>.waitState
  have taken (c : Prop) [Decidable c] := KeepsPath.ite (c := c) (ready.took (k := 33)) ready
  unfold State.dieRead
  extract_lets bank t0 t1 t2
  have held : KeepsPath s t2 := taken _
  clear_value t1 t2
  split
  · exact h.flashGoes
  · split
    · exact held
    · split
      · exact held
      · split
        · exact held
        · exact held.eccCount
        · exact held.eccCount

/-! Engines. -/

theorem KeepsPath.engTo (h : KeepsPath s t) {e : Nat} {st : EngState} : KeepsPath s (t.engTo e st) := by
  rw [State.engTo, checkDoze_onlyPwr]
  exact h.on

theorem KeepsPath.engRelease (h : KeepsPath s t) {e : Nat} : KeepsPath s (t.engRelease e) := KeepsPath.engTo h.on

theorem KeepsPath.startVendor (h : KeepsPath s t) : KeepsPath s t.startVendor := h.setEng.setEng.engRelease

/-! Stored registers, keys and the Sounding ring. -/

theorem KeepsPath.plainWrite (h : KeepsPath s t) {a : Nat} {v : Word} : KeepsPath s (t.plainWrite a v) := by
  unfold State.plainWrite
  split
  · exact h.on
  · exact h

theorem KeepsPath.putConfig : ∀ (l : List (Nat × Word)) {t : State}, KeepsPath s t → KeepsPath s (t.putConfig l)
  | [], _, h => h
  | _ :: l, _, h => KeepsPath.putConfig l h.plainWrite

theorem KeepsPath.startPath (h : KeepsPath s t) : KeepsPath s t.startPath := h.wr.wr.wr.wr

theorem KeepsPath.startFabric (h : KeepsPath s t) : KeepsPath s t.startFabric := by
  simp only [State.startFabric]
  exact ((h.fold _ (fun u _ => (KeepsPath.refl u).on) _).fold _ (fun u _ => (KeepsPath.refl u).plainWrite) _).fold _
    (fun u _ => (KeepsPath.refl u).wr) _

theorem KeepsPath.startKeys (h : KeepsPath s t) : KeepsPath s t.startKeys :=
  (h.fold (fun (u : State) (k : StoredKey) => u.putSlot k.slot (KeySlot.load k.klen k.pol k.key)) (fun u _ => (KeepsPath.refl u).on) _).wr

theorem KeepsPath.startRing (h : KeepsPath s t) : KeepsPath s t.startRing := h.sramWrite.sramWrite

theorem KeepsPath.startSnd (h : KeepsPath s t) : KeepsPath s t.startSnd :=
  have library (u : State) (hu : KeepsPath s u) (d : Snd) : KeepsPath s { u with snd := d } := hu
  have ring (m r : List (Nat × Word)) : KeepsPath s { t with shadow := m, regs := r } := h
  library _ (ring _ _) _

/-! Frames complete, and MER changes its state. -/

theorem KeepsPath.relink : ∀ (l : List Frame) {t : State}, KeepsPath s t → KeepsPath s (t.relink l)
  | [], _, h => h
  | [_], _, h => h
  | _ :: g :: r, _, h => KeepsPath.relink (g :: r) (.ite h h.on)

theorem KeepsPath.completeFrame (h : KeepsPath s t) {b : Band} {f : Frame} {st : Nat} : KeepsPath s (t.completeFrame b f st) := by
  have linked (u : State) (l : List Frame) (h : KeepsPath s u) : KeepsPath s ((u.relink l).fire 81) := .fire (.relink l h)
  simp only [State.completeFrame]
  split
  · exact (linked _ _ h.on).inc.fire
  · exact linked _ _ h.on

theorem KeepsPath.completeEach {b : Band} {st : Frame → Nat} : ∀ (l : List Frame) {t : State}, KeepsPath s t →
    KeepsPath s (t.completeEach b st l)
  | [], _, h => h
  | _ :: r, _, h => KeepsPath.completeEach r h.completeFrame

theorem KeepsPath.completeWhere (h : KeepsPath s t) {b : Band} {p : Frame → Bool} {st : Frame → Nat} :
    KeepsPath s (t.completeWhere b p st) := .completeEach _ h

theorem KeepsPath.stopWalking (h : KeepsPath s t) : KeepsPath s t.stopWalking :=
  have completed : KeepsPath s ((t.completeWhere .sg (fun f => decide (f.queue ≤ 4)) (fun _ => stBadState)).completeWhere .g24
    (fun f => decide (f.queue ≤ 4)) (fun _ => stBadState)) := h.completeWhere.completeWhere
  completed.on

theorem KeepsPath.setMer (h : KeepsPath s t) {st : Nat} : KeepsPath s (t.setMer st) :=
  have entered : KeepsPath s (t.merEntered st) := h.on
  .ite h (.fire (.ite entered.stopWalking entered))

theorem KeepsPath.enterSynth (h : KeepsPath s t) : KeepsPath s t.enterSynth := .ite h.setMer h.setMer.on

theorem KeepsPath.sourceChange (h : KeepsPath s t) {old new : Nat} : KeepsPath s (t.sourceChange old new) :=
  have on (u : State) (hu : KeepsPath s u) (m : Mer) : KeepsPath s { u with mer := m } := hu
  .ite h (.ite (on _ h.setMer _) (.ite (.ite h.enterSynth (on _ h.setMer _)) (.ite h.enterSynth (on _ h _))))

/-! The radio changes. -/

theorem KeepsPath.rssiOff (h : KeepsPath s t) {b : Band} : KeepsPath s (t.rssiOff b) := by
  have offA (c : Prop) [Decidable c] : KeepsPath s (if c then t.wr (RFC_RSSI_RSSIA b) 0x80 else t) := .ite h.wr h
  exact .ite (offA _).wr (offA _)

theorem KeepsPath.radio (h : KeepsPath s t) {b : Band} {r : BandRadio} : KeepsPath s (t.radio b r) := by
  have followed : KeepsPath s ((t.setRfc b (r.timed (t.rfcB b) t.mer.tstamp)).rechan b) := h.on
  exact followed.rssiOff

theorem KeepsPath.endCalcmd (h : KeepsPath s t) {st : Nat} : KeepsPath s (t.endCalcmd st) := .fire h.on

theorem KeepsPath.tryCal (h : KeepsPath s t) {b : Band} : KeepsPath s (t.tryCal b) := by
  have runs (c : CalCmd) : KeepsPath s { t with rfc := { t.rfc with cmd := some c } } := h.on
  unfold State.tryCal
  split
  · refine .ite ?_ h
    split
    · exact (runs _).radio
    · exact h.endCalcmd
  · exact h

theorem KeepsPath.updateRx (h : KeepsPath s t) {b : Band} : KeepsPath s (t.updateRx b) :=
  .ite h.radio (.ite h.radio.tryCal (.ite h.radio.tryCal h))

theorem KeepsPath.followWalk (h : KeepsPath s t) {was : Bool} : KeepsPath s (t.followWalk was) := .ite h h.updateRx.updateRx

theorem KeepsPath.beginHop (h : KeepsPath s t) {b : Band} {e : Nat} : KeepsPath s (t.beginHop b e) := h.radio

theorem KeepsPath.nextCal (h : KeepsPath s t) {failed : Bool} : KeepsPath s (t.nextCal failed) := by
  unfold State.nextCal
  split
  · exact h
  · exact .ite h.endCalcmd h.on

theorem KeepsPath.settle (h : KeepsPath s t) {b : Band} : KeepsPath s (t.settle b) := by
  have set (u : State) (hu : KeepsPath s u) (r : BandRadio) : KeepsPath s ((u.setRfc b r).tryCal b) := .tryCal hu.on
  exact .ite (.ite (set _ h.on _) h.beginHop) (.ite (set _ h _) (set _ h _).updateRx)

theorem KeepsPath.preemptCal (h : KeepsPath s t) {b : Band} : KeepsPath s (t.preemptCal b) := by
  have back (r : Rfc) : KeepsPath s { t with rfc := r } := h
  simp only [State.preemptCal]
  split
  · exact h
  · exact (back _).inc.radio

theorem KeepsPath.abandonCal (h : KeepsPath s t) {b : Band} {e : Nat} : KeepsPath s (t.abandonCal b e) := by
  have aborted (r : BandRadio) : KeepsPath s ((t.inc RFC_CALSTAT_ABORTS).radio b r) := h.inc.radio
  simp only [State.abandonCal]
  split
  · exact h
  · refine .ite h (.settle (.ite (aborted _) ?_))
    split
    · exact (aborted _).nextCal
    · exact aborted _

theorem KeepsPath.windowChanged (h : KeepsPath s t) {b : Band} : KeepsPath s (t.windowChanged b) := by
  simp only [State.windowChanged]
  split
  · exact h.beginHop
  · exact h.beginHop
  · exact h.on
  · exact h.on
  · exact h.preemptCal.beginHop
  all_goals exact h

/-! The blocks take their shadow sets. -/

theorem KeepsPath.rfcCommitted (h : KeepsPath s t) {w0 w1 : Nat} : KeepsPath s (t.rfcCommitted w0 w1) := by
  have abandoned := h.abandonCal (b := t.calDefBand) (e := t.sh RFC_CALDEF_ENTRY)
  have window {u : State} (hu : KeepsPath s u) (b : Band) (c : Prop) [Decidable c] :
      KeepsPath s (if c then u.windowChanged b else u) := .ite hu.windowChanged hu
  unfold State.rfcCommitted
  extract_lets b e u entry s1 rfc s2
  have defined : KeepsPath s s1 := .ite abandoned.on h
  have taken : KeepsPath s s2 := defined.on
  clear_value s2
  exact (window (window taken _ _) _ _).rssiOff.rssiOff

theorem KeepsPath.mdmCommitted (h : KeepsPath s t) {old : List (Nat × Word)} : KeepsPath s (t.mdmCommitted old) := by
  have channels (s : State) {u : State} (hu : KeepsPath s u) (m : Mdm) : KeepsPath s { u with mdm := m } := hu
  have recommits {u : State} (hu : KeepsPath s u) (b : Band) : KeepsPath s (u.recommits old b) :=
    hu.fold _ (fun v n => by
      have counted (c : Prop) [Decidable c] : KeepsPath v (if c then v.inc (MDM_CH_ERR_ABORT b n) else v) :=
        .ite (KeepsPath.refl v).inc (.refl v)
      exact channels v (counted _) _) _
  have both := recommits (recommits h .sg) .g24
  exact .ite (channels s both.wr.wr.wr _) both

theorem KeepsPath.macCommitted (h : KeepsPath s t) {old : List (Nat × Word)} : KeepsPath s (t.macCommitted old) := .ite h h.wr.wr

theorem KeepsPath.merCommitted (h : KeepsPath s t) {old : List (Nat × Word)} : KeepsPath s (t.merCommitted old) :=
  .followWalk (.sourceChange (.ite h h.wr))

theorem KeepsPath.shpCommitted (h : KeepsPath s t) {old : List (Nat × Word)} : KeepsPath s (t.shpCommitted old) := by
  have go {u : State} (hu : KeepsPath s u) (b : Band) (c : Prop) [Decidable c] : KeepsPath s (if c then u
      else (u.setShp b { u.shpB b with pend := true, pendAt := u.tclk }).wr (pendField b) 1) := .ite hu (.wr hu.on)
  exact go (go h .sg _) .g24 _

theorem KeepsPath.plainCommit (h : KeepsPath s t) {b : Blk} (hb : ∀ u old, KeepsPath s u → KeepsPath s (u.blkAccepted old b)) :
    KeepsPath s (t.plainCommit b) := .ite h.wr (.ite (hb _ t h.on).wr h.wr)

theorem KeepsPath.commitShp (h : KeepsPath s t) : KeepsPath s t.commitShp :=
  have copied : KeepsPath s { t with regs := copyShadow t.regs t.shadow (shAddrs 0x4000B000) } := h.on
  .ite copied.shpCommitted.wr h.wr

theorem KeepsPath.startCommits (h : KeepsPath s t) : KeepsPath s t.startCommits := by
  have rfc : KeepsPath s (t.commit (.eng 2) .rfc) := .ite h.on (h.plainCommit (fun _ _ hu => hu.rfcCommitted))
  have mdm : KeepsPath s ((t.commit (.eng 2) .rfc).commit (.eng 2) .mdm) :=
    .ite rfc (.ite rfc.on (rfc.plainCommit (fun _ _ hu => hu.mdmCommitted)))
  have mac := mdm.plainCommit (b := .mac) (fun _ _ hu => hu.macCommitted)
  have mer := mac.plainCommit (b := .mer) (fun _ _ hu => hu.merCommitted)
  exact mer.commitShp

/-! The survey of a start. -/

theorem KeepsPath.svrClose (h : KeepsPath s t) {fin start : Calendar} {w : CloseWhy} : KeepsPath s (t.svrClose fin start w) := by
  simp only [State.svrClose]
  split
  · exact h
  · exact h.on

theorem KeepsPath.svrCommit (h : KeepsPath s t) : KeepsPath s t.svrCommit := by
  have closed (c : Prop) [Decidable c] :=
    KeepsPath.ite (c := c) h (h.svrClose (fin := t.rtc.cal) (start := t.rtc.cal) (w := { cfg := true }))
  have committed : KeepsPath s t.svrCommitted :=
    KeepsPath.fold (closed _).on _ (fun u _ => .ite (.refl u) (KeepsPath.refl u).on) _
  exact .ite committed.wr h.wr

theorem KeepsPath.readPlace : ∀ (n : Nat) {t : State} {w : Nat}, KeepsPath s t → KeepsPath s (t.readPlace w n).2
  | 0, _, _, h => h
  | n + 1, t, w, h => by
    have hread := h.dieRead (off := w * 32)
    simp only [State.readPlace]
    split
    · next hx => exact KeepsPath.readPlace n (by rwa [hx] at hread)
    · next hx => rwa [hx] at hread

theorem KeepsPath.scanPlace (h : KeepsPath s t) {founding : Bool} {p : Nat} : KeepsPath s (t.scanPlace founding p) := by
  have hread := KeepsPath.readPlace 16 (w := t.svr.placeWord founding p) h
  unfold State.scanPlace
  split
  · next hx =>
    rw [hx] at hread
    exact .ite hread hread.on
  · next hx =>
    rw [hx] at hread
    exact hread.on

theorem KeepsPath.scanBlock (h : KeepsPath s t) {founding : Bool} {p : Nat} : KeepsPath s (t.scanBlock founding p) := by
  simp only [State.scanBlock]
  split
  · exact .ite h.scanPlace h.scanPlace.scanPlace
  · exact h

theorem KeepsPath.svrScan (h : KeepsPath s t) : KeepsPath s t.svrScan := by
  have shown (u : State) (hu : KeepsPath s u) (v : Svr) (m : List (Nat × Word)) : KeepsPath s { u with regs := m, svr := v } := hu
  have scanned := (h.fold (fun t b => t.scanBlock true (128 * b)) (fun u _ => (KeepsPath.refl u).scanBlock) (List.range 2)).fold
    (fun t b => t.scanBlock false (128 * b)) (fun u _ => (KeepsPath.refl u).scanBlock) (List.range t.svr.rollBlk)
  exact shown _ (shown _ scanned _ _) _ _

theorem KeepsPath.svrEnable (h : KeepsPath s t) : KeepsPath s t.svrEnable := .ite h (.ite (KeepsPath.svrScan h.on) h.on)

theorem KeepsPath.startSurvey (h : KeepsPath s t) : KeepsPath s t.startSurvey := by
  have committed : KeepsPath s ((t.wr SVR_CFG_EN 0).commit (.eng 2) .svr) := KeepsPath.svrCommit h.wr
  unfold State.startSurvey
  split
  · exact h
  · exact .ite committed.svrEnable committed

theorem KeepsPath.clearMaps (h : KeepsPath s t) : KeepsPath s t.clearMaps := h.fold _ (fun u _ => (KeepsPath.refl u).sramWrite) _

theorem KeepsPath.startCounter (h : KeepsPath s t) : KeepsPath s t.startCounter := h.wr.took

end

/-- A SAFE start stays one. -/
theorem startSafe_path (s : State) : s.startSafe.path = .safe := by
  have began : KeepsPath { s with path := .safe } { s with path := .safe } := .refl _
  have released := (KeepsPath.putConfig s.fw.config began.startPath).startFabric.startKeys.startRing.startVendor
  have kept := released.startSnd.startCommits.startSurvey.clearMaps.startCounter
  have ended (u : State) (hu : u.path = .safe) (m : List (Nat × Word)) : { u with regs := m, start := .none }.path = .safe := hu
  exact ended _ kept _

end Sys2Proof.Machine
end


section
namespace Sys2Proof.Machine

-- One declaration at a time: the check's memory limit holds few threads.
set_option Elab.async false

/-! ### The clocks start (R294, R455) -/

/-- Every TCM of a device whose clocks start is empty. -/
theorem eng_cleared_tcm {s t : State} (h : t.engs = s.engs.map Engine.cleared) (e : Nat) : (t.eng e).tcm = [] := by
  simp only [State.eng, h, Vector.getElem_map, Engine.cleared]

/-! ### The scan completes (R375, R476, R477) -/

/-- The device with the scan complete, the die temperature taken and E2 released with vendor firmware (step 2 of R477). -/
def State.scanned (s : State) (erased : Bool) (temp : BitVec 12) : State :=
  let s1 := (s.flashScan erased).wr RFC_TEMP_TEMP temp.toNat
  ((s1.setEng 2 { s1.eng 2 with vendor := true }).engRelease 2).wr SYS_BOOT_STEP 2

section
variable {s : State} {erased verified : Bool} {mv : Nat} {temp : BitVec 12} {l r : List Nat}

theorem scanned_path : (s.scanned erased temp).path = s.path :=
  (KeepsPath.refl s).flashScan.wr.setEng.engRelease.wr

theorem exec_scanDone (h : s.start = .scan) : exec (.scanDone erased verified mv temp l r) s =
    .next (if s.path ≠ .warm ∧ !verified then (s.scanned erased temp).failedStep.startSafe
      else if s.path = .safe then ((s.scanned erased temp).wr SYS_BOOT_STEP 3).startSafe
      else (s.scanned erased temp).startSteps mv l r) := by
  have hstart : ¬ s.start ≠ .scan := not_not_intro h
  have hexec : exec (.scanDone erased verified mv temp l r) s = execScanDone erased verified mv temp l r s := rfl
  rw [hexec, execScanDone, if_neg hstart, ← scanned_path (s := s) (erased := erased) (temp := temp)]
  simp only [apply_ite Host.Outcome.next]
  rfl

/-- A SAFE start ends with HIF ready, and no step of Meridian follows (R476). -/
theorem startSafe_ends (s : State) : s.startSafe.start = .none ∧ s.startSafe.path = .safe ∧ s.startSafe.rd SYS_BOOT_SAFE = 1 ∧
    s.startSafe.rd HIF_STAT_READY = 1 := by
  have ended (u : State) :
      let m := wrF (wrF (wrF (wrF u.regs SYS_BOOT_SAFE 1) SYS_BOOT_WARM 0) SYS_BOOT_STEP 5) HIF_STAT_READY 1
      rdF m SYS_BOOT_SAFE = 1 ∧ rdF m HIF_STAT_READY = 1 := by
    simp [rdF_wrF, rdF_wrF_apart, Field.fits, Field.apart]
  exact ⟨rfl, startSafe_path s, (ended _).1, (ended _).2⟩

/-- The other starts end in step 8 with HIF ready, and wait for Meridian (R477). -/
theorem startSteps_ends (s : State) : (s.startSteps mv l r).start = .meridian ∧ (s.startSteps mv l r).rd SYS_BOOT_STEP = 8 ∧
    (s.startSteps mv l r).rd HIF_STAT_READY = 1 := by
  have ended (u : State) : rdF (wrF (wrF u.regs SYS_BOOT_STEP 8) HIF_STAT_READY 1) SYS_BOOT_STEP = 8 ∧
      rdF (wrF (wrF u.regs SYS_BOOT_STEP 8) HIF_STAT_READY 1) HIF_STAT_READY = 1 := by
    simp [rdF_wrF, rdF_wrF_apart, Field.fits, Field.apart]
  exact ⟨rfl, (ended _).1, (ended _).2⟩

end

/-! ### The log of FLT through a reset (R457, R465, R472, R473) -/

theorem flashGoes_flt (s : State) : s.flashGoes.flt = s.flt := by
  have settle : s.flashSettle.flt = s.flt := by
    unfold State.flashSettle
    split
    · split <;> rfl
    · rfl
  unfold State.flashGoes
  split
  · rfl
  · split
    · exact settle
    · simp only
      split <;> rfl

theorem length_modifyNth {α : Type} (f : α → α) : ∀ (k : Nat) (l : List α), (modifyNth f k l).length = l.length
  | k, [] => by cases k <;> rfl
  | 0, _ :: _ => rfl
  | k + 1, _ :: l => congrArg (· + 1) (length_modifyNth f k l)

/-- A reset that is no power-up keeps every entry's place. -/
theorem deviceReset_log_length (s : State) {c : Nat} (fc safe : Bool) (hc : powerUpCause c = false) :
    (s.deviceReset c fc safe).flt.log.length = s.flt.log.length := by
  have hflt : s.flashInterrupt.flt = s.flt := flashGoes_flt s
  simp [State.deviceReset, Flt.afterReset, hc, Flt.endBlocks, hflt]

theorem escalate_log_length (f : Flt) (r now win : Nat) : (f.escalate r now win).log.length = f.log.length := by
  unfold Flt.escalate
  split
  · split
    · exact length_modifyNth _ _ _
    · rfl
  · rfl

/-- The entry that a fault overwrites stands in the log. -/
theorem oldestEntry_lt : ∀ (l : List LogEntry) (i : Nat) (best : Option (Nat × Nat)), (∀ p, best = some p → p.1 < i + l.length) →
    0 < i + l.length → oldestEntry l i best < i + l.length
  | [], i, none, _, h => h
  | [], i, some p, hbest, _ => hbest p rfl
  | e :: l, i, best, hbest, h => by
    have hlen : i + (e :: l).length = i + 1 + l.length := by simp only [List.length_cons]; omega
    rw [hlen] at hbest h ⊢
    have here : ∀ p, some (i, e.age) = some p → p.1 < i + 1 + l.length := by
      rintro _ ⟨⟩
      simp only
      omega
    unfold oldestEntry
    split
    · exact oldestEntry_lt l (i + 1) best hbest h
    · split
      · split
        · exact oldestEntry_lt l (i + 1) _ here h
        · exact oldestEntry_lt l (i + 1) _ hbest h
      · exact oldestEntry_lt l (i + 1) _ here h

/-- What the log takes of a fault (R472). -/
def State.newEntry (s : State) (f : FaultIn) (t st : Nat) : LogEntry :=
  { status := f.status, code := f.code, region := f.region, conseq := f.conseq, state := st, tier := t,
    owner := f.owner, addr := f.addr, cycle := s.mer.time / 2 ^ 48, age := s.flt.written + 1 }

theorem newEntry_mem_logEntry {s : State} (h : s.flt.log ≠ []) (f : FaultIn) (t st : Nat) :
    s.newEntry f t st ∈ (s.logEntry f t st).1.flt.log := by
  have hpos : 0 < 0 + s.flt.log.length := by simpa [List.length_pos_iff] using h
  have hplace := oldestEntry_lt s.flt.log 0 none (by simp) hpos
  rw [Nat.zero_add] at hplace
  have hget := getElem?_modifyNth (fun _ => s.newEntry f t st) (oldestEntry s.flt.log 0 none) s.flt.log
  rw [List.getElem?_eq_getElem hplace] at hget
  exact List.mem_of_getElem? hget

theorem logEntry_rd (s : State) (f : FaultIn) (t st : Nat) (g : Field) (h : g.addr ≠ FLT_STAT_NEWEST.addr) :
    (s.logEntry f t st).1.rd g = s.rd g := by
  have counted (c : Prop) [Decidable c] : regGet (if c then incF s.regs FLT_STAT_OVERWR else s.regs) g.addr = regGet s.regs g.addr := by
    split
    · exact regGet_wrF _ _ _ _ h
    · rfl
  exact congrArg g.of ((regGet_wrF _ _ _ _ h).trans (counted _))

theorem logEntry_start (s : State) (fl : Flt) (f : FaultIn) (t st : Nat) :
    (State.logEntry { s with flt := fl } f t st).1.start = s.start := rfl

theorem fltSync_start (s : State) (m : List (Nat × Word)) (fl : Flt) :
    (State.fltSync { s with regs := m, flt := fl }).start = s.start := by
  rw [fltSync_regs]

theorem fltSync_flt (s : State) : s.fltSync.flt = s.flt := by rw [fltSync_regs]

theorem deviceReset_start (s : State) (c : Nat) (fc safe : Bool) : (s.deviceReset c fc safe).start = .clocks := rfl

/-! ### O34 -/

/-- Settles O34: CLOCKS_LOCKED and SCAN_DONE end with the writes that their clauses name, whatever the steps between them do (log entry 72:
SCAN_DONE goes to step 8 in one step), and none of those of a SAFE start replaces the path; what a clock monitor reset logs follows
the reset, which keeps the log. -/
theorem startCommands : Obligations.StartCommands := by
  intro s
  refine ⟨fun hclocks => ?_, fun erased verified mv temp l r hscan => ⟨fun hsafe => ?_, fun hgo => ?_⟩, fun hon hlog => ?_⟩
  · refine ⟨_, if_neg (not_not_intro hclocks), rfl, ?_, ?_, ?_, ?_, fun e => eng_cleared_tcm (s := s) rfl e.val⟩ <;>
      simp [State.rd, rdF_wrF, rdF_wrF_apart, Field.fits, Field.apart]
  · rw [exec_scanDone hscan]
    by_cases hunsigned : s.path ≠ .warm ∧ !verified
    · exact ⟨_, by rw [if_pos hunsigned], startSafe_ends _⟩
    · have hpath : s.path = .safe := hsafe.resolve_right (fun ⟨hcold, hv⟩ => hunsigned (by simp [hcold, hv]))
      exact ⟨_, by rw [if_neg hunsigned, if_pos hpath], startSafe_ends _⟩
  · have hsigned : ¬ (s.path ≠ .warm ∧ !verified) := by
      rintro ⟨hw, hv⟩
      rcases hgo with h | ⟨-, h⟩
      · exact hw h
      · simp [h] at hv
    have hpath : s.path ≠ .safe := by rcases hgo with h | ⟨h, -⟩ <;> simp [h]
    rw [exec_scanDone hscan]
    exact ⟨_, by rw [if_neg hsigned, if_neg hpath], startSteps_ends _⟩
  · have hexec : exec .clockMonitorReset s = execClockMonitorReset s := rfl
    have hruns : ¬ (!s.tclkOn) = true := by simp [hon]
    rw [hexec, execClockMonitorReset, if_neg hruns]
    refine ⟨_, rfl, ?_, ?_, ?_⟩
    rotate_left
    · rw [fltSync_start, logEntry_start]
      exact deviceReset_start s 5 _ _
    rotate_left
    · rw [rd_fltSync _ _ (by decide) (by decide)]
      simp only [State.rd]
      rw [incF, rdF_wrF_apart _ _ _ _ (by split <;> rfl) (by split <;> rfl), rdF_wrF_apart _ _ _ _ rfl rfl]
      exact (logEntry_rd _ _ _ _ _ (by decide)).trans (rdF_resetRegs_cause _ 5 _ _ (by decide))
    · rw [fltSync_flt]
      refine ⟨_, newEntry_mem_logEntry (fun hnil => ?_) _ _ _, rfl, rfl⟩
      have hlen := congrArg List.length hnil
      simp only at hlen
      rw [escalate_log_length, List.length_map, deviceReset_log_length _ _ _ rfl, hlog] at hlen
      cases hlen

end Sys2Proof.Machine
end


section
namespace Sys2Proof.Machine

-- One declaration at a time: the check's memory limit holds few threads.
set_option Elab.async false

/-! ### What a request and its reply leave (R482, R491, R496, R506) -/

/-- Address `a` holds neither HIF_STAT nor HIF_REQINFO nor, where the interpreter takes the request (`h` false), registers of a single
engine. -/
def hifLeaves (h : Bool) (a : Nat) : Prop := a ≠ HIF_STAT_EXEC.addr ∧ a ≠ HIF_REQINFO_LEN.addr ∧ (h = false → a < 0x40010200)

/-- `u` is `s` with request `q` of opcode `op` executing, stored and shown. -/
structure Received (h : Bool) (q : HostReq) (op : Nat) (s u : State) : Prop where
  exec : u.hif.exec = some (reqKey q (reqCode q op))
  out : u.hif.out = none
  ereqs : u.hif.ereqs = []
  after : u.hif.after = s.hif.after
  nonce : u.hif.nonce = s.hif.nonce
  barred : u.hif.barred = s.hif.barred
  flc : u.flc = s.flc
  fw : u.fw = s.fw
  now : u.fltNow = s.fltNow
  held : u.writesHeld e2 = false
  regs : ∀ a, hifLeaves h a → regGet u.regs a = regGet s.regs a
  bytes : ∀ a n, a + n ≤ s.reqBuf ∨ s.reqBuf + 2048 ≤ a → u.sramBytes a n = s.sramBytes a n

/-- `t` is `x` with the executing request `q` answered with status `st` and data `d`. -/
structure Replied (h : Bool) (q : HostReq) (op st : Nat) (d : List Byte) (x t : State) : Prop where
  exec : t.hif.exec = none
  out : t.hif.out = some (q.spi, replyPacket (reqCode q op) q.seq st d)
  after : t.hif.after = x.hif.after
  nonce : t.hif.nonce = x.hif.nonce
  flc : t.flc = x.flc
  regs : ∀ a, hifLeaves h a → regGet t.regs a = regGet x.regs a
  bytes : ∀ a n, a + n ≤ x.repBuf ∨ x.repBuf + d.length ≤ a → t.sramBytes a n = x.sramBytes a n

section
variable {h : Bool} {q : HostReq} {op st : Nat} {d : List Byte} {s u x t : State}

theorem Received.rd (hu : Received h q op s u) (f : Field) (hf : hifLeaves h f.addr) : u.rd f = s.rd f := congrArg f.of (hu.regs _ hf)

theorem Replied.rd (ht : Replied h q op st d x t) (f : Field) (hf : hifLeaves h f.addr) : t.rd f = x.rd f := congrArg f.of (ht.regs _ hf)

/-! ### A request is received (R491) -/

theorem hifByte_onlyPwr (s : State) : s.hifByte = { s with pwr := s.hifByte.pwr } := by
  unfold State.hifByte
  split
  · rw [checkDoze_onlyPwr]
  · rfl

theorem hifPassed_keeps (hentry : s.pwr.entering = false) (spi : Bool) : s.hifPassed spi =
    { s with pwr := s.hifByte.pwr, regs := wrF s.regs HIF_STAT_IF (if spi then 1 else 2), hif := { s.hif with oldBaud := none } } := by
  simp only [State.hifPassed, State.hifBytes, hentry, Bool.false_eq_true, if_false]
  rw [hifByte_onlyPwr]
  rfl

/-- Neither the bytes of a packet nor what they wake take a powered device into SLEEP. -/
theorem hifByte_awake (hon : s.tclkOn = true) : s.hifByte.pwr.st ≠ .sleep ∧ s.pwr.st ≠ .sleep := by
  have hawake : s.pwr.st ≠ .sleep := by
    intro hsleep
    simp [State.tclkOn, hsleep] at hon
  refine ⟨?_, hawake⟩
  unfold State.hifByte State.checkDoze
  split
  · split <;> simp
  · exact hawake

/-- An engine's doorbell rings in its own registers. -/
theorem regGet_doorbell_low (s : State) (e bits : Nat) {a : Nat} (h : a < 0x40010200) :
    regGet (s.doorbell e bits).regs a = regGet s.regs a := by
  have hpend (t : Nat) : a ≠ (ENG_PEND_IPEND t).addr := fun heq => by simp at heq; omega
  have hovf (t : Nat) : a ≠ (ENG_CNT_IOVF t).addr := fun heq => by simp at heq; omega
  simp only [State.doorbell]
  split
  · rfl
  · simp only [State.setPend, incF]
    rw [regGet_wrF _ _ _ _ (hovf _), regGet_wrF _ _ _ _ (hpend _)]

/-- The request is stored, shown and executes, and E2 has no doorbell yet. -/
def State.shown (s : State) (op : Nat) (q : HostReq) : State := s.received op true q

theorem received_eq : s.received op h q = if h then s.shown op q else (s.shown op q).doorbell 2 64 := by
  cases h <;> rfl

theorem leader_of_pairs {s u : State} (hpairs : u.rd ENG_LSCFG_PAIRED = s.rd ENG_LSCFG_PAIRED) (e : Nat) : u.leader e = s.leader e := by
  have hpaired : u.paired e = s.paired e := by
    unfold State.paired
    split
    · rw [hpairs]
    · rfl
  simp only [State.leader, hpaired]

theorem writesHeld_e2 (hrtc : u.rtc = s.rtc) (hpairs : u.rd ENG_LSCFG_PAIRED = s.rd ENG_LSCFG_PAIRED) :
    u.writesHeld e2 = s.writesHeld e2 := by
  have hcode : ∀ m, u.code m = s.code m
    | .eng e => leader_of_pairs hpairs e.val
    | .hif => rfl
  have hheld : ∀ c, u.heldBy c = s.heldBy c := fun c => funext fun
    | .write m _ _ => congrArg (· == c) (hcode m)
    | .record _ => rfl
    | .read _ => rfl
  simp only [e2, State.writesHeld, hrtc, hcode, hheld]

/-- A doorbell sends no device into SLEEP and calls none back. -/
theorem asleep_doorbell (s : State) (e bits : Nat) : (s.doorbell e bits).asleep = s.asleep := by
  have hratio : (s.doorbell e bits).rd MER_LFRATIO_RATIO = s.rd MER_LFRATIO_RATIO :=
    congrArg MER_LFRATIO_RATIO.of (regGet_doorbell_low s e bits (by decide))
  have hpwr : (s.doorbell e bits).pwr.tickAt = s.pwr.tickAt ∧ ((s.doorbell e bits).pwr.st = .sleep ↔ s.pwr.st = .sleep) := by
    simp only [State.doorbell]
    split
    · exact ⟨rfl, Iff.rfl⟩
    · simp only [State.setPend, pwrWithEngine]
      split
      · next h => exact ⟨rfl, by simp [h.1]⟩
      · exact ⟨rfl, Iff.rfl⟩
  simp only [State.asleep, hpwr, hratio, State.doorbell_rtc]

/-- The registers that show a request (R482, R491). -/
def shownRegs (m : List (Nat × Word)) (op : Nat) (q : HostReq) : List (Nat × Word) :=
  wrF (wrF (wrF (wrF (wrF m HIF_STAT_IF (if q.spi then 1 else 2)) HIF_REQINFO_LEN q.payload.length) HIF_REQINFO_SEQ q.seq.toNat)
    HIF_REQINFO_OPCODE (reqCode q op)) HIF_STAT_EXEC 1

theorem regGet_shownRegs (m : List (Nat × Word)) {a : Nat} (hstat : a ≠ HIF_STAT_EXEC.addr) (hinfo : a ≠ HIF_REQINFO_LEN.addr) :
    regGet (shownRegs m op q) a = regGet m a := by
  simp only [shownRegs]
  rw [regGet_wrF _ HIF_STAT_EXEC _ _ hstat, regGet_wrF _ HIF_REQINFO_OPCODE _ _ hinfo, regGet_wrF _ HIF_REQINFO_SEQ _ _ hinfo,
    regGet_wrF _ HIF_REQINFO_LEN _ _ hinfo, regGet_wrF _ HIF_STAT_IF _ _ hstat]

theorem reqBuf_hifPassed (hentry : s.pwr.entering = false) (spi : Bool) : (s.hifPassed spi).reqBuf = s.reqBuf := by
  rw [hifPassed_keeps hentry]
  exact congrArg (· * 4096) (rdF_wrF_apart _ _ _ _ rfl rfl)

theorem shown_keeps (hentry : s.pwr.entering = false) : ∃ lockAt : Nat, s.shown op q = { s with
    pwr := s.hifByte.pwr, regs := shownRegs s.regs op q,
    sram := (s.sramWrite s.reqBuf q.payload).sram, resvs := (s.sramWrite s.reqBuf q.payload).resvs,
    hif := { s.hif with oldBaud := none, expertAt := lockAt, exec := some (reqKey q (reqCode q op)) } } := by
  simp only [State.shown, State.received, reqBuf_hifPassed hentry]
  rw [hifPassed_keeps hentry]
  cases q.expert
  · refine ⟨s.hif.expertAt, ?_⟩
    simp only [State.wr, State.sramWrite, shownRegs, Bool.false_eq_true, if_false, if_true]
  · refine ⟨?_, ?_⟩
    rotate_left
    · simp only [State.wr, State.sramWrite, shownRegs, if_true]
      rfl

theorem received_shown (ht : s.Takes q) : Received true q op s (s.shown op q) := by
  obtain ⟨hhears, hlen, -, -, -, -, hentry, -, -, hout, hereqs, hheld⟩ := ht
  have hon : s.tclkOn = true := by
    simp only [State.hifHears, Bool.and_eq_true] at hhears
    exact hhears.1.1
  obtain ⟨hwoken, hawake⟩ := hifByte_awake hon
  obtain ⟨lockAt, hshown⟩ := shown_keeps (op := op) (q := q) hentry
  have hbytes (a n : Nat) (h : a + n ≤ s.reqBuf ∨ s.reqBuf + 2048 ≤ a) :
      (s.sramWrite s.reqBuf q.payload).sramBytes a n = s.sramBytes a n := sramBytes_sramWrite_other _ _ _ _ _ (by omega)
  have hregs (a : Nat) (hstat : a ≠ HIF_STAT_EXEC.addr) (hinfo : a ≠ HIF_REQINFO_LEN.addr) :=
    regGet_shownRegs (op := op) (q := q) s.regs hstat hinfo
  rw [hshown]
  generalize shownRegs s.regs op q = r at hregs ⊢
  generalize s.hifByte.pwr = p at hwoken ⊢
  have hpairs : rdF r ENG_LSCFG_PAIRED = s.rd ENG_LSCFG_PAIRED := congrArg ENG_LSCFG_PAIRED.of (hregs _ (by decide) (by decide))
  exact {
    exec := rfl, out := hout, ereqs := hereqs, after := rfl, nonce := rfl, barred := rfl, flc := rfl, fw := rfl
    now := by simp only [State.fltNow, State.asleep, if_neg hwoken, if_neg hawake]
    held := by
      rw [← hheld]
      exact writesHeld_e2 rfl hpairs
    regs := fun a ⟨hstat, hinfo, _⟩ => hregs a hstat hinfo
    bytes := hbytes }

/-- The request's doorbell to E2 (R499) leaves it received. -/
theorem Received.rung (hu : Received true q op s u) : Received false q op s (u.doorbell 2 64) :=
  have hregs (a : Nat) (ha : a < 0x40010200) := regGet_doorbell_low u 2 64 ha
  { exec := by rw [State.doorbell_hif, hu.exec]
    out := by rw [State.doorbell_hif, hu.out]
    ereqs := by rw [State.doorbell_hif, hu.ereqs]
    after := by rw [State.doorbell_hif, hu.after]
    nonce := by rw [State.doorbell_hif, hu.nonce]
    barred := by rw [State.doorbell_hif, hu.barred]
    flc := by rw [State.doorbell_flc, hu.flc]
    fw := by rw [State.doorbell_fw, hu.fw]
    now := by
      rw [← hu.now]
      simp only [State.fltNow, asleep_doorbell, State.doorbell_tclk, State.doorbell_flt]
    held := (writesHeld_e2 (State.doorbell_rtc ..) (congrArg ENG_LSCFG_PAIRED.of (hregs _ (by decide)))).trans hu.held
    regs := fun a ⟨hstat, hinfo, hlow⟩ => (hregs a (hlow rfl)).trans (hu.regs a ⟨hstat, hinfo, nofun⟩)
    bytes := fun a n ha => by
      rw [← hu.bytes a n ha]
      simp only [State.sramBytes, State.doorbell_sram, State.doorbell_sramGen] }

theorem received_is (ht : s.Takes q) : Received h q op s (s.received op h q) := by
  rw [received_eq]
  cases h
  · exact (received_shown ht).rung
  · exact received_shown ht

/-! ### A reply goes out (R491, R494, R506) -/

/-- With no reply waiting, one goes out without ending another. -/
theorem putReply_free (hout : s.hif.out = none) (spi : Bool) (pkt : List Byte) : s.putReply spi pkt =
    { s with regs := if spi then wrF s.regs HIF_STAT_REPWAIT 1 else s.regs, hif := { s.hif with out := some (spi, pkt) } } := by
  cases spi
  · simp [State.putReply, State.replySent, hout]
  · rfl

/-- The reply data stands in the reply buffer, and the executing request is answered with it. -/
def State.answered (s : State) (q : HostReq) (op st : Nat) (d : List Byte) : State :=
  (s.unpark.sramWrite s.repBuf d).completeReply (reqKey q (reqCode q op)) st d

theorem answered_keeps (hout : s.hif.out = none) : s.answered q op st d = { s with
    regs := if q.spi then wrF (wrF s.regs HIF_STAT_EXEC 0) HIF_STAT_REPWAIT 1 else wrF s.regs HIF_STAT_EXEC 0
    sram := (s.sramWrite s.repBuf d).sram, resvs := (s.sramWrite s.repBuf d).resvs
    hif := { s.hif with parked := none, dp := none, exec := none, kept := some (reqKey q (reqCode q op), st, d.length),
                        out := some (q.spi, replyPacket (reqCode q op) q.seq st d) } } := by
  refine (putReply_free (s := { (s.unpark.sramWrite s.repBuf d).wr HIF_STAT_EXEC 0 with hif := _ }) ?_ _ _).trans ?_
  · exact hout
  · simp only [State.wr, State.sramWrite, State.unpark, reqKey]
    rfl

theorem answered_replied (hout : x.hif.out = none) : Replied true q op st d x (x.answered q op st d) := by
  rw [answered_keeps hout]
  exact {
    exec := rfl, out := rfl, after := rfl, nonce := rfl, flc := rfl
    regs := fun a ⟨hstat, _, _⟩ => by
      have hended : regGet (wrF x.regs HIF_STAT_EXEC 0) a = regGet x.regs a := regGet_wrF _ _ _ _ hstat
      cases q.spi
      · exact hended
      · exact (regGet_wrF _ HIF_STAT_REPWAIT _ _ hstat).trans hended
    bytes := fun a n ha => sramBytes_sramWrite_other _ _ _ _ _ ha }

/-- E2 takes its doorbell back, and no engine's request waits to be served. -/
theorem Replied.served (ht : Replied true q op st d x t) (hereqs : t.hif.ereqs = []) :
    Replied false q op st d x (t.interpDone.serve 13) := by
  have hidle : t.interpDone.hif.exec.isSome = false := by simp [State.interpDone, ht.exec]
  have hnone : nextOwner t.interpDone.hif.eLast t.interpDone.hif.ereqs = none := by simp [State.interpDone, hereqs, nextOwner_nil]
  have hserve : t.interpDone.serve 13 = t.interpDone := by
    rw [State.serve, hidle, hnone]
    rfl
  rw [hserve]
  exact {
    exec := ht.exec, out := ht.out, after := ht.after, nonce := ht.nonce, flc := ht.flc, bytes := ht.bytes
    regs := fun a ⟨hstat, hinfo, hlow⟩ =>
      (regGet_wrF _ (ENG_PEND_IPEND 2) _ _ (fun heq => by simp [heq] at hlow)).trans (ht.regs a ⟨hstat, hinfo, nofun⟩) }

/-! ### HIF and the interpreter carry a request out (R491, R499, R506) -/

/-- A request that nothing stops is received and carried out. -/
theorem hostRequest_taken (ht : s.Takes q) (hop : assignedOps.contains op = true) (run : State → OpIn → Ans) : s.hostRequest op h run q =
    if h then (s.received op h q).runHif (reqKey q (reqCode q op)) op run q else (s.received op h q).runInterp op run q := by
  obtain ⟨hhears, hlen, -, hlevel, hready, -, hentry, hexec, hkept, hout, -, -⟩ := ht
  have hpassed := hifPassed_keeps hentry q.spi
  have hpass : ¬ ((!s.hifHears q.spi) = true ∨ 1024 < q.payload.length) := by simp [hhears, hlen]
  have hdrop : (s.hifPassed q.spi).dropReply = s.hifPassed q.spi := by simp [State.dropReply, hpassed, hout]
  have hready' : (s.hifPassed q.spi).rdB HIF_STAT_READY = true := by
    rw [hpassed, ← hready]
    exact congrArg (· != 0) (rdF_wrF_apart _ _ _ _ rfl rfl)
  have hassigned : ¬ ((!assignedOps.contains op) = true ∨ q.expert = true ∧ (!(s.hifPassed q.spi).expert) = true) := by
    have hexpert : (s.hifPassed q.spi).expert = s.expert := by
      rw [hpassed]
      exact congrArg (· != 0) (rdF_wrF_apart _ _ _ _ rfl rfl)
    rintro (h1 | ⟨h1, h2⟩)
    · simp only [hop, Bool.not_true, Bool.false_eq_true] at h1
    · simp [hexpert, hlevel h1] at h2
  have hexec' : (s.hifPassed q.spi).hif.exec = none := by rw [hpassed]; exact hexec
  have hkept' : (s.hifPassed q.spi).hif.kept = none := by rw [hpassed]; exact hkept
  have htake : s.hostRequest op h run q = (s.hifPassed q.spi).takeRequest op h run q := by
    simp only [State.hostRequest, if_neg hpass, hdrop]
    rw [hexec', hkept']
  rw [htake, State.takeRequest, if_neg hassigned, if_neg (by simp [hready'])]
  simp only [State.received, State.execute, reqCode]
  generalize s.hifPassed q.spi = v
  cases h
  · simp only [Bool.false_eq_true, if_false]
  · simp only [if_true]

theorem runHif_answers {run : State → OpIn → Ans} (hx : run u (reqIn q) = (x, st, d)) (hst : st ≠ stWaits)
    (hexec : x.hif.exec.isSome = true) : u.runHif (reqKey q (reqCode q op)) op run q = x.answered q op st d := by
  have hdone : ¬ x.hif.exec.isNone = true := by
    intro hnone
    rw [Option.isNone_iff_eq_none.mp hnone] at hexec
    cases hexec
  simp only [State.runHif, hx, if_neg hst, if_neg hdone, State.answered]

theorem hifReply_fields {n v : Nat} (hn : n ≤ 1024) (hv : v < 256) :
    HIF_REPLY_GO.of (BitVec.ofNat 32 (2 ^ 31 + n * 65536 + v)) = 1 ∧ HIF_REPLY_LEN.of (BitVec.ofNat 32 (2 ^ 31 + n * 65536 + v)) = n ∧
      HIF_REPLY_STATUS.of (BitVec.ofNat 32 (2 ^ 31 + n * 65536 + v)) = v := by
  simp only [Field.of, BitVec.toNat_ofNat]
  omega

theorem writeHifReply_answers {w : State} {v : Word} {e : HostExec} (hexec : w.hif.exec = some e)
    (hread : w.sramBytes w.repBuf d.length = d) (hgo : isE2 e2 = true ∧ HIF_REPLY_GO.of v = 1) (hroom : ¬ 1024 < d.length)
    (hlen : HIF_REPLY_LEN.of v = d.length) (hst : HIF_REPLY_STATUS.of v = st) :
    w.writeHifReply e2 v = ((w.completeReply e st d).interpDone).serve 13 := by
  simp only [State.writeHifReply, if_pos hgo, hexec, hlen, hst, if_neg hroom, hread]

theorem runInterp_answers {run : State → OpIn → Ans} (hx : run u (reqIn q) = (x, st, d)) (hgoes : u.writesHeld e2 = false)
    (hsafe : u.rdB SYS_BOOT_SAFE = false) (hhold : q.hold = false) (hst : st < 256) (hlen : d.length ≤ 1024)
    (hexec : x.hif.exec = some (reqKey q (reqCode q op))) :
    u.runInterp op run q = ((x.answered q op st d).interpDone).serve 13 := by
  have hgo : u.e2Goes = (true, u) := by simp [State.e2Goes, hgoes]
  have hwait : ¬ st = stWaits := by
    rintro rfl
    exact absurd hst (by decide)
  have hfilter : u.safeFilter op (x, st, d) = (x, st, d) := by simp [State.safeFilter, hsafe]
  obtain ⟨hgofield, hlenfield, hstfield⟩ := hifReply_fields hlen hst
  have hread : (x.unpark.sramWrite x.repBuf d).sramBytes (x.unpark.sramWrite x.repBuf d).repBuf d.length = d :=
    sramBytes_sramWrite x.unpark x.repBuf d
  simp only [State.runInterp, hgo, hx, hfilter, if_neg hwait, hhold, Bool.not_true, Bool.false_eq_true, if_false]
  exact writeHifReply_answers hexec hread ⟨rfl, hgofield⟩ (Nat.not_lt.mpr hlen) hlenfield hstfield

end

end Sys2Proof.Machine
end


section
namespace Sys2Proof.Machine

-- One declaration at a time: the check's memory limit holds few threads.
set_option Elab.async false

section
variable {h : Bool} {q : HostReq} {op st : Nat} {d : List Byte} {i : Instr} {run : State → OpIn → Ans}
  {s u x t : State} {P : State → Prop}

/-- The operation leaves the request and its interface as they were: nothing waits to be sent or served beside it. -/
def KeepsRequest (u x : State) : Prop := x.hif.exec = u.hif.exec ∧ x.hif.out = u.hif.out ∧ x.hif.ereqs = u.hif.ereqs

theorem KeepsRequest.refl (s : State) : KeepsRequest s s := ⟨rfl, rfl, rfl⟩

theorem KeepsRequest.set (s : State) (m : List (Nat × Word)) {f : Hif} (hexec : f.exec = s.hif.exec) (hout : f.out = s.hif.out)
    (hereqs : f.ereqs = s.hif.ereqs) : KeepsRequest s { s with regs := m, hif := f } := ⟨hexec, hout, hereqs⟩

/-- A new request is answered with what its operation gives in the state that has received it, and what the reply leaves of the operation's
state holds after it (R491, R494, R500, R506). -/
theorem answers_of_run (hi : exec i s = .next (s.hostRequest op h run q)) (ht : s.Takes q) (hop : assignedOps.contains op = true)
    (hst : st < 256) (hlen : d.length ≤ 1024)
    (hrun : ∀ u, Received h q op s u → ∃ x, run u (reqIn q) = (x, st, d) ∧ KeepsRequest u x ∧ ∀ t, Replied h q op st d x t → P t) :
    Answers i s q op st d P := by
  have hu := received_is (h := h) (op := op) ht
  have htaken := hostRequest_taken (h := h) ht hop run
  generalize s.received op h q = u at hu htaken
  obtain ⟨x, hx, ⟨hexec, hout, hereqs⟩, hP⟩ := hrun u hu
  have hrunning : x.hif.exec = some (reqKey q (reqCode q op)) := hexec.trans hu.exec
  have hreplied := answered_replied (q := q) (op := op) (st := st) (d := d) (hout.trans hu.out)
  obtain ⟨-, -, hhold, -, -, hsafe, -⟩ := ht
  cases h
  · have hsafe' : u.rdB SYS_BOOT_SAFE = false := by
      rw [← hsafe]
      exact congrArg (· != 0) (hu.rd _ ⟨by decide, by decide, fun _ => by decide⟩)
    have hidle : (x.answered q op st d).hif.ereqs = [] := by
      rw [answered_keeps (hout.trans hu.out)]
      exact hereqs.trans hu.ereqs
    have hserved := hreplied.served hidle
    rw [if_neg Bool.false_ne_true, runInterp_answers hx hu.held hsafe' hhold hst hlen hrunning] at htaken
    exact ⟨_, hi.trans (congrArg _ htaken), hserved.out, hserved.exec, hP _ hserved⟩
  · have hwait : st ≠ stWaits := Nat.ne_of_lt hst
    rw [if_pos rfl, runHif_answers hx hwait (by rw [hrunning]; rfl)] at htaken
    exact ⟨_, hi.trans (congrArg _ htaken), hreplied.out, hreplied.exec, hP _ hreplied⟩

/-! ### What the operations give (R500, R502, R503) -/

theorem opEcho_short (q : OpIn) (hbasic : q.expert = false) (hlen : q.p.length ≤ 64) :
    u.opEcho q = (u, if q.p = [] then stOkEmpty else stOK, q.p) := by
  simp [State.opEcho, hbasic, hlen]

/-- The payload of a data-port request with FLAGS = 0: OFF and what follows it (R502). -/
theorem dp_fields {p : OpIn} {off : Nat} {rest : List Byte} (hp : p.p = [0] ++ natLE 2 off ++ rest) (hoff : off < 65536) :
    p.at 0 1 = 0 ∧ p.at 1 2 = off ∧ p.p.drop 3 = rest := by
  have hdrop : p.p.drop 1 = natLE 2 off ++ rest := by rw [hp]; rfl
  refine ⟨by simp [OpIn.at, hp, leNat], ?_, by simp [hp]⟩
  rw [OpIn.at, hdrop, List.take_append_of_le_length (by simp), List.take_of_length_le (by simp), leNat_natLE]
  exact Nat.mod_eq_of_lt hoff

theorem opDataWrite_moves {p : OpIn} {off : Nat} {d : List Byte} (hbasic : p.expert = false) (hp : p.p = [0] ++ natLE 2 off ++ d)
    (hd : d ≠ []) (hoff : off < 65536) (hend : off + d.length ≤ 65536) :
    u.opDataWrite p = (u.sramWrite (u.dpBase + off) d, stOK, natLE 2 d.length) := by
  obtain ⟨hflags, hat, hrest⟩ := dp_fields hp hoff
  have hlen : ¬ p.p.length < 3 := by simp [hp]
  have hbad : ¬ 65536 < off + d.length := Nat.not_lt.mpr hend
  simp [State.opDataWrite, hbasic, State.opDpWrite, hlen, hrest, State.dpBad, State.dpOff, hflags, hat, hbad, hd, State.dpAdvance,
    State.dpRing]

theorem opDataRead_moves {p : OpIn} {off n : Nat} (hbasic : p.expert = false) (hp : p.p = [0] ++ natLE 2 off ++ natLE 2 n)
    (hn : 0 < n) (hlen : n ≤ 1024) (hoff : off < 65536) (hend : off + n ≤ 65536) :
    u.opDataRead p = (u, stOK, u.sramBytes (u.dpBase + off) n) := by
  obtain ⟨hflags, hat, hrest⟩ := dp_fields hp hoff
  have hcount : p.at 3 2 = n := by
    rw [OpIn.at, hrest, List.take_of_length_le (by simp), leNat_natLE]
    exact Nat.mod_eq_of_lt (by omega)
  have hform : ¬ (p.p.length ≠ 5 ∨ 1024 < n) := by simp [hp, hlen]
  have hbad : ¬ 65536 < off + n := Nat.not_lt.mpr hend
  simp [State.opDataRead, hbasic, State.opDpRead, hcount, hform, State.dpBad, State.dpOff, hflags, hat, hbad, Nat.ne_of_gt hn,
    State.dpAdvance]

theorem opDbell_rings {p : OpIn} {e bits : Byte} (hp : p.p = [e, bits]) (hlow : 3 ≤ e.toNat) (hhigh : e.toNat ≤ 11) :
    u.opDbell p = (u.doorbell e.toNat bits.toNat, stOK, []) := by
  have he : p.at 0 1 = e.toNat ∧ p.at 1 1 = bits.toNat := by simp [OpIn.at, hp, leNat]
  have hform : ¬ p.p.length ≠ 2 := by simp [hp]
  have hbad : ¬ (11 < e.toNat ∨ (!p.expert) = true ∧ e.toNat < 3) := by omega
  simp only [State.opDbell, he, if_neg hform, if_neg hbad]

theorem opEvents_clears {p : OpIn} (hbasic : p.expert = false) (hp : p.p = []) : u.opEvents p =
    ({ u with regs := regSet u.regs HIF_EVPEND_READY.addr 0 }, stOK, u.vb HIF_EVPEND_READY.addr) := by
  simp [State.opEvents, hbasic, hp]

/-- HIF_EVPEND reads as its word holds it. -/
theorem vb_evpend (h : regGet u.regs HIF_EVPEND_READY.addr = regGet s.regs HIF_EVPEND_READY.addr) :
    u.vb HIF_EVPEND_READY.addr = s.vb HIF_EVPEND_READY.addr := by
  have hplain : u.plainRead HIF_EVPEND_READY.addr = s.plainRead HIF_EVPEND_READY.addr := by
    have hmask : shMask HIF_EVPEND_READY.addr = 0 := by decide
    unfold State.plainRead
    split
    · simp [plainRead, hmask, h]
    · rfl
  exact congrArg wordBytes hplain

theorem opLock_locks {p : OpIn} (hp : p.p = []) : u.opLock p = ({ u with regs := wrF u.regs HIF_EXPERT_UNLOCK 0 }, stOK, []) := by
  simp [State.opLock, hp, State.wr]

theorem wr_with_hif (s : State) (f : Field) (v : Nat) (x : Hif) :
    { s.wr f v with hif := x } = { s with regs := wrF s.regs f v, hif := x } := rfl

theorem grant_unlocks (s : State) : ∃ lockAt : Nat, s.grant =
    ({ s with regs := wrF s.regs HIF_EXPERT_UNLOCK 1, hif := { s.hif with expertAt := lockAt } }, stOK, []) :=
  ⟨s.fltNow, congrArg (·, stOK, []) (wr_with_hif s HIF_EXPERT_UNLOCK 1 _)⟩

/-- With no expert key set, the unlock needs no tag (R498). -/
theorem opUnlock_open {p : OpIn} (hp : p.p = []) (hkey : u.rdB HIF_EXPERT_KEYSET = false) : u.opUnlock p = u.grant := by
  simp [State.opUnlock, hp, hkey]

/-- The tag is right within the 10 s of the challenge, and no bar stands: the unlock is set (R498). -/
theorem opUnlock_right {p : OpIn} {n : List Byte} {t0 : Nat} (hkey : u.rdB HIF_EXPERT_KEYSET = true) (hlen : p.p.length = 8)
    (hbar : u.hif.barred = none) (hnonce : u.hif.nonce = some (n, t0)) (hfresh : u.fltNow ≤ t0 + 4000000000)
    (htag : p.p = unlockTag (u.fw.expertKey.getD []) n) :
    u.opUnlock p = State.grant { u with regs := wrF u.regs HIF_EXPERT_FAILS 0, hif := { u.hif with nonce := none, barred := none } } := by
  have hgrant : u.opUnlock p = State.grant { u.wr HIF_EXPERT_FAILS 0 with hif := { u.hif with nonce := none, barred := none } } := by
    simp [State.opUnlock, hkey, hlen, hbar, hnonce, hfresh, htag.symm]
  exact hgrant.trans (congrArg State.grant (wr_with_hif u HIF_EXPERT_FAILS 0 _))

theorem opUnlock_wrong {p : OpIn} {n : List Byte} {t0 : Nat} (hkey : u.rdB HIF_EXPERT_KEYSET = true) (hlen : p.p.length = 8)
    (hbar : u.hif.barred = none) (hnonce : u.hif.nonce = some (n, t0)) (hfresh : u.fltNow ≤ t0 + 4000000000)
    (htag : p.p ≠ unlockTag (u.fw.expertKey.getD []) n) : ∃ barred : Option Nat, u.opUnlock p =
      ({ u with regs := wrF u.regs HIF_EXPERT_FAILS (min 255 (u.rd HIF_EXPERT_FAILS + 1)),
                hif := { u.hif with nonce := none, barred := barred } }, stDenied, []) := by
  have hdenied : u.opUnlock p = ({ u.wr HIF_EXPERT_FAILS (min 255 (u.rd HIF_EXPERT_FAILS + 1)) with hif :=
      { u.hif with nonce := none, barred := if 3 ≤ min 255 (u.rd HIF_EXPERT_FAILS + 1) then some u.fltNow else none } },
      stDenied, []) := by
    simp [State.opUnlock, hkey, hlen, hbar, hnonce, hfresh, htag.symm, State.refuse]
  exact ⟨_, hdenied.trans (congrArg (·, stDenied, []) (wr_with_hif u HIF_EXPERT_FAILS _ _))⟩

/-! ### The requests are answered -/

theorem Received.dpBase (hu : Received h q op s u) : u.dpBase = s.rd HIF_DPBASE_BASE * 65536 := by
  rw [State.dpBase, hu.rd _ ⟨by decide, by decide, fun _ => by decide⟩]

theorem Received.reqBuf (hu : Received h q op s u) : u.reqBuf = s.reqBuf := by
  rw [State.reqBuf, State.reqBuf, hu.rd _ ⟨by decide, by decide, fun _ => by decide⟩]

theorem Received.rdB (hu : Received h q op s u) (f : Field) (hf : hifLeaves h f.addr) : u.rdB f = s.rdB f :=
  congrArg (· != 0) (hu.rd f hf)

/-- The registers of the expert level stand apart from what a request and its reply write. -/
theorem hifLeaves_expert : hifLeaves h HIF_EXPERT_UNLOCK.addr := ⟨by decide, by decide, fun _ => by decide⟩

theorem echo_answers (ht : s.Takes q) (hbasic : q.expert = false) (hlen : q.payload.length ≤ 64) :
    Answers (.echo q) s q 0x01 (if q.payload = [] then stOkEmpty else stOK) q.payload
      (fun t => t.hif.after = s.hif.after ∧ t.flc = s.flc) := by
  have hst : (if q.payload = [] then stOkEmpty else stOK) < 256 := by split <;> decide
  refine answers_of_run (run := State.opEcho) (h := false) rfl ht (by decide) hst (by omega) (fun u hu => ?_)
  exact ⟨u, opEcho_short (reqIn q) hbasic hlen, .refl u, fun t hr => ⟨hr.after.trans hu.after, hr.flc.trans hu.flc⟩⟩

theorem dpWrite_answers (ht : s.Takes q) {off : Nat} {d : List Byte} (hbasic : q.expert = false) (hp : q.payload = [0] ++ natLE 2 off ++ d)
    (hd : d ≠ []) (hend : off + d.length ≤ 65536) (hoff : off < 65536)
    (happart : s.rd HIF_DPBASE_BASE * 65536 + off + d.length ≤ s.reqBuf ∨ s.reqBuf + 4096 ≤ s.rd HIF_DPBASE_BASE * 65536 + off) :
    Answers (.dpWrite q) s q 0x04 stOK (natLE 2 d.length)
      (fun t => t.sramBytes (s.rd HIF_DPBASE_BASE * 65536 + off) d.length = d) := by
  refine answers_of_run (run := State.opDataWrite) (h := true) rfl ht (by decide) (by decide) (by simp) (fun u hu => ?_)
  refine ⟨_, opDataWrite_moves (p := reqIn q) hbasic hp hd hoff hend, ⟨rfl, rfl, rfl⟩, fun t hr => ?_⟩
  rw [hu.dpBase] at hr
  have hbuf : (u.sramWrite (s.rd HIF_DPBASE_BASE * 65536 + off) d).repBuf = s.reqBuf + 0x800 := congrArg (· + 0x800) hu.reqBuf
  rw [hr.bytes _ _ (by rw [hbuf, natLE_length]; omega)]
  exact sramBytes_sramWrite u _ d

theorem dpRead_answers (ht : s.Takes q) {off n : Nat} (hbasic : q.expert = false) (hp : q.payload = [0] ++ natLE 2 off ++ natLE 2 n)
    (hn : 0 < n) (hlen : n ≤ 1024) (hend : off + n ≤ 65536) (hoff : off < 65536)
    (happart : s.rd HIF_DPBASE_BASE * 65536 + off + n ≤ s.reqBuf ∨ s.reqBuf + 4096 ≤ s.rd HIF_DPBASE_BASE * 65536 + off) :
    Answers (.dpRead q) s q 0x03 stOK (s.sramBytes (s.rd HIF_DPBASE_BASE * 65536 + off) n)
      (fun t => t.sramBytes (s.rd HIF_DPBASE_BASE * 65536 + off) n = s.sramBytes (s.rd HIF_DPBASE_BASE * 65536 + off) n) := by
  have hdata : (s.sramBytes (s.rd HIF_DPBASE_BASE * 65536 + off) n).length = n := readBytes_length _ _ n _
  refine answers_of_run (run := State.opDataRead) (h := true) rfl ht (by decide) (by decide) (by omega) (fun u hu => ?_)
  have hbytes := hu.bytes (s.rd HIF_DPBASE_BASE * 65536 + off) n (by omega)
  have hbuf : u.repBuf = s.reqBuf + 0x800 := congrArg (· + 0x800) hu.reqBuf
  refine ⟨u, ?_, .refl u, fun t hr => (hr.bytes _ _ (by omega)).trans hbytes⟩
  rw [opDataRead_moves (p := reqIn q) hbasic hp hn hlen hoff hend, hu.dpBase, hbytes]

theorem dbell_answers (ht : s.Takes q) {e bits : Byte} (hp : q.payload = [e, bits]) (hlow : 3 ≤ e.toNat) (hhigh : e.toNat ≤ 11) :
    Answers (.dbell q) s q 0x05 stOK [] (fun t => t.rd (ENG_PEND_IPEND (s.leader e.toNat)) =
      s.rd (ENG_PEND_IPEND (s.leader e.toNat)) ||| bits.toNat) := by
  refine answers_of_run (run := State.opDbell) (h := true) rfl ht (by decide) (by decide) (by simp) (fun u hu => ?_)
  have hlead : u.leader e.toNat = s.leader e.toNat := leader_of_pairs (hu.rd _ ⟨by decide, by decide, nofun⟩) _
  have hpend (k : Nat) : hifLeaves true (ENG_PEND_IPEND k).addr := ⟨by simp; omega, by simp; omega, nofun⟩
  refine ⟨_, opDbell_rings (p := reqIn q) hp hlow hhigh, ⟨by simp, by simp, by simp⟩, fun t hr => ?_⟩
  rw [hr.rd _ (hpend _), ← hlead, rd_doorbell, hu.rd _ (hpend _), Nat.mod_eq_of_lt bits.isLt]

theorem events_answers (ht : s.Takes q) (hbasic : q.expert = false) (hp : q.payload = []) :
    Answers (.events q) s q 0x06 stOK (s.vb HIF_EVPEND_READY.addr) (fun t => regGet t.regs HIF_EVPEND_READY.addr = 0) := by
  refine answers_of_run (run := State.opEvents) (h := true) rfl ht (by decide) (by decide) (by simp [State.vb, wordBytes]) (fun u hu => ?_)
  have hapart : hifLeaves true HIF_EVPEND_READY.addr := ⟨by decide, by decide, nofun⟩
  have hrun := opEvents_clears (u := u) (p := reqIn q) hbasic hp
  rw [vb_evpend (hu.regs _ hapart)] at hrun
  exact ⟨_, hrun, .set u _ rfl rfl rfl, fun t hr => (hr.regs _ hapart).trans (regGet_regSet_same u.regs HIF_EVPEND_READY.addr 0)⟩

theorem lock_answers (ht : s.Takes q) (hp : q.payload = []) : Answers (.lock q) s q 0x0F stOK [] (fun t => t.expert = false) := by
  refine answers_of_run (run := State.opLock) (h := false) rfl ht (by decide) (by decide) (by simp) (fun u hu => ?_)
  refine ⟨_, opLock_locks (p := reqIn q) hp, .set u _ rfl rfl rfl, fun t hr => ?_⟩
  have hlocked : t.rd HIF_EXPERT_UNLOCK = 0 := (hr.rd _ hifLeaves_expert).trans (rdF_wrF u.regs _ _ rfl)
  simp only [State.expert, State.rdB, hlocked, bne_self_eq_false]

theorem rdF_unlocked (m : List (Nat × Word)) : rdF (wrF m HIF_EXPERT_UNLOCK 1) HIF_EXPERT_UNLOCK = 1 := rdF_wrF _ _ _ rfl

theorem Replied.unlocked (hr : Replied h q op st d x t) (hset : x.rd HIF_EXPERT_UNLOCK = 1) : t.expert = true := by
  simp only [State.expert, State.rdB, hr.rd _ hifLeaves_expert, hset]
  rfl

theorem unlock_open_answers (ht : s.Takes q) (hp : q.payload = []) (hkey : s.rdB HIF_EXPERT_KEYSET = false) :
    Answers (.unlock q) s q 0x0E stOK [] (fun t => t.expert = true) := by
  refine answers_of_run (run := State.opUnlock) (h := false) rfl ht (by decide) (by decide) (by simp) (fun u hu => ?_)
  have hopen : u.rdB HIF_EXPERT_KEYSET = false := (hu.rdB HIF_EXPERT_KEYSET hifLeaves_expert).trans hkey
  obtain ⟨lockAt, hgrant⟩ := grant_unlocks u
  exact ⟨_, (opUnlock_open (p := reqIn q) hp hopen).trans hgrant, .set u _ rfl rfl rfl,
    fun t hr => hr.unlocked (by simp only [State.rd, rdF_unlocked])⟩

section
variable {n : List Byte} {t0 : Nat} (ht : s.Takes q) (hkey : s.rdB HIF_EXPERT_KEYSET = true) (hlen : q.payload.length = 8)
  (hbar : s.hif.barred = none) (hnonce : s.hif.nonce = some (n, t0)) (hfresh : s.fltNow ≤ t0 + 4000000000)
include ht hkey hlen hbar hnonce hfresh

theorem unlock_right_answers (htag : q.payload = unlockTag (s.fw.expertKey.getD []) n) : Answers (.unlock q) s q 0x0E stOK []
    (fun t => t.expert = true ∧ t.rd HIF_EXPERT_FAILS = 0 ∧ t.hif.nonce = none) := by
  refine answers_of_run (run := State.opUnlock) (h := false) rfl ht (by decide) (by decide) (by simp) (fun u hu => ?_)
  have hrun := opUnlock_right (p := reqIn q) ((hu.rdB HIF_EXPERT_KEYSET hifLeaves_expert).trans hkey) hlen (hu.barred.trans hbar)
    (hu.nonce.trans hnonce) (hu.now ▸ hfresh) (by rw [hu.fw]; exact htag)
  have hfails : rdF (wrF u.regs HIF_EXPERT_FAILS 0) HIF_EXPERT_FAILS = 0 := rdF_wrF _ _ _ rfl
  generalize wrF u.regs HIF_EXPERT_FAILS 0 = m at hrun hfails
  obtain ⟨lockAt, hgrant⟩ := grant_unlocks { u with regs := m, hif := { u.hif with nonce := none, barred := none } }
  refine ⟨_, hrun.trans hgrant, .set u _ rfl rfl rfl, fun t hr =>
    ⟨hr.unlocked (by simp only [State.rd, rdF_unlocked]), ?_, hr.nonce⟩⟩
  rw [hr.rd HIF_EXPERT_FAILS hifLeaves_expert]
  simp only [State.rd]
  rw [rdF_wrF_apart _ _ _ _ rfl rfl, hfails]

theorem unlock_wrong_answers (htag : q.payload ≠ unlockTag (s.fw.expertKey.getD []) n) : Answers (.unlock q) s q 0x0E stDenied []
    (fun t => t.expert = s.expert ∧ t.hif.nonce = none ∧ t.rd HIF_EXPERT_FAILS = min 255 (s.rd HIF_EXPERT_FAILS + 1)) := by
  refine answers_of_run (run := State.opUnlock) (h := false) rfl ht (by decide) (by decide) (by simp) (fun u hu => ?_)
  obtain ⟨barred, hrun⟩ := opUnlock_wrong (p := reqIn q) ((hu.rdB HIF_EXPERT_KEYSET hifLeaves_expert).trans hkey) hlen (hu.barred.trans hbar)
    (hu.nonce.trans hnonce) (hu.now ▸ hfresh) (by rw [hu.fw]; exact htag)
  refine ⟨_, hrun, .set u _ rfl rfl rfl, fun t hr => ⟨?_, hr.nonce, ?_⟩⟩
  · have hkept : t.rd HIF_EXPERT_UNLOCK = s.rd HIF_EXPERT_UNLOCK :=
      (hr.rd _ hifLeaves_expert).trans ((rdF_wrF_apart _ _ _ _ rfl rfl).trans (hu.rd _ hifLeaves_expert))
    exact congrArg (· != 0) hkept
  · rw [hr.rd HIF_EXPERT_FAILS hifLeaves_expert, ← hu.rd HIF_EXPERT_FAILS hifLeaves_expert]
    refine (rdF_wrF _ _ _ rfl).trans (Nat.mod_eq_of_lt ?_)
    have := Nat.min_le_left 255 (u.rd HIF_EXPERT_FAILS + 1)
    exact Nat.lt_succ_of_le this

end

end

/-! ### O55 -/

/-- Settles O55: a request that nothing stops is answered with what its operation gives in the state that has received it, and the
request, its doorbell to E2 and its reply write HIF_STAT, HIF_REQINFO, E2's pending bits and the two buffers alone, so that what the
operation has done and read stands. -/
theorem hostOperations : Obligations.HostOperations := fun _ _ ht =>
  ⟨echo_answers ht,
    fun _ _ hbasic hp hd hend hoff happart => dpWrite_answers ht hbasic hp hd hend hoff happart,
    fun _ _ hbasic hp hn hlen hend hoff happart => dpRead_answers ht hbasic hp hn hlen hend hoff happart,
    fun _ _ _ hp hlow hhigh => dbell_answers ht hp hlow hhigh,
    events_answers ht,
    lock_answers ht,
    unlock_open_answers ht,
    fun _ _ hkey hlen hbar hnonce hfresh => ⟨unlock_right_answers ht hkey hlen hbar hnonce hfresh,
      unlock_wrong_answers ht hkey hlen hbar hnonce hfresh⟩⟩

end Sys2Proof.Machine
end
